-- ==== Sys2Proof/Word.lean ====
section
/-!
DEFINITION. The words of the module and the one finite-map type every sparse part of the state is kept in.

A register is 32 bits (R9), a postmark 64 bits (R35), bonded memory and every store are byte addressed (R13, R256).
-/
namespace Sys2Proof

abbrev Byte := BitVec 8
abbrev Word := BitVec 32
abbrev W64 := BitVec 64

/-- A sparse map from numbers to values: key and value pairs. Its canonical form is `Map.wf`. -/
abbrev Map (α : Type) := List (Nat × α)

end Sys2Proof
end

