-- ==== Sys2Proof/Machine/Types.lean ====
section
/-!
DEFINITION. The data that commands carry and that both the syntax and the state speak of: packets of the post transport
(R292), module states (R3), severities (R7), reference codes and pins.
-/
namespace Sys2Proof

/-- Module states of R3, in the order of the daybook's STATE field (R438). -/
inductive Mod where
  | off | standby | boot | ready | running | held | parked | fenced | recovery
deriving DecidableEq, Repr

/-- The daybook's code of a module state: 0 OFF to 8 RECOVERY (R438). -/
def Mod.code : Mod → Nat
  | .off => 0 | .standby => 1 | .boot => 2 | .ready => 3 | .running => 4
  | .held => 5 | .parked => 6 | .fenced => 7 | .recovery => 8

/-- Fault severities of R7, each including the actions of those before it. -/
inductive Sev where
  | notice | hold | park | stop
deriving DecidableEq, Repr

/-- The daybook's SEVERITY code (R438). -/
def Sev.code : Sev → Nat
  | .notice => 1 | .hold => 2 | .park => 3 | .stop => 4

/-- A post transport packet: the post header of R292 with the class of R295, the payload and the poison map of R294
(`none` when POISON is clear). `cls` is the traffic class, `ty` the TYPE, `addr` the 48 bits of ADDR. -/
structure Packet where
  cls : Nat
  ty : Nat
  op : Nat := 0
  job : Nat := 0
  spill : Bool := false
  retry : Bool := false
  src : Nat := 0
  dst : Nat := 0
  seq : Nat := 0
  release : Nat := 0
  addr : Nat := 0
  payload : List Byte := []
  pmap : Option Nat := none
deriving DecidableEq, Repr

/-- A frame as it arrives: a connector lane of the port that carries it, its bytes with their FCS, and whether FEC reported an uncorrectable
codeword in it (R296). -/
structure RxFrame where
  lane : Fin 8
  bytes : List Byte
  fecBad : Bool := false
deriving DecidableEq, Repr

/-- Why a received frame is dropped before it is acted on (R288, R296): checks 1 to 5 of R296, and frames that are no post
transport packet at all. -/
inductive DropCause where
  | fcs          -- check 1: FCS, or an uncorrectable codeword in the frame
  | address      -- check 2: VID, MAC, IP address, UDP port or checksum
  | header       -- check 3: version, type, class, OP, LENGTH or a reserved bit
  | crc          -- check 4: CHECK
  | foreign      -- check 5: DST or JOB
  | icmp         -- an ICMP or ICMPv6 message that is not supported: counted in POST.BAD_CNT, no fault (R288)
  | silent       -- LLDP, extension headers, fragments, IPv4 options: discarded (R288)
deriving DecidableEq, Repr

/-- The single-ended pins of both connectors (R519, R520), the boundary register of R524. -/
inductive Pin where
  | perstN | smbScl | smbSda | smbAlertN | smbAddr0 | smbAddr1 | smbAddr2 | ppsIn | ppsOut | resetN | presentN
  | pwrGood | tck | tms | tdi | trstN | tdo | uartTx | uartRx
deriving DecidableEq, Repr

/-- A tile store or accumulator array of a core: R44 gives every core two, A and B. -/
inductive Arr where
  | a | b
deriving DecidableEq, Repr

/-- The types a vector register is read in (R124). -/
inductive VTy where
  | f32 | bf16 | int32
deriving DecidableEq, Repr

/-- A byte range of a store: space 0 tile store, 1 accumulator store, 2 scalar data memory of global core `unit`; 3 bonded memory, where
`unit` is 0 and the address has 40 bits (R256). Data on its way to a hub (R20): space 4 a packet, the last of class `unit` / 8 queued at port
`unit` mod 8, at an offset in its payload; space 5 the snapshot that the flash controllers write, at an offset in the set. -/
structure Place where
  space : Nat
  unit : Nat
  addr : Nat
deriving DecidableEq, Repr

/-- How an operation reaches its home: in a packet, or from a courier of this module (R271, R325) with its bytes and the poison of each
64-byte unit of them. -/
inductive Via where
  | packet (port : Fin 8) (p : Packet)
  | courier (place : Place) (data : List Byte) (poison : Nat)
deriving DecidableEq, Repr

/-- A segment of a round's choice planes (R214): core of the die, tokens, pitch, and the four tile-store addresses. -/
structure Segment where
  core : Nat
  tokens : Nat
  pitch : Nat
  index : Nat
  gate : Nat
  outGate : Nat
  outStatus : Nat
deriving DecidableEq, Repr

/-- The fields of an ADMIT descriptor (R199, R207, R211, R213–R215): the layer entry, pass and round; the scalar word of the round's
live count; the segments; STATE in the die's bonded memory; the scalar address of the M_LIVE words and the mask of the die's cores
that receive them; the core and release-table entry that give P_C; and the claims of its CPOST. -/
structure AdmitDesc where
  layer : Nat
  pass : Nat
  round : Nat
  liveCore : Nat
  liveWord : Nat
  segments : List Segment
  state : Nat
  mlive : Nat
  coreMask : Nat
  relCore : Nat
  relEntry : Nat
  ident : Nat
deriving DecidableEq, Repr

/-- The fields of a SEND descriptor (R216–R218, R222): layer entry, direction (0 dispatch, 1 return, 2 backward dispatch, 3 backward
return), STATE, where the rows lie, whether a home-side row is one per choice at (rank × pitch + token) or one per token, and the
core and release-table entry that give P_F, and the CPOST it came from. -/
structure SendDesc where
  layer : Nat
  dir : Nat
  state : Nat
  rows : Place
  perChoice : Bool
  pitch : Nat
  relCore : Nat
  relEntry : Nat
  ident : Nat
deriving DecidableEq, Repr

/-- The fields of a LAND descriptor (R220): layer entry and direction, which give the region; STATE, from which the expected bytes
follow; the byte range; the core and release-table entry that give P_F; and the claim of its CPOST. -/
structure LandDesc where
  layer : Nat
  dir : Nat
  state : Nat
  range : Place
  length : Nat
  relCore : Nat
  relEntry : Nat
  ident : Nat
deriving DecidableEq, Repr

/-- The fields of a SCATTER descriptor (R223): layer entry, direction (1 or 3), STATE, where the returned rows lie, COMBINE, P, and
the claim of its CPOST. -/
structure ScatterDesc where
  layer : Nat
  dir : Nat
  state : Nat
  rows : Place
  combine : Place
  pitch : Nat
  ident : Nat
deriving DecidableEq, Repr

/-- The fields of a MATCH descriptor (R191); counts are scalar words (core and word index). -/
structure MatchDesc where
  core : Nat
  fmt : Nat
  keysA : Place
  valsA : Place
  na : Nat × Nat
  keysB : Place
  valsB : Place
  nb : Nat × Nat
  outA : Place
  outB : Place
  outN : Nat × Nat
  maxOut : Nat
  ident : Nat
deriving DecidableEq, Repr

/-- What a courier descriptor of kind SORT or MATCH asks for (R191, R197, R240). -/
inductive PostDesc where
  | admission (d : AdmitDesc)
  | send (d : SendDesc)
  | land (d : LandDesc)
  | scatter (d : ScatterDesc)
  | pairs (d : MatchDesc)
deriving DecidableEq, Repr

/-- What a mailbag transfer takes beside its descriptor (R150–R153): the header fields the image names. -/
structure MailSpec where
  mbId : Nat
  expert : Bool
  linked : Bool
  pass : Nat
  expertId : Nat
  tokensCore : Nat
  tokensWord : Nat
deriving DecidableEq, Repr

/-- What the end of a BOOT phase brings from outside the digital state (R470): the 256-bit key that the PUF window gives, if it is
reconstructed (phase 1); bridge lanes found failed, as link, lane and the spare that training tries first (phase 7); regions of tile stores that fail their test, as
core, bank and region; channels whose interface fails training; and the margin scans of the others in the order they finish, as channel,
kind and the error-free steps of the low and the high side (phase 8). -/
structure PhaseEnd where
  puf : Option (List Byte) := none
  lanes : List (Nat × Nat × Nat) := []
  badRegions : List (Fin 384 × Fin 32 × Fin 48) := []
  untrained : List (Fin 1024) := []
  scans : List (Fin 1024 × Fin 4 × Nat × Nat) := []
deriving DecidableEq, Repr

/-- What the sensors and the ports read when the health monitor evaluates (R397, R514, R530): the hottest junction of each die and each
stack's temperature in 0.1 °C, by number; the supply ripple in mV; the volts in 10 mV, amps in 10 mA and watts of the input; the
corrected FEC symbols of each port in the period. A reading that a list does not reach stands as it was. -/
structure Sample where
  dieTemps : List Nat := []
  stackTemps : List Nat := []
  ripple : Nat := 0
  volts : Nat := 0
  amps : Nat := 0
  watts : Nat := 0
  fec : List Nat := []
deriving DecidableEq, Repr

/-- An error that arises by itself in a store of the cores or in a stamp history (R75, R76, R113, R124, R143, R228): in a cell of a front or
back resident register, in a twin buffer, in an accumulator row, a vector register's granule (register × 32 + granule), a word of a
scalar data memory, a corrected one of a tile store, or in a stamp history entry of a die. -/
inductive Upset where
  | cell (core : Fin 384) (arr : Arr) (back : Bool) (lane col : Fin 128)
  | twin (core : Fin 384) (second : Bool) (lane col : Fin 128)
  | accCorrected (core : Fin 384)
  | accDouble (core : Fin 384) (tile : Fin 32) (row : Fin 128)
  | vregCorrected (core : Fin 384)
  | vregDouble (core : Fin 384) (granule : Fin 1024)
  | sdmDouble (core : Fin 384) (word : Fin 16384)
  | tsCorrected (core : Fin 384)
  | history (die : Fin 4) (tensor : Fin 4096)
deriving DecidableEq, Repr

end Sys2Proof
end

