-- ==== Sys2Proof/Syntax.lean ====
section
/-!
DEFINITION. The commands the block takes: one constructor per row of spec/opcode_table.json, with the row's operands. The table gives
its rows no bits, so every command is an operation or event of the part, as spec/95_what_each_step_holds.md delimits them.

A core number is the global core number (die × 96 + core of the die), a cluster number die × 12 + cluster, `t` a scalar thread with 0
for the scalar slot. An operand that a rule derives from the state is no operand here; what the world outside decides is one.
-/
namespace Sys2Proof

inductive Instr where
  -- array slots (R122)
  /-- RLOAD (R50). -/
  | rload (core : Fin 384) (arr : Arr) (desc : Fin 256) (xa : Fin 32)
  /-- STREAM (R54). -/
  | stream (core : Fin 384) (arr : Arr) (desc : Fin 256) (xa xn : Fin 32) (swap : Bool) (group : Fin 8) (start : Fin 4096)
  /-- TWIN (R64). -/
  | twin (core : Fin 384) (desc : Fin 256) (xa xn : Fin 32) (swap : Bool) (group : Fin 8) (start : Fin 4096)
  /-- GOPEN_CLEAR (R61). -/
  | gopenClear (core : Fin 384) (arr : Arr) (desc : Fin 256) (group : Fin 8)
  /-- GCLOSE (R74). -/
  | gclose (core : Fin 384) (arr : Arr) (desc : Fin 256) (xa : Fin 32) (group : Fin 8)
  /-- GCLOSE_COMPLETE (R69). -/
  | gcloseComplete (core : Fin 384) (group : Fin 8)
  /-- GCLOSE_KEEP (R61). -/
  | gcloseKeep (core : Fin 384) (arr : Arr) (group : Fin 8)
  -- tile move (R131, R132)
  /-- VLD (R132). -/
  | vld (core : Fin 384) (fmt : Fin 16) (v : Fin 32) (addr : Fin 32768) (xa : Fin 32) (t : Bool) (aux : Fin 512)
  /-- VST (R132). -/
  | vst (core : Fin 384) (fmt : Fin 16) (v : Fin 32) (addr : Fin 32768) (xa : Fin 32) (aux : Fin 512)
  /-- TMOV (R132). -/
  | tmov (core : Fin 384) (fmt : Fin 16) (addr : Fin 32768) (xa xc : Fin 32) (t : Bool)
  /-- TFILL (R61). -/
  | tfill (core : Fin 384) (fmt : Fin 16) (addr : Fin 32768) (xa : Fin 32)
  /-- GOPEN_LOAD (R62). -/
  | gopenLoad (core : Fin 384) (fmt : Fin 16) (group : Fin 8) (addr : Fin 32768) (xa : Fin 32) (count : Fin 32) (first : Fin 32)
  /-- CPOST (R132). -/
  | cpost (core : Fin 384) (courier : Fin 4) (xa : Fin 32) (desc : Fin 512)
  -- vector (R125, R126)
  /-- VADD (R126). -/
  | vadd (core : Fin 384) (ty : VTy) (vd va vb : Fin 32)
  /-- VSUB (R126). -/
  | vsub (core : Fin 384) (ty : VTy) (vd va vb : Fin 32)
  /-- VMUL (R126). -/
  | vmul (core : Fin 384) (ty : VTy) (vd va vb : Fin 32)
  /-- VFMA (R126). -/
  | vfma (core : Fin 384) (ty : VTy) (vd va vb vc : Fin 32)
  /-- VMIN (R126). -/
  | vmin (core : Fin 384) (ty : VTy) (vd va vb : Fin 32)
  /-- VMAX (R126). -/
  | vmax (core : Fin 384) (ty : VTy) (vd va vb : Fin 32)
  /-- VCMPLT (R126). -/
  | vcmplt (core : Fin 384) (ty : VTy) (vd va vb : Fin 32)
  /-- VCMPEQ (R126). -/
  | vcmpeq (core : Fin 384) (ty : VTy) (vd va vb : Fin 32)
  /-- VSEL (R126). -/
  | vsel (core : Fin 384) (ty : VTy) (vd va vb vc : Fin 32)
  /-- VAND (R126). -/
  | vand (core : Fin 384) (ty : VTy) (vd va vb : Fin 32)
  /-- VOR (R126). -/
  | vor (core : Fin 384) (ty : VTy) (vd va vb : Fin 32)
  /-- VXOR (R126). -/
  | vxor (core : Fin 384) (ty : VTy) (vd va vb : Fin 32)
  /-- VBCAST (R126). -/
  | vbcast (core : Fin 384) (ty : VTy) (vd xs : Fin 32)
  /-- VCVT (R129). -/
  | vcvt (core : Fin 384) (ty : VTy) (vd va vb : Fin 32) (sr : Bool) (tensor : Fin 4096) (xs : Fin 32) (upper : Bool)
  /-- VCVTS (R129). -/
  | vcvts (core : Fin 384) (ty : VTy) (va : Fin 32) (sr : Bool) (tensor : Fin 4096) (xs : Fin 32) (fmt : Fin 16)
  /-- VEXP (R127). -/
  | vexp (core : Fin 384) (ty : VTy) (vd va : Fin 32)
  /-- VRCP (R127). -/
  | vrcp (core : Fin 384) (ty : VTy) (vd va : Fin 32)
  /-- VRSQRT (R127). -/
  | vrsqrt (core : Fin 384) (ty : VTy) (vd va : Fin 32)
  /-- VLOG (R127). -/
  | vlog (core : Fin 384) (ty : VTy) (vd va : Fin 32)
  /-- VRSUM (R128). -/
  | vrsum (core : Fin 384) (ty : VTy) (vd va : Fin 32)
  /-- VRMAX (R126). -/
  | vrmax (core : Fin 384) (ty : VTy) (vd va : Fin 32)
  /-- VTOPK (R130). -/
  | vtopk (core : Fin 384) (ty : VTy) (xs : Fin 32) (k : Fin 16) (l : Fin 128)
  -- scalar (R136); t is the thread, 0 for the scalar slot
  /-- ADD (R136). -/
  | add (core : Fin 384) (t : Fin 4) (xd xs1 xs2 : Fin 32)
  /-- ADDI (R136). -/
  | addi (core : Fin 384) (t : Fin 4) (xd xs1 : Fin 32) (imm : BitVec 19)
  /-- SUB (R136). -/
  | sub (core : Fin 384) (t : Fin 4) (xd xs1 xs2 : Fin 32)
  /-- AND (R136). -/
  | and (core : Fin 384) (t : Fin 4) (xd xs1 xs2 : Fin 32)
  /-- OR (R136). -/
  | or (core : Fin 384) (t : Fin 4) (xd xs1 xs2 : Fin 32)
  /-- XOR (R136). -/
  | xor (core : Fin 384) (t : Fin 4) (xd xs1 xs2 : Fin 32)
  /-- SHLI (R136). -/
  | shli (core : Fin 384) (t : Fin 4) (xd xs1 : Fin 32) (imm : BitVec 19)
  /-- SHRI (R136). -/
  | shri (core : Fin 384) (t : Fin 4) (xd xs1 : Fin 32) (imm : BitVec 19)
  /-- SRAI (R136). -/
  | srai (core : Fin 384) (t : Fin 4) (xd xs1 : Fin 32) (imm : BitVec 19)
  /-- SHLOR (R136). -/
  | shlor (core : Fin 384) (t : Fin 4) (xd xs1 : Fin 32) (imm : BitVec 19)
  /-- MUL (R136). -/
  | mul (core : Fin 384) (t : Fin 4) (xd xs1 xs2 : Fin 32)
  /-- DIVU (R136). -/
  | divu (core : Fin 384) (t : Fin 4) (xd xs1 xs2 : Fin 32)
  /-- MIN (R136). -/
  | min (core : Fin 384) (t : Fin 4) (xd xs1 xs2 : Fin 32)
  /-- MAX (R136). -/
  | max (core : Fin 384) (t : Fin 4) (xd xs1 xs2 : Fin 32)
  /-- SLT (R136). -/
  | slt (core : Fin 384) (t : Fin 4) (xd xs1 xs2 : Fin 32)
  /-- LD (R136). -/
  | ld (core : Fin 384) (t : Fin 4) (xd xs1 : Fin 32) (imm : BitVec 19)
  /-- ST (R136). -/
  | st (core : Fin 384) (t : Fin 4) (xs1 xs2 : Fin 32) (imm : BitVec 19)
  /-- LW (R136). -/
  | lw (core : Fin 384) (t : Fin 4) (xd xs1 : Fin 32) (imm : BitVec 19)
  /-- SW (R136). -/
  | sw (core : Fin 384) (t : Fin 4) (xs1 xs2 : Fin 32) (imm : BitVec 19)
  /-- RDPM (R136). -/
  | rdpm (core : Fin 384) (t : Fin 4) (xd : Fin 32)
  /-- GETH (R136). -/
  | geth (core : Fin 384) (t : Fin 4) (xd : Fin 32) (imm : BitVec 19)
  /-- PUTH (R136). -/
  | puth (core : Fin 384) (t : Fin 4) (xs1 : Fin 32) (imm : BitVec 19)
  /-- BEQ (R136). -/
  | beq (core : Fin 384) (t : Fin 4) (xs1 xs2 : Fin 32) (imm : BitVec 19)
  /-- BNE (R136). -/
  | bne (core : Fin 384) (t : Fin 4) (xs1 xs2 : Fin 32) (imm : BitVec 19)
  /-- BLT (R136). -/
  | blt (core : Fin 384) (t : Fin 4) (xs1 xs2 : Fin 32) (imm : BitVec 19)
  /-- THALT (R136). -/
  | thalt (core : Fin 384) (t : Fin 4)
  -- sync (R137)
  /-- LOOP (R118). -/
  | loop (core : Fin 384) (count : Fin 4096) (len : Fin 256)
  /-- SEG (R137). -/
  | seg (core : Fin 384)
  /-- EXPECT (R354). -/
  | expect (core : Fin 384) (space : Fin 4) (entry : Fin 1024)
  /-- TSTART (R137). -/
  | tstart (core : Fin 384) (thread : Fin 4) (word : Fin 1024)
  /-- STEPEND (R145). -/
  | stepend (core : Fin 384)
  /-- HALT (R137). -/
  | halt (core : Fin 384)
  /-- CORE_STALL_END (R120). -/
  | coreStallEnd (core : Fin 384)
  /-- CLAIM_RELEASE (R354). -/
  | claimRelease (core : Fin 384) (claim : Nat)
  -- couriers, banks, pools, Sorting Office, match
  /-- COPY (R241). -/
  | copy (cluster : Fin 48) (courier : Fin 4) (mail : Option MailSpec)
  /-- BANK (R232). -/
  | bank (cluster : Fin 48)
  /-- BANK_RETAIN (R232). -/
  | bankRetain (core : Fin 384) (bank : Fin 32)
  /-- WAKE_COMPLETE (R232). -/
  | wakeComplete (core : Fin 384) (bank : Fin 32)
  /-- TS_UNSCHEDULED_WAKE (R233). -/
  | tsUnscheduledWake (core : Fin 384) (bank : Fin 32) (byCore : Bool)
  /-- TS_UNCORRECTABLE (R255). -/
  | tsUncorrectable (core : Fin 384) (unit : Fin 98304)
  /-- ALLOC (R249). -/
  | alloc (die : Fin 4) (pool : Fin 64) (caller : Nat) (result : Option (Fin 384 × Nat))
  /-- SHARE (R249). -/
  | share (die : Fin 4) (pool : Fin 64) (caller addr last : Nat)
  /-- DROP (R249). -/
  | drop (die : Fin 4) (pool : Fin 64) (caller addr : Nat)
  /-- RELEASE (R249). -/
  | release (die : Fin 4) (pool : Fin 64) (caller addr : Nat)
  /-- ADMIT (R209). -/
  | admission (die : Fin 4) (desc : AdmitDesc)
  /-- SLOT_ASSIGNMENT (R209). -/
  | slotAssignment (die : Fin 4)
  /-- SEND (R217). -/
  | send (die : Fin 4) (desc : SendDesc)
  /-- LAND (R220). -/
  | land (die : Fin 4) (desc : LandDesc)
  /-- LAND_RELEASE (R220). -/
  | landRelease (die : Fin 4) (region pf : Nat)
  /-- SCATTER (R223). -/
  | scatter (die : Fin 4) (desc : ScatterDesc)
  /-- MATCH (R192). -/
  | matchKeys (desc : MatchDesc)
  -- homes and reduction units
  /-- WRITE (R325). -/
  | write (via : Via)
  /-- FADD32 (R271). -/
  | fadd32 (via : Via)
  /-- IADD32 (R271). -/
  | iadd32 (via : Via)
  /-- IADD64 (R271). -/
  | iadd64 (via : Via)
  /-- FMIN32 (R271). -/
  | fmin32 (via : Via)
  /-- FMAX32 (R271). -/
  | fmax32 (via : Via)
  /-- BMIN (R271). -/
  | bmin (via : Via)
  /-- BMAX (R271). -/
  | bmax (via : Via)
  /-- IMIN32 (R271). -/
  | imin32 (via : Via)
  /-- IMAX32 (R271). -/
  | imax32 (via : Via)
  /-- IMIN64 (R271). -/
  | imin64 (via : Via)
  /-- IMAX64 (R271). -/
  | imax64 (via : Via)
  /-- CAS64 (R271). -/
  | cas64 (via : Via)
  /-- EXACT (R278). -/
  | exact (via : Via)
  /-- LOAD (R327). -/
  | load (port : Fin 8) (p : Packet)
  /-- BOND_UNCORRECTABLE (R263). -/
  | bondUncorrectable (channel : Fin 1024) (unit : Fin 16777216)
  /-- CHANNEL_INTERFACE_FAILURE (R266). -/
  | channelInterfaceFailure (channel : Fin 1024)
  /-- RESPONSE (R336). -/
  | response (port : Fin 8) (p : Packet)
  /-- MAILBAG (R155). -/
  | mailbag (port : Fin 8) (p : Packet)
  /-- HANDOVER (R332). -/
  | handover (port : Fin 8) (p : Packet)
  /-- COUNT (R208). -/
  | count (port : Fin 8) (p : Packet)
  /-- REPORT (R162). -/
  | report (port : Fin 8) (p : Packet)
  /-- HOLD (R359). -/
  | hold (port : Fin 8) (p : Packet)
  /-- RESUME (R363). -/
  | resume (port : Fin 8) (p : Packet)
  /-- PROBE (R348). -/
  | probe (port : Fin 8) (p : Packet)
  /-- PROBE_REPLY (R348). -/
  | probeReply (port : Fin 8) (p : Packet)
  /-- RISK (R400). -/
  | risk (port : Fin 8) (p : Packet)
  /-- ACK (R305). -/
  | ack (port : Fin 8) (p : Packet)
  /-- CREDIT (R308). -/
  | credit (port : Fin 8) (p : Packet)
  /-- PFC_FRAME (R288). -/
  | pfcFrame (port : Fin 8) (priorities : BitVec 8) (xoff : Bool)
  /-- NEIGHBOUR_SOLICITATION (R288). -/
  | neighbourSolicitation (port : Fin 8) (sub : Fin 4)
  /-- ARP_REQUEST (R288). -/
  | arpRequest (port : Fin 8) (sub : Fin 4)
  /-- ACK_TIMER (R304). -/
  | ackTimer (port : Fin 8) (src : Fin 65536)
  /-- CREDIT_TIMER (R308). -/
  | creditTimer (port : Fin 8) (src : Fin 65536)
  /-- RETRANSMIT (R305). -/
  | retransmit (port : Fin 8) (dst : Fin 65536) (seq : Nat)
  /-- POST_UNREACHABLE (R306). -/
  | postUnreachable (port : Fin 8) (dst : Fin 65536)
  /-- DEAD_LETTER (R337). -/
  | deadLetter (die : Fin 4) (entry : Fin 4096)
  /-- TRANSMIT_WINDOW (R300). -/
  | transmitWindow (port : Fin 8)
  /-- CLASS1_SLOT (R299). -/
  | class1Slot (port : Fin 8)
  /-- PORT_BRINGUP (R314). -/
  | portBringup (port : Fin 8)
  /-- PORT_BRINGUP_STEP_DONE (R314). -/
  | portBringupStepDone (port : Fin 8)
  /-- PORT_BRINGUP_FAILED (R314). -/
  | portBringupFailed (port : Fin 8)
  /-- PORT_RETRY (R314). -/
  | portRetry (port : Fin 8)
  /-- PORT_LINK_LOST (R315). -/
  | portLinkLost (port : Fin 8)
  /-- PORT_DOWN_LONG (R315). -/
  | portDownLong (port : Fin 8)
  /-- PORT_FEC_UNCORRECTED (R318). -/
  | portFecUncorrected (port : Fin 8) (n : Nat)
  /-- DISCARDED_FRAME (R296). -/
  | discardedFrame (port : Fin 8) (frame : RxFrame)
  -- training step
  /-- STEP_REPORT (R160). -/
  | stepReport
  /-- STEP_DECISION (R162). -/
  | stepDecision
  /-- DECISION_APPLY (R163). -/
  | decisionApply
  /-- BOUNDARY_BLOCK_CAPTURE (R383). -/
  | boundaryBlockCapture
  -- supply, pins, heat, refresh, margins
  /-- INPUT_SWITCH_CLOSE (R503). -/
  | inputSwitchClose
  /-- INPUT_VALID (R503). -/
  | inputValid (strap : Fin 8)
  /-- SUPPLY_WARNING (R504). -/
  | supplyWarning
  /-- FLASH_GUARD (R508). -/
  | flashGuard
  /-- WARNING_CLEAR (R504). -/
  | warningClear
  /-- SUPPLY_RESET (R412). -/
  | supplyReset
  /-- OVER_VOLTAGE (R504). -/
  | overVoltage
  /-- CURRENT_LIMIT (R504). -/
  | currentLimit
  /-- CURRENT_LIMIT_CLEAR (R504). -/
  | currentLimitClear
  /-- SHORT_CIRCUIT (R504). -/
  | shortCircuit
  /-- TRIP_LATCH_CLEAR (R505). -/
  | tripLatchClear
  /-- SUPPLY_PARK (R411). -/
  | supplyPark
  /-- RESET_N_LOW (R521). -/
  | resetNLow
  /-- RESET_N_RELEASE (R521). -/
  | resetNRelease
  /-- RAIL_FAULT (R522). -/
  | railFault
  /-- JUNCTION_WARNING (R515). -/
  | junctionWarning (die : Fin 6) (temp : Nat)
  /-- STACK_WARNING (R515). -/
  | stackWarning (stack : Fin 16) (temp : Nat)
  /-- TEMPERATURE_WARNING_CLEAR (R515). -/
  | temperatureWarningClear
  /-- JUNCTION_LIMIT (R517). -/
  | junctionLimit (die : Fin 6) (temp : Nat)
  /-- STACK_LIMIT (R517). -/
  | stackLimit (stack : Fin 16) (temp : Nat)
  /-- THERMAL_TRIP (R517). -/
  | thermalTrip
  /-- SENSOR_FAULT (R518). -/
  | sensorFault (place : Fin 22) (sensor : Fin 13)
  /-- REFRESH_DOUBLED (R262). -/
  | refreshDoubled (stack : Fin 16)
  /-- REFRESH_NORMAL (R262). -/
  | refreshNormal (stack : Fin 16)
  /-- REFRESH_WINDOW (R262). -/
  | refreshWindow (channel : Fin 1024) (corrected : Bool)
  /-- MARGIN_SCAN (R268). -/
  | marginScan (die : Fin 4) (value : BitVec 32)
  /-- MARGIN_SCAN_DONE (R269). -/
  | marginScanDone (die : Fin 4) (low high : Nat)
  /-- SPINE_UNCORRECTABLE (R20). -/
  | spineUncorrectable (place : Place)
  /-- SPINE_LANE_LOST (R21). -/
  | spineLaneLost
  /-- HUB_LINK_DOWN (R42). -/
  | hubLinkDown
  -- time and the two halves
  /-- PPS_OUT_PULSE (R523). -/
  | ppsOutPulse
  /-- PPS_IN_EDGE (R34). -/
  | ppsInEdge (ps : Int)
  /-- PTP_SYNC (R34). -/
  | ptpSync (ps : Int)
  /-- ESMC (R313). -/
  | esmc (port : Fin 8) (ql : Fin 16)
  /-- REF_LOST (R32). -/
  | refLost (ref : Fin 16)
  /-- REFERENCE_PRESENT (R31). -/
  | referencePresent (ref : Fin 16)
  /-- DPLL_LOCK (R31). -/
  | dpllLock
  /-- REVERT (R31). -/
  | revert
  /-- HOLDOVER_ACQUIRE (R31). -/
  | holdoverAcquire
  /-- SYNTH_UNLOCK (R42). -/
  | synthUnlock
  /-- HALF_ALIVE_DEAD (R22). -/
  | halfAliveDead (hub : Fin 2)
  /-- HALF_ALIVE_ALIVE (R22). -/
  | halfAliveAlive (hub : Fin 2)
  /-- FRAME_BOUNDARY (R38). -/
  | frameBoundary (slips : List (Fin 6 × Nat))
  /-- HEALTH_EVALUATION (R397). -/
  | healthEvaluation (sample : Sample)
  -- sets and flash
  /-- MIRROR_COMPLETE (R388). -/
  | mirrorComplete
  /-- SNAPSHOT_COMPLETE (R388). -/
  | snapshotComplete
  /-- WEAR (R395). -/
  | wear
  /-- SNAP_FLASH_UNCORRECTABLE (R395). -/
  | snapFlashUncorrectable (slot : Fin 4)
  -- start-up
  /-- BOOT_PHASE_END (R470). -/
  | bootPhaseEnd (result : PhaseEnd)
  /-- BOOT_OVERRUN (R472). -/
  | bootOverrun
  -- firmware processors, lease, services
  /-- WATCHDOG_EXPIRY (R424). -/
  | watchdogExpiry (proc : Fin 256)
  /-- PRIVATE_MEMORY_UNCORRECTABLE (R424). -/
  | privateMemoryUncorrectable (proc : Fin 256)
  /-- PROTECTION_VIOLATION (R421). -/
  | protectionViolation (proc : Fin 256) (restartable : Bool)
  /-- RESTART_COMPLETE (R425). -/
  | restartComplete (proc : Fin 256) (discards : Nat)
  /-- RESTART_OVERRUN (R427). -/
  | restartOverrun (proc : Fin 256)
  /-- FW_RESTART (R424). -/
  | fwRestart (value : BitVec 32)
  /-- LEASE_WORD (R429). -/
  | leaseWord
  /-- LEASE_WORD_RECEIVE (R432). -/
  | leaseWordReceive
  /-- LEASE_ACK_RECEIVE (R429). -/
  | leaseAckReceive
  /-- LEASE_EXPIRY (R430). -/
  | leaseExpiry
  /-- BOOT_LEASE_TIMEOUT (R433). -/
  | bootLeaseTimeout
  /-- LEASE_UNANSWERED (R431). -/
  | leaseUnanswered
  /-- HOST_ABSENT (R434). -/
  | hostAbsent
  /-- HEARTBEAT_BUMP (R464). -/
  | heartbeatBump
  /-- LOG (R419). -/
  | log (core : Fin 384) (slot : Fin 4)
  /-- TRACE (R419). -/
  | trace (core : Fin 384) (slot : Fin 4)
  /-- TEST_WINDOW (R419). -/
  | testWindow (core : Fin 384) (slot : Fin 4) (bad : List (Fin 32 × Fin 48))
  /-- TEST_ABORT (R236). -/
  | testAbort (core : Fin 384) (byCore : Bool)
  /-- BACKGROUND_TEST (R239). -/
  | backgroundTest (core : Fin 384) (bank : Fin 32) (region : Fin 48) (fails : Bool)
  /-- REPAIR_APPEND (R487). -/
  | repairAppend
  -- letters
  /-- NEGOTIATE (R465). -/
  | negotiate (slot : Fin 16)
  /-- RECOVER_REQ (R462). -/
  | recoverReq (slot : Fin 16)
  /-- UPDATE (R423). -/
  | update (slot : Fin 16) (data : Option (List Byte))
  /-- IMAGE_LOAD (R141). -/
  | imageLoad (slot : Fin 16)
  /-- JOIN (R345). -/
  | join (slot : Fin 16)
  /-- POSTMARK_LOAD (R347). -/
  | postmarkLoad (shift : Nat)
  /-- PROBE_TRANSMIT (R348). -/
  | probeTransmit
  /-- JOIN_STEP_DONE (R346). -/
  | joinStepDone
  /-- JOIN_TIMEOUT (R346). -/
  | joinTimeout
  /-- RUN (R350). -/
  | run (slot : Fin 16)
  /-- IMAGE_RUN_START (R350). -/
  | imageRunStart
  /-- MICROBATCH (R463). -/
  | microbatch (slot : Fin 16) (data : Option (List Byte))
  /-- LIVE_WORD_WRITE (R463). -/
  | liveWordWrite (slot : Fin 16) (core : Fin 384)
  /-- RESTORE (R405). -/
  | restore (slot : Fin 16) (partner : Option (List Byte))
  /-- RESTART (R406). -/
  | restart
  /-- RELEASE_LETTER (R437). -/
  | releaseLetter (slot : Fin 16)
  /-- DRAIN_BUFFERS (R462). -/
  | drainBuffers (slot : Fin 16)
  /-- DRAIN_PART (R396). -/
  | drainPart (ok : Bool)
  /-- DRAIN_PART_ANSWER (R462). -/
  | drainPartAnswer (slot : Fin 16)
  /-- FILL (R396). -/
  | fill (slot : Fin 16) (data : Option (List Byte))
  /-- ATTEST (R493). -/
  | attest (slot : Fin 16) (ok : Bool)
  -- the host interface
  /-- SLOT_STATE_WRITE (R458). -/
  | slotStateWrite (outbound : Bool) (slot : Fin 16) (value : BitVec 32)
  /-- SEQUENCE_CLEAR (R451). -/
  | sequenceClear (offset : BitVec 26) (value : BitVec 32)
  /-- SNAP_SEL (R452). -/
  | snapSel (value : BitVec 32)
  /-- SNAP_CAPTURE (R452). -/
  | snapCapture
  /-- REGISTER_WRITE (R10). -/
  | registerWrite (offset : BitVec 26) (value : BitVec 32) (be : BitVec 4)
  /-- BAR2_WRITE (R446). -/
  | bar2Write (offset : BitVec 36) (data : List Byte)
  /-- ENDPOINT_RESET (R443). -/
  | endpointReset
  /-- AER_UNCORRECTABLE (R468). -/
  | aerUncorrectable
  /-- HOLD_REQ (R358). -/
  | holdReq
  /-- RESUME_REQ (R362). -/
  | resumeReq
  /-- PARK_REQ (R402). -/
  | parkReq
  /-- HOLD_LIMIT (R366). -/
  | holdLimit
  /-- RESUME_READY (R363). -/
  | resumeReady
  /-- PARK_ENTRY (R403). -/
  | parkEntry (limit : Bool)
  -- recovery letters
  /-- INFO (R496). -/
  | info
  /-- ERASE (R496). -/
  | erase
  /-- RECOVERY_WRITE (R497). -/
  | recoveryWrite (data cells : Option (List Byte))
  /-- COMMIT (R497). -/
  | commit
  /-- ENROLL (R498). -/
  | enroll (data : Option (List Byte))
  -- the sideband
  /-- GET_STATE (R527). -/
  | getState
  /-- GET_FAULTS (R527). -/
  | getFaults (seq : Nat)
  /-- PARK (R527). -/
  | park
  /-- SET_ENDPOINT_ID (R526). -/
  | setEndpointId (eid : BitVec 8)
  /-- GET_ENDPOINT_ID (R526). -/
  | getEndpointId
  /-- GET_MCTP_VERSION_SUPPORT (R526). -/
  | getMctpVersionSupport (ty : BitVec 8)
  /-- GET_MESSAGE_TYPE_SUPPORT (R526). -/
  | getMessageTypeSupport
  /-- GET_TID (R526). -/
  | getTid
  /-- SET_TID (R526). -/
  | setTid (tid : BitVec 8)
  /-- GET_PLDM_VERSION (R526). -/
  | getPldmVersion (ty : BitVec 8)
  /-- GET_PLDM_TYPES (R526). -/
  | getPldmTypes
  /-- GET_PLDM_COMMANDS (R526). -/
  | getPldmCommands (ty : BitVec 8)
  /-- GET_SENSOR_READING (R526). -/
  | getSensorReading (id : BitVec 16)
  /-- GET_STATE_SENSOR_READINGS (R526). -/
  | getStateSensorReadings (id : BitVec 16)
  /-- GET_PDR_REPOSITORY_INFO (R526). -/
  | getPdrRepositoryInfo
  /-- GET_PDR (R526). -/
  | getPdr (handle : BitVec 32)
  /-- BYPASS (R524). -/
  | bypass (shift : List Bool)
  /-- IDCODE (R524). -/
  | idcode
  /-- SAMPLE_PRELOAD (R524). -/
  | samplePreload (levels : List (Pin × Bool)) (shift : List Bool)
  /-- EXTEST (R524). -/
  | extest (levels : List (Pin × Bool)) (shift : List Bool)
deriving DecidableEq, Repr

end Sys2Proof
end

