-- ==== Sys2Proof/Decode.lean ====
section
/-!
DEFINITION. What a word spells by the bits of spec/opcode_table.json. The table gives none of its rows a bit, so no word spells a
command. The encodings that the part itself decodes, bundles and thread words, are in Machine/Bundle.lean.
-/
namespace Sys2Proof

/-- The command that a word of the table spells: none. -/
def decodeTableWord (_nbits _w : Nat) : Option Instr := none

end Sys2Proof
end

