-- ==== Sys2Proof/Machine/MapOps.lean ====
section
/-!
DEFINITION. Reading and writing a sparse map.

`d` is what a key that is not listed reads as. The canonical form is: keys strictly rising, no listed value equal to `d`.
Every operation here keeps it (Sys2Proof/Laws/MapOps.lean), so equal contents are equal data.
-/
namespace Sys2Proof

variable {α : Type}

/-- The value at key `k`. -/
def Map.get (d : α) : Map α → Nat → α
  | [], _ => d
  | (k', v) :: r, k => if k' = k then v else Map.get d r k

/-- The listed entries of the block of `n` keys from `b` whose values are `f 0 … f (n-1)`. -/
def Map.block [DecidableEq α] (d : α) (b : Nat) (f : Nat → α) : Nat → Map α
  | 0 => []
  | n + 1 => Map.block d b f n ++ (if f n = d then [] else [(b + n, f n)])

/-- Write the `n` keys from `b` with `f 0 … f (n-1)`; every other key is unchanged. -/
def Map.fill [DecidableEq α] (d : α) (m : Map α) (b n : Nat) (f : Nat → α) : Map α :=
  m.filter (fun e => decide (e.1 < b)) ++ (Map.block d b f n ++ m.filter (fun e => decide (b + n ≤ e.1)))

/-- Write one key. -/
def Map.set [DecidableEq α] (d : α) (m : Map α) (k : Nat) (v : α) : Map α :=
  Map.fill d m k 1 (fun _ => v)

/-- A map whose first `n` keys hold `f` and every other key `d`. -/
def Map.tab [DecidableEq α] (d : α) (n : Nat) (f : Nat → α) : Map α := Map.block d 0 f n

/-- Change every listed value; one that becomes the default is dropped. -/
def Map.vals [DecidableEq α] (d : α) (f : α → α) (m : Map α) : Map α :=
  (m.map fun e => (e.1, f e.2)).filter fun e => decide (e.2 ≠ d)

/-- Strictly rising keys. -/
def Map.rising : Map α → Bool
  | [] => true
  | [_] => true
  | a :: b :: r => decide (a.1 < b.1) && Map.rising (b :: r)

/-- The canonical form: keys strictly rising, nothing listed that equals the default. -/
def Map.wf [DecidableEq α] (d : α) (m : Map α) : Bool :=
  Map.rising m && m.all (fun e => decide (e.2 ≠ d))

/-- The canonical form of a byte memory (bonded memory, a tile store, a scalar data memory, an instruction store): addresses strictly
rising, no entry equal to what a byte that is not listed reads as. -/
abbrev Memory.wf (m : Map Byte) : Bool := Map.wf 0#8 m

end Sys2Proof
end

