-- ==== Sys2Proof/Machine/Bytes.lean ====
section
/-!
DEFINITION. Bytes: little-endian numbers (R292, R457), bit fields, the two CRCs (R173, R293) and SHAKE256 (FIPS 202,
named by the spec's headline figures and used by R386, R387, R475, R476, R492).
-/
namespace Sys2Proof

/-- The number a list of bytes spells, the first byte least significant. -/
def leNat : List Byte → Nat
  | [] => 0
  | b :: r => b.toNat + 256 * leNat r

/-- `n` bytes of `v`, the least significant first. -/
def leBytes : Nat → Nat → List Byte
  | 0, _ => []
  | n + 1, v => BitVec.ofNat 8 v :: leBytes n (v / 256)

/-- Byte `i` of a list, 0 past its end. -/
def byteAt (l : List Byte) (i : Nat) : Byte := l.getD i 0#8

/-- `n` bytes of a list from `o`, zeros past its end. -/
def slice (l : List Byte) (o n : Nat) : List Byte := (List.range n).map fun i => byteAt l (o + i)

/-- The little-endian number of `n` bytes at offset `o`. -/
def fieldAt (l : List Byte) (o n : Nat) : Nat := leNat (slice l o n)

/-- Bits `hi` to `lo` of a number. -/
def bits (v hi lo : Nat) : Nat := v / 2 ^ lo % 2 ^ (hi + 1 - lo)

/-- One bit of a number. -/
def bit (v i : Nat) : Bool := v.testBit i

/-- `v` read as a `w`-bit two's-complement number. -/
def signed (w v : Nat) : Int := if v % 2 ^ w < 2 ^ (w - 1) then (v % 2 ^ w : Nat) else (v % 2 ^ w : Nat) - (2 ^ w : Int)

/-- A two's-complement number as `w` bits. -/
def unsigned (w : Nat) (i : Int) : Nat := (i % (2 ^ w : Int)).toNat

/-- One step of a reflected CRC: one bit shifted out. -/
def crcBit (poly crc : Nat) : Nat := if crc % 2 = 1 then Nat.xor (crc / 2) poly else crc / 2

/-- One byte folded into CRC-32C (R293): polynomial 0x1EDC_6F41 reflected is 0x82F6_3B78. -/
def crc32cByte (crc : Nat) (b : Byte) : Nat :=
  (List.range 8).foldl (fun c _ => crcBit 0x82F63B78 c) (Nat.xor crc b.toNat)

/-- CRC-32C with the parameters of R293. -/
def crc32c (l : List Byte) : Nat := Nat.xor (l.foldl crc32cByte 0xFFFFFFFF) 0xFFFFFFFF

/-- One byte folded into CRC-16 with polynomial 0x1021, most significant bit first (R173). -/
def crc16Byte (crc : Nat) (b : Byte) : Nat :=
  (List.range 8).foldl
    (fun c _ => if c ≥ 0x8000 then Nat.xor (c * 2 % 0x10000) 0x1021 else c * 2 % 0x10000)
    (Nat.xor crc (b.toNat * 256))

/-- CRC-16 of R173: CCITT polynomial, initial value 0xFFFF. -/
def crc16 (l : List Byte) : Nat := l.foldl crc16Byte 0xFFFF

/-! SHAKE256: Keccak-f[1600] over 25 lanes of 64 bits, rate 136 bytes, suffix 0x1F. -/

def keccakRC : List W64 :=
  [0x0000000000000001#64, 0x0000000000008082#64, 0x800000000000808A#64, 0x8000000080008000#64,
   0x000000000000808B#64, 0x0000000080000001#64, 0x8000000080008081#64, 0x8000000000008009#64,
   0x000000000000008A#64, 0x0000000000000088#64, 0x0000000080008009#64, 0x000000008000000A#64,
   0x000000008000808B#64, 0x800000000000008B#64, 0x8000000000008089#64, 0x8000000000008003#64,
   0x8000000000008002#64, 0x8000000000000080#64, 0x000000000000800A#64, 0x800000008000000A#64,
   0x8000000080008081#64, 0x8000000000008080#64, 0x0000000080000001#64, 0x8000000080008008#64]

/-- Rotation offsets of lane x + 5y. -/
def keccakRot : List Nat :=
  [0, 1, 62, 28, 27, 36, 44, 6, 55, 20, 3, 10, 43, 25, 39, 41, 45, 15, 21, 8, 18, 2, 61, 56, 14]

def lane (a : List W64) (x y : Nat) : W64 := a.getD (x % 5 + 5 * (y % 5)) 0#64

def keccakRound (a : List W64) (rc : W64) : List W64 :=
  let c := (List.range 5).map fun x => lane a x 0 ^^^ lane a x 1 ^^^ lane a x 2 ^^^ lane a x 3 ^^^ lane a x 4
  let d := (List.range 5).map fun x => c.getD ((x + 4) % 5) 0#64 ^^^ (c.getD ((x + 1) % 5) 0#64).rotateLeft 1
  let t := (List.range 25).map fun i => a.getD i 0#64 ^^^ d.getD (i % 5) 0#64
  -- B[y, 2x+3y] = rot(A[x,y]); read back: B[u, v] comes from x = u + 3v, y = u
  let b := (List.range 25).map fun i =>
    let u := i % 5
    let v := i / 5
    let x := (u + 3 * v) % 5
    (lane t x u).rotateLeft (keccakRot.getD (x + 5 * u) 0)
  let e := (List.range 25).map fun i => lane b i (i / 5) ^^^ (~~~ lane b (i + 1) (i / 5) &&& lane b (i + 2) (i / 5))
  match e with
  | h :: r => (h ^^^ rc) :: r
  | [] => []

def keccakF (a : List W64) : List W64 := keccakRC.foldl keccakRound a

/-- XOR a block of at most 136 bytes into the state. -/
def absorbBlock (a : List W64) (blk : List Byte) : List W64 :=
  keccakF ((List.range 25).map fun i => a.getD i 0#64 ^^^ BitVec.ofNat 64 (fieldAt blk (8 * i) 8))

/-- Absorb full blocks, then the padded last one. -/
def absorb : Nat → List W64 → List Byte → List W64
  | 0, a, _ => a
  | fuel + 1, a, m =>
    if m.length < 136 then
      let p := m ++ [0x1F#8] ++ List.replicate (135 - m.length) 0#8
      absorbBlock a (p.take 135 ++ [byteAt p 135 ||| 0x80#8])
    else absorb fuel (absorbBlock a (m.take 136)) (m.drop 136)

def squeeze : Nat → List W64 → Nat → List Byte
  | 0, _, _ => []
  | fuel + 1, a, n =>
    let out := (a.take 17).flatMap fun w => leBytes 8 w.toNat
    if n ≤ 136 then out.take n else out ++ squeeze fuel (keccakF a) (n - 136)

/-- SHAKE256 of a message, `n` bytes of output (FIPS 202). -/
def shake256 (m : List Byte) (n : Nat) : List Byte :=
  squeeze (n / 136 + 1) (absorb (m.length / 136 + 1) (List.replicate 25 0#64) m) n

/-- SHAKE256-512 (R476). -/
def shake512 (m : List Byte) : List Byte := shake256 m 64
/-- SHAKE256-256 (R386). -/
def shakeDigest32 (m : List Byte) : List Byte := shake256 m 32

end Sys2Proof
end

