-- ==== Sys2Proof/Machine/Floats.lean ====
section
/-!
DEFINITION. Exact values and their one rounding (R47, R48, R79, R80, R84, R89, R91, R93, R100).

A value is a NaN, an infinity, or a finite number (-1)^neg · m · 2^e with m a natural number, so every product and sum is
exact; an encoding is read from it by one rounding. No subnormal is flushed.
-/
namespace Sys2Proof

/-- An exact extended real; a zero keeps its sign. -/
inductive FV where
  | nan
  | inf (neg : Bool)
  | fin (neg : Bool) (m : Nat) (e : Int)
deriving DecidableEq, Repr

/-- The encoding of a floating format: exponent width, mantissa width, bias, and the meaning of the top exponent code as NANINF
of R84 gives it (0 finite, 1 all-ones mantissa is NaN, 2 IEEE). -/
structure FFmt where
  ew : Nat
  mw : Nat
  bias : Nat
  naninf : Nat
deriving DecidableEq, Repr

def FFmt.f32 : FFmt := ⟨8, 23, 127, 2⟩
def FFmt.bf16 : FFmt := ⟨8, 7, 127, 2⟩
def FFmt.f16 : FFmt := ⟨5, 10, 15, 2⟩

/-- The top exponent code. -/
def FFmt.top (f : FFmt) : Nat := 2 ^ f.ew - 1

/-- Decode a code of `1 + ew + mw` bits (R79, R84). -/
def FFmt.decode (f : FFmt) (c : Nat) : FV :=
  let neg := c.testBit (f.ew + f.mw)
  let e := c / 2 ^ f.mw % 2 ^ f.ew
  let m := c % 2 ^ f.mw
  if e = 0 then .fin neg m (1 - (f.bias : Int) - f.mw)
  else if e = f.top ∧ f.naninf = 2 then (if m = 0 then .inf neg else .nan)
  else if e = f.top ∧ f.naninf = 1 ∧ m = 2 ^ f.mw - 1 then .nan
  else .fin neg (2 ^ f.mw + m) ((e : Int) - f.bias - f.mw)

/-- E8M0: a power of two, 0xFF a NaN (R79). -/
def decodeE8M0 (c : Nat) : FV := if c % 256 = 255 then .nan else .fin false 1 ((c % 256 : Nat) - 127)

def FV.isNeg : FV → Bool
  | .nan => false
  | .inf n => n
  | .fin n _ _ => n

def FV.neg : FV → FV
  | .nan => .nan
  | .inf n => .inf (!n)
  | .fin n m e => .fin (!n) m e

def FV.abs : FV → FV
  | .nan => .nan
  | .inf _ => .inf false
  | .fin _ m e => .fin false m e

/-- Exact product; infinity times zero is a NaN (R48). -/
def FV.mul : FV → FV → FV
  | .nan, _ => .nan
  | _, .nan => .nan
  | .inf a, .inf b => .inf (a != b)
  | .inf a, .fin b m _ => if m = 0 then .nan else .inf (a != b)
  | .fin a m _, .inf b => if m = 0 then .nan else .inf (a != b)
  | .fin a m e, .fin b k f => .fin (a != b) (m * k) (e + f)

/-- The signed numerator of a finite value over 2^`e0`, for `e0` at most its exponent. -/
def scaled (neg : Bool) (m : Nat) (e e0 : Int) : Int :=
  let v : Int := (m * 2 ^ (e - e0).toNat : Nat)
  if neg then -v else v

/-- Exact sum; infinities of both signs give a NaN, an exact zero sum is +0 unless both terms are −0 (R48, IEEE 754). -/
def FV.add : FV → FV → FV
  | .nan, _ => .nan
  | _, .nan => .nan
  | .inf a, .inf b => if a = b then .inf a else .nan
  | .inf a, .fin .. => .inf a
  | .fin .., .inf b => .inf b
  | .fin a m e, .fin b k f =>
    let e0 := min e f
    let s := scaled a m e e0 + scaled b k f e0
    if s = 0 then .fin (a && b && m == 0 && k == 0) 0 e0 else .fin (decide (s < 0)) s.natAbs e0

/-- `a < b` as numbers (finite or infinite); a NaN is below nothing. −0 equals +0. -/
def FV.lt : FV → FV → Bool
  | .nan, _ => false
  | _, .nan => false
  | .inf a, .inf b => a && !b
  | .inf a, .fin .. => a
  | .fin .., .inf b => !b
  | .fin a m e, .fin b k f => decide (scaled a m e (min e f) < scaled b k f (min e f))

/-- Numerical equality; a NaN equals nothing. -/
def FV.eqv : FV → FV → Bool
  | .nan, _ => false
  | _, .nan => false
  | a, b => !FV.lt a b && !FV.lt b a

/-- The exponent of the spacing of representable magnitudes about m · 2^e (m ≠ 0), the exponent range having no upper end. -/
def FFmt.quantum (f : FFmt) (m : Nat) (e : Int) : Int :=
  max ((Nat.log2 m : Int) + e - f.mw) (1 - (f.bias : Int) - f.mw)

/-- How a magnitude is rounded: to nearest even, stochastically with 16 bits of noise (R100), or upward (R94). -/
inductive Rnd where
  | rne
  | sr (u : Nat)
  | up
deriving DecidableEq, Repr

/-- Round m · 2^e to a multiple of 2^q: the multiple. -/
def roundTo (r : Rnd) (m : Nat) (e q : Int) : Nat :=
  if q ≤ e then m * 2 ^ (e - q).toNat
  else
    let d := 2 ^ (q - e).toNat
    let a := m / d
    let rem := m % d
    match r with
    | .rne => if 2 * rem > d ∨ (2 * rem = d ∧ a % 2 = 1) then a + 1 else a
    | .sr u => if rem * 65536 / d + u ≥ 65536 then a + 1 else a
    | .up => if rem = 0 then a else a + 1

/-- Round a magnitude to the format's representable magnitudes, the range having no upper end: significand and exponent. -/
def FFmt.roundMag (f : FFmt) (r : Rnd) (m : Nat) (e : Int) : Nat × Int :=
  if m = 0 then (0, e) else
  let q := f.quantum m e
  (roundTo r m e q, q)

/-- The code of a rounded magnitude `s · 2^q` (as `roundMag` gives it), and whether it lies above the format's range. -/
def FFmt.pack (f : FFmt) (s : Nat) (q : Int) : Nat × Bool :=
  if s = 0 then (0, false) else
  let (s, q) := if s ≥ 2 ^ (f.mw + 1) then (s / 2, q + 1) else (s, q)
  if s < 2 ^ f.mw then (s, false)
  else
    let e : Int := q + f.mw + f.bias
    let m := s - 2 ^ f.mw
    let ovf : Bool := decide (e > f.top) ||
      (decide (e = f.top) && (f.naninf == 2 || (f.naninf == 1 && m == 2 ^ f.mw - 1)))
    (e.toNat * 2 ^ f.mw + m, ovf)

/-- The sign bit of a code. -/
def FFmt.signBit (f : FFmt) (neg : Bool) : Nat := if neg then 2 ^ (f.ew + f.mw) else 0

/-- The canonical NaN of R80 (a quiet NaN of positive sign for IEEE formats, the all-ones magnitude otherwise). -/
def FFmt.nanCode (f : FFmt) : Nat :=
  if f.naninf = 2 then
    (if f.ew = 8 ∨ f.mw = 10 then f.top * 2 ^ f.mw + 2 ^ (f.mw - 1) else f.top * 2 ^ f.mw + 2 ^ f.mw - 1)
  else f.top * 2 ^ f.mw + 2 ^ f.mw - 1

/-- The code of infinity, for a format that has one. -/
def FFmt.infCode (f : FFmt) (neg : Bool) : Nat := f.signBit neg + f.top * 2 ^ f.mw

/-- The code of the largest finite magnitude (R79, R84). -/
def FFmt.maxCode (f : FFmt) : Nat :=
  if f.naninf = 0 then f.top * 2 ^ f.mw + 2 ^ f.mw - 1
  else if f.naninf = 1 then f.top * 2 ^ f.mw + 2 ^ f.mw - 2
  else (f.top - 1) * 2 ^ f.mw + 2 ^ f.mw - 1

/-- Encode into an IEEE format (FP32, BF16, FP16) with one rounding; beyond the range is infinity (R48, R93). -/
def FFmt.encode (f : FFmt) (r : Rnd) : FV → Nat
  | .nan => f.nanCode
  | .inf n => f.infCode n
  | .fin n m e =>
    let (s, q) := f.roundMag r m e
    let (c, ovf) := f.pack s q
    if ovf then f.infCode n else f.signBit n + c

/-- `rne32` of R47: the FP32 code of an exact value. -/
def rne32 (v : FV) : Nat := FFmt.f32.encode .rne v

/-- FP32 addition, multiplication and fused multiply-add, round to nearest even (R89). -/
def f32 (c : Nat) : FV := FFmt.f32.decode c
def addF32 (a b : Nat) : Nat := rne32 ((f32 a).add (f32 b))

/-- Minimum or maximum of R126: NaN if either input is NaN; −0 is less than +0. -/
def FV.min2 (a b : FV) : FV :=
  if a = .nan ∨ b = .nan then .nan
  else if FV.lt a b then a else if FV.lt b a then b else if a.isNeg then a else b
def FV.max2 (a b : FV) : FV :=
  if a = .nan ∨ b = .nan then .nan
  else if FV.lt a b then b else if FV.lt b a then a else if a.isNeg then b else a

/-! The special functions of R127, each as a dyadic number that carries its inexactness in a last odd bit: rounding such a number
once to any register type is rounding the exact value, as no exact value of an inexact result lies on a tie. -/

/-- A positive real known to lie strictly between n·2^e and (n+1)·2^e, as a dyadic number; `exact` when it is n·2^e itself. -/
def sticky (n : Nat) (e : Int) (exact : Bool) : FV := .fin false (2 * n + (if exact then 0 else 1)) (e - 1)

/-- 1 / (m · 2^e), m ≠ 0. -/
def recipDy (m : Nat) (e : Int) : FV :=
  let p := Nat.log2 m + 80
  sticky (2 ^ p / m) (-(p : Int) - e) (decide (2 ^ p % m = 0))

/-- 1 / √(m · 2^e), m ≠ 0: the integer square root of 2^(2p) / m. -/
def rsqrtDy (m : Nat) (e : Int) : FV :=
  let (m, e) := if e % 2 = 0 then (m, e) else (2 * m, e - 1)
  let p := Nat.log2 m + 80
  let q := 2 ^ (2 * p) / m
  let s := Nat.sqrt q
  sticky s (-(p : Int) - e / 2) (decide (2 ^ (2 * p) % m = 0 ∧ s * s = q))

/-- Working precision of the exponential and the logarithm, in bits after the binary point. -/
def sfBits : Nat := 220

/-- ln 2 · 2^sfBits, from ln 2 = Σ 1 / (k · 2^k). -/
def ln2Fix : Nat := (List.range 260).foldl (fun a i => a + 2 ^ sfBits / ((i + 1) * 2 ^ (i + 1))) 0

/-- e^(r / 2^sfBits) · 2^sfBits for 0 ≤ r < 2^sfBits, by its power series. -/
def expSeries (r : Nat) : Nat :=
  ((List.range 60).foldl (fun (a : Nat × Nat) i =>
    let t := a.2 * r / 2 ^ sfBits / (i + 1)
    (a.1 + t, t)) (2 ^ sfBits, 2 ^ sfBits)).1

/-- e^x for a finite non-zero x = ±m·2^e: x = k·ln 2 + r with 0 ≤ r < ln 2. Arguments beyond ±2^9 leave every register type's range. -/
def expDy (neg : Bool) (m : Nat) (e : Int) : FV :=
  if (Nat.log2 m : Int) + e ≥ 9 then (if neg then .fin false 1 (-2000) else .fin false 1 2000)
  else if (Nat.log2 m : Int) + e < -100 then
    (if neg then .fin false (2 ^ 120 - 1) (-120) else .fin false (2 ^ 120 + 1) (-120))
  else
    let mag : Nat := if e + sfBits ≥ 0 then m * 2 ^ (e + sfBits).toNat else m / 2 ^ (-(e + sfBits)).toNat
    let x : Int := if neg then -(mag : Int) else mag
    let k := x / (ln2Fix : Int)
    let r := (x - k * (ln2Fix : Int)).toNat
    sticky (expSeries r) (k - sfBits) false

/-- ln of a dyadic in [1, 2) given as n / 2^sfBits, times 2^sfBits: 2·artanh((y−1)/(y+1)). -/
def lnSeries (n : Nat) : Nat :=
  let z := (n - 2 ^ sfBits) * 2 ^ sfBits / (n + 2 ^ sfBits)
  let z2 := z * z / 2 ^ sfBits
  2 * ((List.range 80).foldl (fun (a : Nat × Nat) i => (a.1 + a.2 / (2 * i + 1), a.2 * z2 / 2 ^ sfBits)) (0, z)).1

/-- ln(m · 2^e), m ≠ 0, of a value other than 1. -/
def logDy (m : Nat) (e : Int) : FV :=
  let l := Nat.log2 m
  let n := if l ≤ sfBits then m * 2 ^ (sfBits - l) else m / 2 ^ (l - sfBits)
  let k : Int := e + l
  let v : Int := k * (ln2Fix : Int) + (lnSeries n : Int)
  if v ≥ 0 then sticky v.toNat (-(sfBits : Int)) false else (sticky (v.natAbs - 1) (-(sfBits : Int)) false).neg

/-- Is a finite magnitude exactly 1? -/
def isOne (m : Nat) (e : Int) : Bool := FV.eqv (.fin false m e) (.fin false 1 0)

def sfExp : FV → FV
  | .nan => .nan
  | .inf true => .fin false 0 0
  | .inf false => .inf false
  | .fin n m e => if m = 0 then .fin false 1 0 else expDy n m e

def sfRcp : FV → FV
  | .nan => .nan
  | .inf n => .fin n 0 0
  | .fin n m e => if m = 0 then .inf n else if n then (recipDy m e).neg else recipDy m e

def sfRsqrt : FV → FV
  | .nan => .nan
  | .inf true => .nan
  | .inf false => .fin false 0 0
  | .fin n m e => if m = 0 then .inf n else if n then .nan else rsqrtDy m e

def sfLog : FV → FV
  | .nan => .nan
  | .inf true => .nan
  | .inf false => .inf false
  | .fin n m e => if m = 0 then .inf true else if n then .nan else if isOne m e then .fin false 0 0 else logDy m e

end Sys2Proof
end

