-- ==== Sys2Proof/Config.lean ====
section
/-!
DEFINITION. What the spec leaves open and what lies outside it: opaque constants, with no value any proof could see.
Each is named in a row of notes/assumptions.
-/
namespace Sys2Proof

/-- Free values drawn by a counter of the state (log 3): a value the spec states no result for. -/
opaque Config.freeValue : Nat → W64

/-- ML-DSA-65 verification of FIPS 204: public key, message, signature (log 4). -/
opaque Config.mldsaVerify : List Byte → List Byte → List Byte → Bool

/-- ML-DSA-65 hedged signing with the identity key formed from ξ: key seed, message, 32 random bytes (log 4). -/
opaque Config.mldsaSign : List Byte → List Byte → List Byte → List Byte

/-- The public key of ML-DSA.KeyGen_internal(ξ) (log 4). -/
opaque Config.mldsaPublic : List Byte → List Byte

/-- SEC's random bit generator (log 4). -/
opaque Config.random : Nat → List Byte

/-- The result of one column of a row streamed against a resident set of another width class, or against one whose cells hold elements
of two loads: the spec says only that it is the same on every run (R53, R534, log 5). Arguments: the row's elements, the set's element
codes and scales, the column. -/
opaque Config.classMismatch : List FV → Map Nat → Map Nat → Nat → Word

/-- The errors that arise by themselves in the arithmetic cycle that ends at a time of the module: no rule says when one does (log 15). -/
opaque Config.upset : Nat → List Upset

/-- Contents of the boot ROM (R475, R492): its bytes and version, and the digest of the vendor root key it holds. -/
opaque Config.romBytes : List Byte
opaque Config.romVersion : Word
opaque Config.rootDigest : List Byte

/-- Layouts the spec does not give (log 6): the format-table section (type 0x0008), the stamp-policy section (type 0x0009). They
answer the register writes and the tensor entries (id, GRAD, policy) that the section's bytes spell, or `none` where malformed. -/
opaque Config.formatSection : List Byte → Option (List (Nat × Word))
opaque Config.stampSection : List Byte → Option (List (Nat × Word) × List (Nat × Bool × Nat))

/-- What a courier descriptor of kind SORT or MATCH asks for, from its bits and x[XA] of its CPOST: the spec names the fields and gives no
offsets for them (R191, R197, R240, log 7). -/
opaque Config.postDesc : Nat → Nat → Option PostDesc

/-- The optimizer's vector instructions, by core and byte address of the instruction: R109 names reads and writes of the optimizer,
and no rule says how one is told (log 9). -/
opaque Config.optimizer : Nat → Nat → Bool

/-- PAYLOAD bytes of a daybook record whose contents no rule gives, by KIND and SEQ (log 3). -/
opaque Config.dayPayload : Nat → Nat → List Byte

/-- The bytes a read returns, beside its poison, from a unit that is out of range or whose channel is lost (R258, R266, log 3). -/
opaque Config.lostByte : Nat → Byte

/-- Bytes of a reserve region at the partner (R390): its region table is not this module's, and no rule tells it (log 12). -/
opaque Config.reserveBytes : Nat → Nat

/-- PDR contents and PLDM data the spec leaves to the standards (R526, log 8). -/
opaque Config.pldmData : Nat → Nat → List Byte

/-- The quality level (G.8264) of the root input on the sideband connector, which no message tells (R313). -/
opaque Config.rootQuality : Nat

end Sys2Proof
end

