-- ==== Sys2Proof/Machine/Formats.lean ====
section
/-!
DEFINITION. The format table, tiles, G16, noise and conversions (R81–R106).
-/
namespace Sys2Proof

/-- What a format code stands for: width in bits, float parameters, whether blocks carry an E8M0 scale, whether it is G16, and
SAT of R106. -/
structure FmtInfo where
  width : Nat
  f : FFmt
  scaled : Bool := false
  g16 : Bool := false
  sat : Bool := false
deriving DecidableEq, Repr

/-- A programmable entry's register fields are valid under R85. -/
def entryValid (v : Nat) : Bool :=
  let w := [4, 6, 8].getD (bits v 12 11) 0
  let e := bits v 10 8
  let n := bits v 2 1
  let m := w - 1 - e
  w != 0 && decide (1 ≤ e) && decide (e ≤ w - 1) && decide (n ≤ 2) && !(n == 2 && m == 0) && !(n == 1 && m == 0 && decide (e < 2))

/-- An entry 10–15 from its register (R84). -/
def entryInfo (v : Nat) : FmtInfo :=
  let w := [4, 6, 8].getD (bits v 12 11) 8
  let e := bits v 10 8
  { width := w, f := ⟨e, w - 1 - e, bits v 7 3, bits v 2 1⟩, scaled := true, sat := bit v 0 }

/-- The format table (R83, R84): codes 0–9 fixed, 10–15 from the registers; `none` for an invalid entry. -/
def fmtInfo (entry : Nat → Nat) (code : Nat) : Option FmtInfo :=
  match code with
  | 0 => some { width := 16, f := .bf16 }
  | 1 => some { width := 16, f := .f16 }
  | 2 => some { width := 8, f := ⟨4, 3, 7, 1⟩, scaled := true }
  | 3 => some { width := 8, f := ⟨5, 2, 15, 2⟩, scaled := true }
  | 4 => some { width := 6, f := ⟨3, 2, 3, 0⟩, scaled := true }
  | 5 => some { width := 6, f := ⟨2, 3, 1, 0⟩, scaled := true }
  | 6 => some { width := 4, f := ⟨2, 1, 1, 0⟩, scaled := true }
  | 7 => some { width := 32, f := .f32 }
  | 8 => some { width := 16, f := .f32, scaled := false, g16 := true }
  | 9 => some { width := 8, f := ⟨8, 0, 127, 1⟩ }
  | c => if entryValid (entry c) then some (entryInfo (entry c)) else none

/-- Elements per cell of a width class (R44): 1, 2 or 4. -/
def FmtInfo.g (i : FmtInfo) : Nat := if i.width = 16 then 1 else if i.width = 4 then 4 else 2

/-- An array operand is a float of at most 16 bits (R45, R83). -/
def FmtInfo.arrayOperand (i : FmtInfo) (code : Nat) : Bool := decide (i.width ≤ 16) && !i.g16 && code != 9

/-- Bytes of a tile's elements and of the whole tile (R82). -/
def FmtInfo.elemBytes (i : FmtInfo) : Nat := 2048 * i.width
def FmtInfo.hasScale (i : FmtInfo) : Bool := i.scaled || i.g16
def FmtInfo.tileBytes (i : FmtInfo) : Nat := i.elemBytes + (if i.hasScale then 512 else 0)

/-- Element number `n` of packed elements of width `w` at byte address `a` (R82). -/
def packedAt (rd : Nat → Byte) (w a n : Nat) : Nat :=
  let b := fun k => (rd k).toNat
  if w = 32 then b (a + 4 * n) + 256 * b (a + 4 * n + 1) + 65536 * b (a + 4 * n + 2) + 16777216 * b (a + 4 * n + 3)
  else if w = 16 then b (a + 2 * n) + 256 * b (a + 2 * n + 1)
  else if w = 8 then b (a + n)
  else if w = 6 then
    let g := a + 3 * (n / 4)
    (b g + 256 * b (g + 1) + 65536 * b (g + 2)) / 2 ^ (6 * (n % 4)) % 64
  else b (a + n / 2) / 16 ^ (n % 2) % 16

/-- Byte `k` of packed elements whose codes are `c n` (R82). -/
def packedByte (w : Nat) (c : Nat → Nat) (k : Nat) : Byte :=
  if w = 32 then BitVec.ofNat 8 (c (k / 4) / 256 ^ (k % 4))
  else if w = 16 then BitVec.ofNat 8 (c (k / 2) / 256 ^ (k % 2))
  else if w = 8 then BitVec.ofNat 8 (c k)
  else if w = 6 then
    let j := 4 * (k / 3)
    BitVec.ofNat 8 ((c j + 64 * c (j + 1) + 4096 * c (j + 2) + 262144 * c (j + 3)) / 256 ^ (k % 3))
  else BitVec.ofNat 8 (c (2 * k) % 16 + 16 * (c (2 * k + 1) % 16))

/-- The code and the scale byte of element (i, j) of a tile at `a` (R81). -/
def FmtInfo.codeAt (t : FmtInfo) (rd : Nat → Byte) (a i j : Nat) : Nat := packedAt rd t.width a (i * 128 + j)
def FmtInfo.scaleAt (t : FmtInfo) (rd : Nat → Byte) (a i j : Nat) : Nat :=
  if t.hasScale then (rd (a + t.elemBytes + i * 4 + j / 32)).toNat else 127

/-- The value of a G16 element (R87); 0x8000 has none. -/
def g16Value (c s : Nat) : FV :=
  if c = 0x8000 then .nan
  else
    let n := signed 16 c
    .fin (decide (n < 0)) n.natAbs (signed 8 s)

/-- The exact value of an element from its code and scale byte. -/
def FmtInfo.value (t : FmtInfo) (code scale : Nat) : FV :=
  if t.g16 then g16Value code scale
  else if t.scaled then (t.f.decode code).mul (decodeE8M0 scale)
  else if t.f.ew = 8 ∧ t.f.mw = 0 then decodeE8M0 code
  else t.f.decode code

def FmtInfo.valueAt (t : FmtInfo) (rd : Nat → Byte) (a i j : Nat) : FV :=
  t.value (t.codeAt rd a i j) (t.scaleAt rd a i j)

/-! Noise (R101, R102). -/

def mix64 (z : W64) : W64 :=
  let z := (z ^^^ (z >>> 31)) * 0xB5A32E4F96C17D09#64
  let z := (z ^^^ (z >>> 29)) * 0x8F1D6A27C3E54B1B#64
  z ^^^ (z >>> 32)

def noise64 (key c0 c1 : W64) : W64 :=
  let z := mix64 (key ^^^ c0)
  let z := mix64 (z + c1 + 0x6D2B79F51C83A4E1#64)
  mix64 (z ^^^ key.rotateLeft 29)

/-- The inputs of the noise of one conversion (R101, R103). -/
structure NoiseKey where
  seed : Nat
  step : Nat
  tensor : Nat
  pass : Nat
  node : Nat
  base : Nat
  pitch : Nat
deriving DecidableEq, Repr

/-- The 16-bit noise of the element at (row, column) of the destination tile. -/
def NoiseKey.at (k : NoiseKey) (row col : Nat) : Nat :=
  let idx := k.base + row * k.pitch + col
  let c0 := k.step % 2 ^ 40 * 2 ^ 24 + k.tensor % 4096 * 4096 + k.pass % 4096
  let c1 := k.node % 65536 * 2 ^ 46 + idx / 4 % 2 ^ 46
  bits (noise64 (BitVec.ofNat 64 k.seed) (BitVec.ofNat 64 c0) (BitVec.ofNat 64 c1)).toNat (16 * (idx % 4) + 15) (16 * (idx % 4))

/-! Conversions. -/

/-- An element a stamped conversion can convert (R92). -/
def FV.convertible : FV → Bool
  | .fin .. => true
  | _ => false

/-- Round q = v / 2^s to the target: code and whether it overflows (R91). -/
def FmtInfo.convElem (t : FmtInfo) (s : Int) (r : Rnd) (v : FV) : Nat × Bool :=
  match v with
  | .fin n m e =>
    if t.g16 then
      let a := roundTo r m (e - s) 0
      let ovf := decide (a > 32767)
      let a := min a 32767
      (if n then (65536 - a) % 65536 else a, ovf)
    else
      let (g, q) := t.f.roundMag r m (e - s)
      let (c, ovf) := t.f.pack g q
      (t.f.signBit n + (if ovf then t.f.maxCode else c), ovf)
  | _ => (0, false)

/-- One tile being converted: exact values by destination position, and which destination rows come from poisoned rows. -/
structure TileIn where
  v : Array FV            -- 128 × 128, row-major
  poison : Array Bool     -- per destination row
  srcPoison : Array Bool  -- per element: it comes from a poisoned row

/-- A converted tile: element codes, block scale bytes, row poison, and what its conversion tells the stamp history. -/
structure TileOut where
  code : Array Nat
  scale : Array Nat
  poison : Array Bool
  passes : Nat            -- further passes made
  exhausted : Bool        -- R106
  unconvertible : Bool
  any : Bool              -- some element was convertible
  maxBf : Nat             -- largest convertible magnitude as R94 rounds it

/-- The larger of two finite magnitudes. -/
def maxMag (a b : FV) : FV := if FV.lt a b then b else a

/-- |v| rounded to BF16 toward +infinity, capped at 0x7F7F (R94). -/
def bf16Up (v : FV) : Nat :=
  match v with
  | .fin _ m e =>
    let (s, q) := FFmt.bf16.roundMag .up m e
    let (c, ovf) := FFmt.bf16.pack s q
    if ovf then 0x7F7F else min c 0x7F7F
  | _ => 0

def TileIn.ok (t : TileIn) (k : Nat) : Bool := (t.v.getD k .nan).convertible && !(t.srcPoison.getD k false)

/-- Does a pass at stamp `s` overflow? -/
def passOverflows (t : FmtInfo) (i : TileIn) (rnd : Nat → Rnd) (s : Int) : Bool :=
  (List.range 16384).any fun k => i.ok k && (t.convElem s (rnd k) (i.v.getD k .nan)).2

/-- The stamps of the passes that may be made, in order (R104). -/
def passStamps (t : FmtInfo) (s : Int) : List Int :=
  ((List.range 4).map fun a => s + 4 * (a : Int)).takeWhile fun x => decide (x = s) || (if t.g16 then decide (x ≤ 127) else decide (x + 127 ≤ 254))

/-- The pass that stands: its stamp, how many further passes were made, and whether it still overflows. -/
def pickPass (t : FmtInfo) (i : TileIn) (rnd : Nat → Rnd) : List Int → Nat → Int × Nat × Bool
  | [], n => (0, n, true)
  | [s], n => (s, n, passOverflows t i rnd s)
  | s :: r, n => if passOverflows t i rnd s then pickPass t i rnd r (n + 1) else (s, n, false)

/-- A stamped conversion of one tile with the stamps its passes may take (R91, R92, R94, R104, R106). -/
def convertTile (t : FmtInfo) (i : TileIn) (rnd : Nat → Rnd) (stamps : List Int) : TileOut :=
  let (s, n, ex) := pickPass t i rnd stamps 0
  let unc := (List.range 16384).any fun k => !(i.ok k)
  let elem := fun k =>
    if i.ok k then
      let v := i.v.getD k .nan
      let (c, ovf) := t.convElem s (rnd k) v
      if ovf && t.sat && t.f.naninf != 0 && !t.g16 then t.f.nanCode else c
    else 0x8000
  let codes := (Array.range 16384).map elem
  -- a block that holds an unconvertible element, or an overflow that SAT 1 cannot write (NANINF 0), is lost (R92, R106)
  let lost := (Array.range 512).map fun b => !t.g16 && (List.range 32).any fun c =>
    let k := b * 32 + c
    !(i.ok k) || (t.sat && t.f.naninf == 0 && (t.convElem s (rnd k) (i.v.getD k .nan)).2)
  let scaleOf := if t.g16 then unsigned 8 s else (s + 127).toNat % 256
  let big := (List.range 16384).foldl (fun a k => if i.ok k then maxMag a (i.v.getD k .nan).abs else a) (FV.fin false 0 0)
  { code := (Array.range 16384).map fun k => if lost.getD (k / 32) false then 0 else codes.getD k 0
    scale := (Array.range 512).map fun b => if lost.getD b false then 0xFF else scaleOf
    poison := (Array.range 128).map fun r => ex || i.poison.getD r false
    passes := n, exhausted := ex, unconvertible := unc
    any := (List.range 16384).any fun k => i.ok k
    maxBf := bf16Up big }

/-- An unstamped conversion into BF16, FP16 or FP32 (R93): codes only. -/
def convertPlain (t : FmtInfo) (i : TileIn) (rnd : Nat → Rnd) : TileOut :=
  { code := (Array.range 16384).map fun k => t.f.encode (rnd k) (i.v.getD k .nan)
    scale := #[], poison := i.poison, passes := 0, exhausted := false, unconvertible := false, any := true, maxBf := 0 }

/-! Stamp history (R94–R97). -/

/-- A scale policy (R95). -/
structure Policy where
  target : Nat
  window : Nat
  margin : Nat
  drop : Nat
  init : Int
  smin : Int
  smax : Int
deriving DecidableEq, Repr

/-- A policy from `FMT.POLICY_A` and `FMT.POLICY_B` (R111); WINDOW 0 is 16. -/
def policyOf (a b : Nat) : Policy :=
  { target := bits b 3 0, window := if bits b 15 12 = 0 then 16 else bits b 15 12, margin := bits b 11 9, drop := bits b 8 5
    init := signed 8 (bits a 31 24), smin := signed 8 (bits a 23 16), smax := signed 8 (bits a 15 8) }

/-- A stamp history entry (R94). HIST is listed from slot 0. -/
structure StampEnt where
  valid : Bool := false
  grad : Bool := false
  policy : Nat := 0
  stamp : Int := 0
  curMax : Nat := 0
  touched : Bool := false
  hist : List Nat := []
  head : Nat := 0
  fill : Nat := 0
deriving DecidableEq, Repr

/-- The largest finite value of a target, as an exact number (R95): 32,767 for G16, else that of R79 or R84, (2 − 2^−m) · 2^(2^e − 2 − bias) where
the top exponent code holds no number. With EXP_W 1 no code has that value; a saturating conversion writes the largest code (log 85). -/
def FmtInfo.maxF (t : FmtInfo) : FV :=
  if t.g16 then .fin false 32767 0
  else if t.f.naninf = 2 then .fin false (2 ^ (t.f.mw + 1) - 1) ((t.f.top : Int) - 1 - t.f.bias - t.f.mw)
  else t.f.decode t.f.maxCode

/-- The smallest stamp in a range of stamps with h · 2^margin ≤ maxF · 2^s; every stamp in force lies within ±128. -/
def fitStamp (t : FmtInfo) (h margin : Nat) : Int :=
  let hv := (FFmt.bf16.decode h).mul (.fin false 1 margin)
  (((List.range 1024).map fun k => (k : Int) - 512).find? fun s => !FV.lt (t.maxF.mul (.fin false 1 s)) hv).getD 512

/-- The step-boundary update of one VALID entry (R96). -/
def StampEnt.update (t : FmtInfo) (p : Policy) (x : StampEnt) : StampEnt :=
  let hist := if x.touched then (List.range 16).map fun i => if i = x.head then x.curMax else x.hist.getD i 0 else x.hist
  let head := if x.touched then (x.head + 1) % 16 else x.head
  let fill := if x.touched then min (x.fill + 1) 16 else x.fill
  let h := (List.range (min p.window fill)).foldl (fun a i => max a (hist.getD ((head + 31 - i) % 16) 0)) 0
  let s := if h = 0 then p.init
    else
      let s := fitStamp t h p.margin
      if p.drop ≠ 0 ∧ s < x.stamp - (p.drop : Int) then x.stamp - (p.drop : Int) else s
  let s := min (max s p.smin) p.smax
  let s := if t.g16 then s else min (max s (-127)) 127
  { x with hist := hist, head := head, fill := fill, stamp := s, curMax := 0, touched := false }

/-- An entry as an image load sets it (R97). -/
def StampEnt.load (grad : Bool) (policy : Nat) (p : Policy) : StampEnt :=
  { valid := true, grad := grad, policy := policy, stamp := p.init }

end Sys2Proof
end

