-- ==== Sys2Proof/Machine/CoreState.lean ====
section
/-!
DEFINITION. One core: its stores, arrays, groups, vector registers, scalar threads, claims and stream (ch. 2, 4, 6, 8).
Plain data; every field of a core at its default is a core as reset leaves it.
-/
namespace Sys2Proof.Machine

/-- A resident register or remainder register: element codes and scale bytes by k × 128 + column, the format, the width class as
elements per cell, and for a structured set the element slots of R183. R533 fixes its reset value: +0 elements, scale 127. -/
structure ResSet where
  fmt : Nat := 0
  g : Nat := 1
  code : Map Nat := []
  scale : Map Nat := []
  structured : Bool := false
  index : Map Nat := []                      -- structured: which of the four contraction elements a stored slot holds (R183)
  remainder : Bool := false                  -- the remainder register beside it is not empty (R187)
  poison : Bool := false
  filled : Bool := false                     -- an RLOAD filled it since the last image load or restore (R533)
  clash : Bool := false                      -- its cells hold elements of two loads of different forms (R53)
  parity : Option (Nat × Nat) := none        -- lane and column of a cell whose parity fails (R75)
deriving DecidableEq, Repr

/-- A twin buffer (R64): a K × K block by row × K + column. -/
structure TwinBuf where
  fmt : Nat := 0
  k : Nat := 128
  code : Map Nat := []
  scale : Map Nat := []
  poison : Map Bool := []                    -- per row
  filled : Bool := false                     -- a TFILL filled it since the last image load or restore (R533)
  parity : Option (Nat × Nat) := none
deriving DecidableEq, Repr

/-- A group's state (R69). -/
inductive GState where
  | closed | opened | closing
deriving DecidableEq, Repr

/-- An accumulation group (R69, R78). `dest` is what its close is writing: space (0 tile store, 1 accumulator store), first unit
and units. The close has written its last row once the core's `run` reaches `ends`. -/
structure Group where
  st : GState := .closed
  first : Nat := 0
  count : Nat := 0
  rows : Nat := 0
  arrays : Nat := 0
  dest : List (Nat × Nat × Nat) := []
  ends : Nat := 0
deriving DecidableEq, Repr

/-- A claim on units of release (R119): space (0 tile-store granules of 512 B, 1 accumulator tiles, 2 scalar words of 8 B,
3 hand-off registers, 4 instruction halves), first unit and number of units. An EXPECT's claim also holds its byte range, its
entry and use, its release postmark, and the bytes counted; `never` marks a claim that is never released (R357). `src` tells
who made it: 0 EXPECT, 1 CPOST, 2 TSTART, 3 a service request, 4 STEPEND, 5 a CPOST's claim on its source, against writers alone. -/
structure Claim where
  ident : Nat
  src : Nat
  space : Nat
  first : Nat
  units : Nat
  entry : Nat := 0
  addr : Nat := 0
  bytes : Nat := 0
  got : Nat := 0
  rel : Nat := 0
  async : Bool := false
  never : Bool := false
  late : Bool := false
deriving DecidableEq, Repr

/-- An open loop (R118): first bundle of the body, its length, and how many more times it runs. -/
structure Loop where
  first : Nat
  len : Nat
  left : Nat
deriving DecidableEq, Repr

/-- A scalar thread 1–3 (R134): its registers, program word, whether it runs, and the cycles a DIVU still holds it. -/
structure Thread where
  x : Map W64 := []
  pc : Nat := 0
  running : Bool := false
  busy : Nat := 0
  stalled : Bool := false
deriving DecidableEq, Repr

/-- Bank states of R232. -/
inductive Bank where
  | active | idle | retained | waking
deriving DecidableEq, Repr

/-- A release-table entry (R352). -/
structure RelEnt where
  offset : Nat := 0
  stride : Nat := 0
  uses : Nat := 0
  valid : Bool := false
  async : Bool := false
  space : Nat := 0
  dest : Nat := 0
  dstride : Nat := 0
  bytes : Nat := 0
deriving DecidableEq, Repr

/-- A remainder pass under way (R188): the array-cycle count it ends at, and what counts as unreleased until then: the group's tiles
and the stream's source tiles, as (space, first unit, units). -/
structure RemPass where
  ends : Nat
  tiles : List (Nat × Nat × Nat)
  source : List (Nat × Nat × Nat)
deriving DecidableEq, Repr

/-- A write of an instruction to a store of its core: a scalar register, a vector register with its granules' poison, the poison of a whole
vector register, bytes of a tile space with the poison of the data, the mark of a compressed tile, a tile's dirty mark, bytes of scalar
data memory, accumulator tiles cleared, an accumulator row, a twin buffer. -/
inductive Write where
  | x (r : Nat) (v : W64)
  | vec (r : Nat) (words : List Nat) (poison : List Bool)
  | vecPoison (r : Nat)
  | bytes (acc : Bool) (a : Nat) (data : List Byte) (poison : Bool)
  | carried (acc : Bool) (a tensor : Nat)
  | dirty (acc : Bool) (a : Nat) (on : Bool)
  | sdm (a n v : Nat)
  | clear (first count : Nat)
  | accRow (tile row : Nat) (words : List Nat) (poison : Bool)
  | twin (second : Bool) (b : TwinBuf)
deriving DecidableEq, Repr

/-- A write that has not landed (R115): the count of cycles it is seen from, of those the core is not stalled or, for a unit that runs on,
of those outside the brake and HELD (R60). `move` marks a tile move or vector write, which replaces an add of the same cycle (R59). -/
structure Flight where
  due : Nat
  runs : Bool
  move : Bool := false
  write : Write
deriving DecidableEq, Repr

/-- A result row on its way to the accumulator store (R57): the count of cycles at which it is added, the array, the group row by tile ×
128 + row, its 128 words and its poison. -/
structure AddRow where
  due : Nat
  runs : Bool
  arr : Arr
  row : Nat
  words : List Nat
  poison : Bool
deriving DecidableEq, Repr

/-- A resident load under way (R50): the cycle it was issued at, the lanes (columns, where `byCol`) already written, the set and its
remainder. -/
structure Load where
  start : Nat
  done : Nat := 0
  byCol : Bool
  set : ResSet
  rem : ResSet
deriving DecidableEq, Repr

/-- Rows an array issues (R54): from which cycle, how many. -/
structure Rows where
  start : Nat
  count : Nat
  runs : Bool
deriving DecidableEq, Repr

/-- What a VCVTS or a VTOPK holds until it ends (R105, R119): its destination, held against readers, and where `both` against writers too;
the vector registers it reads, held against writers; and when its further passes begin. -/
structure Conv where
  ends : Nat
  dest : List (Nat × Nat × Nat)
  both : Bool := false
  regs : List (Nat × Nat × Nat) := []
  further : Nat
deriving DecidableEq, Repr

/-- Accesses of a core unit to the core ports of the banks (R229): reads or writes, from which cycle, and the banks of each cycle. -/
structure PortUse where
  write : Bool
  start : Nat
  runs : Bool
  banks : List (List Nat)
deriving DecidableEq, Repr

/-- A service request a core has handed to its control core (R419): kind and argument. -/
structure Service where
  kind : Nat
  arg : List Byte
deriving DecidableEq, Repr

/-- A core. Byte maps are keyed by byte address; `tsPoison` and `sdmPoison` by 64-byte unit; `acc` by tile × 16384 + row × 128 +
column and `accPoison` by tile × 128 + row; `vreg` by register × 2048 + 32-bit lane and `vPoison` by register × 32 + granule. -/
structure Core where
  x : Map W64 := []                          -- thread 0's x1–x31
  th : Map Thread := []                      -- threads 1–3
  hand : Map W64 := []                       -- hand-off registers h[0]–h[11]
  handFull : Map Bool := []
  ts : Map Byte := []
  tsPoison : Map Bool := []
  acc : Map Word := []
  accPoison : Map Bool := []
  carried : Map Nat := []                    -- addresses that hold a compressed tile: tensor + 1 (R180)
  dirtyTiles : Map Bool := []                -- tiles marked dirty (R108), by first granule (tile store) or 16384 + tile
  tileSdm : Map (Map Byte) := []             -- scalar data memory as a tile's conversion left it (R152), by the same key
  vreg : Map Word := []
  vPoison : Map Bool := []
  sdm : Map Byte := []
  sdmPoison : Map Bool := []
  frontA : ResSet := {}
  backA : ResSet := {}
  remA : ResSet := {}                        -- remainder registers, beside the front and the back sets (R182)
  backRemA : ResSet := {}
  frontB : ResSet := {}
  backB : ResSet := {}
  remB : ResSet := {}
  backRemB : ResSet := {}
  twin0 : TwinBuf := {}
  twin1 : TwinBuf := {}
  twinCur : Bool := true                     -- the buffer the latest pass reads: twin1 when set
  twinFresh : Bool := false                  -- the other buffer was filled since
  groups : Map Group := []
  busyA : Nat := 0                           -- rows issued (ARR.BUSY_A)
  busyB : Nat := 0
  istore : Map Byte := []
  desc : Map Nat := []                       -- array descriptors, 128 bits each (R123)
  rel : Map RelEnt := []                     -- release table (R352)
  uses : Map Nat := []                       -- uses taken this step, by entry
  claims : List Claim := []
  nextClaim : Nat := 1
  half : Nat := 0
  index : Nat := 0
  segs : Nat := 0
  loops : List Loop := []
  segNext : Bool := false                    -- a SEG was issued: the next bundle is bundle 0 of the other half
  issuing : Bool := false
  halted : Bool := false
  stepEnd : Bool := false                    -- STEPEND of the current step was issued (R145), before the post of this identity
  stepAt : Nat := 0
  stall : Nat := 0                           -- STALL_CAUSE (R142)
  stallCycles : Nat := 0
  services : Map (Option Service) := []      -- the four service slots (R419)
  banks : Map Bank := []
  waking : Map Nat := []                     -- banks waking: cycles since the wake began
  retainWait : List Nat := []                -- banks that enter RETAINED once free (R232)
  spares : Map Nat := []                     -- repaired regions by bank × 48 + region: spare used + 1 (R237)
  badRegions : List Nat := []                -- unrepaired regions
  testing : Option (Nat × List Byte × Bool × Nat) := none -- a region under test (R236): bank × 48 + region, the save buffer, whether a cell
                                             -- of it fails, and when the test began
  tested : Nat := 0                          -- regions tested in the window being served
  available : Bool := true                   -- false after a BOOT with an unrepaired region (R470)
  matchIx : List (Nat × Nat) := []           -- index memory of the matching unit: key and position of each entry (R192)
  cyc : Nat := 0                             -- cycles in which the core was not stalled (R60)
  run : Nat := 0                             -- cycles outside the brake and HELD, which the units that run on count (R60)
  occ : Map Nat := []                        -- per unit, the count at which its occupancy expires (R138)
  remPassA : Option RemPass := none
  remPassB : Option RemPass := none
  flights : List Flight := []                -- writes issued and not landed (R115)
  adds : List AddRow := []                   -- result rows issued and not added (R57)
  loadA : Option Load := none
  loadB : Option Load := none
  issueA : List Rows := []                   -- rows being issued (ARR.STAT, R54)
  issueB : List Rows := []
  convs : List Conv := []
  ports : List PortUse := []
  conflict : Nat := 0                        -- accesses still to be served after a port conflict (R230)
  filled : Map Bool := []                    -- halves of the instruction store that a fill has landed in (R117)
  bankGoal : Map Nat := []                   -- the state a waking bank enters, by its BANK code (R232)
  wakeTold : List Nat := []                  -- banks whose wake was counted and reported (R233)
  sdmBad : List Nat := []                    -- words of scalar data memory with a double-bit error (R143)
deriving DecidableEq, Repr

end Sys2Proof.Machine
end

