-- ==== Sys2Proof/Machine/RegMap.lean ====
section
/-!
DEFINITION. The register map (R455, R456) and the access codes of every register (R10, and the field tables of each
block's chapter).

A register is named by the BAR0 offset of its instance 0; `Reg.at` moves it to another instance of its window. One `RegDef`
describes `n` consecutive registers: `wr` the bits a host write may change (RW, and RWS where it stands alone), `ready` those
of them that READY alone lets a write change, `warm` the bits a warm reset keeps (R469), `sqc` the sequence-clear bits (R451).
Written from the field tables of the spec.
-/
namespace Sys2Proof

structure RegDef where
  off : Nat
  n : Nat
  wr : Nat
  ready : Nat
  warm : Nat
  sqc : Nat
deriving DecidableEq, Repr

abbrev Reg.TIME_DPLL_CTL : Nat := 0x10000
abbrev Reg.TIME_REF_PRIO : Nat := 0x10004
abbrev Reg.TIME_DPLL_STAT : Nat := 0x10008
abbrev Reg.TIME_PHASE_ERR : Nat := 0x1000C
abbrev Reg.CORE_ID : Nat := 0x100000
abbrev Reg.ARR_STAT : Nat := 0x100200
abbrev Reg.ARR_GRP_STATE : Nat := 0x100204
abbrev Reg.ARR_GRP0 : Nat := 0x100208
abbrev Reg.ARR_ERR_LOC : Nat := 0x100228
abbrev Reg.ARR_BUSY_A_LO : Nat := 0x10022C
abbrev Reg.ARR_BUSY_A_HI : Nat := 0x100230
abbrev Reg.ARR_BUSY_B_LO : Nat := 0x100234
abbrev Reg.ARR_BUSY_B_HI : Nat := 0x100238
abbrev Reg.ARR_CORR_CNT : Nat := 0x10023C
abbrev Reg.ARR_POISON_ROWS : Nat := 0x100240
abbrev Reg.FMT_SEED_LO : Nat := 0x40000
abbrev Reg.FMT_SEED_HI : Nat := 0x40004
abbrev Reg.FMT_STEP_LO : Nat := 0x40008
abbrev Reg.FMT_STEP_HI : Nat := 0x4000C
abbrev Reg.FMT_SKIP_CNT : Nat := 0x40010
abbrev Reg.FMT_ENTRY10 : Nat := 0x40014
abbrev Reg.FMT_POLICY_A0 : Nat := 0x4002C
abbrev Reg.FMT_POLICY_B0 : Nat := 0x4006C
abbrev Reg.FMT_STAT : Nat := 0x400AC
abbrev Reg.FMT_OVF_CNT : Nat := 0x400B0
abbrev Reg.FMT_HIST_SEL : Nat := 0x400B4
abbrev Reg.CORE_STAT : Nat := 0x100004
abbrev Reg.CORE_PC : Nat := 0x100008
abbrev Reg.CORE_SEG : Nat := 0x10000C
abbrev Reg.CORE_STALL_LO : Nat := 0x100010
abbrev Reg.CORE_STALL_HI : Nat := 0x100014
abbrev Reg.VEC_STAT : Nat := 0x100400
abbrev Reg.VEC_CORR_CNT : Nat := 0x100404
abbrev Reg.FMT_BOUNDARY : Nat := 0x400B8
abbrev Reg.FMT_COMMITS_LO : Nat := 0x400BC
abbrev Reg.FMT_COMMITS_HI : Nat := 0x400C0
abbrev Reg.RDU_MBAG_SEL : Nat := 0x45000
abbrev Reg.RDU_MBAG_STAT : Nat := 0x45004
abbrev Reg.SPZ_STAT : Nat := 0x42000
abbrev Reg.SPZ_ERR_LOC : Nat := 0x42004
abbrev Reg.SPZ_ERR_ADDR_LO : Nat := 0x42008
abbrev Reg.SPZ_ERR_ADDR_HI : Nat := 0x4200C
abbrev Reg.SPZ_DROP_CNT : Nat := 0x42010
abbrev Reg.SPZ_DENSE_CNT : Nat := 0x42014
abbrev Reg.SPZ_REMAINDER_CNT : Nat := 0x42018
abbrev Reg.SPZ_MATCH_CNT : Nat := 0x4201C
abbrev Reg.SO_STAT : Nat := 0x41000
abbrev Reg.SO_ERR_LOC : Nat := 0x41004
abbrev Reg.SO_ERR_ROUND : Nat := 0x41008
abbrev Reg.SO_LAND_USED : Nat := 0x4100C
abbrev Reg.SO_DROP_CNT : Nat := 0x41010
abbrev Reg.SO_SKIP_CNT : Nat := 0x41014
abbrev Reg.SO_SPILL_CNT : Nat := 0x41018
abbrev Reg.SO_ROUND_CNT : Nat := 0x4101C
abbrev Reg.TS_STAT : Nat := 0x100600
abbrev Reg.TS_BANK_LO : Nat := 0x100604
abbrev Reg.TS_BANK_HI : Nat := 0x100608
abbrev Reg.TS_ERR_LOC : Nat := 0x10060C
abbrev Reg.TS_CORR_CNT : Nat := 0x100610
abbrev Reg.TS_CONFLICT_CNT : Nat := 0x100614
abbrev Reg.TS_WAKE_CNT : Nat := 0x100618
abbrev Reg.TS_TEST_CNT : Nat := 0x10061C
abbrev Reg.TS_REPAIR_CNT : Nat := 0x100620
abbrev Reg.COUR_STAT : Nat := 0x80000
abbrev Reg.COUR_DEPTH : Nat := 0x80004
abbrev Reg.COUR_ERR_LOC : Nat := 0x80008
abbrev Reg.PGN_SEL : Nat := 0x43000
abbrev Reg.PGN_STAT : Nat := 0x43004
abbrev Reg.PGN_POOL : Nat := 0x43008
abbrev Reg.PGN_BAD_LO : Nat := 0x4300C
abbrev Reg.PGN_BAD_HI : Nat := 0x43010
abbrev Reg.PGN_REFUSED_CNT : Nat := 0x43014
abbrev Reg.PGN_EMPTY_CNT : Nat := 0x43018
abbrev Reg.BOND_STAT : Nat := 0x44000
abbrev Reg.BOND_INSVC0 : Nat := 0x44004
abbrev Reg.BOND_REFRESH : Nat := 0x44024
abbrev Reg.BOND_CH_SEL : Nat := 0x44028
abbrev Reg.BOND_CH_STAT : Nat := 0x4402C
abbrev Reg.BOND_CORR_CNT : Nat := 0x44030
abbrev Reg.BOND_UNCORR_CNT : Nat := 0x44034
abbrev Reg.BOND_ERR_ADDR_LO : Nat := 0x44038
abbrev Reg.BOND_ERR_ADDR_HI : Nat := 0x4403C
abbrev Reg.BOND_MARGIN_CTL : Nat := 0x44040
abbrev Reg.BOND_MARGIN_RES : Nat := 0x44044
abbrev Reg.RDU_STAT : Nat := 0x45008
abbrev Reg.RDU_ERR_INFO : Nat := 0x4500C
abbrev Reg.RDU_ERR_ADDR_LO : Nat := 0x45010
abbrev Reg.RDU_ERR_ADDR_HI : Nat := 0x45014
abbrev Reg.RDU_EXACT_LO : Nat := 0x45018
abbrev Reg.RDU_EXACT_HI : Nat := 0x4501C
abbrev Reg.RDU_INVALID_CNT : Nat := 0x45020
abbrev Reg.RDU_QFULL_CNT : Nat := 0x45024
abbrev Reg.PORT_CTL : Nat := 0x20000
abbrev Reg.PORT_STAT : Nat := 0x20004
abbrev Reg.PORT_VLAN : Nat := 0x20008
abbrev Reg.PORT_PTP_DELAY : Nat := 0x2000C
abbrev Reg.PORT_TXTAB : Nat := 0x20010
abbrev Reg.PORT_SEQ_USED : Nat := 0x20014
abbrev Reg.PORT_MAC_LO : Nat := 0x20018
abbrev Reg.PORT_MAC_HI : Nat := 0x2001C
abbrev Reg.PORT_GW_MAC_LO : Nat := 0x20020
abbrev Reg.PORT_GW_MAC_HI : Nat := 0x20024
abbrev Reg.PORT_FEC_CORR_LO : Nat := 0x20028
abbrev Reg.PORT_FEC_CORR_HI : Nat := 0x2002C
abbrev Reg.PORT_TX_LO : Nat := 0x20030
abbrev Reg.PORT_TX_HI : Nat := 0x20034
abbrev Reg.PORT_RX_LO : Nat := 0x20038
abbrev Reg.PORT_RX_HI : Nat := 0x2003C
abbrev Reg.PORT_FEC_UNCORR_CNT : Nat := 0x20040
abbrev Reg.PORT_RX_BAD_CNT : Nat := 0x20044
abbrev Reg.PORT_FLAP_CNT : Nat := 0x20048
abbrev Reg.PORT_PFC_RX_CNT : Nat := 0x2004C
abbrev Reg.PORT_PFC_OTHER_CNT : Nat := 0x20050
abbrev Reg.POST_NODE : Nat := 0x0A000
abbrev Reg.POST_JOB : Nat := 0x0A004
abbrev Reg.POST_V4_BASE : Nat := 0x0A008
abbrev Reg.POST_PREFIX_LO : Nat := 0x0A00C
abbrev Reg.POST_PREFIX_HI : Nat := 0x0A010
abbrev Reg.POST_CTL : Nat := 0x0A014
abbrev Reg.POST_TIMERS : Nat := 0x0A018
abbrev Reg.POST_FREE_POOL : Nat := 0x0A01C
abbrev Reg.POST_STAT : Nat := 0x0A020
abbrev Reg.POST_BAD_CNT : Nat := 0x0A024
abbrev Reg.POST_CRC_CNT : Nat := 0x0A028
abbrev Reg.POST_DUP_CNT : Nat := 0x0A02C
abbrev Reg.POST_RETX_CNT : Nat := 0x0A030
abbrev Reg.POST_FREE_DROP_CNT : Nat := 0x0A034
abbrev Reg.RMT_CTL : Nat := 0x0B000
abbrev Reg.RMT_STAT : Nat := 0x0B004
abbrev Reg.RMT_ERR_INFO : Nat := 0x0B008
abbrev Reg.RMT_REGION_SEL : Nat := 0x0B00C
abbrev Reg.RMT_TAGS : Nat := 0x46000
abbrev Reg.RMT_RECEIPTS : Nat := 0x20800
abbrev Reg.RMT_HOT_ADDR_LO : Nat := 0x46004
abbrev Reg.RMT_HOT_ADDR_HI : Nat := 0x46008
abbrev Reg.RMT_HOT_CNT : Nat := 0x4600C
abbrev Reg.RMT_DEAD_CNT : Nat := 0x0B010
abbrev Reg.RMT_UNKNOWN_CNT : Nat := 0x0B014
abbrev Reg.RMT_REFUSED_CNT : Nat := 0x0B018
abbrev Reg.RMT_REPLAY_CNT : Nat := 0x0B01C
abbrev Reg.RMT_LATE_RESP_CNT : Nat := 0x0B020
abbrev Reg.RMT_RX_DROP_CNT : Nat := 0x0B024
abbrev Reg.DOM_CTL : Nat := 0x07000
abbrev Reg.DOM_STAT : Nat := 0x07004
abbrev Reg.DOM_IDENT : Nat := 0x07008
abbrev Reg.DOM_POSITION : Nat := 0x0700C
abbrev Reg.DOM_PARTNER : Nat := 0x07010
abbrev Reg.DOM_REDUND : Nat := 0x07014
abbrev Reg.DOM_HOLD : Nat := 0x07018
abbrev Reg.DOM_LAT_SEL : Nat := 0x0701C
abbrev Reg.DOM_LATE_CNT : Nat := 0x07020
abbrev Reg.DOM_HOLD_CNT : Nat := 0x07024
abbrev Reg.RES_CTL : Nat := 0x08000
abbrev Reg.RES_STAT : Nat := 0x08004
abbrev Reg.RES_CUT_LO : Nat := 0x08008
abbrev Reg.RES_CUT_HI : Nat := 0x0800C
abbrev Reg.RES_WEAR_BUDGET : Nat := 0x08010
abbrev Reg.RES_WEAR_DAY : Nat := 0x08014
abbrev Reg.RES_WEAR_TOTAL : Nat := 0x08018
abbrev Reg.RES_DRAIN : Nat := 0x0801C
abbrev Reg.RES_MIRROR_CNT : Nat := 0x08020
abbrev Reg.RES_SNAP_CNT : Nat := 0x08024
abbrev Reg.RES_DRAIN_CNT : Nat := 0x08028
abbrev Reg.RES_RESTORE_CNT : Nat := 0x0802C
abbrev Reg.HLT_CTL : Nat := 0x09000
abbrev Reg.HLT_SCORE : Nat := 0x09004
abbrev Reg.HLT_STAT : Nat := 0x09008
abbrev Reg.HLT_CURVE_SEL : Nat := 0x0900C
abbrev Reg.HLT_CURVE_PT : Nat := 0x09010
abbrev Reg.HLT_INPUT_CFG : Nat := 0x09014
abbrev Reg.FW_STATE : Nat := 0x02000
abbrev Reg.FW_PROC_SEL : Nat := 0x02004
abbrev Reg.FW_PROC : Nat := 0x02008
abbrev Reg.FW_RESTART : Nat := 0x0200C
abbrev Reg.FW_LEASE : Nat := 0x02010
abbrev Reg.FW_HOST : Nat := 0x02014
abbrev Reg.FW_DAYBOOK_HEAD : Nat := 0x02018
abbrev Reg.FW_DAYBOOK_TAIL : Nat := 0x0201C
abbrev Reg.FW_DAYBOOK_LOST : Nat := 0x02020
abbrev Reg.FW_TRACE_EN0 : Nat := 0x02024
abbrev Reg.FW_STAT : Nat := 0x02224
abbrev Reg.HOST_ID : Nat := 0x00000
abbrev Reg.HOST_IF_VERSION : Nat := 0x00004
abbrev Reg.HOST_STATE : Nat := 0x00008
abbrev Reg.HOST_STAT : Nat := 0x0000C
abbrev Reg.HOST_HEARTBEAT : Nat := 0x00010
abbrev Reg.HOST_WIN_CTL : Nat := 0x00014
abbrev Reg.HOST_WIN_BASE_LO : Nat := 0x00018
abbrev Reg.HOST_WIN_BASE_HI : Nat := 0x0001C
abbrev Reg.HOST_FEAT_OFFER0 : Nat := 0x00020
abbrev Reg.HOST_FEAT_WANT0 : Nat := 0x00040
abbrev Reg.HOST_FEAT_GRANT0 : Nat := 0x00060
abbrev Reg.HOST_SNAP_SEL : Nat := 0x00080
abbrev Reg.HOST_SNAP_STAT : Nat := 0x00084
abbrev Reg.HOST_SNAP_D0 : Nat := 0x00088
abbrev Reg.HOST_RESET_CNT : Nat := 0x000A8
abbrev Reg.MBX_IN_STATE : Nat := 0x01000
abbrev Reg.MBX_OUT_STATE : Nat := 0x01004
abbrev Reg.MBX_STAT : Nat := 0x01008
abbrev Reg.MBX_COLLECT_CNT : Nat := 0x0100C
abbrev Reg.MBX_ANSWER_CNT : Nat := 0x01010
abbrev Reg.BOOT_STAT : Nat := 0x03000
abbrev Reg.BOOT_COUNT_LO : Nat := 0x03004
abbrev Reg.BOOT_COUNT_HI : Nat := 0x03008
abbrev Reg.BOOT_CAUSE : Nat := 0x0300C
abbrev Reg.BOOT_CFG_SEQ : Nat := 0x03010
abbrev Reg.SEC_STAT : Nat := 0x04000
abbrev Reg.SEC_VER_SEC : Nat := 0x04004
abbrev Reg.SEC_VER_PWR : Nat := 0x04008
abbrev Reg.SEC_VER_SCH : Nat := 0x0400C
abbrev Reg.SEC_VER_CTL : Nat := 0x04010
abbrev Reg.SEC_ID_REF_LO : Nat := 0x04014
abbrev Reg.SEC_ID_REF_HI : Nat := 0x04018
abbrev Reg.SEC_REPAIR : Nat := 0x0401C
abbrev Reg.SEC_CERTS : Nat := 0x04020
abbrev Reg.PWR_STAT : Nat := 0x05000
abbrev Reg.PWR_INPUT : Nat := 0x05004
abbrev Reg.PWR_POWER : Nat := 0x05008
abbrev Reg.PWR_IANA : Nat := 0x0500C
abbrev Reg.PWR_SMBUS : Nat := 0x05010
abbrev Reg.PWR_ENERGY_LO : Nat := 0x05014
abbrev Reg.PWR_ENERGY_HI : Nat := 0x05018
abbrev Reg.PWR_BRAKE_LO : Nat := 0x0501C
abbrev Reg.PWR_BRAKE_HI : Nat := 0x05020
abbrev Reg.PWR_WARN_CNT : Nat := 0x05024
abbrev Reg.PWR_LIMIT_CNT : Nat := 0x05028
abbrev Reg.THM_STAT : Nat := 0x06000
abbrev Reg.THM_HOT : Nat := 0x06004
abbrev Reg.THM_PEAK : Nat := 0x06008
abbrev Reg.THM_FAILED : Nat := 0x0600C
abbrev Reg.THM_WARN_CNT : Nat := 0x06010

/-- The distance between instances of the window a register lies in (R455). -/
def Reg.stride (off : Nat) : Nat :=
  if off < 0x10000 then 0 else if off < 0x40000 then 0x1000 else if off < 0x80000 then 0x10000 else 0x1000

/-- The register at instance `i` of its window: hub, port, die, global cluster or global core. -/
def Reg.at (off i : Nat) : Nat := off + Reg.stride off * i

/-- The offset of the same register in instance 0 of its window. -/
def Reg.canon (off : Nat) : Nat :=
  if off < 0x10000 then off
  else if off < 0x12000 then 0x10000 + off % 0x1000
  else if 0x20000 ≤ off && off < 0x28000 then 0x20000 + off % 0x1000
  else if 0x40000 ≤ off && off < 0x80000 then 0x40000 + off % 0x10000
  else if 0x80000 ≤ off && off < 0xB0000 then 0x80000 + off % 0x1000
  else if 0x100000 ≤ off && off < 0x280000 then 0x100000 + off % 0x1000
  else off

def Reg.defs0 : List RegDef := [
  ⟨0x10000, 1, 0x3F7, 0, 0x3F7, 0⟩,
  ⟨0x10004, 1, 0xFFFF, 0, 0xFFFF, 0⟩,
  ⟨0x10008, 1, 0, 0, 0, 0x1F0000⟩,
  ⟨0x1000C, 1, 0, 0, 0, 0⟩,
  ⟨0x100000, 1, 0, 0, 0, 0⟩,
  ⟨0x100200, 1, 0, 0, 0, 0x1FC000⟩,
  ⟨0x100204, 14, 0, 0, 0, 0⟩,
  ⟨0x10023C, 2, 0, 0, 0xFFFFFFFF, 0⟩,
  ⟨0x40000, 3, 0xFFFFFFFF, 0xFFFFFFFF, 0xFFFFFFFF, 0⟩,
  ⟨0x4000C, 1, 0xFF, 0xFF, 0xFF, 0⟩,
  ⟨0x40010, 1, 0, 0, 0xFFFFFFFF, 0⟩,
  ⟨0x40014, 6, 0x1FFF, 0x1FFF, 0x1FFF, 0⟩,
  ⟨0x4002C, 16, 0xFFFFFF00, 0xFFFFFF00, 0xFFFFFF00, 0⟩,
  ⟨0x4006C, 16, 0xFFEF, 0xFFEF, 0xFFEF, 0⟩,
  ⟨0x400AC, 1, 0, 0, 0, 0x1FC000⟩,
  ⟨0x400B0, 1, 0, 0, 0xFFFFFFFF, 0⟩,
  ⟨0x400B4, 1, 0xFFF, 0, 0, 0⟩,
  ⟨0x100004, 1, 0, 0, 0, 0xF0000⟩,
  ⟨0x100008, 4, 0, 0, 0, 0⟩,
  ⟨0x100400, 1, 0, 0, 0, 0x70000⟩,
  ⟨0x100404, 1, 0, 0, 0xFFFFFFFF, 0⟩,
  ⟨0x400B8, 1, 0, 0, 0x100, 0⟩,
  ⟨0x400BC, 2, 0, 0, 0xFFFFFFFF, 0⟩,
  ⟨0x45000, 1, 0x3FF, 0, 0, 0⟩,
  ⟨0x45004, 1, 0, 0, 0, 0x70000⟩,
  ⟨0x42000, 1, 0, 0, 0, 0x1F0000⟩,
  ⟨0x42004, 3, 0, 0, 0, 0⟩,
  ⟨0x42010, 4, 0, 0, 0xFFFFFFFF, 0⟩,
  ⟨0x41000, 1, 0, 0, 0, 0xFF8000⟩,
  ⟨0x41004, 3, 0, 0, 0, 0⟩]

def Reg.defs1 : List RegDef := [
  ⟨0x41010, 4, 0, 0, 0xFFFFFFFF, 0⟩,
  ⟨0x100600, 1, 0, 0, 0, 0xF8000⟩,
  ⟨0x100604, 3, 0, 0, 0, 0⟩,
  ⟨0x100610, 5, 0, 0, 0xFFFFFFFF, 0⟩,
  ⟨0x80000, 1, 0, 0, 0, 0x10000⟩,
  ⟨0x80004, 2, 0, 0, 0, 0⟩,
  ⟨0x43000, 1, 0x3F, 0, 0, 0⟩,
  ⟨0x43004, 1, 0, 0, 0, 0x3F0000⟩,
  ⟨0x43008, 3, 0, 0, 0, 0⟩,
  ⟨0x43014, 2, 0, 0, 0xFFFFFFFF, 0⟩,
  ⟨0x44000, 1, 0, 0, 0, 0x1FC000⟩,
  ⟨0x44004, 9, 0, 0, 0, 0⟩,
  ⟨0x44028, 1, 0xFF, 0, 0, 0⟩,
  ⟨0x4402C, 1, 0, 0, 0, 0⟩,
  ⟨0x44030, 2, 0, 0, 0xFFFFFFFF, 0⟩,
  ⟨0x44038, 2, 0, 0, 0, 0⟩,
  ⟨0x44040, 1, 0x3F03, 0, 0, 0⟩,
  ⟨0x44044, 1, 0, 0, 0, 0⟩,
  ⟨0x45008, 1, 0, 0, 0, 0xF0000⟩,
  ⟨0x4500C, 3, 0, 0, 0, 0⟩,
  ⟨0x45018, 4, 0, 0, 0xFFFFFFFF, 0⟩,
  ⟨0x20000, 1, 0x73D, 0x73D, 0x73D, 0⟩,
  ⟨0x20004, 1, 0, 0, 0, 0xFE0000⟩,
  ⟨0x20008, 1, 0xFFF, 0xFFF, 0xFFF, 0⟩,
  ⟨0x2000C, 1, 0xFFFFFFFF, 0, 0xFFFFFFFF, 0⟩,
  ⟨0x20010, 4, 0, 0, 0, 0⟩,
  ⟨0x20020, 1, 0xFFFFFFFF, 0xFFFFFFFF, 0xFFFFFFFF, 0⟩,
  ⟨0x20024, 1, 0xFFFF, 0xFFFF, 0xFFFF, 0⟩,
  ⟨0x20028, 11, 0, 0, 0xFFFFFFFF, 0⟩,
  ⟨0x0A000, 1, 0xFFFF, 0xFFFF, 0xFFFF, 0⟩]

def Reg.defs2 : List RegDef := [
  ⟨0x0A004, 1, 0, 0, 0, 0⟩,
  ⟨0x0A008, 1, 0xFFE00000, 0xFFE00000, 0xFFE00000, 0⟩,
  ⟨0x0A00C, 2, 0xFFFFFFFF, 0xFFFFFFFF, 0xFFFFFFFF, 0⟩,
  ⟨0x0A014, 1, 0xFFFFFF03, 0xFFFFFF03, 0xFFFFFF03, 0⟩,
  ⟨0x0A018, 1, 0xFFFFFFFF, 0xFFFFFFFF, 0xFFFFFFFF, 0⟩,
  ⟨0x0A01C, 1, 0x3F3F3F3F, 0x3F3F3F3F, 0x3F3F3F3F, 0⟩,
  ⟨0x0A020, 1, 0, 0, 0, 0xFE0000⟩,
  ⟨0x0A024, 5, 0, 0, 0xFFFFFFFF, 0⟩,
  ⟨0x0B000, 1, 0xFFFFF800, 0xFFFFF800, 0xFFFFF800, 0⟩,
  ⟨0x0B004, 1, 0, 0, 0, 0xFF8000⟩,
  ⟨0x0B008, 1, 0, 0, 0, 0⟩,
  ⟨0x0B00C, 1, 0x3FF, 0, 0, 0⟩,
  ⟨0x46000, 1, 0, 0, 0, 0⟩,
  ⟨0x20800, 1, 0, 0, 0, 0⟩,
  ⟨0x46004, 2, 0, 0, 0, 0⟩,
  ⟨0x4600C, 1, 0, 0, 0xFFFFFFFF, 0⟩,
  ⟨0x0B010, 6, 0, 0, 0xFFFFFFFF, 0⟩,
  ⟨0x07000, 1, 0xFF000000, 0, 0xFF000000, 0⟩,
  ⟨0x07004, 1, 0, 0, 0, 0xFF8000⟩,
  ⟨0x07008, 1, 0, 0, 0xFFFF03FF, 0⟩,
  ⟨0x0700C, 1, 0, 0, 0x1FFFFFF, 0⟩,
  ⟨0x07010, 1, 0, 0, 0xFFFFFFFF, 0⟩,
  ⟨0x07014, 1, 0, 0, 0xFFFF80FF, 0⟩,
  ⟨0x07018, 1, 0, 0, 0, 0⟩,
  ⟨0x0701C, 1, 0x1FF, 0, 0, 0⟩,
  ⟨0x07020, 2, 0, 0, 0xFFFFFFFF, 0⟩,
  ⟨0x08000, 1, 1, 0, 1, 0⟩,
  ⟨0x08004, 1, 0, 0, 0, 0xFFE000⟩,
  ⟨0x08008, 2, 0, 0, 0xFFFFFFFF, 0⟩,
  ⟨0x08010, 1, 0xFFFFFFFF, 0, 0xFFFFFFFF, 0⟩]

def Reg.defs3 : List RegDef := [
  ⟨0x08014, 1, 0, 0, 0, 0⟩,
  ⟨0x08018, 1, 0, 0, 0xFFFFFFFF, 0⟩,
  ⟨0x0801C, 1, 0xFF, 0, 0xFF, 0⟩,
  ⟨0x08020, 4, 0, 0, 0xFFFFFFFF, 0⟩,
  ⟨0x09000, 1, 0x301, 0, 0x301, 0⟩,
  ⟨0x09004, 1, 0, 0, 0, 0⟩,
  ⟨0x09008, 1, 0, 0, 0, 0x70000⟩,
  ⟨0x0900C, 1, 0x7F, 0, 0, 0⟩,
  ⟨0x09010, 1, 0xFF00FFFF, 0xFF00FFFF, 0xFF00FFFF, 0⟩,
  ⟨0x09014, 1, 0xFFFF0000, 0xFFFF0000, 0xFFFF0000, 0⟩,
  ⟨0x02000, 1, 0, 0, 0, 0⟩,
  ⟨0x02004, 1, 0xFF, 0, 0, 0⟩,
  ⟨0x02008, 1, 0, 0, 0xFF0000, 0⟩,
  ⟨0x0200C, 2, 0, 0, 0, 0⟩,
  ⟨0x02014, 1, 0x30000, 0, 0x30000, 0⟩,
  ⟨0x02018, 1, 0, 0, 0xFFFFFFFF, 0⟩,
  ⟨0x0201C, 1, 0xFFFFFFFF, 0, 0xFFFFFFFF, 0⟩,
  ⟨0x02020, 1, 0, 0, 0xFFFFFFFF, 0⟩,
  ⟨0x02024, 128, 0xFFFFFFFF, 0, 0xFFFFFFFF, 0⟩,
  ⟨0x02224, 1, 0, 0, 0, 0xFFF000⟩,
  ⟨0x00000, 3, 0, 0, 0, 0⟩,
  ⟨0x0000C, 1, 0, 0, 0, 0x7F0000⟩,
  ⟨0x00010, 1, 0, 0, 0, 0⟩,
  ⟨0x00014, 1, 0x80000000, 0, 0, 0⟩,
  ⟨0x00018, 1, 0xFFFFFFFF, 0, 0, 0⟩,
  ⟨0x0001C, 1, 0xFF, 0, 0, 0⟩,
  ⟨0x00020, 34, 0, 0, 0, 0⟩,
  ⟨0x000A8, 1, 0, 0, 0xFFFFFFFF, 0⟩,
  ⟨0x01000, 2, 0, 0, 0, 0⟩,
  ⟨0x01008, 1, 0, 0, 0, 0x70000⟩]

def Reg.defs4 : List RegDef := [
  ⟨0x0100C, 2, 0, 0, 0xFFFFFFFF, 0⟩,
  ⟨0x03000, 1, 0, 0, 0, 0x70000⟩,
  ⟨0x03004, 2, 0, 0, 0xFFFFFFFF, 0⟩,
  ⟨0x0300C, 2, 0, 0, 0, 0⟩,
  ⟨0x04000, 1, 0, 0, 0, 0x1C0000⟩,
  ⟨0x04004, 8, 0, 0, 0, 0⟩,
  ⟨0x05000, 1, 0, 0, 0, 0x70000⟩,
  ⟨0x05004, 4, 0, 0, 0, 0⟩,
  ⟨0x05014, 6, 0, 0, 0xFFFFFFFF, 0⟩,
  ⟨0x06000, 1, 0, 0, 0, 0x1F0000⟩,
  ⟨0x06004, 1, 0, 0, 0, 0⟩,
  ⟨0x06008, 1, 0, 0, 0xFFFFFFFF, 0⟩,
  ⟨0x0600C, 1, 0, 0, 0, 0⟩,
  ⟨0x06010, 1, 0, 0, 0xFFFFFFFF, 0⟩]

/-- Every register of the map, in map order. -/
def Reg.defs : List RegDef := Reg.defs0 ++ Reg.defs1 ++ Reg.defs2 ++ Reg.defs3 ++ Reg.defs4

/-- The description of the register at an offset, if the map has one there. -/
def Reg.find? (off : Nat) : Option RegDef :=
  if off % 4 ≠ 0 then none else
  Reg.defs.find? fun d => decide (d.off ≤ Reg.canon off) && decide (Reg.canon off < d.off + 4 * d.n)

/-- The registers whose reset value is not 0, at those values; every other register resets to 0. -/
def Reg.reset0 : Map Word := [
  (0x00000, 0x07401000#32),
  (0x00004, 0x00010000#32),
  (0x00020, 0x000007FF#32),
  (0x00060, 0x00000007#32),
  (0x03000, 0x00000010#32),
  (0x0500C, 0x0000E74B#32),
  (0x07000, 0x0A000000#32),
  (0x07010, 0x0000FFFF#32),
  (0x08000, 0x00000001#32),
  (0x08010, 0x00007080#32),
  (0x0801C, 0x00000010#32),
  (0x09000, 0x00000001#32),
  (0x0A014, 0x4D2E4002#32),
  (0x0A018, 0x02200832#32),
  (0x0B000, 0x08100000#32),
  (0x10000, 0x00000024#32),
  (0x10004, 0x00000001#32),
  (0x10008, 0x00000100#32),
  (0x11000, 0x00000024#32),
  (0x11004, 0x00000001#32),
  (0x11008, 0x00000100#32),
  (0x20000, 0x00000001#32),
  (0x20008, 0x00000001#32),
  (0x21000, 0x00000001#32)]

def Reg.reset1 : Map Word := [
  (0x21008, 0x00000001#32),
  (0x22000, 0x00000001#32),
  (0x22008, 0x00000001#32),
  (0x23000, 0x00000001#32),
  (0x23008, 0x00000001#32),
  (0x24000, 0x00000001#32),
  (0x24008, 0x00000001#32),
  (0x25000, 0x00000001#32),
  (0x25008, 0x00000001#32),
  (0x26000, 0x00000001#32),
  (0x26008, 0x00000001#32),
  (0x27000, 0x00000001#32),
  (0x27008, 0x00000001#32),
  (0x4002C, 0x00807F00#32),
  (0x40030, 0x00807F00#32),
  (0x40034, 0x00807F00#32),
  (0x40038, 0x00807F00#32),
  (0x4003C, 0x00807F00#32),
  (0x40040, 0x00807F00#32),
  (0x40044, 0x00807F00#32),
  (0x40048, 0x00807F00#32),
  (0x4004C, 0x00807F00#32),
  (0x40050, 0x00807F00#32),
  (0x40054, 0x00807F00#32)]

def Reg.reset2 : Map Word := [
  (0x40058, 0x00807F00#32),
  (0x4005C, 0x00807F00#32),
  (0x40060, 0x00807F00#32),
  (0x40064, 0x00807F00#32),
  (0x40068, 0x00807F00#32),
  (0x4006C, 0x00000008#32),
  (0x40070, 0x00000008#32),
  (0x40074, 0x00000008#32),
  (0x40078, 0x00000008#32),
  (0x4007C, 0x00000008#32),
  (0x40080, 0x00000008#32),
  (0x40084, 0x00000008#32),
  (0x40088, 0x00000008#32),
  (0x4008C, 0x00000008#32),
  (0x40090, 0x00000008#32),
  (0x40094, 0x00000008#32),
  (0x40098, 0x00000008#32),
  (0x4009C, 0x00000008#32),
  (0x400A0, 0x00000008#32),
  (0x400A4, 0x00000008#32),
  (0x400A8, 0x00000008#32),
  (0x44040, 0x00002000#32),
  (0x54040, 0x00002000#32),
  (0x64040, 0x00002000#32)]

def Reg.reset3 : Map Word := [
  (0x74040, 0x00002000#32)]

def Reg.resetMap : Map Word := Reg.reset0 ++ Reg.reset1 ++ Reg.reset2 ++ Reg.reset3

end Sys2Proof
end

