-- ==== Sys2Proof/Machine/CoreOps.lean ====
section
/-!
DEFINITION. The named operations over one core that every instruction of it uses: registers, the two tile spaces, poison,
claims and stalls (R107, R115, R119, R120, R124, R131, R134).
-/
namespace Sys2Proof.Machine

/-- What an instruction of a core tells the rest of the module: a fault it raises, a status bit that is no fault (register, bit),
a register counter to raise, a register to set, and that the module's step became dirty, by which fault if by one (R109, R160). -/
inductive Ev where
  | fault (code : Nat)
  | status (reg bit : Nat)
  | count (reg n : Nat)
  | put (reg v : Nat)
  | dirty (code : Nat := 0)
deriving DecidableEq, Repr

/-- What a core's instruction reads from outside its core: the format entries 10–15, noise inputs, the postmark, and the die's stamp
history. -/
structure Env where
  entry : Nat → Nat
  seed : Nat
  step : Nat
  node : Nat
  pm : Nat
  updating : Bool                            -- a conversion that draws noise or uses a stamp must wait (R98, R164)
  stamps : Map StampEnt
  policy : Nat → Nat                         -- sparse policy word of a tensor id (R170)
  timed : Bool := false                      -- it is issued by the core's own stream, in the cycle's bundle (R115)

/-- What an instruction of a core leaves: the core, the die's stamp history, what it tells the module; or a stall with its cause.
`flights` are the writes of it that the core's stream lands later (R115), each with the cycles it takes from issue; `more` is what
further passes add to the time its units are occupied (R104). -/
structure CRes where
  core : Core
  stamps : Map StampEnt
  evs : List Ev := []
  stalled : Option Nat := none
  flights : List Flight := []
  more : Nat := 0

def Env.done (e : Env) (c : Core) (evs : List Ev := []) : CRes := { core := c, stamps := e.stamps, evs := evs }

/-! Scalar registers: x0 reads 0 and discards writes (R134). -/

def Core.rx (c : Core) (r : Nat) : W64 := if r = 0 then 0#64 else Map.get 0#64 c.x r
def Core.wx (c : Core) (r : Nat) (v : W64) : Core := if r = 0 then c else { c with x := Map.set 0#64 c.x r v }

def Core.thread (c : Core) (t : Nat) : Thread := Map.get {} c.th t
def Core.setThread (c : Core) (t : Nat) (v : Thread) : Core := { c with th := Map.set {} c.th t v }

/-- Register `r` of thread `t`. -/
def Core.rt (c : Core) (t r : Nat) : W64 :=
  if t = 0 then c.rx r else if r = 0 then 0#64 else Map.get 0#64 (c.thread t).x r
def Core.wt (c : Core) (t r : Nat) (v : W64) : Core :=
  if t = 0 then c.wx r v
  else if r = 0 then c
  else c.setThread t { c.thread t with x := Map.set 0#64 (c.thread t).x r v }

/-! The two tile spaces as bytes: `acc = false` the tile store by byte address, `acc = true` the accumulator store, tile t from
t · 65536. -/

def Core.accByte (c : Core) (a : Nat) : Byte :=
  BitVec.ofNat 8 ((Map.get 0#32 c.acc (a / 4)).toNat / 256 ^ (a % 4))

def Core.tileByte (c : Core) (acc : Bool) (a : Nat) : Byte :=
  if acc then c.accByte a else Map.get 0#8 c.ts a

/-- Is the byte at `a` poisoned: its 64-byte unit of the tile store, or its accumulator row? -/
def Core.poisonAt (c : Core) (acc : Bool) (a : Nat) : Bool :=
  if acc then Map.get false c.accPoison (a / 512) else Map.get false c.tsPoison (a / 64)

/-- Is any byte of a range poisoned? -/
def Core.anyPoison (c : Core) (acc : Bool) (a n : Nat) : Bool :=
  if n = 0 then false
  else
    let u := if acc then 512 else 64
    (List.range ((a + n - 1) / u + 1 - a / u)).any fun i => c.poisonAt acc ((a / u + i) * u)

/-- New poison of the units a write of `n` bytes at `a` touches: a unit written whole takes `p`, a unit written in part keeps its own
and gains `p` (R107). -/
def mergePoison (m : Map Bool) (u a n : Nat) (p : Bool) : Map Bool :=
  if n = 0 then m
  else Map.fill false m (a / u) ((a + n - 1) / u + 1 - a / u) fun i =>
    let k := a / u + i
    if a ≤ k * u ∧ (k + 1) * u ≤ a + n then p else p || Map.get false m k

/-- Is any 64-byte piece of the data from offset `lo` to `hi` poisoned? -/
def piecesBad (poison lo hi : Nat) : Bool := (List.range ((hi - 1) / 64 + 1 - lo / 64)).any fun i => bit poison (lo / 64 + i)

/-- New poison of the units that data with poison by 64-byte pieces touches: a unit written whole takes that of the data in it, a unit
written in part keeps its own beside it (R107). -/
def mergeParts (m : Map Bool) (u a n poison : Nat) : Map Bool :=
  if n = 0 then m
  else Map.fill false m (a / u) ((a + n - 1) / u + 1 - a / u) fun i =>
    let k := a / u + i
    let p := piecesBad poison (Nat.max a (k * u) - a) (Nat.min (a + n) (k * u + u) - a)
    if a ≤ k * u ∧ (k + 1) * u ≤ a + n then p else p || Map.get false m k

/-- Key of an address in the record of compressed tiles. -/
def carriedKey (acc : Bool) (a : Nat) : Nat := if acc then 2 ^ 32 + a else a

/-- Record that a compressed tile of a tensor lies at `a` (R180): a consumer that names no tensor decodes it. A write over its
header ends this. -/
def Core.markCarried (c : Core) (acc : Bool) (a tensor : Nat) : Core :=
  { c with carried := Map.set 0 c.carried (carriedKey acc a) (tensor + 1) }

def Core.carriedAt (c : Core) (acc : Bool) (a : Nat) : Option Nat :=
  match Map.get 0 c.carried (carriedKey acc a) with
  | 0 => none
  | n + 1 => some n

/-- Write `n` bytes at `a` of a tile space, with the poison of the data. Accumulator writes are whole words. -/
def Core.putBytes (c : Core) (acc : Bool) (a n : Nat) (f : Nat → Byte) (p : Bool) : Core :=
  let c := { c with carried := c.carried.filter fun e => !(decide (carriedKey acc a ≤ e.1) && decide (e.1 < carriedKey acc a + n)) }
  if acc then
    { c with
      acc := Map.fill 0#32 c.acc (a / 4) (n / 4) fun i =>
        BitVec.ofNat 32 ((f (4 * i)).toNat + 256 * (f (4 * i + 1)).toNat + 65536 * (f (4 * i + 2)).toNat + 16777216 * (f (4 * i + 3)).toNat)
      accPoison := mergePoison c.accPoison 512 a n p }
  else { c with ts := Map.fill 0#8 c.ts a n f, tsPoison := mergePoison c.tsPoison 64 a n p }

/-- Poison the units of a range. -/
def Core.poisonRange (c : Core) (acc : Bool) (a n : Nat) : Core :=
  let u := if acc then 512 else 64
  if n = 0 then c
  else if acc then { c with accPoison := Map.fill false c.accPoison (a / u) ((a + n - 1) / u + 1 - a / u) fun _ => true }
  else { c with tsPoison := Map.fill false c.tsPoison (a / u) ((a + n - 1) / u + 1 - a / u) fun _ => true }

/-! Accumulator words. -/

def Core.accGet (c : Core) (tile row col : Nat) : Nat := (Map.get 0#32 c.acc (tile * 16384 + row * 128 + col)).toNat

/-- Replace one accumulator row (128 FP32 words) and its poison bit. -/
def Core.accPutRow (c : Core) (tile row : Nat) (f : Nat → Nat) (p : Bool) : Core :=
  { c with
    acc := Map.fill 0#32 c.acc (tile * 16384 + row * 128) 128 fun j => BitVec.ofNat 32 (f j)
    accPoison := Map.set false c.accPoison (tile * 128 + row) p }

/-! Vector registers (R124): 2,048 words; BF16 lane i is half i mod 2 of word i div 2; one poison bit per 256-byte granule. -/

def Core.vw (c : Core) (r i : Nat) : Nat := (Map.get 0#32 c.vreg (r * 2048 + i)).toNat
def Core.vh (c : Core) (r i : Nat) : Nat := c.vw r (i / 2) / 65536 ^ (i % 2) % 65536
def Core.vp (c : Core) (r g : Nat) : Bool := Map.get false c.vPoison (r * 32 + g)
def Core.anyVp (c : Core) (r : Nat) : Bool := (List.range 32).any fun g => c.vp r g

/-- Write a vector register from its 2,048 words and its 32 poison bits. -/
def Core.putV (c : Core) (r : Nat) (f : Nat → Nat) (p : Nat → Bool) : Core :=
  { c with
    vreg := Map.fill 0#32 c.vreg (r * 2048) 2048 fun i => BitVec.ofNat 32 (f i)
    vPoison := Map.fill false c.vPoison (r * 32) 32 p }

/-! Scalar data memory as bytes (R135); words and poison by 64-byte unit. -/

def Core.sdmByte (c : Core) (a : Nat) : Byte := Map.get 0#8 c.sdm a
def Core.sdmRead (c : Core) (a n : Nat) : Nat := leNat ((List.range n).map fun i => c.sdmByte (a + i))
/-- Write bytes with the poison of the data. A word written whole has no error any more. -/
def Core.sdmPut (c : Core) (a n : Nat) (f : Nat → Byte) (p : Bool) : Core :=
  { c with sdm := Map.fill 0#8 c.sdm a n f, sdmPoison := mergePoison c.sdmPoison 64 a n p
           sdmBad := c.sdmBad.filter fun w => !(decide (a ≤ 8 * w) && decide (8 * w + 8 ≤ a + n)) }
def Core.sdmWrite (c : Core) (a n v : Nat) : Core := c.sdmPut a n (byteAt (leBytes n v)) false
def Core.sdmPoisoned (c : Core) (a n : Nat) : Bool :=
  n ≠ 0 && (List.range ((a + n - 1) / 64 + 1 - a / 64)).any fun i => Map.get false c.sdmPoison (a / 64 + i)

/-- Every granule of a vector register poisoned: what a refused load leaves (R131). -/
def Core.poisonV (c : Core) (v : Nat) : Core := { c with vPoison := Map.fill false c.vPoison (v * 32) 32 fun _ => true }

/-- Key of a tile by its first byte, in the maps of what conversions leave with a tile. -/
def tileKey (acc : Bool) (a : Nat) : Nat := if acc then 16384 + a / 65536 else a / 512

/-- A conversion has written a tile: its dirty mark (R108), and the scalar words as they are then (R152). -/
def Core.markDirty (c : Core) (acc : Bool) (a : Nat) (on : Bool) : Core :=
  { c with dirtyTiles := Map.set false c.dirtyTiles (tileKey acc a) on, tileSdm := Map.set [] c.tileSdm (tileKey acc a) c.sdm }

/-- Tiles of the accumulator store at +0.0 with poison clear (R61). -/
def Core.clearAcc (c : Core) (first count : Nat) : Core :=
  { c with
    acc := Map.fill 0#32 c.acc (first * 16384) (count * 16384) fun _ => 0#32
    accPoison := Map.fill false c.accPoison (first * 128) (count * 128) fun _ => false }

/-- A write lands. -/
def Core.land (c : Core) : Write → Core
  | .x r v => c.wx r v
  | .vec r words poison => c.putV r (fun i => words.getD i 0) (fun k => poison.getD k false)
  | .vecPoison r => c.poisonV r
  | .bytes acc a data p => c.putBytes acc a data.length (byteAt data) p
  | .carried acc a tensor => c.markCarried acc a tensor
  | .dirty acc a on => c.markDirty acc a on
  | .sdm a n v => c.sdmWrite a n v
  | .clear first count => c.clearAcc first count
  | .accRow tile row words p => c.accPutRow tile row (fun j => words.getD j 0) p
  | .twin false b => { c with twin0 := b }
  | .twin true b => { c with twin1 := b }

def Core.lands (c : Core) (l : List Write) : Core := l.foldl Core.land c

/-- Register `r` as it is to be written. -/
def Core.vecWrite (c : Core) (r : Nat) : Write := .vec r ((List.range 2048).map (c.vw r)) ((List.range 32).map (c.vp r))

/-- The count of cycles something under way is timed by (R60). -/
def Core.count (c : Core) (runs : Bool) : Nat := if runs then c.run else c.cyc

/-- What the instruction left, each write taking the same number of cycles. `move` as in `Flight`. -/
def CRes.after (r : CRes) (lat : Nat) (l : List Write) (runs : Bool := false) (move : Bool := false) : CRes :=
  { r with flights := r.flights ++ l.map fun w => { due := lat, runs := runs, move := move, write := w } }

/-- The stores as the instruction met them, and its writes under way (R115). -/
def CRes.deferred (r : CRes) (c : Core) : CRes :=
  { r with core := { r.core with
      x := c.x, vreg := c.vreg, vPoison := c.vPoison, ts := c.ts, tsPoison := c.tsPoison, acc := c.acc, accPoison := c.accPoison, sdm := c.sdm
      sdmPoison := c.sdmPoison, sdmBad := c.sdmBad, carried := c.carried, dirtyTiles := c.dirtyTiles, tileSdm := c.tileSdm, twin0 := c.twin0, twin1 := c.twin1
      flights := r.core.flights ++ r.flights.map fun f => { f with due := c.count f.runs + f.due } } }

/-- Nothing of a core's instructions is under way any more. -/
def Core.quiet (c : Core) : Core :=
  { c with flights := [], adds := [], loadA := none, loadB := none, issueA := [], issueB := [], convs := [], ports := [], conflict := 0, occ := []
           remPassA := none, remPassB := none }

/-! Release (R119, R120). A unit range is (space, first unit, units). -/

/-- Two unit ranges of one space overlap. Space 5 stands for the vector registers. -/
def unitsMeet (a b : Nat × Nat × Nat) : Bool :=
  a.1 == b.1 && decide (a.2.1 < b.2.1 + b.2.2) && decide (b.2.1 < a.2.1 + a.2.2)

def Claim.units? (k : Claim) : Nat × Nat × Nat := (k.space, k.first, k.units)

/-- Granules of a tile-store byte range. -/
def granules (a n : Nat) : Nat × Nat × Nat := if n = 0 then (0, a / 512, 0) else (0, a / 512, (a + n - 1) / 512 + 1 - a / 512)

/-- Accumulator tiles of an accumulator byte range. -/
def accTiles (a n : Nat) : Nat × Nat × Nat := if n = 0 then (1, a / 65536, 0) else (1, a / 65536, (a + n - 1) / 65536 + 1 - a / 65536)

def tileUnits (acc : Bool) (a n : Nat) : Nat × Nat × Nat := if acc then accTiles a n else granules a n

/-- The 8-byte words of a scalar range. -/
def sdmUnits (a n : Nat) : Nat × Nat × Nat := (2, a / 8, (a + n + 7) / 8 - a / 8)

def Core.group (c : Core) (g : Nat) : Group := Map.get {} c.groups g
def Core.setGroup (c : Core) (g : Nat) (v : Group) : Core := { c with groups := Map.set {} c.groups g v }

/-- A claim holds some unit of the range against everyone. A courier's source (5) is claimed against writers alone (R243). -/
def Core.claimed (c : Core) (r : Nat × Nat × Nat) : Bool := c.claims.any fun k => k.src != 5 && unitsMeet k.units? r

/-- Some unit of the range is claimed against writers alone. -/
def Core.readHeld (c : Core) (r : Nat × Nat × Nat) : Bool := c.claims.any fun k => k.src == 5 && unitsMeet k.units? r

/-- A CLOSING group holds the range against a write (its tiles) or a read (its destination) (R72). -/
def Core.closing (c : Core) (write : Bool) (r : Nat × Nat × Nat) : Bool :=
  (List.range 8).any fun g =>
    let x := c.group g
    x.st == .closing && (if write then unitsMeet (1, x.first, x.count) r else x.dest.any fun d => unitsMeet d r)

/-- A VCVTS or a VTOPK under way holds the range (R105, R119): its destination, its source registers. -/
def Core.converting (c : Core) (write : Bool) (r : Nat × Nat × Nat) : Bool :=
  c.convs.any fun k => ((!write || k.both) && k.dest.any fun d => unitsMeet d r) || (write && k.regs.any fun d => unitsMeet d r)

/-- The remainder pass an array is running, if one is (R188). -/
def Core.remPass (c : Core) (arr : Arr) : Option RemPass :=
  (match arr with | .a => c.remPassA | .b => c.remPassB).filter fun p => decide (c.run < p.ends)

/-- Remainder passes hold the range: their group's tiles against everyone but the arrays' adds, their source tiles against writers (R188). -/
def Core.remHeld (c : Core) (write : Bool) (r : Nat × Nat × Nat) : Bool :=
  ([c.remPass .a, c.remPass .b].filterMap id).any fun p => p.tiles.any (fun x => unitsMeet x r) || (write && p.source.any fun x => unitsMeet x r)

/-- A range is unreleased to a reader, or to a writer (R119, R120, R72, R105, R188, R243). -/
def Core.unreleased (c : Core) (write : Bool) (r : Nat × Nat × Nat) : Bool :=
  c.claimed r || (write && c.readHeld r) || c.closing write r || c.converting write r || c.remHeld write r

/-- A range is unreleased to an array's adds. -/
def Core.addHeld (c : Core) (r : Nat × Nat × Nat) : Bool := c.claimed r || c.readHeld r || c.closing true r

/-- Bank of a tile-store granule: 192 KiB are 384 granules (R43). -/
def bankOf (granule : Nat) : Nat := granule / 384

def Core.bank (c : Core) (b : Nat) : Bank := Map.get .active c.banks b

/-- The first bank of a tile-store range that is retained or waking (R233). -/
def Core.asleep (c : Core) (r : Nat × Nat × Nat) : Option Nat :=
  if r.1 = 0 ∧ r.2.2 ≠ 0 then
    ((List.range (bankOf (r.2.1 + r.2.2 - 1) + 1 - bankOf r.2.1)).map (· + bankOf r.2.1)).find? fun b =>
      c.bank b == .retained || c.bank b == .waking
  else none

/-- STALL_CAUSE of an unreleased unit, by its space (R142). R142 lists no cause for the source registers of a conversion (R105): 1, as for
the tile it writes (DESIGN CHOICE, log 89). -/
def causeOf (space : Nat) : Nat := if space = 0 ∨ space = 5 then 1 else if space = 1 then 2 else if space = 4 then 7 else 3

/-! Units and their occupancy (R61, R126, R132, R138). The close converters, the stamped conversions and the top-k unit run on
through stalls (R60), so theirs is counted in `run`; every other unit's in `cyc`. A unit occupied for one cycle is free again for
the next bundle. The core's own stream marks the units of what it issues (Tick.lean). -/

inductive Unit' where
  | residentA | residentB | inputA | inputB | twinFill | converterA | converterB | tileMove | special | vcvts | topk | divider | twinPass
deriving DecidableEq, Repr

def Unit'.key : Unit' → Nat
  | .residentA => 0 | .residentB => 1 | .inputA => 2 | .inputB => 3 | .twinFill => 4 | .converterA => 5 | .converterB => 6
  | .tileMove => 7 | .special => 8 | .vcvts => 9 | .topk => 10 | .divider => 11 | .twinPass => 12

def Unit'.runsOn : Unit' → Bool
  | .converterA | .converterB | .vcvts | .topk => true
  | _ => false

def Core.clock (c : Core) (u : Unit') : Nat := if u.runsOn then c.run else c.cyc
def Core.busyUnit (c : Core) (u : Unit') : Bool := decide (c.clock u < Map.get 0 c.occ u.key)
def Core.occupy (c : Core) (u : Unit') (n : Nat) : Core := { c with occ := Map.set 0 c.occ u.key (c.clock u + n) }

/-- What an instruction uses: the units it is issued to and for how long it occupies them, the arrays of its slot, the unit ranges it reads
and writes, and the accumulator tiles its rows are added into. -/
structure Uses where
  units : List Unit' := []
  arrays : List Arr := []
  reads : List (Nat × Nat × Nat) := []
  writes : List (Nat × Nat × Nat) := []
  adds : List (Nat × Nat × Nat) := []
  lasts : Nat := 1

/-- The stall an instruction meets at issue (R120, R72, R188): its cause. An array's adds are not held up by the other array's
remainder pass. -/
def Core.blocked (c : Core) (u : Uses) : Option Nat :=
  if u.arrays.any fun z => (c.remPass z).isSome then some 10
  else
    ((u.reads.find? (c.unreleased false)) <|> (u.writes.find? (c.unreleased true)) <|> (u.adds.find? c.addHeld)).map fun r => causeOf r.1

/-- A retained bank begins its wake (R232, R233). -/
def Core.wake (c : Core) (b : Nat) : Core :=
  if c.bank b = .retained then { c with banks := Map.set .active c.banks b .waking, waking := Map.set 0 c.waking b 1 } else c

/-- An access reaches a sleeping bank (R233): its wake begins or goes on, and ends ACTIVE; it is counted and reported once. -/
def Core.reachBank (c : Core) (b : Nat) : Core × List Ev :=
  let d := c.wake b
  let d := { d with bankGoal := Map.set 0 d.bankGoal b 0 }
  if d.wakeTold.contains b then (d, []) else ({ d with wakeTold := b :: d.wakeTold }, [.count Reg.TS_WAKE_CNT 1, .fault 0x4104])

/-- A range meets the region under test (R236). Region k of the tile store is its granules 8 k to 8 k + 7. -/
def Core.testHit (c : Core) (r : Nat × Nat × Nat) : Bool :=
  match c.testing with
  | some (k, _) => unitsMeet (0, 8 * k, 8) r
  | none => false

/-- An access ends the test in its region, which holds what it held; that counts as an unscheduled wake (R236). -/
def Core.cutTest (c : Core) : Core × List Ev := ({ c with testing := none }, [.count Reg.TS_WAKE_CNT 1, .fault 0x4104])

/-- Run the body of an instruction whose units are free, or refuse it with 0x1301 (R138). The core's own stream occupies them with it. -/
def Core.onUnits (e : Env) (c : Core) (u : Uses) (body : Core → CRes) : CRes :=
  if u.units.any fun x => c.busyUnit x then e.done c [.fault 0x1301]
  else
    let r := body c
    if e.timed then { r with core := u.units.foldl (fun d x => d.occupy x (u.lasts + r.more)) r.core } else r

/-- Run the body of an instruction; or stall it (R120, R233, R236), on an unreleased unit, on a sleeping bank, which is woken, or on the
region under test, whose test ends. An instruction of the core's stream was found free of both with its whole bundle (R120). -/
def Core.issue (e : Env) (c : Core) (u : Uses) (body : Core → CRes) : CRes :=
  if e.timed then c.onUnits e u body
  else match c.blocked u with
  | some cause => { core := c, stamps := e.stamps, stalled := some cause }
  | none =>
    match (u.reads ++ u.writes).findSome? c.asleep with
    | some b => { core := (c.reachBank b).1, stamps := e.stamps, stalled := some 4, evs := (c.reachBank b).2 }
    | none =>
      if (u.reads ++ u.writes).any c.testHit then { core := c.cutTest.1, stamps := e.stamps, stalled := some 4, evs := c.cutTest.2 }
      else c.onUnits e u body

/-! The effective address of R131 and R122: a 15-bit ADDR plus a register, in the space ADDR names; byte address in that space. -/

def effAddr (addr : Nat) (x : W64) : Option (Bool × Nat) :=
  let s := addr % 16384 + x.toNat
  if addr / 16384 % 2 = 1 then (if s < 16384 then some (true, s / 512 * 65536) else none)
  else if s ≤ 12287 then some (false, s * 512) else none

/-- Byte size of each space. -/
def spaceBytes (acc : Bool) : Nat := if acc then 32 * 65536 else 12288 * 512

/-- Addresses of `n` tiles from an effective address: STRIDE × 512 B apart in the tile store, consecutive tiles in the accumulator
store (R54, R74). -/
def tileAddrs (a : Bool × Nat) (stride n : Nat) : List Nat :=
  (List.range n).map fun j => a.2 + (if a.1 then j * 65536 else j * stride * 512)

/-- Every tile of a list of `size` bytes lies in its space. -/
def tilesFit (acc : Bool) (as : List Nat) (size : Nat) : Bool := as.all fun a => decide (a + size ≤ spaceBytes acc)

/-! Array descriptors (R123). -/

structure ArrDesc where
  src : Nat
  stride : Nat
  fmt : Nat
  row : Bool            -- ORIENT: ROW
  colMode : Bool        -- MODE: column mode
  mmax : Nat
  groupB : Nat
  startB : Nat
  first : Nat
  count : Nat
  dst : Nat
  dfmt : Nat
  sr : Bool
  transposed : Bool
  tensor : Nat
  xb : Nat
  cls : Nat
deriving DecidableEq, Repr

/-- The fields of a descriptor, packed from bit 0 in the order of R123. -/
def arrDesc (v : Nat) : ArrDesc :=
  { src := bits v 14 0, stride := bits v 28 15, fmt := bits v 32 29, row := bit v 33, colMode := bit v 34
    mmax := bits v 47 35 + 1, groupB := bits v 50 48, startB := bits v 62 51, first := bits v 67 63
    count := bits v 72 68 + 1, dst := bits v 87 73, dfmt := bits v 91 88, sr := bit v 92, transposed := bit v 93
    tensor := bits v 105 94, xb := bits v 110 106, cls := bits v 112 111 }

def Core.descAt (c : Core) (d : Nat) : ArrDesc := arrDesc (Map.get 0 c.desc d)

/-- Elements per cell of a pass: CLASS 0 takes the class of FMT (R534). -/
def ArrDesc.g (d : ArrDesc) (t : FmtInfo) : Nat := if d.cls = 1 then 1 else if d.cls = 2 then 2 else t.g

/-- The noise inputs of a conversion whose BASE, PITCH and pass number lie in three registers (R103). -/
def Core.noise (c : Core) (e : Env) (tensor xb : Nat) : NoiseKey :=
  { seed := e.seed, step := e.step, tensor := tensor, node := e.node, base := bits (c.rx (xb % 32)).toNat 47 0
    pitch := bits (c.rx ((xb + 1) % 32)).toNat 23 0, pass := bits (c.rx ((xb + 2) % 32)).toNat 11 0 }

end Sys2Proof.Machine
end

