-- ==== Sys2Proof/Machine/Sparse.lean ====
section
/-!
DEFINITION. Sparse tiles: the policy word, the tile header, the structured and general forms, compression and decoding
(R170–R190).
-/
namespace Sys2Proof

/-! The policy word of a tensor (R170). -/
def polForm (p : Nat) : Nat := if bit p 0 then bits p 2 1 else 0
def polCarried (p : Nat) : Bool := bit p 0 && bit p 3
def polAssert (p : Nat) : Bool := bit p 4
def polAxis (p : Nat) : Bool := bit p 5

/-- The tensor's tiles lie compressed in the tile store: FORM 1 or 2 with REACH carried (R179, R180). -/
def polInStore (p : Nat) : Bool := (polForm p == 1 || polForm p == 2) && polCarried p

/-- Body bytes of a structured tile (R175). -/
def structBody (t : FmtInfo) : Nat :=
  2048 + 1024 * t.width + (if t.hasScale then 512 else 0)

/-- Reserved bytes of a tile of a tensor with policy `p` (R181). -/
def reservation (t : FmtInfo) (p : Nat) : Nat :=
  if polForm p = 1 ∧ !polAssert p then structBody t + 16
  else if polForm p = 1 ∨ polForm p = 2 then t.tileBytes + 16 else t.tileBytes

/-- A tile as its consumer sees it: codes (row-major), scale bytes, poison of each row, and the cause of R189 if it was corrupt. -/
structure DTile where
  code : Array Nat
  scale : Array Nat
  poison : Array Bool
  corrupt : Option Nat := none

/-- Row of a scale byte range that holds the scale bytes of tile row `i`. -/
def rowPoison (t : FmtInfo) (ps : Nat → Bool) (a i : Nat) : Bool :=
  let w := 16 * t.width
  ((List.range w).any fun k => (k % 64 == 0 || k + 1 == w) && ps (a + i * w + k)) ||
    (t.hasScale && ps (a + t.elemBytes + 4 * i))

/-- A dense tile at `a` (R82). -/
def readDense (t : FmtInfo) (rd : Nat → Byte) (ps : Nat → Bool) (a : Nat) : DTile :=
  { code := (Array.range 16384).map fun k => packedAt rd t.width a k
    scale := (Array.range 512).map fun b => if t.hasScale then (rd (a + t.elemBytes + b)).toNat else 127
    poison := (Array.range 128).map fun i => rowPoison t ps a i }

/-- Row-major index of position `p` of line `l`: lines are rows, or columns when AXIS is 1. -/
def lineIdx (axis : Bool) (l p : Nat) : Nat := if axis then p * 128 + l else l * 128 + p

/-- Expand the codes of one general line: position and value index of each stored element, and whether the line is corrupt
(R177). -/
def generalLine : List Nat → Nat → Nat → Nat → List (Nat × Nat) × Option Nat
  | [], _, v, nnz => ([], if v = nnz then none else some 2)
  | c :: r, p, v, nnz =>
    if v ≥ nnz then ([], some 2)
    else if c = 15 then generalLine r (p + 15) v nnz
    else if p + c > 127 then ([], some 1)
    else
      let (l, e) := generalLine r (p + c + 1) (v + 1) nnz
      ((p + c, v) :: l, e)

/-- Decode a compressed tile at `a` whose reservation is `res` bytes (R173–R178, R189, R190). -/
def decodeTile (t : FmtInfo) (code res : Nat) (rd : Nat → Byte) (ps : Nat → Bool) (a : Nat) : DTile :=
  let h := fun o n => leNat ((List.range n).map fun i => rd (a + o + i))
  let form := bits (h 0 1) 3 0
  let flags := h 1 1
  let len := h 4 4
  let axis := bit flags 0
  let body := a + 16
  let anyPs := (List.range (res / 64 + 2)).any fun u => ps (a + min (64 * u) (res - 1))
  let dead := fun (cause : Nat) =>
    ({ code := Array.replicate 16384 0, scale := Array.replicate 512 127, poison := Array.replicate 128 true, corrupt := some cause } : DTile)
  if crc16 ((List.range 14).map fun i => rd (a + i)) ≠ h 14 2 then dead 3
  else if form > 2 ∨ bits (h 0 1) 7 4 ≠ code then dead 4
  else
  let pre := if len > res then some 5 else if bit flags 1 then some 7 else none
  let finish := fun (d : DTile) => ({ d with
    corrupt := pre <|> d.corrupt
    poison := if (pre <|> d.corrupt).isSome then Array.replicate 128 true else d.poison } : DTile)
  finish <|
  if form = 0 then
    let d := readDense t rd ps body
    { d with poison := if bit flags 4 then Array.replicate 128 true else d.poison, corrupt := if len < t.tileBytes then some 5 else none }
  else if form = 1 then
    let slot := fun l s =>
      let nib := (rd (body + 16 * l + s / 4)).toNat / 16 ^ (s / 2 % 2) % 16
      let r0 := nib % 4
      let p1 := r0 + 1 + nib / 4
      (if s % 2 = 0 then r0 else p1, decide (r0 = 3) || decide (p1 > 3))
    let badLine := (Array.range 128).map fun l => (List.range 64).find? fun s => (slot l s).2
    let pairs := (List.range 128).flatMap fun l =>
      (List.range ((badLine.getD l none).getD 64)).map fun s =>
        (lineIdx axis l (4 * (s / 2) + (slot l s).1), packedAt rd t.width (body + 2048) (64 * l + s))
    let sc := body + (2048 + 1024 * t.width)
    let bad := badLine.any fun b => b.isSome
    { code := pairs.foldl (fun m x => m.setIfInBounds x.1 x.2) (Array.replicate 16384 0)
      scale := (Array.range 512).map fun b => if t.hasScale then (rd (sc + b)).toNat else 127
      poison := Array.replicate 128 (bit flags 4 || anyPs || bad)
      corrupt := if bad then some 6 else if len < structBody t then some 5 else none }
  else
    let entry := fun l => h (16 + 4 * l) 4
    let line := fun l =>
      let o := body + 512 + bits (entry l) 15 0
      let nnz := bits (entry l) 23 16
      let nc := bits (entry l) 31 24
      let codes := (List.range nc).map fun i => (rd (o + i / 2)).toNat / 16 ^ (i % 2) % 16
      let size := (nc + 1) / 2 + (nnz * t.width + 7) / 8
      if 512 + bits (entry l) 15 0 + size > len then (([] : List (Nat × Nat)), some 5)
      else
        let (ps, e) := generalLine codes 0 0 nnz
        (ps.map fun (p, v) => (lineIdx axis l p, packedAt rd t.width (o + (nc + 1) / 2) v), e)
    let lines := (List.range 128).map line
    let last := (List.range 128).foldl (fun m l =>
      max m (bits (entry l) 15 0 + (bits (entry l) 31 24 + 1) / 2 + (bits (entry l) 23 16 * t.width + 7) / 8)) 0
    let sc := body + (512 + last + 255) / 256 * 256
    let bad := (lines.findSome? fun x => x.2) <|> (if t.hasScale ∧ sc - body + 512 > len then some 5 else none)
    { code := lines.foldl (fun m x => x.1.foldl (fun m y => m.setIfInBounds y.1 y.2) m) (Array.replicate 16384 0)
      scale := (Array.range 512).map fun b => if t.hasScale then (rd (sc + b)).toNat else 127
      poison := Array.replicate 128 (bit flags 4 || anyPs || bad.isSome)
      corrupt := bad }

/-! Compression (R176–R178, R185, R186). -/

/-- An element is zero in the sense of R172. -/
def isZeroCode (t : FmtInfo) (code scale : Nat) : Bool :=
  (code == 0 || code == 2 ^ (t.width - 1)) && !(t.scaled && scale == 255)

/-- What the compressor writes: the tile's bytes, the rows whose poison it marks, and what R185 and R186 report. -/
structure CTile where
  bytes : Array Byte
  poison : Array Bool        -- rows of a stored-dense body
  dense : Bool
  drops : Nat := 0
  asserted : Bool := false

/-- The 16-byte header (R173). -/
def tileHeader (form code flags drops len nnz tensor : Nat) : List Byte :=
  let l := leBytes 1 (form + 16 * code) ++ leBytes 1 flags ++ leBytes 2 drops ++ leBytes 4 len ++ leBytes 4 nnz ++ leBytes 2 tensor
  l ++ leBytes 2 (crc16 l)

/-- The scale bytes of a tile. -/
def scaleBytes (t : FmtInfo) (d : DTile) : List Byte :=
  if t.hasScale then (List.range 512).map fun b => BitVec.ofNat 8 (d.scale.getD b 0) else []

/-- Body of a dense tile. -/
def denseBody (t : FmtInfo) (d : DTile) : List Byte :=
  ((List.range t.elemBytes).map fun k => packedByte t.width (fun n => d.code.getD n 0) k) ++ scaleBytes t d

/-- Is magnitude `a` larger than `b` under R185: a NaN above every number? -/
def magAbove (a b : FV) : Bool := if b = .nan then false else if a = .nan then true else FV.lt b.abs a.abs

/-- Positions (0–3) a group keeps: its two largest magnitudes, equal ones at the lower position (R185). -/
def keepTwo (v : Nat → FV) (nz : List Nat) : List Nat :=
  nz.filter fun p => decide ((nz.filter fun q => q ≠ p ∧ (magAbove (v q) (v p) ∨ (!magAbove (v p) (v q) ∧ q < p))).length < 2)

/-- The two slot positions of a group from its kept non-zeros (R176). -/
def slotPos (kept : List Nat) : Nat × Nat :=
  let free := (List.range 4).filter fun p => !kept.contains p
  let two := (kept ++ free.take (2 - kept.length)).take 2
  let a := two.getD 0 0
  let b := two.getD 1 0
  (min a b, max a b)

/-- The codes of one general line with stored positions `ps` ascending (R177). -/
def runCodes : List Nat → Nat → List Nat
  | [], _ => []
  | p :: r, from' => List.replicate ((p - from') / 15) 15 ++ [(p - from') % 15] ++ runCodes r (p + 1)

/-- Pack 4-bit codes two to a byte. -/
def nibbles (l : List Nat) : List Byte :=
  (List.range ((l.length + 1) / 2)).map fun i => BitVec.ofNat 8 (l.getD (2 * i) 0 + 16 * l.getD (2 * i + 1) 0)

/-- Compress a tile of a tensor with policy `p` (R176–R178, R185, R186). -/
def compressTile (t : FmtInfo) (code tensor p : Nat) (d : DTile) : CTile :=
  let axis := polAxis p
  let ax := if axis then 1 else 0
  let poisoned := d.poison.any id
  let at' := fun l q => lineIdx axis l q
  let sc := fun k => if t.hasScale then d.scale.getD (k / 32) 0 else 127
  let val := fun k => t.value (d.code.getD k 0) (sc k)
  let zero := fun k => isZeroCode t (d.code.getD k 0) (sc k)
  let stored := fun (flags drops : Nat) (asserted : Bool) =>
    let body := denseBody t { d with code := d.code.mapIdx fun k c => if zero k then 0 else c }
    ({ bytes := (tileHeader 0 code (ax + flags) drops body.length 16384 tensor ++ body).toArray, poison := d.poison, dense := true, asserted := asserted } : CTile)
  if polForm p = 1 then
    let nzs := fun l g => (List.range 4).filter fun q => !zero (at' l (4 * g + q))
    let crowded := (List.range 128).any fun l => (List.range 32).any fun g => decide ((nzs l g).length > 2)
    if polAssert p && crowded then stored 8 0 true
    else if polAssert p && poisoned then stored 0 0 false
    else
      let kept := fun l g => keepTwo (fun q => val (at' l (4 * g + q))) (nzs l g)
      let drops := (List.range 128).foldl (fun n l => (List.range 32).foldl (fun n g => n + ((nzs l g).length - (kept l g).length)) n) 0
      let nib := fun l g => let (a, b) := slotPos (kept l g); a + 4 * (b - a - 1)
      let slotCode := fun l s =>
        let (a, b) := slotPos (kept l (s / 2))
        let q := if s % 2 = 0 then a else b
        if (kept l (s / 2)).contains q then d.code.getD (at' l (4 * (s / 2) + q)) 0 else 0
      let codes := (Array.range 8192).map fun n => slotCode (n / 64) (n % 64)
      let body := ((List.range 2048).map fun k => BitVec.ofNat 8 (nib (k / 16) (2 * (k % 16)) + 16 * nib (k / 16) (2 * (k % 16) + 1)))
        ++ ((List.range (1024 * t.width)).map fun k => packedByte t.width (fun n => codes.getD n 0) k) ++ scaleBytes t d
      let flags := ax + (if drops > 0 then 4 else 0) + (if poisoned then 16 else 0)
      { bytes := (tileHeader 1 code flags drops body.length 8192 tensor ++ body).toArray, poison := #[], dense := false, drops := drops }
  else
    let ps := fun l => (List.range 128).filter fun q => !zero (at' l q)
    let recs := (List.range 128).map fun l =>
      let cs := runCodes (ps l) 0
      let vs := (ps l).map fun q => d.code.getD (at' l q) 0
      (nibbles cs ++ (List.range ((vs.length * t.width + 7) / 8)).map fun k => packedByte t.width (fun n => vs.getD n 0) k, vs.length, cs.length)
    let table := (recs.foldl (fun (acc : List Byte × Nat) r => (acc.1 ++ leBytes 4 (acc.2 + 65536 * r.2.1 + 16777216 * r.2.2), acc.2 + r.1.length)) ([], 0)).1
    let front := table ++ recs.flatMap fun r => r.1
    let pad := if t.hasScale then List.replicate ((front.length + 255) / 256 * 256 - front.length) 0#8 else []
    let body := front ++ pad ++ scaleBytes t d
    if poisoned || decide (body.length > t.tileBytes) then stored 0 0 false
    else
      { bytes := (tileHeader 2 code ax 0 body.length ((recs.map fun r => r.2.1).sum) tensor ++ body).toArray, poison := #[], dense := false }

end Sys2Proof
end

