-- ==== Sys2Proof/Machine/ArrayOps.lean ====
section
/-!
DEFINITION. The arrays of a core: resident loads, streams, twin passes, groups and closes, as functions of the core
(R44–R74, R182–R188).
-/
namespace Sys2Proof.Machine

/-! Reading tiles. -/

/-- A tile of an array operand: decoded where its tensor is carried compressed, dense otherwise (R180). -/
def Core.readTile (c : Core) (t : FmtInfo) (code p : Nat) (acc : Bool) (a : Nat) : DTile :=
  if polInStore p then decodeTile t code (reservation t p) (c.tileByte acc) (c.poisonAt acc) a
  else readDense t (c.tileByte acc) (c.poisonAt acc) a

/-- A tile read by an instruction that names no tensor: decoded where a compressed tile lies (R180). -/
def Core.readMarked (c : Core) (e : Env) (t : FmtInfo) (code : Nat) (acc : Bool) (a : Nat) : DTile :=
  match c.carriedAt acc a with
  | some tensor => decodeTile t code (reservation t (e.policy tensor)) (c.tileByte acc) (c.poisonAt acc) a
  | none => readDense t (c.tileByte acc) (c.poisonAt acc) a

/-- Bytes such a tile takes. -/
def Core.markedSize (c : Core) (e : Env) (t : FmtInfo) (acc : Bool) (a : Nat) : Nat :=
  match c.carriedAt acc a with
  | some tensor => reservation t (e.policy tensor)
  | none => t.tileBytes

/-- Where `n` tiles read without a tensor lie one behind the other from `a` (R65, R62): in the tile store each from the next 512-byte unit
behind the one before, as it is carried; in the accumulator store in consecutive tiles (DESIGN CHOICE, log 106). -/
def Core.stackAddrs (c : Core) (e : Env) (t : FmtInfo) (acc : Bool) : Nat → Nat → List Nat
  | _, 0 => []
  | a, n + 1 => a :: c.stackAddrs e t acc (if acc then a + 65536 else a + (c.markedSize e t acc a + 511) / 512 * 512) n

/-- Every one of them lies in its space. -/
def Core.stackFits (c : Core) (e : Env) (t : FmtInfo) (acc : Bool) (as : List Nat) : Bool :=
  as.all fun a => decide (a + c.markedSize e t acc a ≤ spaceBytes acc)

/-- Their unit ranges. -/
def Core.stackUnits (c : Core) (e : Env) (t : FmtInfo) (acc : Bool) (as : List Nat) : List (Nat × Nat × Nat) :=
  as.map fun a => tileUnits acc a (c.markedSize e t acc a)

/-- Bytes one tile of the operand takes where it lies. -/
def tileSize (t : FmtInfo) (p : Nat) : Nat := if polInStore p then reservation t p else t.tileBytes

/-! Core ports of the banks (R229, R230). -/

/-- Banks of a byte range of the tile store. -/
def banksOf (a n : Nat) : List Nat := if n = 0 then [] else (List.range ((a + n - 1) / 196608 + 1 - a / 196608)).map (· + a / 196608)

/-- The banks some byte ranges lie in, each once. -/
def banksOfAll (l : List (Nat × Nat)) : List Nat := (l.flatMap fun e => banksOf e.1 e.2).eraseDups

/-- The bytes that line `i` of a tile at `o` lies in: a row with its scales, or a column, which reaches over the whole tile. A compressed
tile is read whole. -/
def lineBytes (t : FmtInfo) (p : Nat) (col : Bool) (o i : Nat) : List (Nat × Nat) :=
  if polInStore p then [(o, reservation t p)]
  else if col then [(o, t.tileBytes)]
  else (o + 16 * t.width * i, 16 * t.width) :: (if t.hasScale then [(o + t.elemBytes + 4 * i, 4)] else [])

/-- The core's stream uses the core ports of the tile store's banks from a number of cycles after issue, the banks of each cycle listed. -/
def Core.usePorts (e : Env) (acc write runs : Bool) (delay : Nat) (banks : List (List Nat)) (c : Core) : Core :=
  if e.timed && !acc then { c with ports := c.ports ++ [{ write := write, start := c.count runs + delay, runs := runs, banks := banks }] }
  else c

/-- What a corrupt tile reports (R190): the fault and its location. `core` is the decoding core, 0x1FF a courier. -/
def corruptEvs (space core a : Nat) (d : DTile) : List Ev :=
  match d.corrupt with
  | none => []
  | some cause =>
    [.put Reg.SPZ_ERR_LOC (space * 2 ^ 30 + core * 2 ^ 21 + cause * 2 ^ 17 + 1),
     .put Reg.SPZ_ERR_ADDR_LO (a % 2 ^ 32), .put Reg.SPZ_ERR_ADDR_HI (a / 2 ^ 32), .fault 0x2002]

/-- Value of element (i, j) of a decoded tile. -/
def tileVal (d : DTile) (t : FmtInfo) (i j : Nat) : FV :=
  t.value (d.code.getD (i * 128 + j) 0) (d.scale.getD (i * 4 + j / 32) 127)

/-! Resident sets (R50, R182–R187). -/

/-- Value of the resident element at slot `k`, column `n`. -/
def ResSet.val (s : ResSet) (t : FmtInfo) (k n : Nat) : FV :=
  t.value (Map.get 0 s.code (k * 128 + n)) (Map.get 127 s.scale (k * 128 + n))

/-- A dense set of contraction depth K = 128 g from its tiles; ROW takes index k along the tile's columns (R50). -/
def denseSet (fmt g : Nat) (row : Bool) (tiles : Array DTile) : ResSet :=
  let at' := fun k n => if row then (n, k % 128) else (k % 128, n)
  let tile := fun k => tiles.getD (k / 128) ⟨#[], #[], #[], none⟩
  { fmt := fmt, g := g, filled := true
    code := Map.tab 0 (128 * g * 128) fun x => let (i, j) := at' (x / 128) (x % 128); (tile (x / 128)).code.getD (i * 128 + j) 0
    scale := Map.tab 127 (128 * g * 128) fun x => let (i, j) := at' (x / 128) (x % 128); (tile (x / 128)).scale.getD (i * 4 + j / 32) 127
    poison := tiles.any fun d => d.poison.any id }

/-- A structured set and its remainder (R183, R187). `second` picks the remainder's slots. -/
def structSet (t : FmtInfo) (fmt g : Nat) (tiles : Array DTile) (second : Bool) : ResSet :=
  let tile := fun k => tiles.getD (k / 128) ⟨#[], #[], #[], none⟩
  let code := fun k n => (tile k).code.getD (k % 128 * 128 + n) 0
  let scale := fun k n => (tile k).scale.getD (k % 128 * 4 + n / 32) 127
  let nz := fun h n => (List.range 4).filter fun q => !isZeroCode t (code (4 * h + q) n) (scale (4 * h + q) n)
  let kept := fun h n => if second then (nz h n).drop 2 else (nz h n).take 2
  let pos := fun s n => let (a, b) := slotPos (kept (s / 2) n); if s % 2 = 0 then a else b
  let n := 128 * g * 128
  { fmt := fmt, g := g, structured := true, filled := true
    index := Map.tab 0 n fun x => pos (x / 128) (x % 128)
    code := Map.tab 0 n fun x =>
      let q := pos (x / 128) (x % 128)
      if (kept (x / 128 / 2) (x % 128)).contains q then code (4 * (x / 128 / 2) + q) (x % 128) else 0
    scale := Map.tab 127 n fun x => scale (4 * (x / 128 / 2) + pos (x / 128) (x % 128)) (x % 128)
    remainder := (List.range (64 * g)).any fun h => (List.range 128).any fun c => decide ((nz h c).length > 2)
    poison := tiles.any fun d => d.poison.any id }

/-- The load runs at the structured rate (R182). -/
def structuredLoad (d : ArrDesc) (p : Nat) : Bool := polForm p == 1 && polCarried p && polAxis p && !d.row

def Core.setBack (c : Core) (arr : Arr) (s r : ResSet) : Core :=
  match arr with
  | .a => { c with backA := s, backRemA := r }
  | .b => { c with backB := s, backRemB := r }

/-- The units of one array (R61). -/
def residentOf : Arr → Unit'
  | .a => .residentA
  | .b => .residentB
def inputOf : Arr → Unit'
  | .a => .inputA
  | .b => .inputB
def converterOf : Arr → Unit'
  | .a => .converterA
  | .b => .converterB

def Core.setRemPass (c : Core) (arr : Arr) (p : RemPass) : Core :=
  match arr with
  | .a => { c with remPassA := some p }
  | .b => { c with remPassB := some p }

/-- A set whose cells `lo` to `hi` − 1, by lane or by column, hold the new elements and the rest what they held (R53). Elements of another
format or form beside them make the outcome one the spec does not state. -/
def ResSet.mix (new old : ResSet) (byCol : Bool) (lo hi : Nat) : ResSet :=
  if lo = 0 ∧ 128 ≤ hi then new
  else
    let mine := fun (k col : Nat) => let i := if byCol then col else k / new.g; decide (lo ≤ i) && decide (i < hi)
    let pick := fun (d : Nat) (f : ResSet → Map Nat) => Map.tab d (128 * new.g * 128) fun x =>
      Map.get d (f (if mine (x / 128) (x % 128) then new else old)) x
    { new with
      code := pick 0 (·.code), scale := pick 127 (·.scale), index := pick 0 (·.index), remainder := new.remainder || old.remainder
      poison := new.poison || old.poison, filled := true
      clash := old.clash || (old.filled && (old.fmt != new.fmt || old.g != new.g || old.structured != new.structured))
      parity := old.parity.filter fun q => !(if byCol then decide (lo ≤ q.2) && decide (q.2 < hi) else decide (lo ≤ q.1) && decide (q.1 < hi)) }

def Core.back (c : Core) : Arr → ResSet × ResSet
  | .a => (c.backA, c.backRemA)
  | .b => (c.backB, c.backRemB)

def Core.loading (c : Core) : Arr → Option Load
  | .a => c.loadA
  | .b => c.loadB

def Core.setLoading (c : Core) (arr : Arr) (l : Option Load) : Core :=
  match arr with
  | .a => { c with loadA := l }
  | .b => { c with loadB := l }

/-- A resident load has written what its cycles so far write: one lane, or column, a cycle (R50), into the register that is now the back
one (R52, R53). -/
def Core.settleLoad (c : Core) (arr : Arr) : Core :=
  match c.loading arr with
  | none => c
  | some l =>
    let k := Nat.min 128 (c.cyc - l.start)
    if k ≤ l.done then c
    else
      let (b, r) := c.back arr
      (c.setBack arr (l.set.mix b l.byCol l.done k) (l.rem.mix r l.byCol l.done k)).setLoading arr (if k = 128 then none else some { l with done := k })

/-- A new set for the back register and its remainder register: at once, or over the load's 128 cycles. -/
def Core.fillBack (e : Env) (arr : Arr) (byCol : Bool) (s r : ResSet) (c : Core) : Core :=
  if e.timed then (c.settleLoad arr).setLoading arr (some { start := c.cyc, byCol := byCol, set := s, rem := r }) else c.setBack arr s r

/-- RLOAD (R50, R122, R182): fill the back resident register of an array, and its remainder register. -/
def Core.rload (e : Env) (t : FmtInfo) (core : Nat) (arr : Arr) (d : ArrDesc) (x : W64) (c : Core) : CRes :=
  let p := e.policy d.tensor
  let g := d.g t
  let n := if structuredLoad d p then 2 * g else g
  match effAddr d.src x with
  | none => e.done c [.fault 0x1302]
  | some a =>
    let as := tileAddrs a d.stride n
    if !tilesFit a.1 as (tileSize t p) then e.done c [.fault 0x1302]
    else
      c.issue e { units := [residentOf arr], arrays := [arr], reads := as.map (fun o => tileUnits a.1 o (tileSize t p)), lasts := 128 } fun c =>
        let tiles := (as.map fun o => c.readTile t d.fmt p a.1 o).toArray
        let evs := (as.map fun o => corruptEvs 0 core o (c.readTile t d.fmt p a.1 o)).flatten
        let line := fun q i => if d.row then lineBytes t p false (as.getD i 0) q
          else lineBytes t p false (as.getD ((q * n + i) / 128) 0) ((q * n + i) % 128)
        let c := c.usePorts e a.1 false false 0 ((List.range 128).map fun q => banksOfAll ((List.range n).flatMap (line q)))
        if structuredLoad d p then e.done (c.fillBack e arr false (structSet t d.fmt g tiles false) (structSet t d.fmt g tiles true)) evs
        else e.done (c.fillBack e arr d.row (denseSet d.fmt g d.row tiles) {}) evs

/-- Swap: the back set and its remainder become the front ones (R51, R182). -/
def Core.swap (c : Core) (arr : Arr) (on : Bool) : Core :=
  if !on then c
  else match arr with
  | .a => { c with frontA := c.backA, backA := c.frontA, remA := c.backRemA, backRemA := c.remA }
  | .b => { c with frontB := c.backB, backB := c.frontB, remB := c.backRemB, backRemB := c.remB }

/-- The swap of a row of the core's own stream: each cell changes over as it stands (R51, R53). -/
def Core.swapNow (e : Env) (arr : Arr) (on : Bool) (c : Core) : Core := (if e.timed && on then c.settleLoad arr else c).swap arr on

def Core.front (c : Core) : Arr → ResSet
  | .a => c.frontA
  | .b => c.frontB

def Core.rem (c : Core) : Arr → ResSet
  | .a => c.remA
  | .b => c.remB

/-! Products (R47, R48, R184). -/

/-- The exact sum of a cell: the g products of one lane. -/
def cellSum (xs ws : Nat → FV) (lane g : Nat) : FV :=
  match (List.range g).map fun j => (xs (lane * g + j)).mul (ws (lane * g + j)) with
  | [] => .fin false 0 0
  | h :: r => r.foldl FV.add h

/-- One column of one result row: the lanes' exact sums, each added to the running FP32 value with one rounding. -/
def laneChain (xs ws : Nat → FV) (g : Nat) : Nat :=
  (List.range 128).foldl (fun t lane => rne32 ((f32 t).add (cellSum xs ws lane g))) 0

/-- The streamed element that meets slot `k` of column `n`: k itself, or the element at the slot's position (R184). -/
def ResSet.streamIdx (s : ResSet) (k n : Nat) : Nat := if s.structured then 4 * (k / 2) + Map.get 0 s.index (k * 128 + n) else k

/-- The group, if one is OPEN over an accumulator tile. -/
def Core.openOver (c : Core) (tile : Nat) : Option Nat :=
  (List.range 8).find? fun g => (c.group g).st == .opened && decide ((c.group g).first ≤ tile) && decide (tile < (c.group g).first + (c.group g).count)

/-- Add one result row into an accumulator row, by tile × 128 + row (R57, R58, R71, R78). -/
def Core.addAt (c : Core) (arr : Arr) (at' : Nat) (row : Nat → Nat) (p : Bool) : Core × List Ev :=
  let tile := at' / 128
  let r := at' % 128
  match c.openOver tile with
  | none => (if tile < 32 then { c with accPoison := Map.set false c.accPoison (tile * 128 + r) true } else c, [.fault 0x1104])
  | some o =>
    let was := Map.get false c.accPoison (tile * 128 + r)
    let grp := c.group o
    let c' := c.accPutRow tile r (fun n => addF32 (c.accGet tile r n) (row n)) (was || p)
    (c'.setGroup o { grp with rows := min (grp.rows + 1) 0xFFFF, arrays := grp.arrays ||| (if arr = .a then 1 else 2) },
     if p then [.count Reg.ARR_POISON_ROWS 1] else [])

/-- Add one result row into row `r` of group `g`. -/
def Core.addRow (c : Core) (arr : Arr) (g r : Nat) (row : Nat → Nat) (p : Bool) : Core × List Ev :=
  c.addAt arr ((c.group g).first * 128 + r) row p

/-- Add a list of rows in order of issue. -/
def Core.addRows (arr : Arr) (g : Nat) : List (Nat × (Nat → Nat) × Bool) → Core → Core × List Ev
  | [], c => (c, [])
  | (r, row, p) :: rest, c =>
    let (c, ev) := c.addRow arr g r row p
    let (c, evs) := Core.addRows arr g rest c
    (c, ev ++ evs)

/-- Rows an array is to issue, in consecutive cycles. -/
def Core.issues (c : Core) (arr : Arr) (r : Rows) : Core :=
  match arr with
  | .a => { c with issueA := c.issueA ++ [r] }
  | .b => { c with issueB := c.issueB ++ [r] }

/-- Result rows of group `g`: added at once, or in the core's own stream each 140 cycles after its row, the first of which is issued a
number of cycles after the instruction (R54, R57). -/
def Core.placeRows (e : Env) (arr : Arr) (g : Nat) (runs : Bool) (delay : Nat) (rows : List (Nat × (Nat → Nat) × Bool)) (c : Core) : Core × List Ev :=
  if e.timed then
    let t := c.count runs + delay
    let first := (c.group g).first * 128
    let l := rows.mapIdx fun i r =>
      ({ due := t + i + 140, runs := runs, arr := arr, row := first + r.1, words := (List.range 128).map r.2.1, poison := r.2.2 } : AddRow)
    (({ c with adds := c.adds ++ l } : Core).issues arr { start := t, count := rows.length, runs := runs }, [])
  else Core.addRows arr g rows c

/-- The result row of a streamed row against a set. A set of another width class, or one with cells of two forms, gives a value the spec
leaves open (R53, R534). A register that nothing filled holds +0 elements, which serve every class (R533). -/
def resultRow (tw : FmtInfo) (s : ResSet) (g : Nat) (xs : Nat → FV) (n : Nat) : Nat :=
  if s.filled && (s.g != g || s.clash) then (Config.classMismatch ((List.range (256 * g)).map xs) s.code s.scale n).toNat
  else laneChain (fun k => xs (s.streamIdx k n)) (fun k => s.val tw k n) g

/-- Count of rows issued by an array (ARR.BUSY_*); the core's own stream counts them as they issue. -/
def Core.busy (c : Core) (arr : Arr) (n : Nat) : Core :=
  match arr with
  | .a => { c with busyA := c.busyA + n }
  | .b => { c with busyB := c.busyB + n }

/-- `ARR.ERR_LOC` of a parity failure in a unit: 0 array A, 1 array B, 3 a twin buffer (R75, R78). -/
def parityEvs (unit : Nat) (bad : Option (Nat × Nat)) : List Ev :=
  match bad with
  | some (lane, col) => [.put Reg.ARR_ERR_LOC (unit * 2 ^ 30 + lane % 128 * 2 ^ 23 + col % 128 * 2 ^ 4 + 1), .fault 0x1101]
  | none => []

def unitOf : Arr → Nat
  | .a => 0
  | .b => 1

/-- STREAM (R54–R58, R71, R75, R183, R188): rows below min(M_live, M_max) are issued; their results are added in order, then the remainder
pass adds again. A cell that fails its parity check poisons every row. The swap flag takes effect although M_live is 0 (log 90). -/
def Core.stream (e : Env) (t : FmtInfo) (core : Nat) (arr : Arr) (d : ArrDesc) (x live : W64) (swap : Bool) (grp start : Nat) (c : Core) : CRes :=
  let p := e.policy d.tensor
  let g := d.g t
  let m := min live.toNat d.mmax
  let clamp := if live.toNat > d.mmax then [Ev.fault 0x1106] else []
  let c0 := c.swapNow e arr swap
  let s := c0.front arr
  let h := if s.structured then 2 * g else g
  match effAddr d.src x with
  | none => e.done c [.fault 0x1302]
  | some a =>
    let as := tileAddrs a d.stride (h * ((m + 127) / 128))
    let tiles := (c.group grp).first
    if !tilesFit a.1 as (tileSize t p) then e.done c [.fault 0x1302]
    else
      let source := as.map fun o => tileUnits a.1 o (tileSize t p)
      c.issue e { units := [inputOf arr], arrays := [arr], reads := source
                  adds := if m = 0 then [] else [(1, tiles + start / 128, (start + m - 1) / 128 + 1 - start / 128)], lasts := d.mmax } fun c =>
        let c := c.swapNow e arr swap
        let ds := (as.map fun o => c.readTile t d.fmt p a.1 o).toArray
        let evs := (as.map fun o => corruptEvs 0 core o (c.readTile t d.fmt p a.1 o)).flatten
        match fmtInfo e.entry s.fmt with
        | none => e.done c [.fault 0x1302]
        | some tw =>
          let tile := fun r k => ds.getD (r / 128 * h + k / 128) ⟨#[], #[], #[], none⟩
          let xs := fun r k => if d.colMode then tileVal (tile r k) t (k % 128) (r % 128) else tileVal (tile r k) t (r % 128) (k % 128)
          let rp := fun r => (List.range h).any fun i =>
            let q := (ds.getD (r / 128 * h + i) ⟨#[], #[], #[], none⟩).poison
            if d.colMode then q.any id else q.getD (r % 128) false
          let rowsOf := fun (s : ResSet) => (List.range m).map fun r => (start + r, resultRow tw s g (xs r), rp r || s.poison || s.parity.isSome)
          let again := s.remainder && m != 0
          let c := c.usePorts e a.1 false again 0 ((List.range m).map fun r =>
            banksOfAll ((List.range h).flatMap fun i => lineBytes t p d.colMode (as.getD (r / 128 * h + i) 0) (r % 128)))
          let (c, ev1) := c.placeRows e arr grp again 0 (rowsOf s)
          let (c, ev2) := if again then c.placeRows e arr grp true d.mmax (rowsOf (c.rem arr)) else (c, [])
          let rem := if again then [Ev.count Reg.SPZ_REMAINDER_CNT 1] else []
          let bad := if m = 0 then [] else parityEvs (unitOf arr) s.parity ++ (if again then parityEvs (unitOf arr) (c.rem arr).parity else [])
          let c := if again then
              c.setRemPass arr { ends := c.run + 2 * d.mmax, tiles := [(1, tiles, (c.group grp).count)], source := source }
            else c
          e.done (if e.timed then c else c.busy arr (if again then 2 * m else m)) (clamp ++ evs ++ bad ++ ev1 ++ ev2 ++ rem)

/-! Twin mode (R64–R68). -/

/-- A twin buffer from its block's tiles, row by row (R65). A 4-bit block does not fit one, and its buffer is left without elements. -/
def twinBlock (t : FmtInfo) (fmt : Nat) (ds : Array DTile) : TwinBuf :=
  let g := t.g
  let k := 128 * g
  let tile := fun i j => ds.getD (i / 128 * g + j / 128) ⟨#[], #[], #[], none⟩
  if g = 4 then { fmt := fmt, k := k, filled := true }
  else
    { fmt := fmt, k := k, filled := true
      code := Map.tab 0 (k * k) fun y => (tile (y / k) (y % k)).code.getD (y / k % 128 * 128 + y % k % 128) 0
      scale := Map.tab 127 (k * k) fun y => (tile (y / k) (y % k)).scale.getD (y / k % 128 * 4 + y % k % 128 / 32) 127
      poison := Map.tab false k fun i => (List.range g).any fun j => (tile i (128 * j)).poison.getD (i % 128) false }

/-- TFILL (R65, R66): load the idle twin buffer, one tile for a 16-bit block, four tiles for 8-bit and 6-bit, row by row (log 106). A fill
of the buffer that no pass reads runs beside a pass. -/
def Core.tfill (e : Env) (t : FmtInfo) (core fmt : Nat) (addr : Nat) (x : W64) (c : Core) : CRes :=
  let g := t.g
  let n := if g = 1 then 1 else if g = 2 then 4 else 0
  match effAddr addr x with
  | none => e.done c [.fault 0x1302]
  | some a =>
    let as := c.stackAddrs e t a.1 a.2 n
    if !c.stackFits e t a.1 as then e.done c [.fault 0x1302]
    else
      c.issue e { units := [.twinFill], reads := c.stackUnits e t a.1 as, lasts := 128 * g } fun c =>
        let ds := (as.map fun o => c.readMarked e t fmt a.1 o).toArray
        let evs := (as.map fun o => corruptEvs 0 core o (c.readMarked e t fmt a.1 o)).flatten
        let b := twinBlock t fmt ds
        let c := c.usePorts e a.1 false false 0 ((List.range (if n = 0 then 0 else 128 * g)).map fun q =>
          banksOfAll ((List.range g).flatMap fun j => let o := as.getD (q / 128 * g + j) 0
            if (c.carriedAt a.1 o).isSome then [(o, c.markedSize e t a.1 o)] else lineBytes t 0 false o (q % 128)))
        (e.done (if c.twinCur then { c with twin0 := b, twinFresh := true } else { c with twin1 := b, twinFresh := true }) evs).after (128 * g) [.twin (!c.twinCur) b]

/-- Poison the rows a refused twin pass would have added (R67). -/
def Core.poisonRows (c : Core) (g start n : Nat) : Core :=
  { c with
    accPoison := (List.range n).foldl (fun m i =>
      let tile := (c.group g).first + (start + i) / 128
      if tile < 32 then Map.set false m (tile * 128 + (start + i) % 128) true else m) c.accPoison }

/-- Elements per cell of a twin pass: those of the widest of its operands (R67). A register or buffer that nothing filled holds zeros, which
serve every class (R533). -/
def twinClass (l : List (Bool × FmtInfo)) : Nat := (l.filterMap fun x => if x.1 then some x.2.g else none).min?.getD 1

/-- TWIN (R64, R65, R67): array A streams the rows of the dY block, array B its columns. M_live bounds array A's rows alone (log 90). -/
def Core.twin (e : Env) (d : ArrDesc) (x live : W64) (swap : Bool) (grp start : Nat) (c : Core) : CRes :=
  let cur := if c.twinFresh then !c.twinCur else c.twinCur
  let begin' := fun (c : Core) => (({ c with twinCur := cur, twinFresh := false } : Core).swapNow e .a swap).swapNow e .b swap
  let c1 := begin' c
  let b := if cur then c1.twin1 else c1.twin0
  match effAddr d.src x, fmtInfo e.entry b.fmt, fmtInfo e.entry c1.frontA.fmt, fmtInfo e.entry c1.frontB.fmt with
  | none, _, _, _ => e.done c [.fault 0x1302]
  | some _, some ty, some ta, some tb =>
    let ops := [(b.filled, ty), (c1.frontA.filled, ta), (c1.frontB.filled, tb)]
    let g := twinClass ops
    let k := 128 * g
    let m := min live.toNat k
    if ops.any fun o => o.1 && o.2.width == 4 then e.done ((c.poisonRows grp start m).poisonRows d.groupB d.startB k) [.fault 0x1105]
    else
      let clamp := if live.toNat > k then [Ev.fault 0x1106] else []
      let ga := (c.group grp).first
      let gb := (c.group d.groupB).first
      c.issue e
        { units := [.inputA, .inputB, .twinPass], arrays := [.a, .b], lasts := k
          adds := [(1, ga + start / 128, (start + k - 1) / 128 + 1 - start / 128), (1, gb + d.startB / 128, (d.startB + k - 1) / 128 + 1 - d.startB / 128)] } fun c =>
        let c := begin' c
        let v := fun i j => ty.value (Map.get 0 b.code (i * b.k + j)) (Map.get 127 b.scale (i * b.k + j))
        let bad := b.parity.isSome
        let rowsA := (List.range m).map fun r => (start + r, resultRow ta c.frontA g (v r), Map.get false b.poison r || c.frontA.poison || bad || c.frontA.parity.isSome)
        let anyP := (List.range k).any fun i => Map.get false b.poison i
        let rowsB := (List.range k).map fun r => (d.startB + r, resultRow tb c.frontB g (fun i => v i r), anyP || c.frontB.poison || bad || c.frontB.parity.isSome)
        let (c, ev1) := c.placeRows e .a grp false 0 rowsA
        let (c, ev2) := c.placeRows e .b d.groupB false 0 rowsB
        e.done (if e.timed then c else (c.busy .a m).busy .b k)
          (clamp ++ parityEvs 3 b.parity ++ parityEvs 0 c.frontA.parity ++ parityEvs 1 c.frontB.parity ++ ev1 ++ ev2)
  | some _, _, _, _ => e.done c [.fault 0x1105]

/-! Groups and closes (R61, R62, R69–R74). -/

/-- A GOPEN is refused with 0x1103 (R70). -/
def Core.openBad (c : Core) (g first count : Nat) : Bool :=
  (c.group g).st != .closed || decide (first + count > 32) ||
  (List.range 8).any fun h => h != g && (c.group h).st != .closed && unitsMeet (1, (c.group h).first, (c.group h).count) (1, first, count)

/-- GOPEN.CLEAR: the group's tiles read as +0.0 with poison clear, from the next cycle of the core's own stream. -/
def Core.gopenClear (e : Env) (arr : Arr) (g first count : Nat) (c : Core) : CRes :=
  if c.openBad g first count then e.done c [.fault 0x1103]
  else
    c.issue e { arrays := [arr], writes := [(1, first, count)] } fun c =>
      (e.done ((c.clearAcc first count).setGroup g { st := .opened, first := first, count := count })).after 1 [.clear first count]

/-- GOPEN.LOAD: open the group with FP32, BF16, FP16 or G16 tiles widened to FP32 (R62, R88); row r is loaded 4 + r cycles after issue (R61,
R63). -/
def Core.gopenLoad (e : Env) (t : FmtInfo) (core code g addr : Nat) (x : W64) (first count : Nat) (c : Core) : CRes :=
  if c.openBad g first count then e.done c [.fault 0x1103]
  else
    match effAddr addr x with
    | none => e.done c [.fault 0x1302]
    | some a =>
      let as := c.stackAddrs e t a.1 a.2 count
      if !c.stackFits e t a.1 as then e.done c [.fault 0x1302]
      else
        c.issue e { units := [.tileMove], reads := c.stackUnits e t a.1 as, writes := [(1, first, count)], lasts := 128 * count } fun c =>
          let ds := (as.map fun o => c.readMarked e t code a.1 o).toArray
          let evs := (as.map fun o => corruptEvs 0 core o (c.readMarked e t code a.1 o)).flatten
          let bad := fun k r => t.g16 && (List.range 128).any fun j => (ds.getD k ⟨#[], #[], #[], none⟩).code.getD (r * 128 + j) 0 == 0x8000
          let word := fun k r j => rne32 (tileVal (ds.getD k ⟨#[], #[], #[], none⟩) t r j)
          let pois := fun k r => (ds.getD k ⟨#[], #[], #[], none⟩).poison.getD r false || bad k r
          let flights := (List.range (128 * count)).map fun (r : Nat) =>
            ({ due := r + 5, runs := false
               write := .accRow (first + r / 128) (r % 128) ((List.range 128).map (word (r / 128) (r % 128))) (pois (r / 128) (r % 128)) } : Flight)
          let c := c.usePorts e a.1 false false 0 ((List.range (128 * count)).map fun r => let o := as.getD (r / 128) 0
            if (c.carriedAt a.1 o).isSome then banksOf o (c.markedSize e t a.1 o) else banksOfAll (lineBytes t 0 false o (r % 128)))
          { e.done (({ c with
              acc := Map.fill 0#32 c.acc (first * 16384) (count * 16384) fun y => BitVec.ofNat 32 (word (y / 16384) (y % 16384 / 128) (y % 128))
              accPoison := Map.fill false c.accPoison (first * 128) (count * 128) fun r => pois (r / 128) (r % 128) }).setGroup g
                { st := .opened, first := first, count := count }) evs with flights := flights }

/-- GCLOSE.KEEP: close without conversion. -/
def Core.gcloseKeep (e : Env) (arr : Arr) (g : Nat) (c : Core) : CRes :=
  if (c.group g).st != .opened then e.done c [.fault 0x1103]
  else c.issue e { arrays := [arr] } fun c => e.done (c.setGroup g { c.group g with st := .closed })

/-- The rounding of a conversion: SR where the field says so or the tensor is a gradient, G16 always (R90). -/
def convRnd (t : FmtInfo) (grad sr : Bool) (k : NoiseKey) (idx : Nat) : Rnd :=
  if t.g16 || grad || sr then .sr (k.at (idx / 128) (idx % 128)) else .rne

/-- What one converted tile does to the stamp history of its tensor (R94). -/
def stampMeet (x : StampEnt) (o : TileOut) : StampEnt :=
  if o.any then { x with curMax := max x.curMax o.maxBf, touched := true } else x

/-- Convert one tile under a tensor id (R90–R99, R104–R106): the tile as written, the tensor's entry after it, and its events. Under an
id that is not VALID it is written at stamp 0, by one pass, all poisoned (R99). -/
def convertOne (t : FmtInfo) (x : StampEnt) (sr : Bool) (k : NoiseKey) (i : TileIn) : TileOut × StampEnt × List Ev :=
  if t.hasScale then
    if x.valid then
      let o := convertTile t i (convRnd t x.grad sr k) (passStamps t x.stamp)
      let ev := (if o.passes = 0 then [] else [Ev.count Reg.FMT_OVF_CNT o.passes]) ++
        (if o.exhausted then Ev.fault 0x1202 :: (if x.grad then [Ev.dirty 0x1202] else []) else [])
      (o, stampMeet x o, ev)
    else
      let o := convertTile t i (convRnd t false sr k) [0]
      ({ o with poison := Array.replicate 128 true }, x, [.fault 0x1203] ++ (if x.grad then [Ev.dirty 0x1203] else []))
  else if x.valid then (convertPlain t i (convRnd t x.grad sr k), x, [])
  else ({ convertPlain t i (convRnd t false sr k) with poison := Array.replicate 128 true }, x, [.fault 0x1203] ++ (if x.grad then [Ev.dirty 0x1203] else []))

/-- The converted tile marks its destination dirty: a gradient tile with unconvertible elements or an exhausted overflow (R108). -/
def dirtyTile (t : FmtInfo) (x : StampEnt) (o : TileOut) : Bool := t.hasScale && x.valid && x.grad && (o.unconvertible || o.exhausted)

/-- The bytes `lo` to `hi` − 1 of a tile space cut at its units of poison: the unit's part, from and to. -/
def unitSpans (acc : Bool) (a n : Nat) : List (Nat × Nat) :=
  if n = 0 then []
  else
    let u := if acc then 512 else 64
    (List.range ((a + n - 1) / u + 1 - a / u)).map fun i => (max a ((a / u + i) * u), min (a + n) ((a / u + i + 1) * u))

/-- The writes of a converted tile at `a`, dense, or compressed where its tensor is carried (R82, R179), each with the destination row it
is complete with, and what it reports. A unit is poisoned where a poisoned row overlaps it (R107, R228). -/
def tileWrites (t : FmtInfo) (code tensor p : Nat) (acc : Bool) (a : Nat) (o : TileOut) : List (Nat × Write) × List Ev :=
  let w := 16 * t.width
  let rows := fun (off lo hi : Nat) => (List.range 128).any fun i => o.poison.getD i false && decide (off + i * w < hi) && decide (lo < off + (i + 1) * w)
  if polInStore p && !t.g16 && decide (t.width ≤ 16) then
    let d : DTile := { code := o.code, scale := o.scale, poison := o.poison }
    let z := compressTile t code tensor p d
    (((unitSpans acc a z.bytes.size).map fun s => (127, Write.bytes acc s.1 ((List.range (s.2 - s.1)).map fun k => z.bytes.getD (s.1 - a + k) 0#8)
        (z.dense && rows 16 (s.1 - a) (s.2 - a)))) ++ [(127, .carried acc a tensor)],
     (if z.drops = 0 then [] else [.count Reg.SPZ_DROP_CNT z.drops]) ++ (if z.asserted then [.count Reg.SPZ_DENSE_CNT 1, .fault 0x2001] else []))
  else
    let byte := fun k => if k < t.elemBytes then packedByte t.width (fun n => o.code.getD n 0) k else BitVec.ofNat 8 (o.scale.getD (k - t.elemBytes) 0)
    let last := fun k => if k < t.elemBytes then k / w else (k - t.elemBytes) / 4
    ((unitSpans acc a t.tileBytes).map fun s => (max (last (s.1 - a)) (last (s.2 - 1 - a)), Write.bytes acc s.1
        ((List.range (s.2 - s.1)).map fun k => byte (s.1 - a + k)) (decide (s.1 - a < t.elemBytes) && rows 0 (s.1 - a) (s.2 - a))), [])

/-- Write a converted tile. -/
def Core.putTile (c : Core) (t : FmtInfo) (code tensor p : Nat) (acc : Bool) (a : Nat) (o : TileOut) : Core × List Ev :=
  let (l, evs) := tileWrites t code tensor p acc a o
  (c.lands (l.map (·.2)), evs)

/-- An accumulator tile as conversion input; `tr` transposes it (R74, R103). -/
def Core.accTileIn (c : Core) (tile : Nat) (tr : Bool) : TileIn :=
  let rowP := fun r => Map.get false c.accPoison (tile * 128 + r)
  let any := (List.range 128).any rowP
  { v := (Array.range 16384).map fun k => f32 (if tr then c.accGet tile (k % 128) (k / 128) else c.accGet tile (k / 128) (k % 128))
    poison := (Array.range 128).map fun r => if tr then any else rowP r
    srcPoison := (Array.range 16384).map fun k => rowP (if tr then k % 128 else k / 128) }

/-- What a close leaves on its way: its writes with the cycles after issue at which they are seen, the tensor's entry, whether a tile is
dirty, its events, and the address each pass so far wrote to. -/
structure Closing where
  writes : List Flight
  stamp : StampEnt
  dirty : Bool := false
  evs : List Ev := []
  passes : List Nat := []

/-- Convert one tile of a close (R61, R74, R104): row r of the pass that stands is written 128 cycles a pass and r + 6 after issue. -/
def Core.closeTile (c : Core) (t : FmtInfo) (d : ArrDesc) (p : Nat) (k : NoiseKey) (acc : Bool) (x : Closing) (at' : Nat × Nat) : Closing :=
  let (o, st, ev1) := convertOne t x.stamp d.sr k (c.accTileIn at'.1 d.transposed)
  let dt := dirtyTile t x.stamp o
  let (l, ev2) := tileWrites t d.dfmt d.tensor p acc at'.2 o
  let t0 := 128 * (x.passes.length + o.passes) + 7
  { writes := x.writes ++ l.map (fun w => { due := t0 + w.1, runs := true, write := w.2 }) ++ [{ due := t0 + 127, runs := true, write := .dirty acc at'.2 dt }]
    stamp := st, dirty := x.dirty || dt, evs := x.evs ++ ev1 ++ ev2, passes := x.passes ++ List.replicate (1 + o.passes) at'.2 }

/-- Convert the tiles of a close, in ascending order (R74). -/
def Core.closePlan (c : Core) (t : FmtInfo) (d : ArrDesc) (p : Nat) (k : NoiseKey) (acc : Bool) (tiles : List (Nat × Nat)) (x : StampEnt) : Closing :=
  tiles.foldl (c.closeTile t d p k acc) { writes := [], stamp := x }

/-- GCLOSE (R61, R70, R72–R74, R98): convert the group's tiles into the destination; the group is CLOSING until the last row is written. -/
def Core.gclose (e : Env) (t : FmtInfo) (arr : Arr) (d : ArrDesc) (x : W64) (g : Nat) (c : Core) : CRes :=
  if (c.group g).st != .opened then e.done c [.fault 0x1103]
  else
    let p := e.policy d.tensor
    let n := (c.group g).count
    match effAddr d.dst x with
    | none => e.done c [.fault 0x1302]
    | some a =>
      let as := tileAddrs a d.stride n
      let size := tileSize t p
      if !tilesFit a.1 as size then e.done c [.fault 0x1302]
      else
        let x0 := Map.get {} e.stamps d.tensor
        if (t.hasScale || d.sr || (x0.valid && x0.grad)) && e.updating then { core := c, stamps := e.stamps, stalled := some 11 }
        else
        let dest := as.map fun o => tileUnits a.1 o size
        c.issue e { units := [converterOf arr], arrays := [arr], reads := [(1, (c.group g).first, n)], writes := dest, lasts := 128 * n } fun c =>
          let z := c.closePlan t d p (c.noise e d.tensor d.xb) a.1 ((List.range n).map fun i => ((c.group g).first + i, as.getD i 0)) x0
          let c' := c.lands (z.writes.map (·.write))
          let c' := c'.usePorts e a.1 true true 6 ((List.range (128 * z.passes.length)).map fun q =>
            banksOfAll (lineBytes t p false (z.passes.getD (q / 128) 0) (q % 128)))
          { core := c'.setGroup g { c.group g with st := .closing, dest := dest, ends := c.run + 128 * z.passes.length + 6 }
            stamps := Map.set {} e.stamps d.tensor z.stamp
            evs := z.evs ++ (if z.dirty then [.fault 0x1204] else [])
            flights := z.writes, more := 128 * (z.passes.length - n) }

/-- The last row of a close is written: the group becomes CLOSED (R69). -/
def Core.gcloseComplete (c : Core) (g : Nat) : Core :=
  if (c.group g).st = .closing then c.setGroup g { c.group g with st := .closed, dest := [], ends := 0 } else c

end Sys2Proof.Machine
end

