-- ==== Sys2Proof/Machine/FaultTable.lean ====
section
/-!
DEFINITION. Every fault code of the spec's fault tables (R42, R77, R113, R143, R169, R196, R227, R255, R285, R318, R344, R379, R417,
R441, R468, R501, R532): its severity (R7) and the bits of its block's status registers that it sets (R8).
-/
namespace Sys2Proof

/-- A fault: code, severity, and the status bits it sets, each a register (instance 0) and a bit. -/
structure FaultRow where
  code : Nat
  sev : Sev
  bits : List (Nat × Nat) := []
deriving DecidableEq, Repr

def faultRows0 : List FaultRow := [
  ⟨0x1101, .notice, [(Reg.ARR_STAT, 15)]⟩,
  ⟨0x1102, .notice, [(Reg.ARR_STAT, 16)]⟩,
  ⟨0x1103, .park, [(Reg.ARR_STAT, 17)]⟩,
  ⟨0x1104, .park, [(Reg.ARR_STAT, 18)]⟩,
  ⟨0x1105, .park, [(Reg.ARR_STAT, 19)]⟩,
  ⟨0x1106, .park, [(Reg.ARR_STAT, 20)]⟩,
  ⟨0x1201, .notice, [(Reg.FMT_STAT, 14)]⟩,
  ⟨0x1202, .notice, [(Reg.FMT_STAT, 15)]⟩,
  ⟨0x1203, .park, [(Reg.FMT_STAT, 16)]⟩,
  ⟨0x1204, .notice, [(Reg.FMT_STAT, 17)]⟩,
  ⟨0x1205, .notice, [(Reg.FMT_STAT, 18)]⟩,
  ⟨0x1206, .park, [(Reg.FMT_STAT, 19)]⟩,
  ⟨0x1301, .park, [(Reg.CORE_STAT, 16)]⟩,
  ⟨0x1302, .park, [(Reg.CORE_STAT, 17)]⟩,
  ⟨0x1303, .park, [(Reg.CORE_STAT, 18)]⟩,
  ⟨0x1304, .notice, [(Reg.VEC_STAT, 17)]⟩,
  ⟨0x1305, .park, [(Reg.CORE_STAT, 19)]⟩,
  ⟨0x1306, .notice, [(Reg.VEC_STAT, 18)]⟩,
  ⟨0x2001, .notice, [(Reg.SPZ_STAT, 16)]⟩,
  ⟨0x2002, .notice, [(Reg.SPZ_STAT, 17)]⟩,
  ⟨0x2003, .notice, [(Reg.SPZ_STAT, 18)]⟩,
  ⟨0x2004, .notice, [(Reg.SPZ_STAT, 19)]⟩,
  ⟨0x2005, .notice, [(Reg.SPZ_STAT, 20)]⟩,
  ⟨0x3001, .notice, [(Reg.SO_STAT, 15)]⟩,
  ⟨0x3002, .notice, [(Reg.SO_STAT, 16)]⟩,
  ⟨0x3003, .notice, [(Reg.SO_STAT, 17)]⟩,
  ⟨0x3004, .park, [(Reg.SO_STAT, 18)]⟩,
  ⟨0x3005, .park, [(Reg.SO_STAT, 19)]⟩,
  ⟨0x3006, .park, [(Reg.SO_STAT, 20)]⟩,
  ⟨0x3007, .park, [(Reg.SO_STAT, 21)]⟩]

def faultRows1 : List FaultRow := [
  ⟨0x3008, .notice, [(Reg.SO_STAT, 22)]⟩,
  ⟨0x3009, .notice, [(Reg.SO_STAT, 23)]⟩,
  ⟨0x4101, .notice, [(Reg.TS_STAT, 16)]⟩,
  ⟨0x4102, .notice, [(Reg.TS_STAT, 18)]⟩,
  ⟨0x4103, .park, [(Reg.TS_STAT, 19)]⟩,
  ⟨0x4104, .notice, [(Reg.TS_STAT, 17)]⟩,
  ⟨0x4201, .park, [(Reg.COUR_STAT, 16)]⟩,
  ⟨0x4301, .notice, [(Reg.BOND_STAT, 15)]⟩,
  ⟨0x4302, .park, [(Reg.BOND_STAT, 16)]⟩,
  ⟨0x4303, .park, [(Reg.BOND_STAT, 17)]⟩,
  ⟨0x4304, .notice, [(Reg.BOND_STAT, 18)]⟩,
  ⟨0x4305, .notice, [(Reg.BOND_STAT, 19)]⟩,
  ⟨0x4401, .park, [(Reg.RDU_STAT, 16)]⟩,
  ⟨0x4402, .notice, [(Reg.RDU_STAT, 17)]⟩,
  ⟨0x4403, .notice, [(Reg.RDU_STAT, 18)]⟩,
  ⟨0x4404, .notice, [(Reg.RDU_STAT, 19)]⟩,
  ⟨0x4501, .notice, [(Reg.RES_STAT, 21)]⟩,
  ⟨0x4502, .notice, [(Reg.RES_STAT, 22)]⟩,
  ⟨0x5001, .notice, [(Reg.PGN_STAT, 16)]⟩,
  ⟨0x5002, .notice, [(Reg.PGN_STAT, 17)]⟩,
  ⟨0x5003, .notice, [(Reg.PGN_STAT, 18)]⟩,
  ⟨0x5004, .park, [(Reg.PGN_STAT, 19)]⟩,
  ⟨0x5005, .park, [(Reg.PGN_STAT, 20)]⟩,
  ⟨0x5006, .notice, [(Reg.PGN_STAT, 21)]⟩,
  ⟨0x6001, .notice, []⟩,
  ⟨0x6002, .park, []⟩,
  ⟨0x6003, .stop, []⟩,
  ⟨0x6101, .notice, [(Reg.PORT_STAT, 19)]⟩,
  ⟨0x6102, .park, [(Reg.PORT_STAT, 20)]⟩,
  ⟨0x6103, .notice, [(Reg.PORT_STAT, 18)]⟩]

def faultRows2 : List FaultRow := [
  ⟨0x6104, .notice, [(Reg.PORT_STAT, 21)]⟩,
  ⟨0x6201, .notice, [(Reg.POST_STAT, 17)]⟩,
  ⟨0x6202, .notice, [(Reg.POST_STAT, 18)]⟩,
  ⟨0x6203, .notice, [(Reg.POST_STAT, 19)]⟩,
  ⟨0x6204, .park, [(Reg.POST_STAT, 20)]⟩,
  ⟨0x6205, .hold, [(Reg.PORT_STAT, 22), (Reg.POST_STAT, 21)]⟩,
  ⟨0x6206, .notice, [(Reg.POST_STAT, 22)]⟩,
  ⟨0x6301, .park, [(Reg.RMT_STAT, 15)]⟩,
  ⟨0x6302, .hold, [(Reg.RMT_STAT, 16)]⟩,
  ⟨0x6303, .park, [(Reg.RMT_STAT, 17)]⟩,
  ⟨0x6304, .park, [(Reg.RMT_STAT, 18)]⟩,
  ⟨0x6305, .notice, [(Reg.RMT_STAT, 19)]⟩,
  ⟨0x6306, .notice, [(Reg.RMT_STAT, 20)]⟩,
  ⟨0x6307, .notice, [(Reg.RMT_STAT, 21)]⟩,
  ⟨0x6308, .notice, [(Reg.RMT_STAT, 22)]⟩,
  ⟨0x7001, .notice, []⟩,
  ⟨0x7002, .notice, []⟩,
  ⟨0x7003, .stop, [(Reg.TIME_DPLL_STAT, 20)]⟩,
  ⟨0x7004, .hold, [(Reg.TIME_DPLL_STAT, 19)]⟩,
  ⟨0x7005, .stop, []⟩,
  ⟨0x7101, .notice, []⟩,
  ⟨0x7102, .notice, []⟩,
  ⟨0x7103, .notice, []⟩,
  ⟨0x7104, .notice, []⟩,
  ⟨0x7201, .park, [(Reg.RDU_MBAG_STAT, 17)]⟩,
  ⟨0x7202, .park, [(Reg.RDU_MBAG_STAT, 18)]⟩,
  ⟨0x7203, .stop, []⟩,
  ⟨0x7301, .hold, [(Reg.DOM_STAT, 15)]⟩,
  ⟨0x7302, .park, [(Reg.DOM_STAT, 16)]⟩,
  ⟨0x7303, .park, [(Reg.DOM_STAT, 17)]⟩]

def faultRows3 : List FaultRow := [
  ⟨0x7304, .park, [(Reg.DOM_STAT, 18)]⟩,
  ⟨0x7305, .notice, [(Reg.DOM_STAT, 19)]⟩,
  ⟨0x7306, .notice, [(Reg.DOM_STAT, 19)]⟩,
  ⟨0x7307, .park, [(Reg.DOM_STAT, 20)]⟩,
  ⟨0x7308, .park, [(Reg.DOM_STAT, 21)]⟩,
  ⟨0x7309, .notice, [(Reg.DOM_STAT, 22)]⟩,
  ⟨0x730A, .notice, [(Reg.DOM_STAT, 23)]⟩,
  ⟨0x7401, .notice, [(Reg.RES_STAT, 13)]⟩,
  ⟨0x7402, .notice, [(Reg.RES_STAT, 14)]⟩,
  ⟨0x7403, .park, [(Reg.RES_STAT, 15)]⟩,
  ⟨0x7404, .notice, [(Reg.RES_STAT, 16)]⟩,
  ⟨0x7405, .notice, [(Reg.RES_STAT, 17)]⟩,
  ⟨0x7406, .park, [(Reg.RES_STAT, 18)]⟩,
  ⟨0x7407, .park, [(Reg.RES_STAT, 19)]⟩,
  ⟨0x7408, .notice, [(Reg.HLT_STAT, 16)]⟩,
  ⟨0x7409, .notice, [(Reg.RES_STAT, 20)]⟩,
  ⟨0x8001, .notice, [(Reg.FW_STAT, 12)]⟩,
  ⟨0x8002, .notice, [(Reg.FW_STAT, 12)]⟩,
  ⟨0x8003, .notice, [(Reg.FW_STAT, 12)]⟩,
  ⟨0x8004, .notice, [(Reg.FW_STAT, 12)]⟩,
  ⟨0x8005, .park, [(Reg.FW_STAT, 13)]⟩,
  ⟨0x8006, .park, [(Reg.FW_STAT, 14)]⟩,
  ⟨0x8007, .notice, [(Reg.FW_STAT, 15)]⟩,
  ⟨0x8008, .stop, [(Reg.FW_STAT, 16)]⟩,
  ⟨0x8009, .park, [(Reg.FW_STAT, 17)]⟩,
  ⟨0x800A, .stop, [(Reg.FW_STAT, 18)]⟩,
  ⟨0x800B, .park, [(Reg.FW_STAT, 19)]⟩,
  ⟨0x800C, .park, [(Reg.FW_STAT, 20)]⟩,
  ⟨0x800D, .notice, [(Reg.FW_STAT, 21)]⟩,
  ⟨0x9101, .hold, [(Reg.PWR_STAT, 16)]⟩]

def faultRows4 : List FaultRow := [
  ⟨0x9102, .notice, [(Reg.PWR_STAT, 17)]⟩,
  ⟨0x9103, .stop, []⟩,
  ⟨0x9104, .stop, [(Reg.PWR_STAT, 18)]⟩,
  ⟨0x9201, .park, [(Reg.RES_STAT, 23)]⟩,
  ⟨0x9301, .hold, [(Reg.THM_STAT, 16)]⟩,
  ⟨0x9302, .hold, [(Reg.THM_STAT, 17)]⟩,
  ⟨0x9303, .stop, [(Reg.THM_STAT, 18)]⟩,
  ⟨0x9304, .stop, [(Reg.THM_STAT, 19)]⟩,
  ⟨0x9305, .park, [(Reg.THM_STAT, 20)]⟩,
  ⟨0xA001, .notice, []⟩,
  ⟨0xA002, .notice, []⟩,
  ⟨0xA003, .notice, [(Reg.BOOT_STAT, 17)]⟩,
  ⟨0xA004, .notice, [(Reg.SEC_STAT, 18)]⟩,
  ⟨0xA005, .notice, [(Reg.SEC_STAT, 19)]⟩,
  ⟨0xA006, .stop, [(Reg.BOOT_STAT, 18)]⟩,
  ⟨0xA007, .notice, [(Reg.SEC_STAT, 20)]⟩,
  ⟨0xA008, .notice, []⟩,
  ⟨0xA009, .notice, []⟩,
  ⟨0xB101, .notice, [(Reg.FW_STAT, 22)]⟩,
  ⟨0xB102, .park, [(Reg.FW_STAT, 23)]⟩,
  ⟨0xB201, .notice, [(Reg.MBX_STAT, 17)]⟩,
  ⟨0xB202, .notice, [(Reg.MBX_STAT, 18)]⟩,
  ⟨0xB203, .notice, [(Reg.MBX_STAT, 16)]⟩,
  ⟨0xB301, .notice, [(Reg.HOST_STAT, 19)]⟩,
  ⟨0xB302, .notice, []⟩,
  ⟨0xB303, .notice, [(Reg.HOST_STAT, 22)]⟩,
  ⟨0xB304, .notice, [(Reg.HOST_STAT, 21)]⟩]

/-- The fault tables together, in ascending code. -/
def faultRows : List FaultRow := faultRows0 ++ faultRows1 ++ faultRows2 ++ faultRows3 ++ faultRows4

/-- The row of a code. -/
def faultRow (code : Nat) : FaultRow := (faultRows.find? fun r => r.code == code).getD ⟨code, .notice, []⟩

/-- Severity of a code (R7). -/
def faultSev (code : Nat) : Sev := (faultRow code).sev

end Sys2Proof
end

