-- ==== Sys2Proof/Machine/Fabric.lean ====
section
/-!
DEFINITION. The parts of the state that belong to the ports, the post transport (ch. 10) and remote memory (ch. 11).
Plain data.
-/
namespace Sys2Proof.Machine

/-- A sequenced frame in the retransmit buffer (R305): the packet as sent, its CHECK, when it was first sent (R362), its retransmissions. -/
structure Sent where
  pkt : Packet
  check : Nat := 0
  sentAt : Nat
  tries : Nat := 0
deriving DecidableEq, Repr

/-- A transmit entry (R302, R307): next SEQ, class-3 SEQs sent, latest GRANT received, frames awaiting an ACK, and whether the
destination is marked unreachable (R306). `used` tells an entry that exists from the default. -/
structure TxEnt where
  used : Bool := false
  next : Nat := 0
  free : Nat := 0
  grant : Nat := 0
  unacked : List Sent := []
  unreachable : Bool := false
deriving DecidableEq, Repr

/-- A receive entry (R302, R304, R308): CUM, the accepted SEQs beyond it, packets accepted since the last ACK and when the
first of them came, the GRANT count, its value in the last CREDIT and when it first rose since. -/
structure RxEnt where
  used : Bool := false
  cum : Nat := 0
  ahead : List Nat := []
  since : Nat := 0
  firstAt : Option Nat := none
  grant : Nat := 0
  granted : Nat := 0
  riseAt : Option Nat := none
deriving DecidableEq, Repr

/-- A receipt (R334): keyed by source node and SEQ. -/
structure Receipt where
  src : Nat
  seq : Nat
  tag : Nat
  status : Nat
  op : Nat
  value : Option Nat                         -- previous value once the home has applied the operation
  bad : Bool := false                        -- that value is poisoned
  again : Nat := 0                           -- retries that came before it was known, each to be answered then (R335)
  lastUse : Nat
deriving DecidableEq, Repr

/-- One port (R286, R298–R309, R314). `link` is PORT.STAT.LINK: 0 disabled, 1 training, 2 UP, 3 DOWN, 4 FAILED. -/
structure Port where
  link : Nat := 0
  subUp : Nat := 0                           -- bit k: sub-port k is UP
  step : Nat := 0                            -- bring-up step in progress, 0 none (R314)
  retrain : Bool := false                    -- steps 3 to 5 after a loss (R315)
  lost : Bool := false                       -- the link was lost and is not UP again, and 0x6102 not yet raised (R315)
  nextSub : Nat := 0                         -- the sub-port the next packet goes to (R287)
  tx : Map TxEnt := []
  rx : Map RxEnt := []
  q7 : List Packet := []
  q6 : List Packet := []
  q3 : List Packet := []
  q1 : List Packet := []
  txTable : List (Nat × Nat) := []           -- START and BYTES of the transmit table (R298); empty: no table
  txPeriod : Nat := 0
  share : Nat := 0
  remainder : Int := 0                       -- allowance left in the current window (R300)
  window : Nat := 0                          -- entry of the current window
  slotSent : Nat := 0                        -- class-1 wire bytes sent in this 1,024-cycle slot (R299)
  paused3 : Bool := false                    -- class 3 is paused by the link partner (R309)
  xoff : Bool := false                       -- this port has sent XOFF for priority 3
  low : List Nat := []                       -- dies whose free-post pool fell below 32 free buffers and has not reached 64 (R309)
  receipts : List Receipt := []
  waiting : List Packet := []                -- accepted packets held until their release or claim (R355, R328)
  fences : List ((Nat × Nat) × List (Nat × Nat × Nat)) := []   -- HANDOVERs that wait, by source and SEQ, each with the packets of its region
                                             -- that were accepted before it and had not been applied: port, source and SEQ (R332)
  faultFrame : Map Nat := []                 -- frame + 1 in which each of 0x6201–0x6203 was last raised here (R296)
deriving DecidableEq, Repr

/-- A region-table entry (R321). -/
structure Region where
  flags : Nat := 0
  space : Nat := 0
  die : Nat := 0
  core : Nat := 0
  owner : Nat := 0
  job : Nat := 0
  base : Nat := 0
  length : Nat := 0
deriving DecidableEq, Repr

/-- Where the result of an outstanding request goes at the requester: bytes into a space of a core or die (LOAD), or a result
word of a core's scalar data memory (returning operation), with the claim of its CPOST and its posting core plus 1 (0: none). -/
structure ReqDest where
  load : Bool
  space : Nat
  core : Nat                                 -- global core, or die for bonded memory
  addr : Nat
  size : Nat
  claim : Nat := 0                           -- the claim it holds at its core
  poster : Nat := 0
  row : Nat := 0                             -- a LOAD: the row it belongs to, and the offset in it
  off : Nat := 0
  whole : Bool := false                      -- its row is expanded or transposed when it is whole (R180)
  mark : Nat := 0                            -- the tensor whose carried tile starts here, plus 1 (R180)
deriving DecidableEq, Repr

/-- An outstanding-request entry (R333): keyed by die × 4096 + entry. -/
structure Tag where
  used : Bool := false
  home : Nat := 0
  port : Nat := 0
  cls : Nat := 0
  seq : Nat := 0
  dest : ReqDest := { load := true, space := 0, core := 0, addr := 0, size := 0 }
deriving DecidableEq, Repr

end Sys2Proof.Machine
end

