-- ==== Sys2Proof/Machine/DieState.lean ====
section
/-!
DEFINITION. What each compute die and each cluster holds beside the cores: couriers, Sorting Office, pools, reduction units, mailbag
tables, channels of bonded memory (ch. 5–9). Plain data; the defaults are what reset leaves.
-/
namespace Sys2Proof.Machine

/-- A piece of a LOAD's row that is expanded or transposed when the row is whole (R180): its row and offset, its bytes with their poison, and
whether it came as a dead letter (1) or an error (2). -/
structure Piece where
  row : Nat
  off : Nat
  data : List (Byte × Bool)
  fate : Nat := 0
deriving DecidableEq, Repr

/-- A descriptor waiting in a courier's queue (R244): the descriptor's index, x[XA] of its CPOST, the posting core, the identity of
the claims its CPOST made, the release postmark of the use it took (R354), how many rows or requests of it are done and whether all requests
are sent, the buffer it was allocated (R253), the pieces of a LOAD so far, and the first address of it that was out of range (R258). -/
structure QEnt where
  desc : Nat
  off : Nat
  core : Nat
  ident : Nat
  rel : Nat := 0
  done : Nat := 0
  sent : Bool := false
  got : Option Nat := none
  parts : List Piece := []
  wrong : Option Nat := none
deriving DecidableEq, Repr

/-- A cluster (R240, R244): 512 descriptors of 64 bytes as numbers, four courier queues, BANK descriptors posted and not yet
applied (R232), and the couriers that have sent a dirty tile of a mailbag whose header is still to come (R152). -/
structure Cluster where
  desc : Map Nat := []
  queues : Map (List QEnt) := []
  banks : List QEnt := []
  bags : Map Bool := []
deriving DecidableEq, Repr

/-- A mailbag-table entry with its running state (R154). -/
structure MBag where
  flags : Nat := 0
  expect : Nat := 0
  region : Nat := 0
  length : Nat := 0
  record : Nat := 0
  received : Nat := 0
  nilCount : Nat := 0
  tokens : Nat := 0
  dirty : Bool := false
  complete : Bool := false
  step : Nat := 0
deriving DecidableEq, Repr

/-- A routing layer table entry (R201) with the lists its offsets name; `rest` are bytes 0x35–0x37. -/
structure Layer where
  flags : Nat := 0
  experts : Nat := 0
  k : Nat := 0
  loc : Nat := 0
  capacity : Nat := 0
  group : Nat := 0
  position : Nat := 0
  roundTokens : Nat := 0
  rowBytes : List Nat := []
  region : List Nat := []
  nodes : List Nat := []
  placement : List Nat := []
  portMask : Nat := 0
  window : Nat := 0
  rest : Nat := 0
deriving DecidableEq, Repr

/-- An ALLOC that waits on an empty pool (R250): the caller, the identity of its post (0: none), the scalar word of a core that takes the
address. -/
structure PoolWait where
  caller : Nat
  ident : Nat := 0
  res : Option (Nat × Nat) := none
deriving DecidableEq, Repr

/-- A pool (R246, R247, R249): `head` is 2^48 − 1 at the end of the list; `waiting` are the ALLOCs on an empty pool, oldest first. -/
structure Pool where
  valid : Bool := false
  cls : Nat := 0
  space : Nat := 0
  core : Nat := 0
  count : Nat := 0
  base : Nat := 0
  owners : Nat := 0
  head : Nat := 2 ^ 48 - 1
  free : Nat := 0
  quarantined : Bool := false
  waiting : List PoolWait := []
deriving DecidableEq, Repr

/-- An exact window (R276). -/
structure Window where
  base : Nat := 0
  tiles : Nat := 0
  scale : Int := 0
  valid : Bool := false
  clearOnRead : Bool := false
deriving DecidableEq, Repr

/-- A landing counter (R219, R220): its key, the bytes counted and the postmark of the latest, whether a packet of it went uncounted
(R221) and that was told, and the LAND waiting on it: X, the claimed range (space, global core, address, bytes) and the claim's
identity, with its layer entry and round (R226). -/
structure Landing where
  region : Nat
  pf : Nat
  bytes : Nat := 0
  last : Nat := 0
  lost : Bool := false
  told : Bool := false
  land : Option (Nat × (Nat × Nat × Nat × Nat) × Nat) := none
  layer : Nat := 0
  round : Nat := 0
deriving DecidableEq, Repr

/-- A choice of a round (R203). -/
structure Choice where
  token : Nat
  expert : Nat
  rank : Nat
  gate : Nat
  duplicate : Bool := false
  range : Bool := false
  poison : Bool := false
  pad : Bool := false
  counted : Bool := false
  cap : Bool := false
  admitted : Bool := false
  slot : Nat := 0
deriving DecidableEq, Repr

/-- An ADMIT between its count letters and its slot assignment (R208); `late` that its last count part came after P_C. -/
structure Round where
  desc : AdmitDesc
  pc : Nat
  live : Nat
  choices : List Choice
  step : Nat
  late : Bool := false
deriving DecidableEq, Repr

/-- A received part of a count letter (R207): the release postmark that tells its round, its header's fields and its counts. -/
structure CountPart where
  pc : Nat
  step : Nat
  pass : Nat
  layer : Nat
  part : Nat
  round : Nat
  source : Nat
  experts : Nat
  k : Nat
  parts : Nat
  live : Nat
  counts : List Nat
deriving DecidableEq, Repr

/-- What waits for the two engines of a Sorting Office (R198). -/
inductive SortJob where
  | admission (d : AdmitDesc)
  | scatter (d : ScatterDesc)
  | send (d : SendDesc)
  | land (d : LandDesc)
deriving DecidableEq, Repr

/-- A channel's reduction unit (R270): the operations that wait, each by the atoms it still has to be applied to, the atoms in the buffer, most
recently used first, each with whether it was modified, and the BOND cycles that the atom being read in still takes. -/
structure Rdu where
  queue : List (List Nat) := []
  atoms : List (Nat × Bool) := []
  left : Nat := 0
deriving DecidableEq, Repr

/-- A channel of bonded memory (R265, R266, R283): STATE, its error counts, and the uncorrectable units of the current second with
their times. `poison` marks one that lost its interface. -/
structure Chan where
  state : Nat := 0
  corr : Nat := 0
  uncorr : Nat := 0
  units : List (Nat × Nat) := []
  rdu : Rdu := {}
deriving DecidableEq, Repr

/-- A range of the protection table (R381). -/
structure PRange where
  kind : Nat
  die : Nat
  base0 : Nat
  base1 : Nat
  length : Nat
deriving DecidableEq, Repr

/-- The protection table (R381). -/
structure Protect where
  ranges : List PRange := []
  lossCore : Nat := 0
  lossAddr : Nat := 0
  block0 : Nat := 0
  block1 : Nat := 0
  reserve : List Nat := []
  cadence : Nat := 0
  pairs : List Nat := []
deriving DecidableEq, Repr

/-- A shape bucket (R372). -/
structure Bucket where
  tokens : Nat
  seqMax : Nat
  liveAddr : Nat
  entry : Nat
deriving DecidableEq, Repr

/-- The loaded schedule image, beside what it loads into cores, clusters, dies and ports (R139–R141, R351, R372, R381). -/
structure Image where
  loaded : Bool := false
  node : Nat := 0
  job : Nat := 0
  domainSize : Nat := 0
  minChannels : Nat := 0
  ident : Nat := 0
  at' : Nat := 0                             -- where it lies in bonded memory
  period : Nat := 0
  baseStep : Nat := 0
  buckets : List Bucket := []
  passMap : List Nat := []
  protect : Protect := {}
  segments : Map (Nat × Nat) := []           -- instruction-stream sections: address and bytes, by global core (R117)
  formats : List (Nat × Word) := []          -- the RWS format registers as the load left them (R111)
deriving DecidableEq, Repr

/-- A step report (R161): node, CLEAN and CAUSE. -/
structure Report where
  node : Nat
  clean : Bool
  cause : Nat
deriving DecidableEq, Repr

/-- The step boundary (R160–R165): the module's own report and the postmark it was formed at, the reports visible, the decision formed
and not yet applied, and the first fault that made the step dirty. `unmoved` is by how much holds of this step moved the release table past
a D that was at or before their F_stop and so stays where it is (R364). -/
structure StepSt where
  own : Option (Report × Nat) := none
  reports : List Report := []
  decision : Option Bool := none
  dirtyCause : Nat := 0
  bookkeeping : Bool := true                 -- the scheduler core can confirm the step's bookkeeping
  discarded : Bool := false                  -- the step was discarded by a park (R165)
  unmoved : Nat := 0
deriving DecidableEq, Repr

/-- A compute die. Maps are keyed by table index; `chans` by die-channel number; `holds` are ranges of the die's bonded memory claimed
against writers (R243), `locks` ranges claimed against readers (R193, R199), as claim identity, first die-local address and bytes;
`uncounted` are the landings a packet of which went uncounted (R221). -/
structure Die where
  stamps : Map StampEnt := []
  policy : Map Nat := []
  mbags : Map MBag := []
  layers : Map Layer := []
  pools : Map Pool := []
  windows : Map Window := []
  landings : List Landing := []
  rounds : List Round := []                  -- the ADMIT that waits for count letters
  admQ : List SortJob := []                  -- posted to the admission engine, oldest first
  parQ : List SortJob := []                  -- posted to the parcel engine
  chans : Map Chan := []
  order : List Nat := []                     -- die-channels in service, ascending, as the interleave of R257 was last built
  margin : Option (Nat × Nat × Nat) := none  -- a margin scan: channel, kind, range (R268)
  holds : List (Nat × Nat × Nat) := []
  locks : List (Nat × Nat × Nat) := []
  uncounted : List (Nat × Nat) := []
  roundOf : Map Nat := []                    -- the round that last used a state block, by STATE (R213, R226)
  choiceOf : Map Nat := []                   -- the choice record of the latest 0x3001, 0x3002 and 0x3003, by code (R203)
  gsum : W64 := 0#64                         -- the gradient sum (R384)
  hotWindow : Nat := 0                       -- the 1 µs window being counted (R340)
  hot : Map Nat := []                        -- operations per atom in it
  hotRaised : Bool := false
deriving DecidableEq, Repr

end Sys2Proof.Machine
end

