-- ==== Sys2Proof/Machine/Platform.lean ====
section
/-!
DEFINITION. The parts of the state that belong to the module as a whole: firmware processors and daybook (ch. 14), the
host interface (ch. 15), start-up and trust (ch. 16), supply, heat and sideband (ch. 17), time (ch. 1), the schedule
domain (ch. 12) and resilience (ch. 13). Plain data.
-/
namespace Sys2Proof.Machine

/-- A daybook record (R438); CHECK is computed when it is read. -/
structure DRec where
  seq : Nat
  postmark : Nat
  kind : Nat
  source : Nat
  fault : Nat
  severity : Nat
  state : Nat
  ident : Nat
  payload : List Byte
deriving DecidableEq, Repr

/-- What the module sends to the outside, newest first: frames of R290 (port, sub-port, packet), MSI-X vectors (R447), console
lines (R525), answers on the sideband (R526, R527), test data out (R524), neighbour and ARP answers (R288), PFC (R309), ESMC (R313),
ESMC (R313), writes into host memory (R396, R493) and PTP exchanges. -/
inductive Out where
  | frame (port sub : Nat) (p : Packet) (bytes : List Byte) (lanes : List (Nat × Bool))
  | msix (vector : Nat)
  | uart (code : Nat) (arg : Nat)
  | sideband (bytes : List Byte)
  | tdo (bits : List Bool)
  | neighbour (port sub : Nat) (solicited : Bool) (mac ip : Nat)
  | arp (port sub mac ip : Nat)
  | pfc (port : Nat) (xoff : Bool)
  | esmc (port ql : Nat)
  | hostWrite (addr : Nat) (bytes : List Byte)
  | pps
deriving DecidableEq, Repr

/-- Run states of a firmware processor, coded as `FW.PROC.STATE` (R440). -/
inductive ProcState where
  | stopped | running | restarting | heldStopped | standby
deriving DecidableEq, Repr

def ProcState.code : ProcState → Nat
  | .stopped => 0 | .running => 1 | .restarting => 2 | .heldStopped => 3 | .standby => 4

/-- One firmware processor (R418, R424, R440). `begun` are the times (in cycles of the model's clock) at which its latest
restarts began, newest first, which the storm rule of R427 reads; `overrun` that 0x8005 was raised for this restart;
`comp` the compartment being restarted, if one is (R421). -/
structure Proc where
  st : ProcState := .stopped
  restarts : Nat := 0
  cause : Nat := 0
  lastMs : Nat := 0
  begun : List Nat := []
  overrun : Bool := false
  comp : Option Nat := none
deriving DecidableEq, Repr

/-- A firmware image in a verified image cache (R422): its bytes and its stored measurement. -/
structure FwImage where
  bytes : List Byte := []
  digest : List Byte := []
deriving DecidableEq, Repr

/-- Firmware state (ch. 14). Processors are keyed by the SOURCE codes of R438, cache slots by
hub × 8 + kind × 2 + (0 current, 1 pending). -/
structure Fw where
  mod : Mod
  prev : Mod
  event : Nat
  h1Charge : Bool := false
  procs : Map Proc := []
  cache : Map FwImage := []
  update : Option (Nat × Nat) := none        -- an update in progress: post box slot and kind (R423)
  leaseSeq : Nat := 0                        -- sequence number of the latest lease word sent (R429)
  leaseSent : Option (Nat × Nat) := none     -- the word under way: sequence number and scheduler state
  leaseAck : Option Nat := none              -- an acknowledgment under way
  lastWord : Nat := 0                        -- when H1 last received a word
  h0SchLast : Nat := 0                       -- scheduler state in the last word received (FW.LEASE.H0_SCH)
  maxGap : Nat := 0
  haW : Bool := false                        -- H1 reads H0 alive (R22)
  haE : Bool := false                        -- H0 reads H1 alive
  expired : Bool := false
  unanswered : Bool := false
  daySeq : Nat := 0                          -- SEQ of the latest record (R438)
  day : Map (Option DRec) := []              -- the ring, by index
  faultQ0 : List DRec := []                  -- fault queue of H0's power core, oldest first (R527)
  faultQ1 : List DRec := []
  faultSeen : Nat := 0                       -- highest SEQ returned by GET_FAULTS
  hostTimer : Bool := false                  -- the host timer has started (R434)
  absent : Bool := false
  hostParkDue : Bool := false                -- R435: raise 0xB102 at the next applied decision
  turned : Option (Nat × Mod) := none        -- the cycle of the latest transition, and the state it left (R4)
deriving DecidableEq, Repr

/-- A MICROBATCH letter past its checks and its read (R463): its slot, STEP and PASS, the live word of R373, and the cores still to
receive it. -/
structure Micro where
  slot : Nat
  step : Nat
  pass : Nat
  word : Nat
  cores : List Nat
deriving DecidableEq, Repr

/-- The host interface (ch. 15). Slots are bytes: slot n occupies 2048 n … 2048 n + 2047 (R457). -/
structure HostIf where
  inbox : Map Byte := []
  outbox : Map Byte := []
  posted : List Nat := []                    -- inbound slots whose POSTED write took effect (R459)
  control : List Nat := []                   -- collected control letters not yet answered, in collection order (R461)
  runArmed : Option (Nat × Nat) := none      -- a RUN letter waiting for START: slot and START (R350)
  msixTable : Map Byte := []                 -- MSI-X table and pending bits (R445)
  micro : List Micro := []                   -- micro-batches whose data lies in place, their live words still to be written
  snapPending : Option (Nat × Nat) := none   -- a capture in progress and the postmark at its SNAP_SEL write (R41, R452)
  winRefusedFrame : Option Nat := none       -- frame in which 0xB302 was last raised (R446)
  slotWriteFrame : Option Nat := none        -- frame in which 0xB203 was last raised (R458)
  drainBufs : List (Nat × Nat) := []         -- buffers supplied for draining, in supply order (R462)
  drainCount : Nat := 0                      -- buffers used since the last negotiation, modulo 65,536
deriving DecidableEq, Repr

/-- Start-up and trust (ch. 16). -/
structure BootSt where
  coldPending : Bool := true                 -- the module passed through OFF since its previous BOOT (R469)
  endTimes : List Nat := []                  -- end times of phases in ms (R500)
  bootAt : Nat := 0                          -- when BOOT was entered
  cfgFlash : Map Byte := []                  -- the configuration flash; an unlisted byte reads 0xFF (erased)
  pufKey : Option (List Byte) := none        -- key K of R490
  idKey : Option (List Byte) := none         -- identity public key in force (R490)
  admitted : List (Nat × Nat × Bool) := []   -- admitted certificates: keystore index, depth below its anchor, owner anchor (R478)
  cause : Nat := 0                           -- fault code behind RECOVERY (R496)
  recover : Bool := false                    -- RECOVER as last written (R489)
  measure : Map (List Byte) := []            -- measurements of R492 by index
  versions : Map Nat := []                   -- and their VERSION values
  imageId : Nat := 0                         -- IMAGE_ID of the loaded schedule image, or 0
  regdefs : List (Nat × Nat) := []           -- REGDEFs of the record in use (R483)
  regdefDue : Bool := false                  -- to be applied in the first cycle of READY (R485)
  erased : List Nat := []                    -- recovery areas erased since their last COMMIT (R497)
  written : List (Nat × Nat × Nat) := []     -- ranges written since the ERASE: area, offset, length
  repairQueue : List (List Byte) := []       -- repair-table entries waiting for SEC (R487)
  lanes : Map Nat := []                      -- lane-map bytes in force (R483)
  eq : Map Nat := []                         -- equalisation presets in force (R483)
  stopFault : Nat := 0                       -- the stop fault behind the FENCED state (BOOT.CAUSE)
  bridge : List (Nat × Nat × Nat) := []      -- bridge lanes replaced by a spare: link, lane, spare (R21)
deriving DecidableEq, Repr

/-- Supply, heat, pins and sideband (ch. 17). -/
structure Pwr where
  switch : Bool := true                      -- the input switch is closed (R503)
  ramping : Bool := false
  latched : Bool := false                    -- a latched trip stands (R505)
  warn : Bool := false                       -- a supply warning is in force (R504)
  warnAt : Nat := 0
  guard : Bool := false                      -- the flash guard is in force (R508)
  half : Bool := false                       -- the half brake is applied (R507)
  tempWarn : Bool := false                   -- a temperature warning has not cleared (R515)
  tempBrake : Bool := false                  -- the full brake of a temperature limit (R517)
  supplyParked : Bool := false               -- 0x9201 was raised for this warning
  resetLow : Bool := false                   -- RESET_N counts as low (R521)
  railsGood : Bool := true                   -- every rail is in regulation (R522)
  dieRails : Bool := false                   -- the compute-die rails are on (R470, R522)
  smbAddr : Nat := 0                         -- SMB_ADDR straps (R520)
  eid : Nat := 0                             -- MCTP endpoint ID (R526)
  tapIr : Nat := 1                           -- test access port: 0 BYPASS, 1 IDCODE, 2 SAMPLE/PRELOAD, 3 EXTEST (R524)
  tapPreload : List (Pin × Bool) := []       -- boundary register update stage
  tapSample : List (Pin × Bool) := []        -- boundary register capture stage
  deadSensors : List (Nat × Nat) := []       -- sensors out of service: die 0–5 or 6 + stack, and the sensor's number there (R518)
  stackTemp : Map Nat := []                  -- latest stack temperatures, 0.1 °C (R531)
  dieTemp : Map Nat := []                    -- latest hottest junction of each die
deriving DecidableEq, Repr

/-- Time (ch. 1): the postmark masters and copies, and what the DPLLs need beyond the TIME registers. -/
structure Time where
  pm : Nat := 0                              -- the postmark of the hub in charge (R35)
  skew : Map Nat := []                       -- how far copy k (0–3 dies, 4–5 hubs) stands off it, modulo 2^64 (R36)
  sched : Nat := 0                           -- schedule time τ (R297)
  runAt : Nat := 0                           -- when the image run began: the rotation of threads 1–3 counts from there (R134)
  present : List Nat := []                   -- reference codes present (R30)
  dpllWrites : List (Nat × Word) := []       -- DPLL writes waiting for the next frame boundary
  phaseBad : Nat := 0                        -- consecutive measurements beyond ±4 ns (R34)
  phaseGood : Nat := 0                       -- consecutive measurements within ±4 ns (R346, R362)
  presentAt : Map Nat := []                  -- since when each reference code has been present (R31)
  lossSwitch : Bool := false                 -- HOLDOVER was entered by the loss of the reference (R31, R42)
  esmc : Map Nat := []                       -- quality level received on each port (R313)
deriving DecidableEq, Repr

/-- A hold (R358–R366). -/
structure Hold where
  stop : Nat                                 -- the earliest STOP seen (R359)
  seq : Nat
  causes : List Nat                          -- causes not yet cleared (R362); 0 is the host's request
  ready : Bool := false                      -- this member has sent its RESUME
  ats : Map Nat := []                        -- AT of each member's RESUME, by member index, plus 1
  res : Option Nat := none                   -- F_res once agreed (R363)
  lateStop : Bool := false                   -- entered after STOP had passed (R360)
  lateRes : Bool := false                    -- agreed after F_res had passed (R363)
deriving DecidableEq, Repr

/-- Least and greatest latencies to one member, in ps, and probes answered (R348). -/
structure Latency where
  fmin : Nat := 0
  fmax : Nat := 0
  rmin : Nat := 0
  rmax : Nat := 0
  answered : Nat := 0
deriving DecidableEq, Repr

/-- The schedule domain (ch. 12). -/
structure Dom where
  joined : Bool := false
  joinStep : Nat := 0                        -- 0 idle, else the step of R346 in progress
  joinSlot : Option Nat := none
  epoch : Nat := 0
  syncE : Nat := 0
  members : List Nat := []
  pmLoaded : Bool := false                   -- the postmark was loaded in step 3 (R347)
  probesSent : Nat := 0                      -- probes sent in step 4 (R348)
  lat : Map Latency := []
  hold : Option Hold := none
  holdsDone : Nat := 0                       -- holds completed since the run began
  fstop : Nat := 0                           -- F_stop and F_res of the latest hold, and total H (R378)
  fres : Nat := 0
  totalH : Nat := 0
  hostHold : Bool := false
  heldAt : Nat := 0                          -- when HELD was entered
  levels : Map Nat := []                     -- level and WEAR of each member: level + 4 × WEAR (R400)
  riskWait : List (Nat × Nat × Nat) := []    -- RISK letters waiting for their release: postmark, member, level + 4 × WEAR
  parkLetters : Map Nat := []                -- members whose RISK letter with PARK was accepted: CUT + 1 (R402, R403)
  postponed : List Nat := []                 -- causes that arose after a resume was agreed (R365)
deriving DecidableEq, Repr

/-- A state set of R386 in a tier: its bytes and their poison (by 64-byte unit) by set offset, header, record page and segment table
included. `bad` tells that an uncorrectable flash error made it fail its checks (R395). `drainOff` is how far a drain of it has come. -/
structure SetRec where
  data : Map Byte := []
  poison : Map Bool := []
  bad : Bool := false
  draining : Bool := false
  drainOff : Nat := 0
  drained : Bool := false
deriving DecidableEq, Repr

/-- A transfer of a set: to the partner (mirror) or to flash (snapshot). -/
structure SetJob where
  boundary : Nat
  slot : Nat := 0
  set : SetRec                               -- the set as it will stand when COMPLETE
  record : Option (List Byte) := none        -- a record page formed meanwhile (R388)
  sent : List (Nat × Nat) := []              -- packets of a mirror not yet acknowledged: port and SEQ
deriving DecidableEq, Repr

/-- Resilience (ch. 13). -/
structure Res where
  mirror : Option SetJob := none
  snap : Option SetJob := none
  mirrorDue : Bool := false                  -- the boundary just made is due (R389)
  snapDue : Bool := false
  slots : Map SetRec := []                   -- the four flash slots (R393)
  partner : SetRec := {}                     -- this module's set at its partner, as last seen (R414)
  lastRecord : Option (List Byte) := none    -- the record formed at the last decision (R385), as the first 64 bytes of its page
  proofRecord : Option (List Byte) := none   -- the restored set's record, to be compared (R407)
  verifying : Bool := false                  -- a restore without a record runs: the next decision shows VERIFIED (R407)
  restart : Option Nat := none               -- RESTART postmark of the restore (R404)
  restoring : Option Nat := none             -- the slot of the RESTORE letter in progress
  parking : Option (Nat × Option Nat) := none -- a park under way: cause and cut once settled (R402)
  cutMapOut : Bool := false                  -- a channel was mapped out since the cut (R267)
  tornRestore : Bool := false                -- a restore stopped on a digest mismatch (R405)
  wearDay : List (Nat × Nat) := []           -- bytes written to the flash: time and count (R395)
  wearFlag : Bool := false
  wearTotal : Nat := 0                       -- bytes written since manufacture
  grownBad : Nat := 0                        -- retired blocks
  fillSlot : Option (Nat × Nat) := none      -- a fill under way: flash slot and next set offset (R462)
  drainParts : List (Nat × Nat × Bool) := [] -- parts awaiting the host's answer: outbound slot, flash slot, LAST
deriving DecidableEq, Repr

/-- The health monitor (R397–R399). Curve points are keyed input × 8 + point, windows by input. -/
structure Hlt where
  curveX : Map Nat := []
  curveY : Map Nat := []
  window : Map Nat := []
  tally : Map Nat := []                      -- counts of the period in progress, by input
  hist : Map (List Nat) := []                -- per-period values, newest first, by input
  values : Map Nat := []                     -- input values and points of the last evaluation (R416)
  points : Map Nat := []
  lastSent : Option (Nat × Bool) := none     -- level and WEAR of the last RISK letter
  sinceLetter : Nat := 0                     -- periods since it
  wasImminent : Bool := false
  due : Bool := false                        -- the boundary just passed asks for an evaluation (R38, R397)
deriving DecidableEq, Repr

/-! The health monitor's default curves and windows (R397). -/

/-- X_lo, X_hi, Y_max and WINDOW of an input. -/
def hltDefault (i : Nat) : Nat × Nat × Nat × Nat :=
  [(16, 1024, 64, 537), (0, 8, 128, 32188), (20, 32, 64, 1), (0, 8, 96, 32188), (64, 65535, 48, 1), (850, 1000, 128, 1),
   (5, 100, 96, 537), (800, 950, 128, 1), (200, 1000, 64, 1), (0, 4, 160, 32188), (0, 8, 96, 32188), (0, 8, 64, 64376),
   (0, 64, 64, 537), (1000, 4000, 64, 1), (64, 255, 64, 1), (0, 16, 64, 64376)].getD i (0, 0, 0, 1)

def defaultX (k : Nat) : Nat := let (lo, hi, _, _) := hltDefault (k / 8); lo + k % 8 * (hi - lo) / 7
def defaultY (k : Nat) : Nat := let (_, _, y, _) := hltDefault (k / 8); k % 8 * y / 7
def defaultWindow (i : Nat) : Nat := let (_, _, _, w) := hltDefault i; w

def Hlt.initial : Hlt :=
  { curveX := Map.tab 0 128 defaultX, curveY := Map.tab 0 128 defaultY, window := Map.tab 0 16 defaultWindow }

end Sys2Proof.Machine
end

