-- ==== Sys2Proof/Machine/State.lean ====
section
/-!
DEFINITION. The state of the module as plain data, the reasons a command can stop, and the state right after reset.
-/
namespace Sys2Proof.Machine

/-- Reasons the block stops with a fault. The spec stops a Z740 by no command: every fault of its fault tables is an effect on the
state, so this type has no constructor (safe: no command can end in one). -/
inductive Fault where
deriving DecidableEq, Repr

/-- Reasons a command is refused. -/
inductive Refusal where
  /-- A command whose meaning is not modelled, by mnemonic. Raised by no arm of a complete table. Safe. -/
  | notModelled (mnemonic : String)
  /-- An instruction form that the image check refuses at load, so that no core ever issues it (R83, R122, R125, R129, R130, R132, R136,
  R137): raised by the meanings of core instructions whose operands spell such a form. Safe: the hardware never runs it. -/
  | illFormed (mnemonic : String)
deriving DecidableEq, Repr

/-- The module. Sparse maps are in the canonical form of `Map.wf`.

* `regs`: the 32-bit registers by BAR0 offset, an unlisted one at 0; `seqOf`: for each sequence-clear bit, the SEQ its register took
  when the bit was last set, keyed offset × 32 + bit (R451).
* `bond`: bonded memory, a byte at global channel × 2^30 + offset in the channel (R257); `bondPoison` by 64-byte unit; `bondMarks`: dirty tiles
  (R108) by the bonded-memory address of their first byte.
* `cores`, `clusters`, `dies`, `ports`, `regions`, `tags`: by global number; tags by die × 4,096 + entry.
* `inBundle`: the core's own stream issues a bundle; `gather`: the faults raised so far in the cycle being worked out, as code, instance
  and identity (R8).
* `waiting`: instructions of a stalled core, in the order they came. `counts`: count-letter parts received and not yet used (R208).
* `freeIx`: the model's own counter of free values drawn.
* `pending`: the commands waiting, first in, first out. -/
structure State where
  pending : List Instr := []
  now : Nat := 0
  freeIx : Nat := 0
  regs : Map Word := []
  seqOf : Map Nat := []
  bond : List Host.Cell := []
  bondPoison : Map Bool := []
  bondMarks : Map Bool := []
  cores : Map Core := []
  clusters : Map Cluster := []
  dies : Map Die := []
  ports : Map Port := []
  regions : Map Region := []
  tags : Map Tag := []
  waiting : Map (List Instr) := []
  inBundle : Bool := false
  gather : Option (List (Nat × Nat × Nat)) := none
  posts : Nat := 0
  counts : List CountPart := []
  image : Image := {}
  stepSt : StepSt := {}
  fw : Fw
  host : HostIf := {}
  boot : BootSt := {}
  pwr : Pwr := {}
  time : Time := {}
  dom : Dom := {}
  res : Res := {}
  hlt : Hlt := {}
  out : List Out := []
deriving DecidableEq, Repr

/-- The module right after its first reset: BOOT has just been entered from STANDBY (event 0x02), cold and in phase 1, with SEC running
from its boot ROM on H0 and standing by on H1 (R440, R469, R470); the input is valid and nothing else has happened yet. -/
def State.reset : State :=
  { regs := Reg.resetMap
    fw := { mod := .boot, prev := .standby, event := 0x02, procs := [(0, { st := .running }), (4, { st := .standby })] }
    boot := { coldPending := false, regdefDue := true }
    hlt := Hlt.initial }

end Sys2Proof.Machine
end

