-- ==== Sys2Proof/Machine/Ops.lean ====
section
/-!
DEFINITION. The named operations over the whole module's state that every command uses: registers and their fields, status events
(R451), the parts held in maps, the daybook (R438), MSI-X vectors (R447) and post box slots (R457).
-/
namespace Sys2Proof.Machine

/-! Registers. -/

def State.reg (s : State) (off : Nat) : Nat := (Map.get 0#32 s.regs off).toNat
def State.setReg (s : State) (off v : Nat) : State := { s with regs := Map.set 0#32 s.regs off (BitVec.ofNat 32 v) }

/-- `v` with bits `hi` to `lo` replaced. -/
def putBits (v hi lo x : Nat) : Nat := v - bits v hi lo * 2 ^ lo + x % 2 ^ (hi + 1 - lo) * 2 ^ lo

def State.fld (s : State) (off hi lo : Nat) : Nat := bits (s.reg off) hi lo
def State.setFld (s : State) (off hi lo x : Nat) : State := s.setReg off (putBits (s.reg off) hi lo x)

/-- Raise a 32-bit counter, which saturates. -/
def State.count (s : State) (off : Nat) (n : Nat := 1) : State := s.setReg off (Nat.min (s.reg off + n) 0xFFFFFFFF)

/-- A 64-bit value held in two registers, the low word first. -/
def State.reg64 (s : State) (off : Nat) : Nat := s.reg off + 2 ^ 32 * s.reg (off + 4)
def State.setReg64 (s : State) (off v : Nat) : State := (s.setReg off (v % 2 ^ 32)).setReg (off + 4) (v / 2 ^ 32 % 2 ^ 32)
def State.count64 (s : State) (off : Nat) (n : Nat := 1) : State := s.setReg64 off ((s.reg64 off + n) % 2 ^ 64)

/-- An event of a status register: SEQ advances, the bit is set, and the SEQ it took is kept (R451). -/
def State.event (s : State) (off b : Nat) : State :=
  let q := (s.fld off 31 24 + 1) % 256
  let s := (s.setFld off 31 24 q).setFld off b b 1
  { s with seqOf := Map.set 0 s.seqOf (off * 32 + b) q }

/-! Parts held in maps. -/

def State.core (s : State) (g : Nat) : Core := Map.get {} s.cores g
def State.setCore (s : State) (g : Nat) (c : Core) : State := { s with cores := Map.set {} s.cores g c }
def State.onCore (s : State) (g : Nat) (f : Core → Core) : State := s.setCore g (f (s.core g))

def State.die (s : State) (d : Nat) : Die := Map.get {} s.dies d
def State.setDie (s : State) (d : Nat) (v : Die) : State := { s with dies := Map.set {} s.dies d v }
def State.onDie (s : State) (d : Nat) (f : Die → Die) : State := s.setDie d (f (s.die d))

def State.cluster (s : State) (n : Nat) : Cluster := Map.get {} s.clusters n
def State.setCluster (s : State) (n : Nat) (v : Cluster) : State := { s with clusters := Map.set {} s.clusters n v }

def State.port (s : State) (p : Nat) : Port := Map.get {} s.ports p
def State.setPort (s : State) (p : Nat) (v : Port) : State := { s with ports := Map.set {} s.ports p v }
def State.onPort (s : State) (p : Nat) (f : Port → Port) : State := s.setPort p (f (s.port p))

def State.region (s : State) (n : Nat) : Region := Map.get {} s.regions n
def State.tag (s : State) (d e : Nat) : Tag := Map.get {} s.tags (d * 4096 + e)
def State.setTag (s : State) (d e : Nat) (t : Tag) : State := { s with tags := Map.set {} s.tags (d * 4096 + e) t }

def State.proc (s : State) (p : Nat) : Proc := Map.get {} s.fw.procs p
def State.setProc (s : State) (p : Nat) (v : Proc) : State := { s with fw := { s.fw with procs := Map.set {} s.fw.procs p v } }

def State.emit (s : State) (o : Out) : State := { s with out := o :: s.out }

/-- A free value, and the state with the counter advanced. -/
def State.free (s : State) : W64 × State := (Config.freeValue s.freeIx, { s with freeIx := s.freeIx + 1 })

/-! Time. -/

def State.mod (s : State) : Mod := s.fw.mod
def State.pm (s : State) : Nat := s.time.pm
def State.frame (s : State) : Nat := s.time.pm / 65536
/-- The postmark of the boundary of frame `n`. -/
def boundary (n : Nat) : Nat := 65536 * n

/-- Cycles in a number of milliseconds (600,000 each) and of microseconds. -/
def ms (n : Nat) : Nat := 600000 * n
def us (n : Nat) : Nat := n * 600

/-- The hub in charge (R29, R430). -/
def State.hub (s : State) : Nat := if s.fw.h1Charge then 1 else 0
/-- Do packets at a port reach the hub in charge (R296)? -/
def State.inCharge (s : State) (port : Nat) : Bool := decide (port / 4 = s.hub)

/-- `FMT.STEP`, the 40-bit step counter (R103). -/
def State.step40 (s : State) : Nat := s.reg64 Reg.FMT_STEP_LO % 2 ^ 40
/-- `FMT.COMMITS`. -/
def State.commits (s : State) : Nat := s.reg64 Reg.FMT_COMMITS_LO
def State.node (s : State) : Nat := s.fld Reg.POST_NODE 15 0
def State.job (s : State) : Nat := s.fld Reg.POST_JOB 11 0

/-- The module runs: RUNNING, or HELD, where what a hold leaves going goes on. -/
def State.live (s : State) : Bool := s.mod == .running || s.mod == .held

/-! MSI-X vectors: a signal on the interface (R447). -/

def State.signal (s : State) (v : Nat) : State := s.emit (.msix v)

/-! The daybook (R438). -/

/-- SEQ in `FW.DAYBOOK_TAIL`, as the full number: the greatest not above HEAD with those low 32 bits. -/
def State.tailSeq (s : State) : Nat :=
  let back := (s.fw.daySeq + 2 ^ 32 - s.reg Reg.FW_DAYBOOK_TAIL % 2 ^ 32) % 2 ^ 32
  s.fw.daySeq - back

def State.dayAt (s : State) (i : Nat) : Option DRec := Map.get none s.fw.day i

/-- A fault queue keeps the 64 latest fault records (R527). -/
def keep64 (q : List DRec) (r : DRec) : List DRec := (q ++ [r]).drop ((q ++ [r]).length - 64)

/-- Put a formed record into the ring: HEAD, the loss count, and vector 35 where the host is 8,192 records behind. -/
def State.putRecord (s : State) (r : DRec) (lost : Bool) : State :=
  let s := { s with fw := { s.fw with daySeq := r.seq, day := Map.set none s.fw.day ((r.seq - 1) % 16384) (some r) } }
  let s := s.setReg Reg.FW_DAYBOOK_HEAD (r.seq % 2 ^ 32)
  let s := if lost then s.count Reg.FW_DAYBOOK_LOST else s
  if (r.seq + 2 ^ 32 - s.reg Reg.FW_DAYBOOK_TAIL) % 2 ^ 32 = 8192 then s.signal 35 else s

/-- Write a daybook record (R438). While the host is present, one that is no fault record and would replace an unread one is dropped
and counted. After a takeover H1 keeps fault records in its fault queue alone, and the count runs on (R433). -/
def State.record (s : State) (kind source fault severity ident : Nat) (payload : Option (List Byte) := none) : State :=
  let n := s.fw.daySeq + 1
  let r : DRec :=
    { seq := n, postmark := s.pm, kind := kind, source := source, fault := fault, severity := severity, state := s.mod.code
      ident := ident, payload := slice (payload.getD (Config.dayPayload kind n)) 0 28 }
  if s.fw.h1Charge then
    { s with fw := { s.fw with daySeq := n, faultQ1 := if kind = 1 then keep64 s.fw.faultQ1 r else s.fw.faultQ1 } }
  else
    let unread := (s.dayAt ((n - 1) % 16384)).any fun o => decide (s.tailSeq < o.seq)
    if unread && !s.fw.absent && kind != 1 then s.count Reg.FW_DAYBOOK_LOST
    else
      let s := if kind = 1 then
          { s with fw := { s.fw with faultQ0 := keep64 s.fw.faultQ0 r, faultQ1 := keep64 s.fw.faultQ1 r } }
        else s
      s.putRecord r unread

/-- The rest of a daybook payload after its given bytes. -/
def State.fillPayload (s : State) (kind : Nat) (l : List Byte) : List Byte :=
  l ++ (slice (Config.dayPayload kind (s.fw.daySeq + 1)) 0 28).drop l.length

/-! Post box slots (R457): slot n of a box occupies bytes 2048 n to 2048 n + 2047. -/

def State.slotGet (s : State) (inb : Bool) (n o k : Nat) : Nat :=
  let m := if inb then s.host.inbox else s.host.outbox
  leNat ((List.range k).map fun i => Map.get 0#8 m (2048 * n + o + i))

def State.slotBytes (s : State) (inb : Bool) (n o k : Nat) : List Byte :=
  let m := if inb then s.host.inbox else s.host.outbox
  (List.range k).map fun i => Map.get 0#8 m (2048 * n + o + i)

def State.slotFill (s : State) (inb : Bool) (n o : Nat) (l : List Byte) : State :=
  let f := fun m => Map.fill 0#8 m (2048 * n + o) l.length fun i => byteAt l i
  if inb then { s with host := { s.host with inbox := f s.host.inbox } }
  else { s with host := { s.host with outbox := f s.host.outbox } }

/-- STATE of a slot: 0 EMPTY, 1 POSTED, 2 COLLECTED, 3 ANSWERED. -/
def State.slotState (s : State) (inb : Bool) (n : Nat) : Nat := s.slotGet inb n 0 4 % 4
def State.setSlotState (s : State) (inb : Bool) (n v : Nat) : State := s.slotFill inb n 0 (leBytes 4 v)

/-- Answer a collected inbound letter (R460): STATUS, FAULT, the answer payload, state ANSWERED, its vector. It leaves the queue of
control letters (R461). -/
def State.answer (s : State) (slot status : Nat) (fault : Nat := 0) (payload : List Byte := []) : State :=
  if s.slotState true slot ≠ 2 then s else
  let s := s.slotFill true slot 0x10 (leBytes 2 status ++ leBytes 2 fault ++ leBytes 2 payload.length)
  let s := s.slotFill true slot 0x20 payload
  let s := s.setSlotState true slot 3
  let s := { s with host := { s.host with control := s.host.control.filter (· != slot) } }
  (s.count Reg.MBX_ANSWER_CNT).signal slot

/-- Letters in progress: collected inbound slots, in slot order. -/
def State.inProgress (s : State) : List Nat := (List.range 16).filter fun n => s.slotState true n == 2

/-- Add to the current period's count of a health input (R397). -/
def State.tally (s : State) (input : Nat) (n : Nat := 1) : State :=
  { s with hlt := { s.hlt with tally := Map.set 0 s.hlt.tally input (Map.get 0 s.hlt.tally input + n) } }


/-- What a command answers. -/
abbrev Ans := Host.Outcome State Fault Refusal

end Sys2Proof.Machine
end

