-- ==== Sys2Proof/Machine/Wire.lean ====
section
/-!
DEFINITION. Frames on the wire (R286–R295): lanes of sub-ports, addresses, the post header with its CHECK, and the Ethernet, IP and UDP headers
around it. Field layouts that R288 leaves to IEEE 802.3, IEEE 802.1Q, RFC 8200, RFC 791 and RFC 768 are PRESUMED from those standards (log 102).
-/
namespace Sys2Proof.Machine

/-! Lanes (R286). -/

/-- Sub-ports of a port by MODE; 3 is taken as 0 (R286, R316). -/
def State.subPorts (s : State) (p : Nat) : Nat :=
  let m := s.fld (Reg.at Reg.PORT_CTL p) 3 2
  if m = 1 then 2 else if m = 2 then 4 else 1

/-- The lanes of sub-port `k` where a port has `n` sub-ports. -/
def subLanes (n k : Nat) : List Nat := (List.range (8 / n)).map (· + 8 / n * k)

/-- The configuration record's byte for a lane of a port: transmit or receive (R483). -/
def State.laneByte (s : State) (p lane : Nat) (rx : Bool) : Nat := Map.get 0 s.boot.lanes (16 * p + 2 * lane + if rx then 1 else 0)

/-- The connector lanes on which sub-port `k` sends, in lane order, each with whether its polarity is inverted. -/
def State.txLanes (s : State) (p k : Nat) : List (Nat × Bool) :=
  (subLanes (s.subPorts p) k).map fun i => let b := s.laneByte p i false; (b % 8, bit b 7)

/-- The sub-port that a connector lane belongs to on receipt. -/
def State.rxSub (s : State) (p lane : Nat) : Nat :=
  ((List.range 8).find? fun i => s.laneByte p i true % 8 == lane).getD 0 / (8 / s.subPorts p)

/-! Addresses (R289). -/

/-- `n` bytes of a number, the most significant first. -/
def beBytes (n v : Nat) : List Byte := (leBytes n v).reverse
def beField (l : List Byte) (o n : Nat) : Nat := leNat (slice l o n).reverse

def State.ip6 (s : State) (node p k : Nat) : Nat := s.reg64 Reg.POST_PREFIX_LO * 2 ^ 64 + node % 2 ^ 16 * 2 ^ 16 + p * 16 + k
def State.ip4 (s : State) (node p k : Nat) : Nat := (s.reg Reg.POST_V4_BASE + node * 32 + p * 4 + k) % 2 ^ 32
def State.mac (s : State) (p k : Nat) : Nat :=
  (s.reg (Reg.at Reg.PORT_MAC_LO p) + 2 ^ 32 * s.fld (Reg.at Reg.PORT_MAC_HI p) 15 0 + k) % 2 ^ 48
def State.gwMac (s : State) (p : Nat) : Nat := s.reg (Reg.at Reg.PORT_GW_MAC_LO p) + 2 ^ 32 * s.fld (Reg.at Reg.PORT_GW_MAC_HI p) 15 0
def State.vid (s : State) (p : Nat) : Nat := s.fld (Reg.at Reg.PORT_VLAN p) 11 0
def State.v4 (s : State) : Bool := s.fld Reg.POST_CTL 0 0 == 1
def State.udpPort (s : State) : Nat := s.fld Reg.POST_CTL 31 16

/-! The post header and what follows it (R292–R294). -/

/-- JOB_FLAGS. -/
def jobFlags (k : Packet) : Nat :=
  k.job % 4096 + (if k.pmap.isSome then 4096 else 0) + (if k.retry then 8192 else 0) + (if k.spill then 16384 else 0)

/-- Header bytes 0x00–0x1B. -/
def headBytes (k : Packet) : List Byte :=
  leBytes 1 (32 + k.ty % 32) ++ leBytes 1 (k.op % 64) ++ leBytes 2 (jobFlags k) ++ leBytes 2 k.src ++ leBytes 2 k.dst ++ leBytes 4 k.seq ++
    leBytes 8 k.release ++ leBytes 6 k.addr ++ leBytes 2 k.payload.length

/-- The payload, and the poison map where POISON is set. -/
def bodyBytes (k : Packet) : List Byte := k.payload ++ match k.pmap with | some m => leBytes 16 m | none => []

/-- CHECK (R293), with RETRY taken as 0. -/
def checkOf (k : Packet) : Nat := crc32c (headBytes { k with retry := false } ++ bodyBytes k)

/-- The UDP payload: the post header with a CHECK, and the body. -/
def postBytes (k : Packet) (check : Nat) : List Byte := headBytes k ++ leBytes 4 check ++ bodyBytes k

/-- The packet of a class that a UDP payload holds, with its CHECK; none where VERSION, a reserved bit or LENGTH is wrong (R292, R296 check 3). -/
def postPacket (cls : Nat) (b : List Byte) : Option (Packet × Nat) :=
  let vt := fieldAt b 0 1
  let op := fieldAt b 1 1
  let jf := fieldAt b 2 2
  let len := fieldAt b 0x1A 2
  let body := b.drop 32
  if 32 ≤ b.length ∧ vt / 32 = 1 ∧ op < 64 ∧ jf < 32768 ∧ len < 16384 ∧ body.length = len + (if bit jf 12 then 16 else 0) then
    some ({ cls := cls, ty := vt % 32, op := op, job := jf % 4096, spill := bit jf 14, retry := bit jf 13, src := fieldAt b 4 2, dst := fieldAt b 6 2
            seq := fieldAt b 8 4, release := fieldAt b 0xC 8, addr := fieldAt b 0x14 6, payload := body.take len
            pmap := if bit jf 12 then some (leNat (body.drop len)) else none }, fieldAt b 0x1C 4)
  else none

/-! Checksums and the frame (R288, R290, R291). -/

/-- The sum of a list's big-endian 16-bit words. -/
def wordSum : List Byte → Nat
  | [] => 0
  | [a] => 256 * a.toNat
  | a :: b :: r => 256 * a.toNat + b.toNat + wordSum r

/-- The one's-complement sum of 16-bit words. -/
def onesSum (l : List Byte) : Nat := let v := wordSum l; let w := v % 65536 + v / 65536; w % 65536 + w / 65536
def checksum (l : List Byte) : Nat := 65535 - onesSum l

/-- One byte folded into the frame check sequence's CRC-32: polynomial 0x04C1_1DB7 reflected is 0xEDB8_8320. -/
def crc32Byte (crc : Nat) (b : Byte) : Nat := (List.range 8).foldl (fun c _ => crcBit 0xEDB88320 c) (Nat.xor crc b.toNat)
def crc32 (l : List Byte) : Nat := Nat.xor (l.foldl crc32Byte 0xFFFFFFFF) 0xFFFFFFFF

/-- The pseudo-header of a UDP checksum. -/
def pseudo (v4 : Bool) (src dst len : Nat) : List Byte :=
  if v4 then beBytes 4 src ++ beBytes 4 dst ++ beBytes 2 17 ++ beBytes 2 len else beBytes 16 src ++ beBytes 16 dst ++ beBytes 4 len ++ beBytes 4 17

/-- A UDP datagram with its checksum; a computed 0 is sent as all ones. -/
def udpBytes (v4 : Bool) (src dst sport dport : Nat) (pay : List Byte) : List Byte :=
  let len := 8 + pay.length
  let ports := beBytes 2 sport ++ beBytes 2 dport ++ beBytes 2 len
  let c := checksum (pseudo v4 src dst len ++ ports ++ beBytes 2 0 ++ pay)
  ports ++ beBytes 2 (if c = 0 then 65535 else c) ++ pay

/-- UDP source port, and flow label (R291). -/
def State.entropy (s : State) (k : Packet) : Nat × Nat :=
  if s.fld Reg.POST_CTL 1 1 = 1 then (49152 + k.seq % 16384, k.seq % 2 ^ 20) else (49152 + k.dst % 16384, 0)

/-- The IP packet of a post packet from sub-port `k` of port `p`: DSCP = class × 8 and ECN 0, `HOP_LIMIT`, DF over IPv4. -/
def State.ipBytes (s : State) (p sub : Nat) (k : Packet) (check : Nat) : List Byte :=
  let (sport, flow) := s.entropy k
  let hop := s.fld Reg.POST_CTL 15 8
  if s.v4 then
    let src := s.ip4 s.node p sub
    let dst := s.ip4 k.dst p sub
    let udp := udpBytes true src dst sport s.udpPort (postBytes k check)
    let a := beBytes 1 0x45 ++ beBytes 1 (32 * k.cls) ++ beBytes 2 (20 + udp.length) ++ beBytes 2 0 ++ beBytes 2 0x4000 ++ beBytes 1 hop ++ beBytes 1 17
    let z := beBytes 4 src ++ beBytes 4 dst
    a ++ beBytes 2 (checksum (a ++ beBytes 2 0 ++ z)) ++ z ++ udp
  else
    let src := s.ip6 s.node p sub
    let dst := s.ip6 k.dst p sub
    let udp := udpBytes false src dst sport s.udpPort (postBytes k check)
    beBytes 4 (6 * 2 ^ 28 + 32 * k.cls * 2 ^ 20 + flow) ++ beBytes 2 udp.length ++ beBytes 1 17 ++ beBytes 1 hop ++ beBytes 16 src ++ beBytes 16 dst ++ udp

/-- A post transport frame, FCS included (R290): from the sub-port to the gateway, with one C-tag of the class's PCP and the port's VID. -/
def State.frameOf (s : State) (p sub : Nat) (k : Packet) (check : Nat) : List Byte :=
  let b := beBytes 6 (s.gwMac p) ++ beBytes 6 (s.mac p sub) ++ beBytes 2 0x8100 ++ beBytes 2 (k.cls * 8192 + s.vid p) ++
    beBytes 2 (if s.v4 then 0x0800 else 0x86DD) ++ s.ipBytes p sub k check
  b ++ leBytes 4 (crc32 b)

/-- Send a frame on a sub-port: the packet, its bytes, and the connector lanes it leaves on. -/
def State.sendFrame (s : State) (p sub : Nat) (k : Packet) (check : Nat) : State :=
  (s.count64 (Reg.at Reg.PORT_TX_LO p)).emit (.frame p sub k (s.frameOf p sub k check) (s.txLanes p sub))

/-- Neighbour Advertisement of a sub-port (R288): its own address and MAC. -/
def State.advertise (s : State) (p k : Nat) (solicited : Bool) : State := s.emit (.neighbour p k solicited (s.mac p k) (s.ip6 s.node p k))
def State.arpReply (s : State) (p k : Nat) : State := s.emit (.arp p k (s.mac p k) (s.ip4 s.node p k))

end Sys2Proof.Machine
end

