-- ==== Sys2Proof/Machine/Send.lean ====
section
/-!
DEFINITION. Handing packets to the ports and sending them (R287, R296–R302, R305, R307): queues, transmit entries, class order, the
class-6 window, credits and retransmit room.
-/
namespace Sys2Proof.Machine

/-- TYPE codes of R295. -/
abbrev Ty.data : Nat := 1
abbrev Ty.mailbag : Nat := 2
abbrev Ty.request : Nat := 3
abbrev Ty.response : Nat := 4
abbrev Ty.handover : Nat := 5
abbrev Ty.count : Nat := 6
abbrev Ty.report : Nat := 7
abbrev Ty.hold : Nat := 8
abbrev Ty.resume : Nat := 9
abbrev Ty.probe : Nat := 10
abbrev Ty.probeReply : Nat := 11
abbrev Ty.risk : Nat := 12
abbrev Ty.ack : Nat := 13
abbrev Ty.credit : Nat := 14

/-- Sequenced types (R295). -/
def sequenced (ty : Nat) : Bool := decide (1 ≤ ty ∧ ty ≤ 12)

/-- Bytes of a frame, FCS included (R290); with preamble and gap, its wire bytes (R300). -/
def frameBytes (v4 : Bool) (k : Packet) : Nat :=
  18 + (if v4 then 20 else 40) + 8 + 32 + k.payload.length + (if k.pmap.isSome then 16 else 0) + 4
def wireBytes (v4 : Bool) (k : Packet) : Nat := frameBytes v4 k + 20

/-- What the ports need from the POST registers. -/
structure SendEnv where
  now : Nat
  v4 : Bool
  creditInit : Nat
  held : Bool
deriving DecidableEq, Repr

/-- Values the registers take: CREDIT_INIT 0 is 1, RETRY_MAX 0 is 1, RTO within 2–1,000 µs, DOWN_HOLD 1–1,000 ms (R317). -/
def State.creditInit (s : State) : Nat := Nat.max 1 (s.fld Reg.POST_TIMERS 17 10)
def State.retryMax (s : State) : Nat := Nat.max 1 (s.fld Reg.POST_TIMERS 21 18)
def State.rto (s : State) : Nat := us (Nat.min 1000 (Nat.max 2 (s.fld Reg.POST_TIMERS 31 22)))
def State.downHold (s : State) : Nat := ms (Nat.min 1000 (Nat.max 1 (s.fld Reg.POST_TIMERS 9 0)))

def State.sendEnv (s : State) : SendEnv :=
  { now := s.now, v4 := s.v4, creditInit := s.creditInit, held := s.mod == .held || s.mod == .parked }

/-- States in which the module sends and receives on the fabric: FENCED stops all traffic (R3), and before READY there is none. -/
def State.fabric (s : State) : Bool := s.mod == .ready || s.mod == .running || s.mod == .held || s.mod == .parked

def Port.txEnt (pt : Port) (dst : Nat) : TxEnt := Map.get {} pt.tx dst
def Port.setTx (pt : Port) (dst : Nat) (e : TxEnt) : Port := { pt with tx := Map.set {} pt.tx dst e }
def Port.rxEnt (pt : Port) (src : Nat) : RxEnt := Map.get {} pt.rx src
def Port.setRx (pt : Port) (src : Nat) (e : RxEnt) : Port := { pt with rx := Map.set {} pt.rx src e }

/-- Bytes in the retransmit buffer (R305): class 7 and the others. -/
def Port.kept (pt : Port) (v4 : Bool) (seven : Bool) : Nat :=
  (pt.tx.flatMap fun e => e.2.unacked).foldl
    (fun n x => if (x.pkt.cls == 7) == seven then n + frameBytes v4 x.pkt else n) 0

/-- Sizes of the class-7 reserve and of the shared part (R305). -/
def reserveBytes : Nat := 262144
def sharedBytes : Nat := 3932160

/-- Is there retransmit room for a sequenced packet? What class 7 keeps beyond its reserve lies in the shared part. -/
def Port.room (pt : Port) (v4 : Bool) (k : Packet) : Bool :=
  let k7 := pt.kept v4 true
  let shared := pt.kept v4 false + (k7 - reserveBytes)
  let n := frameBytes v4 k
  if k.cls = 7 then decide (k7 + n ≤ reserveBytes) || decide (shared + n ≤ sharedBytes)
  else decide (shared + n ≤ sharedBytes)

/-- The bytes of its home a packet touches, by its 44-bit address (R323): from, and how many. -/
def touchOf (k : Packet) : Nat × Nat :=
  if k.ty = Ty.data then (k.addr, if k.op = 0xD then k.payload.length / 260 * 1024 else k.payload.length)
  else if k.ty = Ty.request then (k.addr, fieldAt k.payload 2 2) else (k.addr, 0)

def touchMeet (a b : Nat × Nat) : Bool := a.2 != 0 && b.2 != 0 && decide (a.1 < b.1 + b.2) && decide (b.1 < a.1 + a.2)

/-- Does a frame to the same home that no ACK covers yet touch bytes this packet touches (R329)? -/
def Port.overlaps (pt : Port) (k : Packet) : Bool := (pt.txEnt k.dst).unacked.any fun x => touchMeet (touchOf x.pkt) (touchOf k)

/-- Has the window room for a frame of class 6 (R300)? Windows stand still in HELD and PARKED. -/
def Port.windowFits (pt : Port) (v4 : Bool) (k : Packet) : Bool := !pt.txTable.isEmpty && decide ((wireBytes v4 k : Int) ≤ pt.remainder)

/-- May the port send this packet now? -/
def Port.mayStart (pt : Port) (e : SendEnv) (k : Packet) : Bool :=
  if !sequenced k.ty then true
  else if pt.overlaps k then false
  else if !pt.room e.v4 k then false
  else if k.cls = 7 then true
  else if k.cls = 1 then true
  else if e.held then false
  else if k.cls = 6 then pt.windowFits e.v4 k
  else !pt.paused3 && decide ((pt.txEnt k.dst).free < e.creditInit + (pt.txEnt k.dst).grant)

/-- Class 1's allowance in a slot of 1,024 cycles (R299). -/
def Port.slotShare (pt : Port) : Nat := 1024 * 1000 * pt.share / 600

/-- The next packet to send and the queue it heads (R299): 7, 6, then 1 before 3 until class 1 has had its share of the slot, then 3
before 1. -/
def Port.pick (pt : Port) (e : SendEnv) : Option Packet :=
  let head : List Packet → Option Packet := fun q => q.head?.filter (pt.mayStart e)
  let low := if pt.slotSent < pt.slotShare then head pt.q1 <|> head pt.q3 else head pt.q3 <|> head pt.q1
  head pt.q7 <|> head pt.q6 <|> low

/-- The sub-port a packet goes to: the next one that is UP (R287). -/
def Port.nextUp (pt : Port) : Nat :=
  (((List.range 4).map fun i => (pt.nextSub + i) % 4).find? fun k => bit pt.subUp k).getD 0

/-- Take the head of the queue of a class. -/
def Port.pop (pt : Port) (cls : Nat) : Port :=
  if cls = 7 then { pt with q7 := pt.q7.tail } else if cls = 6 then { pt with q6 := pt.q6.tail }
  else if cls = 3 then { pt with q3 := pt.q3.tail } else { pt with q1 := pt.q1.tail }

def Port.push (pt : Port) (k : Packet) : Port :=
  if k.cls = 7 then { pt with q7 := pt.q7 ++ [k] } else if k.cls = 6 then { pt with q6 := pt.q6 ++ [k] }
  else if k.cls = 3 then { pt with q3 := pt.q3 ++ [k] } else { pt with q1 := pt.q1 ++ [k] }

/-- A frame sent, for the first time or again: the window's charge for classes 6 and 7, the slot's for class 1 (R299, R300), and the turn of the
sub-ports (R287). -/
def Port.charge (pt : Port) (v4 : Bool) (k : Packet) : Port :=
  let w := wireBytes v4 k
  let pt := if k.cls ≥ 6 ∧ !pt.txTable.isEmpty then { pt with remainder := pt.remainder - w } else pt
  let pt := if k.cls = 1 then { pt with slotSent := pt.slotSent + w } else pt
  { pt with nextSub := (pt.nextUp + 1) % 4 }

/-- Bookkeeping of one new frame sent: its charge, the credit of a class-3 SEQ, and the retransmit buffer with its CHECK. -/
def Port.sent (pt : Port) (e : SendEnv) (k : Packet) (check : Nat) : Port :=
  let pt := pt.charge e.v4 k
  if sequenced k.ty then
    let t := pt.txEnt k.dst
    pt.setTx k.dst { t with unacked := t.unacked ++ [{ pkt := k, check := check, sentAt := e.now }], free := if k.cls = 3 then t.free + 1 else t.free }
  else pt

/-- Send what the port may send, in order; at most `fuel` frames. -/
def State.drainN (p : Nat) : Nat → State → State
  | 0, s => s
  | n + 1, s =>
    let pt := s.port p
    match (if pt.link = 2 then pt.pick s.sendEnv else none) with
    | none => s
    | some k =>
      let check := checkOf k
      State.drainN p n ((s.setPort p ((pt.pop k.cls).sent s.sendEnv k check)).sendFrame p pt.nextUp k check)

/-- Send everything a port may send now. -/
def State.drain (s : State) (p : Nat) : State :=
  if s.fabric then
    let pt := s.port p
    State.drainN p (pt.q7.length + pt.q6.length + pt.q3.length + pt.q1.length) s
  else s

def State.drainAll (s : State) : State := (List.range 8).foldl State.drain s

/-- Entries in use of a transmit or receive table. -/
def txUsed (m : Map TxEnt) : Nat := (m.filter fun e => e.2.used).length
def rxUsed (m : Map RxEnt) : Nat := (m.filter fun e => e.2.used).length

/-- Hand a packet to a port: it takes the next SEQ of its transmit entry, which is created with the first packet, and its place in the
queue of its class. `false` where a 2,049th entry would be needed, and the packet is not sent (R302, R303). -/
def State.handOver (s : State) (p : Nat) (k : Packet) : State × Bool :=
  let pt := s.port p
  let k := { k with src := s.node }
  if !sequenced k.ty then ((s.setPort p (pt.push k)).drain p, true)
  else
    let e := pt.txEnt k.dst
    if !e.used && decide (txUsed pt.tx ≥ 2048) then (s, false)
    else
      let k := { k with seq := e.next }
      ((s.setPort p ((pt.setTx k.dst { e with used := true, next := (e.next + 1) % 2 ^ 32 }).push k)).drain p, true)

/-- The lowest-numbered UP port of a range. -/
def State.lowestUp (s : State) (lo n : Nat) : Option Nat :=
  ((List.range n).map (· + lo)).find? fun p => (s.port p).link == 2

/-- A class-7 letter in its two copies (R296). -/
def State.sendLetter (s : State) (ty dst release : Nat) (payload : List Byte) : State × Bool :=
  let k : Packet := { cls := 7, ty := ty, job := s.job, dst := dst, release := release, payload := payload }
  let one := fun (r : State × Bool) (p : Option Nat) => match p with
    | none => r
    | some p => let (t, ok) := r.1.handOver p k; (t, r.2 && ok)
  one (one (s, true) (s.lowestUp 0 4)) (s.lowestUp 4 4)

/-- The other members of the domain, by node. -/
def State.others (s : State) : List Nat := s.dom.members.filter (· != s.node)

/-- The letter to every other member. -/
def State.sendAll (s : State) (ty release : Nat) (payload : List Byte) : State × Bool :=
  s.others.foldl (fun r m => let (t, ok) := r.1.sendLetter ty m release payload; (t, r.2 && ok)) (s, true)

/-- Clearing the sequence tables discards every queued packet and every frame in the retransmit buffers (R303). -/
def Port.clearSeq (pt : Port) : Port := { pt with tx := [], rx := [], q7 := [], q6 := [], q3 := [], q1 := [] }
def State.clearSequences (s : State) : State := (List.range 8).foldl (fun t p => t.onPort p Port.clearSeq) s

end Sys2Proof.Machine
end

