-- ==== Sys2Proof/Machine/Raise.lean ====
section
/-!
DEFINITION. Module states, faults, holds and parks: the transitions of R437, raising a fault with the action of its severity (R7, R8),
originating a hold (R358, R359) and beginning a park (R402).
-/
namespace Sys2Proof.Machine

/-! The state table (R437). -/

/-- Does event `ev` lead from one state to another? FENCED and RECOVERY are left by a reset alone, or by the loss of the input
(R5, R3). -/
def legal (a : Mod) (ev : Nat) (b : Mod) : Bool :=
  match ev, a, b with
  | 0x01, .off, .standby => true
  | 0x02, .standby, .boot => true
  | 0x03, _, .off => true
  | 0x04, .boot, .ready => true
  | 0x05, .boot, .recovery => true
  | 0x06, .ready, .running => true
  | 0x07, .running, .held => true
  | 0x08, .held, .running => true
  | 0x09, .running, .parked => true
  | 0x09, .held, .parked => true
  | 0x0A, .parked, .running => true
  | 0x0B, .parked, .ready => true
  | 0x0C, .off, .fenced => false
  | 0x0C, .fenced, .fenced => false
  | 0x0C, .recovery, .fenced => false
  | 0x0C, _, .fenced => true
  | 0x0D, .fenced, .boot => true
  | 0x0D, .recovery, .boot => true
  | _, _, _ => false

/-- The answer STATUS 6 to every letter in progress (R461). -/
def State.refuseLetters (s : State) : State := s.inProgress.foldl (fun t n => t.answer n 6) s

/-- What entry to FENCED does beside the change of state: letters in progress are answered with STATUS 6 (R461), and the module is
unjoined (R349). -/
def State.fence (s : State) : State :=
  let s := s.refuseLetters
  let s := s.setFld Reg.DOM_IDENT 9 0 0
  { s with dom := { s.dom with joined := false, joinStep := 0, joinSlot := none, hold := none }
           host := { s.host with runArmed := none } }

/-- A micro-batch whose live words are still to be written is answered with STATUS 6 once the module neither runs nor is held (R461). -/
def State.dropMicro (s : State) : State :=
  { s.host.micro.foldl (fun (t : State) m => t.answer m.slot 6) s with host.micro := [] }

/-- The order of R4. -/
def modRank : Mod → Nat
  | .off => 0 | .fenced => 1 | .recovery => 2 | .standby => 3 | .boot => 4 | .parked => 5 | .held => 6 | .ready => 7 | .running => 8

/-- The state in which the present cycle began, where a transition has taken place in it. -/
def State.rival (s : State) : Option Mod := s.fw.turned.bind fun e => if e.1 = s.now then some e.2 else none

/-- Enter a state from another: a record of KIND STATE with the event in ID, `FW.STATE`, vector 32 and a console line. -/
def State.enter (s : State) (ev : Nat) (before dest : Mod) : State :=
  let s := { s with fw := { s.fw with prev := before, mod := dest, event := ev, turned := some (s.now, before) } }
  let s := ((s.record 2 0xFF 0 0 ev).signal 32).emit (.uart 2 ev)
  let s := if dest = .running ∨ dest = .held then s else s.dropMicro
  if dest = .fenced then s.fence else s

/-- Change the module's state by a transition of R437; anything else leaves it. Where another transition has taken place in the same cycle,
both are conditions for the state that the cycle began in (R4): the one whose state stands first is entered, and the other is recorded. FENCED
and RECOVERY once entered give way to OFF alone (R5). -/
def State.transition (s : State) (ev : Nat) (dest : Mod) : State :=
  match s.rival with
  | some before =>
    if legal before ev dest ∧ dest ≠ s.mod then
      if modRank dest < modRank s.mod ∧ (dest = .off ∨ (s.mod ≠ .fenced ∧ s.mod ≠ .recovery)) then s.enter ev before dest
      else s.record 2 0xFF 0 0 ev
    else if legal s.mod ev dest then s.enter ev s.mod dest else s
  | none => if legal s.mod ev dest then s.enter ev s.mod dest else s

/-- Is the module PARKED, or did the cycle in which it left PARKED for RUNNING begin there (R4)? -/
def State.parkedYet (s : State) : Bool := s.mod == .parked || (s.mod == .running && s.rival == some .parked)

/-! Raising a fault. -/

/-- PAYLOAD of a fault record: a choice fault carries the choice's record (R203). -/
def State.faultPayload (s : State) (code inst : Nat) : Option (List Byte) :=
  if 0x3001 ≤ code ∧ code ≤ 0x3003 then some (s.fillPayload 1 (leBytes 8 (Map.get 0 (s.die inst).choiceOf code))) else none

/-- Record a fault (R8): its status bits at an instance of its block, its daybook record, its vector, and a console line for park and
stop (R525). -/
def State.recordFault (s : State) (code inst : Nat) (ident : Nat := 0) : State :=
  let r := faultRow code
  let s := r.bits.foldl (fun t b => t.event (Reg.at b.1 inst) b.2) s
  let s := s.record 1 0xFF code r.sev.code ident (s.faultPayload code inst)
  let s := s.signal (if r.sev = .notice then 34 else 33)
  if r.sev = .park ∨ r.sev = .stop then s.emit (.uart 3 code) else s

/-- Letters' HOLD payload (R359). -/
def holdPayload (stop seq cause node : Nat) : List Byte :=
  leBytes 8 stop ++ leBytes 2 seq ++ leBytes 2 cause ++ leBytes 2 node ++ leBytes 2 0

/-- A cause meets a hold (R358, R365): with none pending in RUNNING it originates one, STOP the boundary of frame f + 2; during one it
counts toward readiness, or toward a new hold once the resume is agreed. -/
def State.holdCause (s : State) (cause : Nat) : State × Bool :=
  match s.dom.hold with
  | some h =>
    if h.res.isSome then ({ s with dom := { s.dom with postponed := s.dom.postponed ++ [cause] } }, true)
    else ({ s with dom := { s.dom with hold := some { h with causes := if h.causes.contains cause then h.causes else h.causes ++ [cause] } } }, true)
  | none =>
    if s.mod = .running then
      let stop := boundary (s.frame + 2)
      let seq := s.dom.holdsDone + 1
      let s := { s with dom := { s.dom with hold := some { stop := stop, seq := seq, causes := [cause] } } }
      let s := s.setFld Reg.DOM_HOLD 15 0 cause
      s.sendAll Ty.hold 0 (holdPayload stop (seq % 65536) cause s.node)
    else (s, true)

/-- A RISK letter's payload (R399). -/
def riskPayload (cut node score level flags cause : Nat) : List Byte :=
  leBytes 8 cut ++ leBytes 2 node ++ leBytes 1 score ++ leBytes 1 level ++ leBytes 1 flags ++ leBytes 1 0 ++ leBytes 2 cause

/-- Own level and score, as `HLT.SCORE` holds them. -/
def State.score (s : State) : Nat := s.fld Reg.HLT_SCORE 31 24
def State.level (s : State) : Nat := s.fld Reg.HLT_SCORE 23 22
def State.partner (s : State) : Option Nat :=
  let n := s.fld Reg.DOM_PARTNER 15 0
  if n = 0xFFFF then none else some n

/-- Send a RISK letter (R399): to every member in two copies, with RELEASE at the boundary of frame f + 2; one more copy to the partner
with RELEASE 0 on the lowest UP port. The module's own entry of the level table changes the same way (R400). -/
def State.sendRisk (s : State) (park : Bool) (cut cause : Nat) : State × Bool :=
  let wear := s.res.wearFlag
  let rel := boundary (s.frame + 2)
  let pay := riskPayload cut s.node s.score s.level ((if park then 1 else 0) + (if wear then 2 else 0)) cause
  let (s, ok) := s.sendAll Ty.risk rel pay
  let (s, ok2) := match s.partner, s.lowestUp 0 8 with
    | some p, some port => s.handOver port { cls := 7, ty := Ty.risk, job := s.job, dst := p, payload := pay }
    | _, _ => (s, true)
  let own := s.dom.members.findIdx (· == s.node)
  ({ s with hlt := { s.hlt with lastSent := some (s.level, wear), sinceLetter := 0 }
            dom := { s.dom with riskWait := s.dom.riskWait ++ [(rel, own, s.level + 4 * (if wear then 1 else 0))] } }, ok && ok2)

/-- A park's cut is settled: the member's own RISK letter with PARK and CUT goes out, and its own cut is counted (R402). -/
def State.settleCut (s : State) (cause cut : Nat) : State × Bool :=
  let own := s.dom.members.findIdx (· == s.node)
  let s := { s with res := { s.res with parking := some (cause, some cut) }
                    dom := { s.dom with parkLetters := Map.set 0 s.dom.parkLetters own (cut + 1) } }
  s.sendRisk true cut cause

/-- Has an accepted RISK letter with PARK named the current step as its cut (R402)? -/
def State.cutAtStep (s : State) : Bool := s.dom.parkLetters.any fun e => e.2 == s.step40 + 1

/-- Discard the step (R165): CUR_MAX and TOUCHED of every stamp entry are cleared. -/
def State.discardStep (s : State) : State :=
  let s := (List.range 4).foldl (fun t d => t.onDie d fun x =>
    { x with stamps := Map.vals {} (fun (e : StampEnt) => { e with curMax := 0, touched := false }) x.stamps }) s
  { s with stepSt := { s.stepSt with discarded := true } }

/-- Begin a park (R402): stop as a hold does, then settle the cut. A module whose report is not yet sent, or whose decision is not
applied while a PARK letter names this step, discards the step (R165); one that waits for the decision settles when it is applied. -/
def State.beginPark (s : State) (cause : Nat) : State × Bool :=
  if !s.live || s.res.parking.isSome then (s, true)
  else
    let (s, ok) := s.holdCause cause
    if s.stepSt.own.isSome && !s.cutAtStep then
      ({ s with res := { s.res with parking := some (cause, none) } }, ok)
    else
      let s := s.discardStep
      let (s, ok2) := s.settleCut cause s.step40
      (s, ok && ok2)

/-- The action of a severity (R7): a stop enters FENCED at once; a park begins by stopping as a hold does. `false` when a packet could
not be sent for want of a table entry (R303). -/
def State.act (s : State) (code : Nat) : Sev → State × Bool
  | .notice => (s, true)
  | .hold => s.holdCause code
  | .park => s.beginPark code
  | .stop =>
    let t := s.transition 0x0C .fenced
    (if s.mod ≠ .fenced ∧ t.mod = .fenced then { t with boot := { t.boot with stopFault := code } } else t, true)

/-- Note a fault of the cycle being worked out; none where no cycle is (R8). -/
def State.note? (s : State) (code inst ident : Nat) : Option State :=
  s.gather.map fun l => { s with gather := some (l ++ [(code, inst, ident)]) }

/-- A packet was not sent for want of a table entry: 0x6204 (R303), whose own letters are not tried again. -/
def State.seqFull (s : State) (ok : Bool) : State :=
  if ok then s else (s.note? 0x6204 0 0).getD ((s.recordFault 0x6204 0).beginPark 0x6204).1

/-- Raise one fault at an instance of its block: at once, or with the other faults of the cycle being worked out (R8). -/
def State.raise (s : State) (code inst : Nat) (ident : Nat := 0) : State :=
  (s.note? code inst ident).getD <|
    let (s, ok) := (s.recordFault code inst ident).act code (faultSev code)
    s.seqFull ok

def sevMax (a b : Sev) : Sev := if a.code < b.code then b else a

/-- Insert a fault in ascending order of code, before those of its code that came later. -/
def insertFault (f : Nat × Nat × Nat) : List (Nat × Nat × Nat) → List (Nat × Nat × Nat)
  | [] => [f]
  | g :: r => if f.1 ≤ g.1 then f :: g :: r else g :: insertFault f r

/-- The faults of one cycle (R8): each is recorded, in ascending code, and the action is that of the highest severity. -/
def State.raiseNow (s : State) (fs : List (Nat × Nat × Nat)) : State :=
  let fs := fs.foldr insertFault []
  let s := fs.foldl (fun t f => t.recordFault f.1 f.2.1 f.2.2) s
  let top := fs.foldl (fun m f => sevMax m (faultSev f.1)) .notice
  match fs.find? fun f => faultSev f.1 == top with
  | none => s
  | some f => let (s, ok) := s.act f.1 top; s.seqFull ok

/-- Raise the faults, by code and instance, that one instruction or event raises in one cycle. -/
def State.raiseAll (s : State) (fs : List (Nat × Nat)) : State :=
  let l := fs.map fun f => (f.1, f.2, 0)
  match s.gather with
  | some g => { s with gather := some (g ++ l) }
  | none => s.raiseNow l

/-- Work out one cycle, whose faults are recorded and acted on together at its end (R8). -/
def State.together (s : State) (f : State → State) : State :=
  match s.gather with
  | some _ => f s
  | none =>
    let t := f { s with gather := some [] }
    { t with gather := none }.raiseNow (t.gather.getD [])

/-- Send a packet, raising 0x6204 where it cannot be (R303). -/
def State.post (s : State) (p : Nat) (k : Packet) : State := let (s, ok) := s.handOver p k; if ok then s else s.raise 0x6204 p

/-- A letter to one node or to every other member, likewise. -/
def State.letter (s : State) (ty dst release : Nat) (payload : List Byte) : State :=
  let (s, ok) := s.sendLetter ty dst release payload; if ok then s else s.raise 0x6204 0
def State.letters (s : State) (ty release : Nat) (payload : List Byte) : State :=
  let (s, ok) := s.sendAll ty release payload; if ok then s else s.raise 0x6204 0

/-- A late letter with a release postmark (R356): counted; in RUNNING with no hold pending it raises 0x7301; with one pending it is a
cause; in HELD it is a cause where its postmark is at or before F_stop (R366). -/
def State.late (s : State) (rel : Nat) : State :=
  let s := (s.count Reg.DOM_LATE_CNT).tally 12
  if s.mod = .running ∧ s.dom.hold.isNone then s.raise 0x7301 0
  else if s.mod = .running ∨ (s.mod = .held ∧ rel ≤ s.dom.fstop) then (s.holdCause 0x7301).1
  else s

/-- The module's step became dirty (R109): every die's `FMT.STAT` shows it; the first fault code among its causes stands (R160, log 93). -/
def State.dirty (s : State) (cause : Nat) : State :=
  let s := (List.range 4).foldl (fun t d => t.setFld (Reg.at Reg.FMT_STAT d) 0 0 1) s
  if s.stepSt.dirtyCause = 0 then { s with stepSt := { s.stepSt with dirtyCause := cause } } else s

def State.isDirty (s : State) : Bool := s.fld Reg.FMT_STAT 0 0 == 1

/-! What a core tells the module. -/

/-- The instance of a fault's registers that belongs to a core: its own window, or its die's (R455, R456). -/
def faultInst (code g : Nat) : Nat :=
  match (faultRow code).bits with
  | (o, _) :: _ => if decide (0x100000 ≤ o) then g else g / 96
  | [] => 0

def regInst (off g : Nat) : Nat := Reg.at off (if 0x100000 ≤ off then g else g / 96)

/-- Apply one event that is no fault. -/
def State.coreEv (s : State) (g : Nat) : Ev → State
  | .fault _ => s
  | .status r b => s.event (regInst r g) b
  | .count r n => s.count (regInst r g) n
  | .put r v => s.setReg (regInst r g) v
  | .dirty code => s.dirty code

/-- The codes of the faults among events. -/
def faultsOf (evs : List Ev) : List Nat := evs.filterMap fun e => match e with | .fault c => some c | _ => none

/-- What a core tells the module: its events, then its faults. -/
def State.tells (s : State) (g : Nat) (evs : List Ev) : State :=
  (evs.foldl (fun t e => t.coreEv g e) s).raiseAll ((faultsOf evs).map fun c => (c, faultInst c g))

/-! Banks that an access finds asleep or under test (R233, R236). -/

/-- A unit reaches a sleeping bank (R233): a unit of the core freezes it, an agent waits. -/
def State.reachBank (s : State) (g b : Nat) (byCore : Bool) : State :=
  let (c, evs) := (s.core g).reachBank b
  (s.setCore g { c with stall := if byCore then 4 else c.stall }).tells g evs

/-- An access or a state change cuts the test short (R236): its region holds what it held. That counts as an unscheduled wake, and a unit of
the core freezes it. -/
def State.cutTest (s : State) (g : Nat) (byCore : Bool) : State :=
  let (c, evs) := (s.core g).cutTest
  (s.setCore g { c with stall := if byCore then 4 else c.stall }).tells g evs

/-! Hot lines (R340). -/

/-- Count an access to each atom of a range of bonded memory. -/
def State.hotCount (s : State) (addr n : Nat) : State :=
  if n = 0 then s else
  let d := addr / 2 ^ 38 % 4
  let thr := Nat.max 1 (s.fld Reg.RMT_CTL 21 11)
  (List.range ((addr + n - 1) / 512 + 1 - addr / 512)).foldl (fun (t : State) i =>
    let a := addr / 512 + i
    let x := t.die d
    let w := t.now / 600
    let x := if x.hotWindow = w then x else { x with hotWindow := w, hot := [], hotRaised := false }
    let c := Map.get 0 x.hot a + 1
    let t := t.setDie d { x with hot := Map.set 0 x.hot a c, hotRaised := x.hotRaised || decide (c = thr) }
    if c = thr then
      let t := (t.setReg (Reg.at Reg.RMT_HOT_ADDR_LO d) (a * 512 % 2 ^ 32)).setReg (Reg.at Reg.RMT_HOT_ADDR_HI d) (a * 512 / 2 ^ 32 % 256)
      let t := t.count (Reg.at Reg.RMT_HOT_CNT d)
      if x.hotRaised then t else t.raise 0x6307 0
    else t) s

end Sys2Proof.Machine
end

