-- ==== Sys2Proof/Machine/Channels.lean ====
section
/-!
DEFINITION. Channels of bonded memory in service, and what leaving PARKED for READY does (R257, R234, R267, R283, R303).
-/
namespace Sys2Proof.Machine

def Die.chan (d : Die) (c : Nat) : Chan := Map.get {} d.chans c
def Die.setChan (d : Die) (c : Nat) (v : Chan) : Die := { d with chans := Map.set {} d.chans c v }

/-- The channels of a die that are in service (R283). -/
def Die.serving (d : Die) : List Nat := (List.range 256).filter fun c => (d.chan c).state != 1 && (d.chan c).state != 2

/-- `BOND.INSVC` shows the channels in service (R283). -/
def State.showService (s : State) (d : Nat) : State :=
  (List.range 8).foldl (fun t k => t.setReg (Reg.at (Reg.BOND_INSVC0 + 4 * k) d)
    ((List.range 32).foldl (fun v j => if (s.die d).serving.contains (32 * k + j) then v + 2 ^ j else v) 0)) s

/-- Build a die's interleave over its channels in service (R257); `BOND.STAT.CHANNELS` and `BOND.INSVC` follow. -/
def State.buildInterleave (s : State) (d : Nat) : State :=
  let l := (s.die d).serving
  let s := s.onDie d fun x => { x with order := l }
  (s.setFld (Reg.at Reg.BOND_STAT d) 8 0 l.length).showService d

/-- Discard any loaded schedule image. A RUN letter that waits for START is answered with STATUS 6 (R350, R461). -/
def State.discardImage (s : State) : State :=
  let armed := s.host.runArmed
  let s := { s with image := { s.image with loaded := false }, host := { s.host with runArmed := none } }
  match armed with
  | some (slot, _) => s.answer slot 6
  | none => s

/-- Drop the claims of an identity on ranges of the dies' bonded memory (R391, R243). -/
def State.dropHolds (s : State) (ident : Nat) : State :=
  { s with dies := Map.vals {} (fun (d : Die) => { d with holds := d.holds.filter fun h => h.1 != ident }) s.dies }

/-- A mirror in progress is abandoned with 0x7402 (R392). -/
def State.loseMirror (s : State) : State :=
  match s.res.mirror with
  | some _ => (({ s with res := { s.res with mirror := none } }.dropHolds 0).setFld Reg.RES_STAT 0 0 0).raise 0x7402 0
  | none => s

/-- A departure from PARKED, or an image load, clears every sequence table (R303). -/
def State.clearTables (s : State) : State := s.loseMirror.clearSequences

/-- Every bank of every core ACTIVE (R234). -/
def State.banksActive (s : State) : State :=
  { s with cores := Map.vals {} (fun (c : Core) => { c with banks := [], waking := [], retainWait := [], bankGoal := [], wakeTold := [], testing := none }) s.cores }

/-- Is a channel of the interleave mapped out since it was built (R266, R267)? -/
def Die.lost (d : Die) : Bool := d.order.any fun c => (d.chan c).state == 2
def State.channelLost (s : State) : Bool := (List.range 4).any fun d => (s.die d).lost

/-- PARKED to READY (event 0x0B; R267, R303, R234): the tables are cleared, the banks ACTIVE, and where a channel was mapped out the
interleave is rebuilt and the image discarded. A restart or a park of the same cycle is undone. -/
def State.leaveParked (s : State) : State :=
  let s := s.transition 0x0B .ready
  if s.mod ≠ .ready then s else
  let s := s.clearTables.banksActive
  let s := { s with res := { s.res with cutMapOut := false, parking := none }, dom := { s.dom with hold := none }
                    cores := Map.vals {} (fun (c : Core) => { c with issuing := false }) s.cores }
  let lost := (List.range 4).filter fun d => (s.die d).lost
  let s := lost.foldl State.buildInterleave s
  if lost.isEmpty then s else s.discardImage

end Sys2Proof.Machine
end

