-- ==== Sys2Proof/Machine/Release.lean ====
section
/-!
DEFINITION. Release (R351–R357, R361): uses of the release table and their postmarks, claims, counting landed bytes, releasing.
-/
namespace Sys2Proof.Machine

/-- The step k of R351: `FMT.STEP` less BASE_STEP. -/
def State.stepK (s : State) : Nat := s.step40 - s.image.baseStep

def Core.relEnt (c : Core) (e : Nat) : RelEnt := Map.get {} c.rel e
def Core.usesOf (c : Core) (e : Nat) : Nat := Map.get 0 c.uses e

/-- The postmark that the schedule clock stands for: it stands still at F_stop while the module is HELD (R358, R361). -/
def State.schedPm (s : State) : Nat := if s.mod = .held then s.dom.fstop else s.pm

/-- P_n of use n of an entry (R353), as a 64-bit postmark. -/
def State.releaseOf (s : State) (r : RelEnt) (n : Nat) : Nat :=
  let tau : Int := (s.stepK * s.image.period + r.offset + n * r.stride : Nat)
  (((s.schedPm : Int) - s.time.sched + tau) % (2 ^ 64 : Int)).toNat

/-- D, the decision postmark: the one use of entry 0 (R352, R161), which a hold whose F_stop it does not pass leaves where it is (R364). Every
core's entry 0 is alike; the first core with one stands for them. -/
def State.decisionPm (s : State) : Nat :=
  let r := (s.cores.find? fun e => (e.2.relEnt 0).valid).map fun e => e.2.relEnt 0
  (s.releaseOf (r.getD {}) 0 + 2 ^ 64 - s.stepSt.unmoved % 2 ^ 64) % 2 ^ 64

/-- Take the next use of an entry of a core (R354): its number and its postmark; none where the uses are spent (R357). -/
def State.takeUse (s : State) (g e : Nat) : State × Option (Nat × Nat) :=
  let c := s.core g
  let r := c.relEnt e
  let n := c.usesOf e
  if n < r.uses then (s.setCore g { c with uses := Map.set 0 c.uses e (n + 1) }, some (n, s.releaseOf r n))
  else (s, none)

/-- Add a claim to a core; its identity is given back. -/
def Core.claim (c : Core) (k : Claim) : Core × Nat :=
  ({ c with claims := c.claims ++ [{ k with ident := c.nextClaim }], nextClaim := c.nextClaim + 1 }, c.nextClaim)

def Core.unclaim (c : Core) (ident : Nat) : Core := { c with claims := c.claims.filter fun k => k.ident != ident }

/-- The unit range of bytes in a space of a core: 0 tile store, 1 accumulator store, 2 scalar data memory. -/
def spaceUnits (space a n : Nat) : Nat × Nat × Nat :=
  if space = 0 then granules a n else if space = 1 then accTiles a n else sdmUnits a n

/-- Poison a byte range of a space. -/
def Core.poisonSpace (c : Core) (space a n : Nat) : Core :=
  if space = 2 then
    (if n = 0 then c else { c with sdmPoison := Map.fill false c.sdmPoison (a / 64) ((a + n - 1) / 64 + 1 - a / 64) fun _ => true })
  else c.poisonRange (space = 1) a n

/-- Write bytes of a space with the poison of each 64-byte piece of them. -/
def Core.writeSpace (c : Core) (space a : Nat) (data : List Byte) (poison : Nat) : Core :=
  let n := data.length
  if space = 2 then { c.sdmPut a n (byteAt data) false with sdmPoison := mergeParts c.sdmPoison 64 a n poison }
  else if space = 1 then { c.putBytes true a n (byteAt data) false with accPoison := mergeParts c.accPoison 512 a n poison }
  else { c.putBytes false a n (byteAt data) false with tsPoison := mergeParts c.tsPoison 64 a n poison }

/-- Read bytes of a space, and the poison of each 64-byte piece of them. -/
def Core.readSpace (c : Core) (space a n : Nat) : List Byte × Nat :=
  let l := (List.range n).map fun i => if space = 2 then c.sdmByte (a + i) else c.tileByte (space = 1) (a + i)
  let p := (List.range ((n + 63) / 64)).foldl (fun v i =>
    let k := Nat.min 64 (n - i * 64)
    if (if space = 2 then c.sdmPoisoned (a + i * 64) k else c.anyPoison (space = 1) (a + i * 64) k) then v + 2 ^ i else v) 0
  (l, p)

/-- Bytes of a space. -/
def spaceSize (space : Nat) : Nat := if space = 0 then 12288 * 512 else if space = 1 then 32 * 65536 else 0x18000

/-- EXPECT (R354, R357): take the next use of the entry and claim its destination; where the uses are spent, 0x7307, and the claim is
never released. -/
def State.expectUse (s : State) (g e : Nat) : State :=
  let r := (s.core g).relEnt e
  match s.takeUse g e with
  | (s, some (n, p)) =>
    let a := r.dest + n * r.dstride
    let u := spaceUnits r.space a r.bytes
    s.onCore g fun c => (c.claim { ident := 0, src := 0, space := r.space, first := u.2.1, units := u.2.2, entry := e, addr := a, bytes := r.bytes, rel := p, async := r.async }).1
  | (s, none) =>
    let a := r.dest + r.uses * r.dstride
    let u := spaceUnits r.space a r.bytes
    (s.onCore g fun c => (c.claim { ident := 0, src := 0, space := r.space, first := u.2.1, units := u.2.2, entry := e, addr := a, bytes := r.bytes, never := true }).1).raise 0x7307 0

/-- May a claim be released now (R354, R361)? -/
def State.claimDue (s : State) (k : Claim) : Bool :=
  k.src == 0 && !k.never && decide (k.bytes ≤ k.got) &&
    (k.async || (decide (k.rel ≤ s.pm) && !(s.mod == .held && decide (s.dom.fstop < k.rel))))

/-- Release every claim of a core that is due. -/
def State.releaseCore (s : State) (g : Nat) : State :=
  if (s.core g).claims.any s.claimDue then s.onCore g fun c => { c with claims := c.claims.filter fun k => !s.claimDue k } else s

/-- Release every claim that is due. -/
def State.releaseDue (s : State) : State := (s.cores.map (·.1)).foldl State.releaseCore s

/-- The EXPECT claim of a core that covers a byte range for a packet with a release postmark (R354, R355): the same postmark, or an
ASYNC entry for RELEASE 0. -/
def Core.expecting (c : Core) (space a n rel : Nat) : Option Claim :=
  c.claims.find? fun k => k.src == 0 && k.space == space && decide (k.addr ≤ a) && decide (a + n ≤ k.addr + k.bytes) &&
    !k.never && (k.rel == rel || (rel == 0 && k.async))

/-- Count bytes landed in a claim's range (R354, R356, R357): complete after P_n is a late letter; past BYTES is 0x7308, and the range
is poisoned and released at once. -/
def State.countLanded (s : State) (g : Nat) (k : Claim) (n : Nat) : State :=
  let got := k.got + n
  if got > k.bytes then
    (s.onCore g fun c => (c.unclaim k.ident).poisonSpace k.space k.addr k.bytes).raise 0x7308 0
  else
    let s := s.onCore g fun c => { c with claims := c.claims.map fun x => if x.ident = k.ident then { x with got := got } else x }
    let s := if got = k.bytes ∧ k.rel < s.pm then s.late k.rel else s
    s.releaseCore g

/-- Move a held release postmark by H (R364): one later than F_stop moves, 0 never. -/
def shiftRel (fstop h p : Nat) : Nat := if p = 0 ∨ p ≤ fstop then p else p + h

end Sys2Proof.Machine
end

