-- ==== Sys2Proof/Machine/Clock.lean ====
section
/-!
DEFINITION. References, the timing DPLL, phase measurements, half-alive wires and the spine (R20–R34, R42, R313).
-/
namespace Sys2Proof.Machine

def dpllStat (h : Nat) : Nat := Reg.at Reg.TIME_DPLL_STAT h
def dpllCtl (h : Nat) : Nat := Reg.at Reg.TIME_DPLL_CTL h

/-- `TIME.DPLL_STAT.STATE` and `ACTIVE_REF` of the active DPLL. -/
def State.dpll (s : State) : Nat := s.fld (dpllStat s.hub) 2 0
def State.activeRef (s : State) : Nat := s.fld (dpllStat s.hub) 11 8

/-- MODE as taken: 3 is 2. -/
def State.dpllMode (s : State) : Nat := Nat.min 2 (s.fld (dpllCtl s.hub) 1 0)
/-- PHASE_SRC as taken: 3 is 0. -/
def State.phaseSrc (s : State) : Nat := let v := s.fld (dpllCtl s.hub) 9 8; if v = 3 then 0 else v

/-- Reference codes in priority order; codes other than 1 and 8–15 are none (R30). -/
def State.refPrio (s : State) : List Nat :=
  ((List.range 4).map fun i => s.fld (Reg.at Reg.TIME_REF_PRIO s.hub) (4 * i + 3) (4 * i)).filter fun r => r == 1 || decide (8 ≤ r)

/-- The highest-priority reference present. -/
def State.bestRef (s : State) : Option Nat := s.refPrio.find? fun r => s.time.present.contains r

/-- The quality level of the active reference (R313): as last received on a port, or that of the root input. -/
def State.quality (s : State) : Nat := if 8 ≤ s.activeRef then Map.get 0 s.time.esmc (s.activeRef - 8) else Config.rootQuality

/-- Send a port's ESMC message (R313): DNU, 0xF, on the port whose clock is the active reference. -/
def State.sendEsmc (s : State) (p : Nat) : State :=
  if (s.port p).link = 2 then s.emit (.esmc p (if s.activeRef = 8 + p then 15 else s.quality)) else s
def State.sendEsmcs (s : State) : State := (List.range 8).foldl State.sendEsmc s

/-- Has a reference been present for 1 s (R31)? -/
def State.steady (s : State) (r : Nat) : Bool := s.time.present.contains r && decide (Map.get 0 s.time.presentAt r + ms 1000 ≤ s.now)

/-- Go to ACQUIRE on a reference; a change of the active reference is an event. -/
def State.acquire (s : State) (r : Nat) : State :=
  let changed := s.activeRef ≠ r
  let s := { s with time := { s.time with lossSwitch := false } }
  let s := (s.setFld (dpllStat s.hub) 2 0 1).setFld (dpllStat s.hub) 11 8 r
  if changed then (s.event (dpllStat s.hub) 17).sendEsmcs else s

/-- Go to HOLDOVER. -/
def State.holdover (s : State) : State := (s.setFld (dpllStat s.hub) 2 0 3).event (dpllStat s.hub) 18

/-- A reference is lost (R31, R32). DESIGN CHOICE (log 101): in ACQUIRE the next reference is the highest-priority one present, not the next below
the one lost. -/
def State.refLost (s : State) (r : Nat) : State :=
  let s := { s with time := { s.time with present := s.time.present.filter (· != r) } }
  let s := if s.refPrio.contains r then s.event (dpllStat s.hub) 16 else s
  if s.activeRef ≠ r then s
  else if s.dpll = 2 then
    let lower := ((s.refPrio.dropWhile (· != r)).tail).find? fun x => s.time.present.contains x
    let s := s.holdover
    let s := { s with time := { s.time with lossSwitch := true } }
    match lower with
    | some x => if s.dpllMode = 1 then (s.acquire x).raise 0x7001 s.hub else s
    | none => if s.bestRef.isNone then s.raise 0x7002 s.hub else s
  else if s.dpll = 1 then
    match s.bestRef with
    | some x => (s.acquire x).raise 0x7001 s.hub
    | none => s.setFld (dpllStat s.hub) 2 0 0
  else s

/-- What the DPLL does under its present control fields (R31): free-run, leaving free-run, forced holdover. -/
def State.dpllObey (s : State) : State :=
  if s.dpllMode = 0 then (if s.dpll = 4 then s else s.setFld (dpllStat s.hub) 2 0 0)
  else if s.dpllMode = 1 then
    (if s.dpll = 0 then (match s.bestRef with | some r => s.acquire r | none => s) else s)
  else if s.dpll = 2 then s.holdover else s

/-- A write to TIME waits for the next frame boundary (DPLL_CTL, REF_PRIO); the fields of both hubs are kept as written. -/
def State.timeWrite (s : State) (off v : Nat) : State :=
  { s with time := { s.time with dpllWrites := s.time.dpllWrites ++ [(off, BitVec.ofNat 32 v)] } }

/-- With PHASE_SRC 0 no measurement is made and PHASE_ERR reads 0, so none stays beyond the limit (R34). -/
def State.noPhase (s : State) : State :=
  { s.setReg (Reg.at Reg.TIME_PHASE_ERR s.hub) 0 with time := { s.time with phaseBad := 0, phaseGood := 0 } }

/-- Apply one waiting write: BW takes 0–3 alone. -/
def State.applyTime (s : State) (w : Nat × Word) : State :=
  if Reg.canon w.1 = Reg.TIME_DPLL_CTL then
    let v := w.2.toNat
    let v := if bits v 7 4 ≤ 3 then v else putBits v 7 4 (s.fld w.1 7 4)
    let s := s.setReg w.1 (Nat.land v 0x3F7)
    if s.phaseSrc = 0 then s.noPhase else s
  else s.setReg w.1 (Nat.land w.2.toNat 0xFFFF)

/-- The writes that take effect at a frame boundary. -/
def State.applyTimes (s : State) : State :=
  if s.time.dpllWrites.isEmpty then s
  else
    let s' := s.time.dpllWrites.foldl State.applyTime s
    { s' with time := { s'.time with dpllWrites := [] } }.dpllObey

/-- A phase measurement (R34): eight in a row beyond ±4 ns raise 0x7004. DESIGN CHOICE (log 101): it is raised at the eighth alone, and not again
while the error stays beyond. -/
def State.phaseMeasured (s : State) (ps : Int) : State :=
  let s := s.setReg (Reg.at Reg.TIME_PHASE_ERR s.hub) (unsigned 32 ps)
  if ps.natAbs > 4000 then
    let n := s.time.phaseBad + 1
    let s := { s with time := { s.time with phaseBad := n, phaseGood := 0 } }
    if n = 8 then s.raise 0x7004 s.hub else s
  else { s with time := { s.time with phaseBad := 0, phaseGood := s.time.phaseGood + 1 } }

/-- Load the postmark counter: master and copies together (R33, R347). -/
def State.loadPostmark (s : State) (v : Nat) : State :=
  { s with time := { s.time with pm := v % 2 ^ 64, skew := [], phaseGood := 0, phaseBad := 0 } }

def execPpsInEdge (ps : Int) (s : State) : Ans := .next (if s.phaseSrc = 2 then s.phaseMeasured ps else s)
/-- PTP runs in the scheduler core: while it restarts, an exchange is missed (R312). -/
def execPtpSync (ps : Int) (s : State) : Ans :=
  .next (if s.phaseSrc = 1 ∧ (s.proc (4 * s.hub + 2)).st = .running then s.phaseMeasured ps else s)

/-- R313: DNU, quality level 0xF, makes the port's clock count as lost; a new level of the active reference is sent on. -/
def execEsmc (port ql : Nat) (s : State) : Ans :=
  .next <|
    let s := { s with time := { s.time with esmc := Map.set 0 s.time.esmc port ql } }
    if ql = 15 ∧ s.time.present.contains (8 + port) then s.refLost (8 + port)
    else if s.activeRef = 8 + port then s.sendEsmcs else s

def execRefLost (r : Nat) (s : State) : Ans := .next (if s.time.present.contains r then s.refLost r else s)

/-- R31: a reference listed in REF_PRIO becomes present; from FREE_RUN with MODE 1 the DPLL acquires the best one. -/
def execReferencePresent (r : Nat) (s : State) : Ans :=
  .next <|
    let s := if s.time.present.contains r then s else
      { s with time := { s.time with present := s.time.present ++ [r], presentAt := Map.set 0 s.time.presentAt r s.now } }
    if s.dpllMode = 1 ∧ s.dpll = 0 then s.dpllObey else s

/-- R31: LOCKED, which MODE 2 leaves at once. -/
def execDpllLock (s : State) : Ans := .next (if s.dpll = 1 then (s.setFld (dpllStat s.hub) 2 0 2).dpllObey else s)

/-- R31: with REVERT, a reference above the active one has been present for 1 s. -/
def execRevert (s : State) : Ans :=
  .next <|
    let higher := s.refPrio.takeWhile (· != s.activeRef)
    if s.dpll = 2 ∧ s.fld (dpllCtl s.hub) 2 2 = 1 ∧ higher.any s.steady then s.holdover else s

/-- R31: the highest-priority reference that has been present for 1 s; it is another than the one lost: 0x7001 (R42). -/
def execHoldoverAcquire (s : State) : Ans :=
  .next <|
    if s.dpll = 3 ∧ s.dpllMode = 1 then
      match s.refPrio.find? s.steady with
      | some r => if s.time.lossSwitch ∧ s.activeRef ≠ r then (s.acquire r).raise 0x7001 s.hub else s.acquire r
      | none => s
    else s

def execSynthUnlock (s : State) : Ans := .next (s.raise 0x7005 s.hub)

/-- R22: hub 1 reads HA_W, hub 0 reads HA_E. -/
def execHalfAliveDead (hub : Nat) (s : State) : Ans :=
  .next (if hub = 1 then { s with fw := { s.fw with haW := false } } else { s with fw := { s.fw with haE := false } })
def execHalfAliveAlive (hub : Nat) (s : State) : Ans :=
  .next (if hub = 1 then { s with fw := { s.fw with haW := true } } else { s with fw := { s.fw with haE := true } })

/-- R21, R42: beyond the spare count while RUNNING. -/
def execSpineLaneLost (s : State) : Ans := .next (if s.mod = .running then s.raise 0x6002 0 else s)
/-- R42: the H0–H1 link lost training while both half-alive wires read alive. -/
def execHubLinkDown (s : State) : Ans := .next (if s.fw.haW && s.fw.haE then s.raise 0x6003 0 else s)

end Sys2Proof.Machine
end

