-- ==== Sys2Proof/Machine/Trust.lean ====
section
/-!
DEFINITION. Keys, certificates, firmware images, the image set and the configuration record (R473–R484): what the configuration flash
holds and what verifies.
-/
namespace Sys2Proof.Machine

/-- A byte of the configuration flash; erased bytes read 0xFF. -/
def State.flashByte (s : State) (a : Nat) : Byte := Map.get 0xFF#8 s.boot.cfgFlash a
def State.flash (s : State) (a n : Nat) : List Byte := (List.range n).map fun i => s.flashByte (a + i)
def State.flashNat (s : State) (a n : Nat) : Nat := leNat (s.flash a n)

/-- Areas (R473): offset and size. -/
abbrev Area.keystore : Nat := 0x000000
abbrev Area.owner : Nat := 0x040000
abbrev Area.identity : Nat := 0x050000
abbrev Area.config : Nat := 0x060000
abbrev Area.repair : Nat := 0x080000
abbrev Area.counters : Nat := 0x100000
abbrev Area.imageSet : Nat := 0x200000

/-- Size of the area that begins at an offset. -/
def areaSize (off : Nat) : Nat :=
  if off = 0 then 0x40000 else if off = 0x40000 then 0x10000 else if off = 0x50000 then 0x10000 else if off = 0x60000 then 0x20000
  else if off = 0x80000 then 0x80000 else if off = 0x100000 then 0x100000 else if off = 0x200000 then 0x1000000 else 0

/-- The name of a public key (R476). -/
def keyRef (key : List Byte) : Nat := leNat ((shakeDigest32 key).take 8)

/-- A signature over the SHAKE256-512 digest of a message (R476). -/
def sigOver (key msg sig : List Byte) : Bool := Config.mldsaVerify key (shake512 msg) sig

def State.vendorKey (s : State) : List Byte := s.flash (Area.keystore + 0x40) 1952
def State.ownerEnrolled (s : State) : Bool := s.flashNat Area.owner 4 == 1
def State.ownerKey (s : State) : List Byte := s.flash (Area.owner + 0x40) 1952

/-- Certificates of the KEYSTORE (R477): how many, and the bytes of one. -/
def State.certCount (s : State) : Nat :=
  if s.flashNat Area.keystore 4 = 0x4B535452 ∧ s.flashNat (Area.keystore + 4) 2 = 1 then Nat.min 40 (s.flashNat (Area.keystore + 6) 2) else 0
def State.cert (s : State) (i : Nat) : List Byte := s.flash (Area.keystore + 0x1000 + 5376 * i) 5376

def certUsage (c : List Byte) : Nat := fieldAt c 6 2
def certSubject (c : List Byte) : Nat := fieldAt c 8 8
def certIssuer (c : List Byte) : Nat := fieldAt c 0x10 8
def certKey (c : List Byte) : List Byte := slice c 0x40 1952
def certSigned (c key : List Byte) : Bool := sigOver key (slice c 0 0x800) (slice c 0x800 3309)

/-- The issuer of a certificate, if an anchor or an admitted issuer names it: its key, usage, depth and anchor. -/
def State.issuerOf (s : State) (admitted : List (Nat × Nat × Bool)) (c : List Byte) : List (List Byte × Nat × Nat × Bool) :=
  (if certIssuer c = keyRef s.vendorKey then [(s.vendorKey, 0xFFFF, 0, false)] else []) ++
  (if s.ownerEnrolled && certIssuer c == keyRef s.ownerKey then [(s.ownerKey, 0xFFFF, 0, true)] else []) ++
  admitted.filterMap fun a =>
    let i := s.cert a.1
    if certSubject i = certIssuer c ∧ bit (certUsage i) 3 then some (certKey i, certUsage i, a.2.1, a.2.2) else none

/-- May a certificate be admitted beside those already admitted (R478)? Its depth and anchor, if so. -/
def State.admits (s : State) (admitted : List (Nat × Nat × Bool)) (c : List Byte) : Option (Nat × Bool) :=
  if fieldAt c 0 4 = 0x43455254 ∧ fieldAt c 4 2 = 1 ∧ certSubject c = keyRef (certKey c) then
    ((s.issuerOf admitted c).find? fun k =>
      certSigned c k.1 && decide (k.2.2.1 + 1 ≤ 3) && Nat.land (certUsage c) k.2.1 == certUsage c).map fun k => (k.2.2.1 + 1, k.2.2.2)
  else none

/-- One pass over the stored certificates, in order. -/
def State.admitPass (s : State) (admitted : List (Nat × Nat × Bool)) : List (Nat × Nat × Bool) :=
  (List.range s.certCount).foldl (fun a i =>
    if a.any fun x => x.1 == i then a
    else match s.admits a (s.cert i) with
      | some (d, o) => a ++ [(i, d, o)]
      | none => a) admitted

/-- Passes are repeated until one admits none (R478). -/
def State.admitAll (s : State) : Nat → List (Nat × Nat × Bool) → List (Nat × Nat × Bool)
  | 0, a => a
  | n + 1, a => let b := s.admitPass a; if b.length = a.length then a else s.admitAll n b

/-- The key that a KEY_REF names for a usage bit, under a vendor or an owner anchor (R478). -/
def State.keyFor (s : State) (usage : Nat) (vendor owner : Bool) (ref : Nat) : Option (List Byte) :=
  s.boot.admitted.findSome? fun a =>
    let c := s.cert a.1
    if certSubject c = ref ∧ bit (certUsage c) usage ∧ (if a.2.2 then owner else vendor) then some (certKey c) else none

/-- The key of a schedule image (R478): under the owner root when enrolled, the vendor root otherwise. -/
def State.scheduleKey (s : State) (ref : Nat) : Option (List Byte) :=
  s.keyFor 2 (!s.ownerEnrolled) s.ownerEnrolled ref

/-! Firmware images (R479). -/

/-- Private memory of a kind (R418): 0 SEC, 1 PWR, 2 SCH, 3 CTL. -/
def privateMem (kind : Nat) : Nat := if kind = 0 then 0x100000 else if kind = 1 then 0x80000 else if kind = 2 then 0x400000 else 0x80000

/-- An image's measurement (R479). -/
def measurement (img : List Byte) : List Byte := shake512 (img.take 0x100)

def imageVersion (img : List Byte) : Nat := fieldAt img 8 4

/-- The fields of R479 that do not need a key. -/
def imageFields (kind : Nat) (img : List Byte) : Bool :=
  let n := fieldAt img 0xC 4
  fieldAt img 0 4 == 0x4657494D && fieldAt img 4 1 == kind && decide (kind ≤ 3) && decide (4 ≤ n) && decide (n ≤ privateMem kind) &&
  n % 4 == 0 && img.length == 0x1000 + n && decide (fieldAt img 0x10 4 < n)

/-- Signature and body digest of an image. -/
def State.imageSigned (s : State) (img : List Byte) : Bool :=
  match s.keyFor 0 true false (fieldAt img 0x18 8) with
  | some key => sigOver key (img.take 0x100) (slice img 0x100 3309) && slice img 0x20 64 == shake512 (img.drop 0x1000)
  | none => false

/-- The images of the image set, by kind, if it verifies (R480). -/
def State.imageSet (s : State) : Option (List (Nat × List Byte)) :=
  let at' := Area.imageSet
  if s.flashNat at' 4 = 0x53455449 ∧ s.flashNat (at' + 4) 2 = 1 ∧ s.flashNat (at' + 6) 2 = 4 then
    let es := (List.range 4).map fun i => at' + 0x10 + 16 * i
    let ok := es.all fun e =>
      let off := s.flashNat (e + 4) 4
      let len := s.flashNat (e + 8) 4
      off % 0x1000 == 0 && decide (off + len ≤ areaSize at') && leNat (s.flash (e + 1) 3) == 0 && s.flashNat (e + 12) 4 == 0
    if ok then
      let imgs := es.map fun e => (s.flashNat e 1, s.flash (at' + s.flashNat (e + 4) 4) (s.flashNat (e + 8) 4))
      if (List.range 4).all (fun k => (imgs.filter fun i => i.1 == k).length == 1) && imgs.all (fun i => imageFields i.1 i.2 && s.imageSigned i.2)
      then some imgs else none
    else none
  else none

/-- Key of a cache slot: hub, kind, pending. -/
def cacheKey (hub kind : Nat) (pending : Bool) : Nat := hub * 8 + kind * 2 + (if pending then 1 else 0)

def State.cached (s : State) (hub kind : Nat) (pending : Bool) : FwImage := Map.get {} s.fw.cache (cacheKey hub kind pending)
def State.setCached (s : State) (hub kind : Nat) (pending : Bool) (img : List Byte) : State :=
  { s with fw := { s.fw with cache := Map.set {} s.fw.cache (cacheKey hub kind pending) { bytes := img, digest := measurement img } } }

/-! The configuration record (R483). -/

def cfgAt (o : Nat) : Nat := Area.config + o

/-- A lane map: the connector lanes of one direction of a port. -/
def State.laneMap (s : State) (p : Nat) (rx : Bool) : List Nat :=
  (List.range 8).map fun i => s.flashNat (cfgAt (0x40 + 16 * p + 2 * i + (if rx then 1 else 0))) 1 % 8

def isPermutation (l : List Nat) : Bool := (List.range 8).all fun i => l.contains i

/-- Does the configuration record stand (R484)? -/
def State.configOk (s : State) : Bool :=
  s.flashNat (cfgAt 0) 4 == 0x43474652 && s.flashNat (cfgAt 4) 2 == 1 && decide (s.flashNat (cfgAt 6) 2 ≤ 64) &&
  ((List.range 8).all fun p => isPermutation (s.laneMap p false) && isPermutation (s.laneMap p true)) &&
  (match s.keyFor 1 true true (s.flashNat (cfgAt 0x10) 8) with
   | some key => sigOver key (s.flash (cfgAt 0) 0x1000) (s.flash (cfgAt 0x1000) 3309)
   | none => false)

end Sys2Proof.Machine
end

