-- ==== Sys2Proof/Machine/Firmware.lean ====
section
/-!
DEFINITION. Firmware processors (ch. 14): restarts, updates, the lease and the hub in charge, host loss and control-core services.
-/
namespace Sys2Proof.Machine

/-- Kind of a processor by its SOURCE code (R438): 0 SEC, 1 PWR, 2 SCH, 3 CTL. -/
def kindOf (p : Nat) : Option Nat :=
  if p < 8 then (if p % 4 < 3 then some (p % 4) else none) else if 0x10 ≤ p ∧ p < 0x40 then some 3 else none

/-- The hub whose cache a processor's image comes from: its own, or that of its half (R23). -/
def hubOf (p : Nat) : Nat := if p < 8 then p / 4 else (p - 0x10) / 24

/-- The notice of a restart (R427). -/
def restartNotice (kind : Nat) : Nat := if kind = 3 then 0x8001 else if kind = 2 then 0x8002 else if kind = 1 then 0x8003 else 0x8004

/-- Does the copy of a processor's image check (R425)? An update's restart copies the pending slot (R423); SEC also verifies its image's
signature. -/
def State.copyChecks (s : State) (p kind : Nat) (pending : Bool) : Bool :=
  let i := s.cached (hubOf p) kind pending
  measurement i.bytes == i.digest && (kind != 0 || s.imageSigned i.bytes)

/-- Restarts of a processor that began within the last 60 s. -/
def Proc.recent (p : Proc) (now : Nat) : List Nat := p.begun.filter fun t => decide (now < t + ms 60000)

/-- Restart a processor (R424, R425, R427). One that would begin its fifth restart within 60 s is held stopped with 0x8006; a held
processor answers to `FW.RESTART` alone; one whose copy mismatches is held stopped with 0x800C. -/
def State.restart (s : State) (p cause : Nat) : State :=
  match kindOf p with
  | none => s
  | some kind =>
    let r := s.proc p
    let go := match r.st with
      | .stopped => false
      | .heldStopped => cause == 5
      | _ => true
    if !go then s
    else if r.st ≠ .heldStopped ∧ 4 ≤ (r.recent s.now).length then
      (s.setProc p { r with st := .heldStopped }).raise 0x8006 0
    else
      let begun := s.now :: (if r.st = .heldStopped then [] else r.recent s.now)
      let ok := s.copyChecks p kind (cause == 4)
      let s := s.setProc p { r with st := if ok then .restarting else .heldStopped, restarts := Nat.min 255 (r.restarts + 1)
                                    cause := cause, begun := begun, overrun := false, comp := none }
      let s := (s.record 3 p 0 0 cause).tally 10
      s.raiseAll ((restartNotice kind, 0) :: if ok then [] else [(0x800C, 0)])

/-- A processor of the hub in charge, or a control core, runs; one of the other hub stands by (R418). -/
def State.role (s : State) (p : Nat) : ProcState := if p < 8 ∧ p / 4 ≠ s.hub then .standby else .running

/-! Updates (R423). -/

/-- The processors of a kind in the order an update restarts them: standby copies first; control cores in ascending number. -/
def State.updateOrder (s : State) (kind : Nat) : List Nat :=
  if kind = 3 then (List.range 48).map (· + 0x10) else [4 * (1 - s.hub) + kind, 4 * s.hub + kind]

/-- Can a restart reach the processor? -/
def State.up (s : State) (p : Nat) : Bool := (s.proc p).st == .running || (s.proc p).st == .standby

/-- Go on with an update: restart the next processor of its list after `done`; with none left the pending slots become current and the
letter is answered. -/
def State.updateNext (s : State) (done : Option Nat) : State :=
  match s.fw.update with
  | none => s
  | some (slot, kind) =>
    let l := s.updateOrder kind
    let rest := match done with
      | none => l
      | some p => (l.dropWhile (· != p)).tail
    match rest.find? s.up with
    | some p => s.restart p 4
    | none =>
      let s := (List.range 2).foldl (fun t h => t.setCached h kind false (t.cached h kind true).bytes) s
      { s with fw := { s.fw with update := none } }.answer slot 0

/-- Does an update wait for a processor that was held stopped and runs again: one of its kind, with none of them restarting or held? -/
def State.updateAwaits (s : State) (p : Nat) : Bool :=
  match s.fw.update with
  | none => false
  | some (_, kind) =>
    (s.updateOrder kind).contains p && (s.updateOrder kind).all fun q => (s.proc q).st != .restarting && (s.proc q).st != .heldStopped

/-! Control-core services (R419). -/

def serviceAddr (n : Nat) : Nat := 0x17F00 + 32 * n

/-- The control core of a core, by SOURCE code. -/
def ctlOf (g : Nat) : Nat := 0x10 + g / 8
def State.ctlUp (s : State) (g : Nat) : Bool := (s.proc (ctlOf g)).st == .running

def Core.service (c : Core) (n : Nat) : Option Service := Map.get none c.services n

/-- Write ANSWER and release it. -/
def Core.serve (c : Core) (n v : Nat) : Core :=
  let c := c.sdmWrite (serviceAddr n + 24) 8 v
  { c with services := Map.set none c.services n none
           claims := c.claims.filter fun k => !(k.src == 3 && k.first == (serviceAddr n + 24) / 8) }

/-- Kinds the control core does not know are answered with all ones. -/
def State.serveUnknown (s : State) (g : Nat) : State :=
  if s.ctlUp g then
    s.onCore g fun c => (List.range 4).foldl (fun c n =>
      match c.service n with
      | some v => if 1 ≤ v.kind ∧ v.kind ≤ 3 then c else c.serve n (2 ^ 64 - 1)
      | none => c) c
  else s

/-- Is a trace id enabled (R439)? -/
def State.traceOn (s : State) (id : Nat) : Bool := bit (s.reg (Reg.FW_TRACE_EN0 + 4 * (id / 32))) (id % 32)

def execLog (g n : Nat) (s : State) : Ans :=
  .next <| match (s.core g).service n with
    | some v =>
      if v.kind = 1 ∧ s.ctlUp g then
        (s.record 5 (ctlOf g) 0 0 0 (s.fillPayload 5 v.arg)).onCore g fun c => c.serve n 0
      else s
    | none => s

def execTrace (g n : Nat) (s : State) : Ans :=
  .next <| match (s.core g).service n with
    | some v =>
      if v.kind = 2 ∧ s.ctlUp g then
        let id := fieldAt v.arg 0 2 % 4096
        if s.traceOn id then (s.record 4 (ctlOf g) 0 0 id (s.fillPayload 4 (slice v.arg 8 8))).onCore g fun c => c.serve n 1
        else s.onCore g fun c => c.serve n 0
      else s
    | none => s

/-! Restarts. -/

def State.powered (s : State) : Bool := s.mod != .off && s.mod != .standby

def execWatchdogExpiry (p : Nat) (s : State) : Ans := .next (if s.up p then s.restart p 1 else s)
def execPrivateMemoryUncorrectable (p : Nat) (s : State) : Ans := .next (if s.up p then s.restart p 3 else s)

/-- R421: a violation in a restartable compartment restarts it alone, within 1 ms; any other, or a second one meanwhile, restarts the
processor. -/
def execProtectionViolation (p : Nat) (restartable : Bool) (s : State) : Ans :=
  .next <|
    if s.up p then
      let r := s.proc p
      let busy := r.comp.any fun t => decide (s.now < t + ms 1)
      if restartable && !busy then (s.setProc p { r with comp := some s.now }).raise 0x8007 0 else s.restart p 2
    else s

/-- A restart ends (R425): the processor runs, each discarded resume record is noted, and what waited for it goes on. -/
def execRestartComplete (p discards : Nat) (s : State) : Ans :=
  .next <|
    let r := s.proc p
    if r.st = .restarting then
      match kindOf p with
      | none => s
      | some kind =>
        if !s.copyChecks p kind (r.cause == 4) then (s.setProc p { r with st := .heldStopped }).raise 0x800C 0
        else
          let len := (s.now - r.begun.headD s.now) / ms 1
          let s := s.setProc p { r with st := s.role p, lastMs := Nat.min 0xFFF len, overrun := false }
          let s := (List.range discards).foldl (fun t _ => t.record 10 p 0 0 0) s
          let s := if kind = 3 then (List.range 8).foldl (fun t i => t.serveUnknown ((p - 0x10) * 8 + i)) s else s
          if r.cause = 4 || s.updateAwaits p then s.updateNext (some p) else s
    else s

def execRestartOverrun (p : Nat) (s : State) : Ans :=
  .next <|
    let r := s.proc p
    if r.st = .restarting ∧ !r.overrun then (s.setProc p { r with overrun := true }).raise 0x8005 0 else s

/-- A write of `FW.RESTART` (R440): ignored without GO, in FENCED and in RECOVERY. -/
def State.fwRestart (s : State) (v : Nat) : State :=
  if bit v 31 ∧ s.mod ≠ .fenced ∧ s.mod ≠ .recovery then s.restart (bits v 7 0) 5 else s

def execFwRestart (v : BitVec 32) (s : State) : Ans := .next (s.fwRestart v.toNat)

/-! The two halves (R429–R433). -/

/-- State of H0's scheduler core as the lease word carries it. -/
def State.schCode (s : State) : Nat :=
  match (s.proc 2).st with
  | .running => 0
  | .standby => 0
  | .restarting => 1
  | _ => 2

def execLeaseWord (s : State) : Ans :=
  .next (if s.powered then
      { s with fw := { s.fw with leaseSeq := s.fw.leaseSeq + 1, leaseSent := some (s.fw.leaseSeq + 1, s.schCode) } }
    else s)

/-- R429, R432: H1 acknowledges a word; an H1 in charge yields. -/
def execLeaseWordReceive (s : State) : Ans :=
  .next <| match s.fw.leaseSent with
    | none => s
    | some (seq, sch) =>
      let s := { s with fw := { s.fw with leaseSent := none } }
      if s.fw.h1Charge then s.raise 0x800A 0
      else
        let gap := Nat.min 255 ((s.now - s.fw.lastWord) / ms 1)
        { s with fw := { s.fw with maxGap := Nat.max s.fw.maxGap gap, lastWord := s.now, h0SchLast := sch, expired := false
                                   leaseAck := some seq } }

def execLeaseAckReceive (s : State) : Ans :=
  .next <| match s.fw.leaseAck with
    | none => s
    | some _ => { s with fw := { s.fw with leaseAck := none, unanswered := false } }

/-- The master of H1 becomes the reference of the postmark (R36): every copy is held against it. -/
def State.rebase (s : State) : State :=
  let d := Map.get 0 s.time.skew 5
  let off := fun (k : Nat) => (Map.get 0 s.time.skew k + (2 ^ 64 - d % 2 ^ 64)) % 2 ^ 64
  { s with time := { s.time with pm := (s.time.pm + d) % 2 ^ 64, skew := if d = 0 then s.time.skew else Map.tab 0 5 off } }

/-- H1 takes charge (R430, R433): its standby processors become active, H0's are gone with the daybook ring, its master is the reference, its
DPLL becomes active through HOLDOVER, which MODE 0 takes on to FREE_RUN (R29, R31), its first record is of KIND LEASE, and 0x8009 is raised, with
0x7002 where no reference is present (R42). -/
def State.takeover (s : State) : State :=
  let s := [0, 1, 2].foldl (fun t k =>
    let t := t.setProc k { t.proc k with st := .stopped }
    if (t.proc (4 + k)).st = .standby then t.setProc (4 + k) { t.proc (4 + k) with st := .running } else t) s
  let s := { s with fw := { s.fw with h1Charge := true, day := [] } }.rebase
  let s := ((s.record 7 0xFF 0 0 0).setFld (dpllStat 1) 2 0 3).event (dpllStat 1) 18
  (s.raiseAll ((0x8009, 0) :: if s.bestRef.isNone then [(0x7002, 1)] else [])).dpllObey

/-- What H1 does when its lease is out (R430). -/
def State.leaseOut (s : State) : State :=
  if s.fw.h1Charge || !s.powered then s
  else
    let s := { s with fw := { s.fw with expired := true } }
    if s.fw.haW then s.raise 0x8008 0 else s.takeover

def execLeaseExpiry (s : State) : Ans := .next s.leaseOut
/-- R433: no word since BOOT began. -/
def execBootLeaseTimeout (s : State) : Ans := .next (if s.mod = .boot ∧ s.fw.lastWord ≤ s.boot.bootAt then s.leaseOut else s)

/-- R431: with HA_E alive 0x8008, with HA_E dead 0x800B. -/
def execLeaseUnanswered (s : State) : Ans :=
  .next (if s.fw.h1Charge || !s.powered then s
    else
      let s := { s with fw := { s.fw with unanswered := true } }
      if s.fw.haE then s.raise 0x8008 0 else s.raise 0x800B 0)

/-! Host loss (R434–R436). -/

/-- Withdraw outbound slots that are POSTED or COLLECTED; a drain part in progress is abandoned and its set stays eligible (R434, R443). -/
def State.withdrawOutbound (s : State) : State :=
  let s := (List.range 16).foldl (fun t n =>
    if t.slotState false n = 1 ∨ t.slotState false n = 2 then t.setSlotState false n 0 else t) s
  { s with res := { s.res with drainParts := [], slots := Map.vals {} (fun e => { e with draining := false, drainOff := 0 }) s.res.slots } }.setFld
    Reg.RES_STAT 2 2 0

def execHostAbsent (s : State) : Ans :=
  .next (if s.fw.hostTimer && !s.fw.absent && !s.fw.h1Charge then
      let s := { s with fw := { s.fw with absent := true, hostParkDue := true } }
      (((s.record 6 0xFF 0 0 0).raise 0xB101 0).withdrawOutbound)
    else s)

/-- The safe set of features (R465). -/
def State.safeSet (s : State) : State :=
  (List.range 8).foldl (fun t k => t.setReg (Reg.HOST_FEAT_GRANT0 + 4 * k) (if k = 0 then 7 else 0)) s

/-- R464, R436: a bump restarts the host timer; the first one after ABSENT clears it and withdraws the granted features. -/
def execHeartbeatBump (s : State) : Ans :=
  .next <|
    let s := { s with fw := { s.fw with hostTimer := true } }
    if s.fw.absent then
      ({ s with fw := { s.fw with absent := false, hostParkDue := false } }.record 6 0xFF 0 0 0).safeSet
    else s

end Sys2Proof.Machine
end

