-- ==== Sys2Proof/Machine/Hold.lean ====
section
/-!
DEFINITION. Holds and parks beyond their beginning (R359–R366, R399–R403): stopping, HOLD and RESUME letters, readiness, agreement,
resuming, RISK letters, entry to PARKED.
-/
namespace Sys2Proof.Machine

def State.setHold (s : State) (h : Hold) : State := { s with dom := { s.dom with hold := some h } }

/-! Parking. -/

/-- Does the module hold PARK letters from every member, its own included (R403)? -/
def State.allParked (s : State) : Bool :=
  (List.range s.dom.members.length).all fun i => Map.get 0 s.dom.parkLetters i != 0

/-- A MICROBATCH, DRAIN_BUFFERS or other letter in progress whose state condition has failed is answered with STATUS 6 (R461). The
letters accepted in RUNNING and HELD alone are those of TYPE 7. -/
def State.refuseHeld (s : State) : State :=
  s.inProgress.foldl (fun t n => if t.slotGet true n 4 1 = 7 then t.answer n 6 else t) s

/-- Enter PARKED (event 0x09) with a settled cut, which `RES.CUT` then holds (R403). The job is stopped: no core's stream runs (R3). -/
def State.enterParked (s : State) (cut : Nat) : State :=
  let s := s.transition 0x09 .parked
  if s.mod ≠ .parked then s else
  let s := (s.setReg Reg.RES_CUT_LO (cut % 2 ^ 32)).setReg Reg.RES_CUT_HI (cut / 2 ^ 32 % 256)
  let s := { s with dom := { s.dom with hold := none, postponed := [], parkLetters := [] }
                    res := { s.res with parking := none } }
  let s := { s with cores := Map.vals {} (fun (c : Core) => { c with issuing := false }) s.cores }.refuseHeld
  if s.channelLost then s.leaveParked else s

/-- PARK_ENTRY (R403): the cut is settled and PARK letters are held from every member, or the hold limit has passed since the stop. -/
def State.parkEntry (s : State) (limit : Bool) : State :=
  match s.res.parking with
  | some (_, some cut) => if s.mod = .held ∧ (limit ∨ s.allParked) then s.enterParked cut else s
  | _ => s

/-! Holds. -/

/-- Stop at F_stop (R359): HELD, or PARKED at once where that also holds in this cycle, the other condition going to the daybook (R4). -/
def State.holdStop (s : State) : State :=
  match s.dom.hold with
  | some h =>
    if s.mod = .running ∧ h.stop ≤ s.pm then
      let s := { s with dom := { s.dom with fstop := s.pm, fres := 0, heldAt := s.now } }
      let s := (s.setHold { h with stop := s.pm }).count Reg.DOM_HOLD_CNT
      match s.res.parking with
      | some (_, some cut) =>
        if s.allParked then (s.record 2 0xFF 0 0 0x07).enterParked cut else s.transition 0x07 .held
      | _ => s.transition 0x07 .held
    else s
  | none => s

/-- A HOLD letter (R359, R360): the earliest STOP seen for the hold stands; one already past stops the module at its next boundary
with 0x7302. -/
def State.applyHold (s : State) (stop seq cause : Nat) : State :=
  if !s.live || seq ≠ (s.dom.holdsDone + 1) % 65536 then s
  else
    let s := s.setFld Reg.DOM_HOLD 15 0 cause
    if s.mod = .held then s
    else
      let late := decide (stop ≤ s.pm)
      let stop := if late then boundary (s.frame + 1) else stop
      let s := match s.dom.hold with
        | some h => s.setHold { h with stop := Nat.min h.stop stop, lateStop := h.lateStop || late }
        | none => s.setHold { stop := stop, seq := s.dom.holdsDone + 1, causes := [], lateStop := late }
      if late then s.raise 0x7302 0 else s

/-- Is a cause cleared (R362)? 0x17301 is the module's own late report. -/
def State.causeCleared (s : State) (c : Nat) : Bool :=
  if c = 0x7301 then
    s.cores.all fun e => e.2.claims.all fun k => k.src != 0 || (decide (s.dom.fstop < k.rel) && !k.never)
  else if c = 0x17301 then s.stepSt.own.isSome
  else if c = 0x7004 then decide (8 ≤ s.time.phaseGood)
  else if c = 0x6205 then s.ports.all fun e => e.2.tx.all fun t => !t.2.unreachable
  else if c = 0x6302 then true
  else if c = 0x9101 then !s.pwr.warn
  else if c = 0x9301 ∨ c = 0x9302 then !s.pwr.tempWarn
  else if c = 0 then !s.dom.hostHold
  else false

/-- Every control core is running (R362). -/
def State.ctlRunning (s : State) : Bool := (List.range 48).all fun n => (s.proc (0x10 + n)).st == .running

/-- Every sequenced frame sent before the stop is covered by an ACK (R362). -/
def State.drained (s : State) : Bool :=
  s.ports.all fun e => e.2.tx.all fun t => t.2.unacked.all fun x => decide (s.dom.heldAt ≤ x.sentAt)

/-- Readiness of a held member (R362). A member that parks waits for no resume. -/
def State.selfReady (s : State) : Bool :=
  match s.dom.hold with
  | some h => s.mod == .held && s.res.parking.isNone && h.causes.all s.causeCleared && s.ctlRunning && s.drained
  | none => false

/-- The resume is agreed once RESUME letters are held from every member: F_res is the largest AT (R363); past already, the module
resumes at its next boundary. -/
def State.agree (s : State) : State :=
  match s.dom.hold with
  | some h =>
    let n := s.dom.members.length
    if h.res.isNone && (List.range n).all (fun i => Map.get 0 h.ats i != 0) then
      let at' := (List.range n).foldl (fun m i => Nat.max m (Map.get 0 h.ats i - 1)) 0
      let s := { s with dom := { s.dom with fres := at' } }
      if at' < s.pm then s.setHold { h with res := some (boundary (s.frame + 1)), lateRes := true }
      else s.setHold { h with res := some at' }
    else s
  | none => s

/-- A RESUME letter of the hold (R363). -/
def State.applyResume (s : State) (at' seq node : Nat) : State :=
  match s.dom.hold with
  | some h =>
    let i := s.dom.members.findIdx (· == node)
    if s.live && seq = h.seq % 65536 && decide (i < s.dom.members.length) then
      (s.setHold { h with ats := Map.set 0 h.ats i (at' + 1) }).agree
    else s
  | none => s

/-- A RESUME's payload (R363). -/
def resumePayload (at' seq node : Nat) : List Byte := leBytes 8 at' ++ leBytes 2 seq ++ leBytes 2 node ++ leBytes 4 0

/-- RESUME_READY (R363): a held member that is ready sends its RESUME, AT the boundary of frame r + 2. -/
def State.resumeReady (s : State) : State :=
  match s.dom.hold with
  | some h =>
    if s.selfReady && !h.ready then
      let at' := boundary (s.frame + 2)
      let i := s.dom.members.findIdx (· == s.node)
      let s := s.setHold { h with ready := true, ats := Map.set 0 h.ats i (at' + 1) }
      (s.letters Ty.resume 0 (resumePayload at' (h.seq % 65536) s.node)).agree
    else s
  | none => s

/-- Every release postmark the module holds that is later than F_stop moves by H (R364): claims, landing counters and the LANDs on
them, rounds, packets waiting or queued, and accepted letters. -/
def State.shiftReleases (s : State) (h : Nat) : State :=
  let f := shiftRel s.dom.fstop h
  let pk := fun (l : List Packet) => l.map fun k => { k with release := f k.release }
  { s with
    cores := Map.vals {} (fun (c : Core) => { c with claims := c.claims.map fun k => { k with rel := f k.rel } }) s.cores
    dies := Map.vals {} (fun (d : Die) => { d with
      landings := d.landings.map fun l => { l with pf := f l.pf }
      uncounted := d.uncounted.map fun l => (l.1, f l.2)
      rounds := d.rounds.map fun r => { r with pc := f r.pc } }) s.dies
    ports := Map.vals {} (fun (p : Port) => { p with
      waiting := pk p.waiting, q7 := pk p.q7, q6 := pk p.q6, q3 := pk p.q3, q1 := pk p.q1 }) s.ports
    clusters := Map.vals {} (fun (k : Cluster) => { k with queues := Map.vals [] (fun (q : List QEnt) => q.map fun x => { x with rel := f x.rel }) k.queues }) s.clusters
    counts := s.counts.map fun c => { c with pc := f c.pc }
    dom := { s.dom with riskWait := s.dom.riskWait.map fun r => (f r.1, r.2) } }

/-- Resume at F_res (R364): H is added, RUNNING again, and causes that arose after the agreement originate a new hold in this frame
(R365). A resume agreed late raises 0x7303 (R363). -/
def State.holdResume (s : State) : State :=
  match s.dom.hold with
  | some h =>
    if s.mod = .held ∧ h.res.any (fun r => decide (r ≤ s.pm)) ∧ s.res.parking.isNone then
      let hh := s.pm - s.dom.fstop
      let causes := s.dom.postponed
      let unmoved := s.stepSt.unmoved + (if s.decisionPm ≤ s.dom.fstop then hh else 0)
      let s := { s.shiftReleases hh with stepSt := { s.stepSt with unmoved := unmoved } }
      let s := { s with dom := { s.dom with hold := none, holdsDone := s.dom.holdsDone + 1, totalH := s.dom.totalH + hh, postponed := [] } }
      let s := s.setFld Reg.DOM_HOLD 31 16 (s.dom.holdsDone % 65536)
      let s := s.transition 0x08 .running
      let s := if h.lateRes then s.raise 0x7303 0 else s
      causes.foldl (fun t c => (t.holdCause c).1) s
    else s
  | none => s

/-- HOLD_LIMIT (R366): the hold limit passes with no resume agreed. -/
def State.holdLimit (s : State) : State :=
  match s.dom.hold with
  | some h => if s.mod = .held ∧ h.res.isNone then s.raise 0x7304 0 else s
  | none => s

/-! RISK letters. -/

/-- Enter a level in the table, at the letter's release postmark or on arrival after it (R400). -/
def State.setLevel (s : State) (member lw : Nat) : State :=
  { s with dom := { s.dom with levels := Map.set 0 s.dom.levels member lw } }

/-- The level-table entries whose release postmark is reached, in the order they wait. A stop holds back later ones (R361). -/
def State.riskDue (s : State) : State :=
  let due := fun (r : Nat × Nat × Nat) => decide (r.1 ≤ s.pm) && !(s.mod == .held && decide (s.dom.fstop < r.1))
  let s' := (s.dom.riskWait.filter due).foldl (fun t r => t.setLevel r.2.1 r.2.2) s
  { s' with dom := { s'.dom with riskWait := s.dom.riskWait.filter fun r => !due r } }

/-- A RISK letter of a member accepted (R399, R400, R402): its level waits for its release; with PARK it begins a park, or settles one
that waits for a decision that the letter's cut forbids. -/
def State.applyRisk (s : State) (release cut node level flags cause : Nat) : State :=
  let i := s.dom.members.findIdx (· == node)
  if !decide (i < s.dom.members.length) then s
  else
    let lw := level % 4 + 4 * (flags / 2 % 2)
    let s := { s with dom := { s.dom with riskWait := s.dom.riskWait ++ [(release, i, lw)] } }.riskDue
    if flags % 2 = 1 ∧ s.live then
      let s := { s with dom := { s.dom with parkLetters := Map.set 0 s.dom.parkLetters i (cut + 1) } }
      match s.res.parking with
      | none => let (s, ok) := s.beginPark cause; s.seqFull ok
      | some (c, none) =>
        if cut = s.step40 then let (s, ok) := s.discardStep.settleCut c s.step40; s.seqFull ok else s
      | some (_, some _) => s
    else s

/-- The partner's copy of a RISK letter serves input 14 alone (R399). -/
def State.partnerScore (s : State) (score : Nat) : State := s.setFld Reg.HLT_SCORE 15 8 score

end Sys2Proof.Machine
end

