-- ==== Sys2Proof/Machine/Letter.lean ====
section
/-!
DEFINITION. What every host letter shares (R459–R462): its payload, whether it may start, its refusals, and reads of host memory.
-/
namespace Sys2Proof.Machine

/-- A payload field of an inbound slot. -/
def State.pay (s : State) (slot o n : Nat) : Nat := s.slotGet true slot (0x20 + o) n

/-- Control letters execute one at a time (R461): IMAGE_LOAD, JOIN, RUN, RESTORE, RELEASE, FILL, UPDATE. -/
def isControl (ty : Nat) : Bool := ty == 4 || ty == 5 || ty == 6 || ty == 8 || ty == 9 || ty == 0xB || ty == 3

/-- The feature a letter type needs (R462), none for a type that is not defined. -/
def featureOf (ty : Nat) : Option Nat :=
  if ty = 1 then some 0 else if ty = 2 then some 2 else if ty = 3 then some 1 else if ty = 4 then some 3
  else if ty = 5 ∨ ty = 6 then some 4 else if ty = 7 then some 5 else if ty = 8 ∨ ty = 9 then some 6
  else if ty = 0xA then some 7 else if ty = 0xB then some 8 else if ty = 0xC then some 9 else none

/-- Is a feature granted (R465)? -/
def State.granted (s : State) (f : Nat) : Bool := bit (s.reg Reg.HOST_FEAT_GRANT0) f

/-- The scheduler core of the hub in charge runs: letters are collected and started (R428). -/
def State.schUp (s : State) : Bool := (s.proc (4 * s.hub + 2)).st == .running

/-- States in which a letter type is accepted (R462). -/
def accepts (ty : Nat) (m : Mod) : Bool :=
  match m with
  | .recovery => ty == 1 || ty == 2
  | .fenced => ty == 1 || ty == 2 || ty == 0xC
  | _ =>
    if ty = 1 ∨ ty = 2 ∨ ty = 0xC then true
    else if ty = 3 ∨ ty = 0xA then m == .ready || m == .running || m == .held || m == .parked
    else if ty = 4 ∨ ty = 5 ∨ ty = 6 then m == .ready
    else if ty = 7 then m == .running || m == .held
    else if ty = 8 ∨ ty = 0xB then m == .ready || m == .parked
    else if ty = 9 then m == .parked
    else false

/-- Start a collected letter of a type: a control letter only when it is the first of its queue; its state condition is checked as it
starts (R461). A RELEASE that falls in the cycle of the RESTART finds the state that the cycle began in (R4). -/
def State.startLetter (s : State) (slot ty : Nat) (body : State → State) : State :=
  if s.slotState true slot ≠ 2 ∨ s.slotGet true slot 4 1 ≠ ty ∨ !s.schUp then s
  else if isControl ty && s.host.control.head? != some slot then s
  else if !(accepts ty s.mod || (ty == 9 && s.parkedYet)) then s.answer slot 6
  else body s

/-- Refuse a letter with a fault: STATUS 1, FAULT (R460). -/
def State.refuseWith (s : State) (slot code : Nat) : State := (s.answer slot 1 code).raise code 0

/-- A module read of host memory for a letter: what the host gave, or the failure of R444. -/
def State.hostRead (s : State) (slot n : Nat) (data : Option (List Byte)) (body : List Byte → State → State) : State :=
  match data with
  | some l => if n ≤ l.length then body (l.take n) s else (s.answer slot 7).raise 0xB304 0
  | none => (s.answer slot 7).raise 0xB304 0

end Sys2Proof.Machine
end

