-- ==== Sys2Proof/Machine/Flash.lean ====
section
/-!
DEFINITION. What SEC writes to the configuration flash: COUNTERS records (R489), repair-table entries (R486, R487).
-/
namespace Sys2Proof.Machine

/-- Program bytes of the configuration flash. -/
def State.flashWrite (s : State) (a : Nat) (l : List Byte) : State :=
  { s with boot := { s.boot with cfgFlash := Map.fill 0xFF#8 s.boot.cfgFlash a l.length fun i => byteAt l i } }

/-- Erase bytes of the configuration flash. -/
def State.flashErase (s : State) (a n : Nat) : State :=
  { s with boot := { s.boot with cfgFlash := Map.fill 0xFF#8 s.boot.cfgFlash a n fun _ => 0xFF#8 } }

/-- Is SEC of the hub in charge running? -/
def State.secUp (s : State) : Bool := (s.proc (4 * s.hub)).st == .running

/-! COUNTERS (R489): 32-byte records in two halves of 512 KiB. -/

def counterAt (i : Nat) : Nat := Area.counters + 32 * i

/-- Record `i` of the area, if it is valid: KIND, VALUE, SEQ. -/
def State.counterRec (s : State) (i : Nat) : Option (Nat × Nat × Nat) :=
  let r := s.flash (counterAt i) 32
  if fieldAt r 0x1C 4 = 0 ∧ crc32c (r.take 0x18) = fieldAt r 0x18 4 ∧ 1 ≤ fieldAt r 0 1 ∧ fieldAt r 0 1 ≤ 3 then
    some (fieldAt r 0 1, fieldAt r 8 8, fieldAt r 0x10 8)
  else none

/-- The later of two records, by SEQ. -/
def laterRec (a b : Option (Nat × Nat × Nat × Nat)) : Option (Nat × Nat × Nat × Nat) :=
  match a, b with
  | some x, some y => if x.2.2.1 < y.2.2.1 then b else a
  | none, _ => b
  | _, none => a

/-- The latest valid record of a kind (0: of any kind): KIND, VALUE, SEQ and its place. -/
def State.latestCounter (s : State) (kind : Nat) : Option (Nat × Nat × Nat × Nat) :=
  (List.range 32768).foldl (fun best i =>
    match s.counterRec i with
    | some (k, v, q) => if kind = 0 ∨ k = kind then laterRec best (some (k, v, q, i)) else best
    | none => best) none

/-- The value of a kind, 0 where no record holds it. -/
def State.counter (s : State) (kind : Nat) : Nat := ((s.latestCounter kind).map fun r => r.2.1).getD 0

def counterRecord (kind value seq : Nat) : List Byte :=
  let h := leBytes 8 kind ++ leBytes 8 value ++ leBytes 8 seq
  h ++ leBytes 4 (crc32c h) ++ leBytes 4 0

/-- Has nothing been programmed at record place `i`? -/
def State.counterErased (s : State) (i : Nat) : Bool := (s.flash (counterAt i) 32).all fun b => b == 0xFF#8

/-- Write a record (R489): at the first place after the last one programmed in the active half, or, that half full, behind the latest
record of each kind in the other half, erased first. With H1 in charge nothing is written (R488). -/
def State.appendCounter (s : State) (kind value : Nat) : State :=
  if s.fw.h1Charge then s else
  let last := s.latestCounter 0
  let half := (last.map fun r => r.2.2.2 / 16384).getD 0
  let seq := (last.map fun r => r.2.2.1 + 1).getD 0
  let used := ((List.range 16384).filter fun i => !s.counterErased (16384 * half + i)).foldl (fun m i => Nat.max m (i + 1)) 0
  if used < 16384 then s.flashWrite (counterAt (16384 * half + used)) (counterRecord kind value seq)
  else
    let other := 16384 * (1 - half)
    let keep := [1, 2, 3].filterMap s.latestCounter
    let t := s.flashErase (counterAt other) 0x80000
    let t := (keep.zipIdx).foldl (fun t r => t.flashWrite (counterAt (other + r.2)) (counterRecord r.1.1 r.1.2.1 r.1.2.2.1)) t
    t.flashWrite (counterAt (other + keep.length)) (counterRecord kind value seq)

/-! The repair table (R486, R487). -/

/-- An entry with its CHECK and COMMIT, BOOT_COUNT as it stands. -/
def State.repairEntry (s : State) (kind die a b c : Nat) : List Byte :=
  let h := leBytes 1 kind ++ leBytes 1 die ++ leBytes 2 a ++ leBytes 2 b ++ leBytes 2 c ++ leBytes 4 (s.reg Reg.BOOT_COUNT_LO)
  h ++ leBytes 2 (crc16 h) ++ leBytes 2 0

/-- The place of the first entry whose KIND is 0xFF, where the list ends. -/
def State.repairEnd (s : State) : Nat :=
  ((List.range 32768).find? fun i => s.flashByte (Area.repair + 16 * i) == 0xFF#8).getD 32768

/-- The entries that count, in table order: KIND, DIE, A, B, C. -/
def State.repairs (s : State) : List (Nat × Nat × Nat × Nat × Nat) :=
  (List.range s.repairEnd).filterMap fun i =>
    let e := s.flash (Area.repair + 16 * i) 16
    if fieldAt e 14 2 = 0 ∧ crc16 (e.take 12) = fieldAt e 12 2 then
      some (fieldAt e 0 1, fieldAt e 1 1, fieldAt e 2 2, fieldAt e 4 2, fieldAt e 6 2)
    else none

def State.queueRepair (s : State) (e : List Byte) : State :=
  { s with boot := { s.boot with repairQueue := s.boot.repairQueue ++ [e] } }

/-- SEC appends the entry at the head of the queue; with no room, or with H1 in charge, 0xA007 and the repair is not recorded
(R487, R488). -/
def execRepairAppend (s : State) : Ans :=
  .next <| match s.boot.repairQueue with
    | [] => s
    | e :: rest =>
      if !s.secUp || s.pwr.guard then s
      else
        let t := { s with boot := { s.boot with repairQueue := rest } }
        if s.fw.h1Charge ∨ 32768 ≤ s.repairEnd then t.raise 0xA007 0
        else t.flashWrite (Area.repair + 16 * s.repairEnd) e

end Sys2Proof.Machine
end

