-- ==== Sys2Proof/Machine/VectorOps.lean ====
section
/-!
DEFINITION. The vector unit of a core (R124–R130): lanes, row poison, the element-wise operations, the special functions, row
reductions, conversions and top-k, as functions of the core.
-/
namespace Sys2Proof

/-- Lanes of a register (R124). -/
def VTy.lanes : VTy → Nat
  | .f32 => 2048
  | .bf16 => 4096
  | .int32 => 2048

/-- Bits of a lane. -/
def VTy.width : VTy → Nat
  | .bf16 => 16
  | _ => 32

end Sys2Proof

namespace Sys2Proof.Machine

/-- Lane `i` of register `r` as bits. -/
def Core.vlane (c : Core) (ty : VTy) (r i : Nat) : Nat := if ty = .bf16 then c.vh r i else c.vw r i

/-- Word `w` of a register from its lanes. -/
def laneWord (ty : VTy) (f : Nat → Nat) (w : Nat) : Nat :=
  if ty = .bf16 then f (2 * w) % 65536 + 65536 * (f (2 * w + 1) % 65536) else f w % 2 ^ 32

/-- The granules of the tile row that holds granule `g`: two of FP32 or INT32, one of BF16 (R124). -/
def rowGranules (ty : VTy) (g : Nat) : List Nat := if ty = .bf16 then [g] else [g / 2 * 2, g / 2 * 2 + 1]

/-- Poison of the row of granule `g` over the operands: a result row is poisoned if any operand row was (R107). -/
def Core.rowPoison (c : Core) (ty : VTy) (rs : List Nat) (g : Nat) : Bool :=
  rs.any fun r => (rowGranules ty g).any fun k => c.vp r k

/-- Write a register lane by lane from operands `rs`. -/
def Core.vset (c : Core) (ty : VTy) (vd : Nat) (rs : List Nat) (f : Nat → Nat) : Core :=
  c.putV vd (laneWord ty f) (c.rowPoison ty rs)

/-- The value of a floating lane. -/
def laneVal (ty : VTy) (x : Nat) : FV := if ty = .bf16 then FFmt.bf16.decode x else f32 x

/-- The rounding of R89: FP32, and for BF16 computed in FP32 and rounded once more. -/
def laneRound (ty : VTy) (v : FV) : Nat := if ty = .bf16 then FFmt.bf16.encode .rne (f32 (rne32 v)) else rne32 v

/-- Two's complement value of an INT32 lane. -/
def laneInt (x : Nat) : Int := signed 32 x

/-- Element-wise arithmetic of R126 on one lane. -/
def laneAdd (ty : VTy) (a b : Nat) : Nat :=
  if ty = .int32 then (a + b) % 2 ^ 32 else laneRound ty ((laneVal ty a).add (laneVal ty b))
def laneSub (ty : VTy) (a b : Nat) : Nat :=
  if ty = .int32 then (a + (2 ^ 32 - b)) % 2 ^ 32 else laneRound ty ((laneVal ty a).add (laneVal ty b).neg)
def laneMul (ty : VTy) (a b : Nat) : Nat :=
  if ty = .int32 then a * b % 2 ^ 32 else laneRound ty ((laneVal ty a).mul (laneVal ty b))
def laneFma (ty : VTy) (a b d : Nat) : Nat :=
  if ty = .int32 then (a * b + d) % 2 ^ 32 else laneRound ty (((laneVal ty a).mul (laneVal ty b)).add (laneVal ty d))
def laneMin (ty : VTy) (a b : Nat) : Nat :=
  if ty = .int32 then (if laneInt a ≤ laneInt b then a else b) else laneRound ty ((laneVal ty a).min2 (laneVal ty b))
def laneMax (ty : VTy) (a b : Nat) : Nat :=
  if ty = .int32 then (if laneInt a ≤ laneInt b then b else a) else laneRound ty ((laneVal ty a).max2 (laneVal ty b))

/-- Lane all-ones if true, zero if false. -/
def laneMask (ty : VTy) (b : Bool) : Nat := if b then 2 ^ ty.width - 1 else 0
def laneLt (ty : VTy) (a b : Nat) : Nat :=
  laneMask ty (if ty = .int32 then decide (laneInt a < laneInt b) else (laneVal ty a).lt (laneVal ty b))
def laneEq (ty : VTy) (a b : Nat) : Nat :=
  laneMask ty (if ty = .int32 then a == b else (laneVal ty a).eqv (laneVal ty b))

/-- A two-operand instruction. -/
def Core.vec2 (ty : VTy) (f : Nat → Nat → Nat) (vd va vb : Nat) (c : Core) : Core :=
  c.vset ty vd [va, vb] fun i => f (c.vlane ty va i) (c.vlane ty vb i)

def Core.vfma (ty : VTy) (vd va vb vc : Nat) (c : Core) : Core :=
  c.vset ty vd [va, vb, vc] fun i => laneFma ty (c.vlane ty va i) (c.vlane ty vb i) (c.vlane ty vc i)

/-- VSEL: `d = (c ≠ 0 bitwise) ? a : b`. -/
def Core.vsel (ty : VTy) (vd va vb vc : Nat) (c : Core) : Core :=
  c.vset ty vd [va, vb, vc] fun i => if c.vlane ty vc i ≠ 0 then c.vlane ty va i else c.vlane ty vb i

/-- VBCAST: every lane takes the low lane-width bits of x[XS]. -/
def Core.vbcast (ty : VTy) (vd xs : Nat) (c : Core) : Core :=
  c.vset ty vd [] fun _ => (c.rx xs).toNat % 2 ^ ty.width

/-- The special functions, rounded once to the register type (R127); an INT32 lane has no stated result and takes the free value. -/
def Core.vspecial (free : Nat → Nat) (f : FV → FV) (ty : VTy) (vd va : Nat) (c : Core) : Core :=
  c.vset ty vd [va] fun i =>
    match ty with
    | .f32 => rne32 (f (f32 (c.vw va i)))
    | .bf16 => FFmt.bf16.encode .rne (f (FFmt.bf16.decode (c.vh va i)))
    | .int32 => free i

/-- Pairwise levels of a list: neighbours are joined until one is left (R128). -/
def pairLevels (f : Nat → Nat → Nat) : Nat → List Nat → Nat
  | 0, l => l.headD 0
  | n + 1, l => pairLevels f n ((List.range (l.length / 2)).map fun i => f (l.getD (2 * i) 0) (l.getD (2 * i + 1) 0))

/-- VRSUM of one row of 128 lanes (R128). -/
def rowSum (ty : VTy) (l : List Nat) : Nat :=
  match ty with
  | .f32 => pairLevels addF32 7 l
  | .bf16 => FFmt.bf16.encode .rne (f32 (pairLevels addF32 7 (l.map fun x => rne32 (FFmt.bf16.decode x))))
  | .int32 => l.sum % 2 ^ 32

/-- VRMAX of one row: the maximum of its lanes under VMAX. -/
def rowMax (ty : VTy) (l : List Nat) : Nat :=
  match l with
  | [] => 0
  | h :: r => r.foldl (laneMax ty) (laneMax ty h h)

/-- A row reduction: the result in every lane of its row. -/
def Core.vrow (ty : VTy) (f : List Nat → Nat) (vd va : Nat) (c : Core) : Core :=
  let rows := (Array.range (ty.lanes / 128)).map fun r => f ((List.range 128).map fun j => c.vlane ty va (128 * r + j))
  c.vset ty vd [va] fun i => rows.getD (i / 128) 0

/-! Conversions (R90, R93, R99, R129). -/

/-- What a vector instruction uses of its destination: the registers a conversion still reads are held (R105). -/
def vecUses (vd : Nat) : Uses := { writes := [(5, vd, 1)] }

/-- A vector register written, seen after the instruction's latency (R126). -/
def Env.wroteV (e : Env) (c : Core) (vd lat : Nat) (evs : List Ev := []) : CRes := (e.done c evs).after lat [c.vecWrite vd]

/-- VCVT (R129): from the type the register is read in. `upper` is IMM bit 0. A conversion that names a tensor id for SR needs its
entry VALID (R99), and waits as R164 says. R129 lists no conversion from INT32: its lanes take free values (log 3). -/
def Core.vcvt (e : Env) (free : Nat → Nat) (ty : VTy) (vd va vb : Nat) (sr : Bool) (tensor xs : Nat) (upper : Bool) (c : Core) : CRes :=
  let x := Map.get {} e.stamps tensor
  let useSr := sr || (x.valid && x.grad)
  if ty = .f32 ∧ useSr ∧ e.updating then { core := c, stamps := e.stamps, stalled := some 11 }
  else c.issue e (vecUses vd) fun c =>
    match ty with
    | .f32 =>
      let k := c.noise e tensor xs
      let src := fun i => if i < 2048 then c.vw va i else c.vw vb (i - 2048)
      let conv := fun i =>
        FFmt.bf16.encode (if useSr then .sr (k.at (i / 128) (i % 128)) else .rne) (f32 (src i))
      let pois := fun g => (if g < 16 then [c.vp va (2 * g), c.vp va (2 * g + 1)] else [c.vp vb (2 * g - 32), c.vp vb (2 * g - 31)]).any id
      if sr && !x.valid then e.wroteV (c.putV vd (laneWord .bf16 conv) fun _ => true) vd 6 [.fault 0x1203]
      else e.wroteV (c.putV vd (laneWord .bf16 conv) pois) vd 6
    | .bf16 =>
      let o := if upper then 2048 else 0
      e.wroteV (c.putV vd (fun i => rne32 (FFmt.bf16.decode (c.vh va (o + i)))) fun g => c.vp va (o / 128 + g / 2)) vd 6
    | .int32 => e.wroteV (c.vset .int32 vd [va, vb] free) vd 6

/-- The tile a VCVTS converts: eight FP32 registers of 16 rows, or four BF16 registers of 32 rows (R124, R129). -/
def Core.vecTileIn (c : Core) (ty : VTy) (va : Nat) : TileIn :=
  let per := ty.lanes
  let rowP := fun r =>
    let reg := va + 128 * r / per
    if ty = .bf16 then c.vp reg (r % 32) else c.vp reg (2 * (r % 16)) || c.vp reg (2 * (r % 16) + 1)
  { v := (Array.range 16384).map fun k => laneVal ty (c.vlane ty (va + k / per) (k % per))
    poison := (Array.range 128).map rowP
    srcPoison := (Array.range 16384).map fun k => rowP (k / 128) }

/-- In the core's own stream a conversion holds its destination and its source until it ends (R105, R119). -/
def Core.converts (e : Env) (k : Conv) (c : Core) : Core := if e.timed then { c with convs := c.convs ++ [k] } else c

/-- VCVTS (R91, R104–R108, R129): one tile from the registers to the tile-store byte address in x[XS+3]; 14 cycles and 128 a further pass.
An address from which the tile runs past the tile store raises 0x1302 and does nothing (log 91). -/
def Core.vcvts (e : Env) (t : FmtInfo) (fmt : Nat) (ty : VTy) (va : Nat) (sr : Bool) (tensor xs : Nat) (c : Core) : CRes :=
  let p := e.policy tensor
  let a := (c.rx ((xs + 3) % 32)).toNat
  let size := tileSize t p
  let x0 := Map.get {} e.stamps tensor
  if a + size > spaceBytes false then e.done c [.fault 0x1302]
  else if (t.hasScale || sr || (x0.valid && x0.grad)) && e.updating then { core := c, stamps := e.stamps, stalled := some 11 }
  else
    c.issue e { units := [.vcvts], writes := [granules a size], lasts := 8 } fun c =>
      let (o, x1, ev1) := convertOne t x0 sr (c.noise e tensor xs) (c.vecTileIn ty va)
      let dt := dirtyTile t x0 o
      let (l, ev2) := tileWrites t fmt tensor p false a o
      let ws := l.map (·.2) ++ [.dirty false a dt]
      let lat := 14 + 128 * o.passes
      let d := (c.lands ws).converts e
        { ends := c.run + lat, dest := [granules a size], regs := [(5, va, if ty = .bf16 then 4 else 8)], further := c.run + (if o.passes = 0 then lat else 8) }
      { ({ core := d, stamps := Map.set {} e.stamps tensor x1, evs := ev1 ++ ev2 ++ (if dt then [.fault 0x1204] else []) } : CRes).after lat ws true with
        more := 128 * o.passes }

/-! Top-k (R130). -/

/-- Insert column `i` into the ranked list, values descending, equal values by column. A NaN ranks below every number. -/
def rankInsert (v : Nat → FV) (i : Nat) : List Nat → List Nat
  | [] => [i]
  | j :: r =>
    let below := if v i = .nan then true else if v j = .nan then false else !(FV.lt (v j) (v i))
    if below then j :: rankInsert v i r else i :: j :: r

/-- The first `k` columns in rank order. -/
def topK (v : Nat → FV) (k n : Nat) : List Nat := (List.range n).foldl (fun l i => (rankInsert v i l).take k) []

/-- The outputs of one row: value and column of each rank (R130). -/
def topkRow (va ia p t k : Nat) (val : Nat → FV) (l : Nat) (pz : Bool) : List Write :=
  let rk := topK val k l
  (List.range k).flatMap fun r =>
    let i := rk.getD r 0
    [.bytes false (va + 4 * (r * p + t)) ((List.range 4).map fun b => BitVec.ofNat 8 (rne32 (val i) / 256 ^ b)) pz,
     .bytes false (ia + 2 * (r * p + t)) ((List.range 2).map fun b => BitVec.ofNat 8 (i / 256 ^ b)) pz]

/-- VTOPK: k = `k`, rows of `l` values; the source, value and index addresses, M and P lie in x[XS] to x[XS+4]. Arrays that run past the
tile store raise 0x1302 and write nothing; M is taken as it stands (log 91). -/
def Core.vtopk (e : Env) (ty : VTy) (xs k l : Nat) (c : Core) : CRes :=
  let x := fun i => (c.rx ((xs + i) % 32)).toNat
  let src := x 0
  let va := x 1
  let ia := x 2
  let m := x 3
  let p := x 4
  let w := if ty = .bf16 then 2 else 4
  let ext := if m = 0 then 0 else (k - 1) * p + m
  let occ := (m * l + 511) / 512
  if src + m * l * w > spaceBytes false ∨ va + 4 * ext > spaceBytes false ∨ ia + 2 * ext > spaceBytes false then e.done c [.fault 0x1302]
  else
    let out := [granules va (4 * ext), granules ia (2 * ext)]
    c.issue e { units := [.topk], reads := [granules src (m * l * w)], writes := out, lasts := occ } fun c =>
      let val := fun t i => laneVal ty (leNat ((List.range w).map fun b => c.tileByte false (src + (t * l + i) * w + b)))
      let nan := fun t => (List.range l).any fun i => val t i == .nan
      let ws := (List.range m).flatMap fun t => topkRow va ia p t k (val t) l (nan t || c.anyPoison false (src + t * l * w) (l * w))
      let d := (c.lands ws).converts e { ends := c.run + occ + 20 + k, dest := out, both := true, further := c.run + occ + 20 + k }
      (e.done d (if (List.range m).any nan then [.fault 0x1306] else [])).after (occ + 20 + k) ws true

end Sys2Proof.Machine
end

