-- ==== Sys2Proof/Machine/Mem.lean ====
section
/-!
DEFINITION. Bonded memory and the reduction units (ch. 9): the interleave, reads and writes with poison, the operations of R271, exact
accumulation, and channels mapped out.
-/
namespace Sys2Proof.Machine

/-! Addresses (R256, R257). -/

/-- The place of a bonded-memory address: its byte's key in `bond`, if the die's capacity reaches it. -/
def State.phys (s : State) (addr : Nat) : Option Nat :=
  let d := addr / 2 ^ 38 % 4
  let a := addr % 2 ^ 38
  let l := (s.die d).order
  if a < 2 ^ 30 * l.length then
    some (2 ^ 30 * (256 * d + l.getD (a / 4096 % l.length) 0) + 4096 * (a / 4096 / l.length) + a % 4096)
  else none

/-- Is the channel that holds a key mapped out? -/
def State.lostKey (s : State) (key : Nat) : Bool :=
  let g := key / 2 ^ 30
  let c := Map.get ({} : Chan) (s.die (g / 256)).chans (g % 256)
  c.state == 1 || c.state == 2

/-- Capacity of a die in bytes. -/
def State.capacity (s : State) (d : Nat) : Nat := 2 ^ 30 * (s.die d).order.length

/-- Does an access of `n` bytes run past its die's capacity in any 64-byte unit (R258)? -/
def State.pastEnd (s : State) (addr n : Nat) : Bool := n ≠ 0 && decide (s.capacity (addr / 2 ^ 38 % 4) < addr % 2 ^ 38 + n)

/-- The byte at an address, as the units stand. -/
def State.bondByte (s : State) (addr : Nat) : Byte :=
  match s.phys addr with
  | some k => if s.lostKey k then Config.lostByte addr else Map.get 0#8 s.bond k
  | none => Config.lostByte addr

/-- Is the 64-byte unit of an address poisoned, lost or out of range? -/
def State.bondBad (s : State) (addr : Nat) : Bool :=
  match s.phys addr with
  | some k => s.lostKey k || Map.get false s.bondPoison (k / 64)
  | none => true

/-- Does a later byte of an access at `addr` lie in another die? It is out of range: an access stays with the die it starts in (R256, R258). -/
def leavesDie (addr a : Nat) : Bool := a / 2 ^ 38 != addr / 2 ^ 38

/-- Read `n` bytes and the poison of each 64-byte piece of them: a piece is poisoned by any unit it touches. -/
def State.readBond (s : State) (addr n : Nat) : List Byte × Nat :=
  let bytes := (List.range n).map fun i => if leavesDie addr (addr + i) then Config.lostByte (addr + i) else s.bondByte (addr + i)
  let pois := (List.range ((n + 63) / 64)).foldl (fun v i =>
    let lo := addr + 64 * i
    let hi := addr + Nat.min (64 * i + 63) (n - 1)
    if leavesDie addr hi || s.bondBad lo || s.bondBad hi then v + 2 ^ i else v) 0
  (bytes, pois)

/-- Write one 64-byte unit's share of a write: bytes `lo` to `hi - 1`, the data's poison `p`. A unit written whole takes `p`; one
written in part, or by an operation, keeps its own beside it (R263, R274). A unit out of range or lost drops the write. -/
def State.writeUnit (s : State) (lo hi : Nat) (f : Nat → Byte) (p op : Bool) : State :=
  match s.phys lo with
  | some k =>
    if s.lostKey k then s
    else
      let old := Map.get false s.bondPoison (k / 64)
      { s with bond := Map.fill 0#8 s.bond k (hi - lo) f
               bondPoison := Map.set false s.bondPoison (k / 64) (if hi - lo = 64 ∧ !op then p else p || old) }
  | none => s

/-- Write bytes with the poison of each 64-byte piece of them, unit by unit in ascending address. -/
def State.writeBond (s : State) (addr : Nat) (data : List Byte) (poison : Nat) (op : Bool := false) : State :=
  let n := data.length
  if n = 0 then s else
  (List.range ((addr + n - 1) / 64 + 1 - addr / 64)).foldl (fun t i =>
    let u := addr / 64 + i
    let lo := Nat.max addr (u * 64)
    let hi := Nat.min (addr + n) (u * 64 + 64)
    if leavesDie addr lo then t else t.writeUnit lo hi (fun j => byteAt data (lo - addr + j)) (piecesBad poison (lo - addr) (hi - addr)) op) s

/-- Record an out-of-range access and raise 0x4303 (R258). -/
def State.rangeFault (s : State) (addr : Nat) : State :=
  let d := addr / 2 ^ 38 % 4
  ((s.setReg (Reg.at Reg.BOND_ERR_ADDR_LO d) (addr % 2 ^ 32)).setReg (Reg.at Reg.BOND_ERR_ADDR_HI d) (addr / 2 ^ 32 % 256)).raise 0x4303 d

/-! The operations of R271. -/

/-- Element bytes of an operation code (R325). -/
def opSize (op : Nat) : Nat :=
  if op = 0 ∨ op = 0x10 then 1 else if op = 3 ∨ op = 0xA ∨ op = 0xB ∨ op = 0xC then 8 else if op = 6 ∨ op = 7 then 2 else 4

/-- Minimum or maximum of two signed numbers of `w` bits. -/
def iPick (w : Nat) (max : Bool) (a b : Nat) : Nat := if (signed w a ≤ signed w b) = (max = false) then a else b

/-- The new value of a target element from the old one, the operand and CAS64's swap value. -/
def opApply (op t x swap : Nat) : Nat :=
  if op = 1 then addF32 t x
  else if op = 2 then (t + x) % 2 ^ 32
  else if op = 3 then (t + x) % 2 ^ 64
  else if op = 4 then FFmt.f32.encode .rne ((f32 t).min2 (f32 x))
  else if op = 5 then FFmt.f32.encode .rne ((f32 t).max2 (f32 x))
  else if op = 6 then FFmt.bf16.encode .rne ((FFmt.bf16.decode t).min2 (FFmt.bf16.decode x))
  else if op = 7 then FFmt.bf16.encode .rne ((FFmt.bf16.decode t).max2 (FFmt.bf16.decode x))
  else if op = 8 then iPick 32 false t x
  else if op = 9 then iPick 32 true t x
  else if op = 0xA then iPick 64 false t x
  else if op = 0xB then iPick 64 true t x
  else if op = 0xC then (if t = x then swap else t)
  else x

/-- Apply one element (R272): the state and the previous value. -/
def State.opElem (s : State) (op addr x swap : Nat) (poison : Bool) : State × Nat :=
  let n := opSize op
  let old := leNat ((List.range n).map fun i => s.bondByte (addr + i))
  (s.writeBond addr (leBytes n (opApply op old x swap)) (if poison then 1 else 0) true, old)

/-- Apply a posted operation over all its elements in ascending address. -/
def State.opRow (s : State) (op addr : Nat) (data : List Byte) (poison : Nat) : State :=
  let n := opSize op
  (List.range (data.length / n)).foldl (fun t i =>
    if leavesDie addr (addr + n * i) then t else (t.opElem op (addr + n * i) (fieldAt data (n * i) n) 0 (bit poison (n * i / 64))).1) s

/-! Exact accumulation (R276–R279). -/

/-- INVALID of an exact element. -/
abbrev invalid64 : Nat := 0x8000000000000000

/-- The VALID window that holds an exact-tile row at a die-local address. -/
def Die.windowAt (d : Die) (a : Nat) : Option Window :=
  (d.windows.map (·.2)).find? fun w => w.valid && decide (w.base ≤ a) && decide (a < w.base + 131072 * w.tiles) && (a - w.base) % 1024 == 0

/-- One element of an EXACT: the new value, and what it met: 0 nothing, 2 the stamp below A, 3 above A + 24, 4 headroom. -/
def exactElem (scale : Int) (stamp : Int) (n m : Nat) : Nat × Nat :=
  if stamp < scale then (invalid64, 2)
  else if stamp > scale + 24 then (invalid64, 3)
  else if n = 0x8000 ∨ m = invalid64 then (invalid64, 0)
  else
    let t := signed 64 m + signed 16 n * 2 ^ (stamp - scale).toNat
    if t.natAbs > 2 ^ 63 - 1 then (invalid64, 4) else (unsigned 64 t, 0)

/-- The faults an EXACT operation met so far, in the order it first met them: each with the stamp, the scale, the cause and the address of the
first element. -/
abbrev ExactRes := List (Nat × Int × Int × Nat × Nat)

/-- Note a fault; one noted before stands. -/
def ExactRes.note (r : ExactRes) (f : Nat × Int × Int × Nat × Nat) : ExactRes := if r.any fun x => x.1 == f.1 then r else r ++ [f]

/-- Apply one stamped row (256 bytes of elements, 4 stamp bytes) to the exact-tile row at `addr`; `bad` tells whether a payload byte is
poisoned. A row in a channel that is lost, or out of range, is dropped (R258, R266). -/
def State.exactRow (s : State) (r : ExactRes) (addr : Nat) (row : List Byte) (bad : Nat → Bool) : State × ExactRes :=
  let d := addr / 2 ^ 38 % 4
  match (s.die d).windowAt (addr % 2 ^ 38), s.phys addr with
  | none, _ => (s, r.note (0x4401, 0, 0, 1, addr))
  | some _, none => (s, r)
  | some w, some k =>
    if s.lostKey k then (s, r) else
    let s := s.count64 (Reg.at Reg.RDU_EXACT_LO d)
    (List.range 128).foldl (fun (x : State × ExactRes) j =>
      let st := signed 8 (byteAt row (256 + j / 32)).toNat
      let old := leNat ((List.range 8).map fun i => x.1.bondByte (addr + 8 * j + i))
      let (new, what) := exactElem w.scale st (fieldAt row (2 * j) 2) old
      let p := bad (2 * j) || bad (2 * j + 1) || bad (256 + j / 32)
      let t := x.1.writeBond (addr + 8 * j) (leBytes 8 new) (if p then 1 else 0) true
      let t := if new = invalid64 ∧ old ≠ invalid64 then t.count (Reg.at Reg.RDU_INVALID_CNT d) else t
      (t, if what = 0 then x.2 else x.2.note (if what = 4 then 0x4403 else 0x4402, st, w.scale, what, addr + 8 * j)))
      (s, r)

/-- Record the details of an EXACT's latest fault and raise each once (R278, R284). -/
def State.exactFaults (s : State) (d : Nat) (r : ExactRes) : State :=
  match r.getLast? with
  | none => s
  | some (_, st, a, cause, addr) =>
    let s := s.setReg (Reg.at Reg.RDU_ERR_INFO d) (unsigned 8 st * 2 ^ 24 + unsigned 8 a * 2 ^ 16 + cause * 2 ^ 12 + 1)
    let s := (s.setReg (Reg.at Reg.RDU_ERR_ADDR_LO d) (addr % 2 ^ 32)).setReg (Reg.at Reg.RDU_ERR_ADDR_HI d) (addr / 2 ^ 32)
    s.raiseAll (r.map fun f => (f.1, d))

/-- EXACT (R278, R326): n stamped rows of 260 bytes, row j on the exact-tile row at address + 1,024 j. -/
def State.exactOp (s : State) (addr : Nat) (data : List Byte) (poison : Nat) : State :=
  let (s, r) := (List.range (data.length / 260)).foldl (fun (x : State × ExactRes) j =>
    if leavesDie addr (addr + 1024 * j) then x
    else x.1.exactRow x.2 (addr + 1024 * j) (slice data (260 * j) 260) (fun i => bit poison ((260 * j + i) / 64))) (s, [])
  s.exactFaults (addr / 2 ^ 38 % 4) r

/-! The queues of the reduction units (R270). -/

/-- An atom is used: it is the most recent, and modified where `on`. -/
def Rdu.touch (r : Rdu) (a : Nat) (on : Bool) : Rdu :=
  { r with atoms := (a, on || r.atoms.any fun x => x.1 == a && x.2) :: r.atoms.filter fun x => x.1 != a }

/-- One BOND cycle: an operation on an atom that is in the buffer, or a cycle of the atom slot that reads it in, behind the slot that writes the
least recently used one back where that was modified. -/
def Rdu.cycle (r : Rdu) : Rdu :=
  match r.queue with
  | [] => r
  | [] :: q => { r with queue := q }
  | (a :: l) :: q =>
    if r.atoms.any fun x => x.1 == a then { r.touch a true with queue := if l.isEmpty then q else l :: q }
    else if r.left = 0 then { r with left := if r.atoms.length = 16 ∧ r.atoms.getLast?.any (·.2) then 15 else 7 }
    else if r.left = 1 then { r with left := 0, atoms := (a, false) :: r.atoms.take 15 }
    else { r with left := r.left - 1 }

def Rdu.full (r : Rdu) : Bool := decide (64 ≤ r.queue.length)

/-- Does an operation wait in a die's reduction units; is a queue of them full? -/
def Die.reducing (d : Die) : Bool := d.chans.any fun c => !c.2.rdu.queue.isEmpty
def Die.queueFull (d : Die) : Bool := d.chans.any fun c => c.2.rdu.full

/-- BOND cycles of a die's reduction units, and in how many of them a queue was full. They run in the brake and in HELD (R282). -/
def Die.reduce : Nat → Die × Nat → Die × Nat
  | 0, x => x
  | n + 1, x =>
    if x.1.reducing then
      Die.reduce n ({ x.1 with chans := Map.vals {} (fun (c : Chan) => { c with rdu := c.rdu.cycle }) x.1.chans }, x.2 + if x.1.queueFull then 1 else 0)
    else x

/-- `n` arithmetic cycles of the reduction units, each of two BOND cycles (R270, R284). -/
def State.reduce (s : State) (n : Nat) : State :=
  (List.range 4).foldl (fun (t : State) d =>
    if (t.die d).reducing then
      let x := Die.reduce (2 * n) (t.die d, 0)
      (t.setDie d x.1).count (Reg.at Reg.RDU_QFULL_CNT d) x.2
    else t) s

/-- The atoms of an access in its channels: for each interleave unit the key of its channel and the atoms. -/
def State.atomsOf (s : State) (addr n : Nat) : List (Nat × List Nat) :=
  if n = 0 then [] else
  (List.range ((addr + n - 1) / 4096 + 1 - addr / 4096)).filterMap fun i =>
    let lo := Nat.max addr ((addr / 4096 + i) * 4096)
    let hi := Nat.min (addr + n) ((addr / 4096 + i) * 4096 + 4096)
    if leavesDie addr lo then none
    else (s.phys lo).map fun k => (k / 2 ^ 30, (List.range ((hi - 1) / 512 + 1 - lo / 512)).map fun j => k % 2 ^ 30 / 512 + j)

/-- Does a full queue hold an operation back (R270)? -/
def State.queueRoom (s : State) (addr n : Nat) : Bool :=
  (s.atomsOf addr n).all fun x => !(Map.get ({} : Chan) (s.die (x.1 / 256)).chans (x.1 % 256)).rdu.full

/-- An operation joins the queues of its channels. -/
def State.queueOp (s : State) (addr n : Nat) : State :=
  (s.atomsOf addr n).foldl (fun (t : State) x => t.onDie (x.1 / 256) fun d =>
    let c := Map.get ({} : Chan) d.chans (x.1 % 256)
    { d with chans := Map.set {} d.chans (x.1 % 256) { c with rdu := { c.rdu with queue := c.rdu.queue ++ [x.2] } } }) s

/-! Channels (R263–R267, R535). -/

/-- Map out a channel (R266, R535): its contents are lost, 0x4302 is raised, the map-out waits to be appended to the repair
table. In READY the image is discarded and the interleave rebuilt; in PARKED the module goes to READY (R437). -/
def State.mapOut (s : State) (g : Nat) : State :=
  let d := g / 256
  let c := g % 256
  if ((s.die d).chan c).state = 1 ∨ ((s.die d).chan c).state = 2 ∨ !(s.live || s.mod == .parked || s.mod == .ready || s.mod == .fenced) then s
  else
    let s := (s.onDie d fun x => x.setChan c { x.chan c with state := 2, rdu := {} }).showService d
    let s := { s with bond := s.bond.filter (fun e => e.1 / 2 ^ 30 != g), bondPoison := s.bondPoison.filter (fun e => e.1 * 64 / 2 ^ 30 != g) }
    let s := (s.queueRepair (s.repairEntry 4 d g 0 0)).tally 11
    let s := { s with res := { s.res with cutMapOut := true } }
    if s.mod = .ready then (s.discardImage.buildInterleave d).raise 0x4302 d g
    else
      let s := s.raise 0x4302 d g
      if s.parkedYet then s.leaveParked else s

/-- The bonded-memory address of a unit of a channel, where the channel is in its die's interleave. -/
def State.unitAddr (s : State) (g off : Nat) : Option Nat :=
  let d := g / 256
  let l := (s.die d).order
  let i := l.findIdx (· == g % 256)
  if i < l.length then some (2 ^ 38 * d + 4096 * (off / 4096 * l.length + i) + off % 4096) else none

/-- An uncorrectable error in a unit (R263, R266): the unit is poisoned, its address recorded, 0x4301 raised; the fourth distinct unit
within 1 s maps the channel out. -/
def State.uncorrectable (s : State) (g unit : Nat) : State :=
  let d := g / 256
  let c := (s.die d).chan (g % 256)
  if c.state = 1 ∨ c.state = 2 ∨ !(s.die d).order.contains (g % 256) then s
  else
    let key := 2 ^ 30 * g + unit * 64
    let s := { s with bondPoison := Map.set false s.bondPoison (key / 64) true }
    let s : State := match s.unitAddr g (unit * 64) with
      | some a => (s.setReg (Reg.at Reg.BOND_ERR_ADDR_LO d) (a % 2 ^ 32)).setReg (Reg.at Reg.BOND_ERR_ADDR_HI d) (a / 2 ^ 32)
      | none => s
    let recent : List (Nat × Nat) := (c.units.filter fun u => decide (s.now < u.2 + ms 1000) && u.1 != unit) ++ [(unit, s.now)]
    let s := s.onDie d fun x => x.setChan (g % 256) { c with uncorr := Nat.min 0xFFFFFFFF (c.uncorr + 1), units := recent }
    let s := (s.tally 1).raise 0x4301 d g
    if decide (4 ≤ recent.length) then s.mapOut g else s

end Sys2Proof.Machine
end

