-- ==== Sys2Proof/Machine/Sets.lean ====
section
/-!
DEFINITION. State sets (R381–R395): their format, the boundary block, cadence, flash slots, wear, and the packets of a mirror.
-/
namespace Sys2Proof.Machine

/-! Reading a set (R386, R387). -/

def SetRec.num (r : SetRec) (o n : Nat) : Nat := leNat ((List.range n).map fun i => Map.get 0#8 r.data (o + i))
def SetRec.bytes (r : SetRec) (o n : Nat) : List Byte := (List.range n).map fun i => Map.get 0#8 r.data (o + i)

/-- STATE of a set: 1 WRITING, 2 COMPLETE, 0 no set. -/
def SetRec.state (r : SetRec) : Nat :=
  if r.num 0 4 = 0x5A534554 ∧ r.num 4 2 = 1 ∧ (r.num 6 2 = 1 ∨ r.num 6 2 = 2) then r.num 6 2 else 0
def SetRec.complete (r : SetRec) : Bool := r.state == 2 && !r.bad
def SetRec.node (r : SetRec) : Nat := r.num 8 2
def SetRec.job (r : SetRec) : Nat := r.num 0xA 2
def SetRec.boundary (r : SetRec) : Nat := r.num 0x10 8
def SetRec.imageId (r : SetRec) : Nat := r.num 0x18 8
def SetRec.kinds (r : SetRec) : Nat := r.num 0x28 1

/-- The record a set holds, as the first 64 bytes of its page. -/
def SetRec.record (r : SetRec) : Option (List Byte) :=
  let p := r.bytes 0x1000 0x40
  if shakeDigest32 p = r.bytes 0x1040 32 then some p else none

/-- The segments a set's table names: RANGE, OFFSET, LENGTH, DIGEST and the set offset of each. The boundary block is at 0x10_0000, the
ranges follow from 0x30_0000 in order. -/
def SetRec.segments (r : SetRec) : List (Nat × Nat × Nat × List Byte × Nat) :=
  ((List.range (r.num 0xC 4)).foldl (fun (x : List (Nat × Nat × Nat × List Byte × Nat) × Nat) i =>
    let e := 0x2000 + 48 * i
    let len := r.num (e + 0x10) 4
    if r.num e 2 = 0xFFFF then (x.1 ++ [(0xFFFF, r.num (e + 8) 8, len, r.bytes (e + 0x18) 32, 0x100000)], x.2)
    else (x.1 ++ [(r.num e 2, r.num (e + 8) 8, len, r.bytes (e + 0x18) 32, x.2)], x.2 + len)) ([], 0x300000)).1

/-- Does the segment table match TABLE_DIGEST? -/
def SetRec.tableOk (r : SetRec) : Bool := shakeDigest32 (r.bytes 0x2000 (48 * r.num 0xC 4)) == r.bytes 0x40 32

/-- Does every segment match its digest (R388)? -/
def SetRec.verified (r : SetRec) : Bool :=
  r.complete && r.tableOk && r.segments.all fun g => shakeDigest32 (r.bytes g.2.2.2.2 g.2.2.1) == g.2.2.2.1

/-- Bytes of a set from offset 0 to the end of its last segment. -/
def SetRec.size (r : SetRec) : Nat := r.segments.foldl (fun m g => Nat.max m (g.2.2.2.2 + g.2.2.1)) 0x100000

/-- Bytes of one slot on one flash controller: 2 TB of its 8 TB (R16, R393). -/
abbrev slotBytes : Nat := 2000000000000

/-- Bytes of a set on a controller: what both hold before the first segment, and the segments that the table gives it (R386, R393). -/
def SetRec.onController (r : SetRec) (c : Nat) : Nat :=
  (List.range (r.num 0xC 4)).foldl (fun m i => if r.num (0x2000 + 48 * i + 2) 1 = c then m + r.num (0x2010 + 48 * i) 4 else m) 0x100000

/-- Does a set fit its slot on both controllers? -/
def SetRec.fits (r : SetRec) : Bool := decide (r.onController 0 ≤ slotBytes ∧ r.onController 1 ≤ slotBytes)

/-- Put bytes into a set. -/
def SetRec.put (r : SetRec) (o : Nat) (l : List Byte) : SetRec :=
  { r with data := Map.fill 0#8 r.data o l.length fun i => byteAt l i }

/-- A record page (R387). -/
def recordPage (rec : List Byte) : List Byte := rec ++ shakeDigest32 rec

/-! The boundary block (R383, R112). -/

def histWord (x : StampEnt) (j : Nat) : Nat := x.hist.getD (2 * j) 0 + 2 ^ 16 * x.hist.getD (2 * j + 1) 0

/-- SNAP_D0 of selector 0x0020 + d. -/
def stampWord (x : StampEnt) : Nat :=
  (if x.valid then 2 ^ 31 else 0) + (if x.grad then 2 ^ 30 else 0) + (if x.touched then 2 ^ 29 else 0) +
  x.fill * 2 ^ 24 + x.head * 2 ^ 20 + x.policy * 2 ^ 16 + unsigned 8 x.stamp * 2 ^ 8

/-- The 64 bytes of one entry of a stamp history. -/
def stampBytes (x : StampEnt) : List Byte :=
  leBytes 4 (stampWord x) ++ leBytes 4 x.curMax ++ (List.range 8).flatMap (fun j => leBytes 4 (histWord x j)) ++ List.replicate 24 0#8

/-- An entry as its 64 bytes hold it. -/
def stampOf (l : List Byte) : StampEnt :=
  let w := fieldAt l 0 4
  let h := (List.range 16).map fun i => fieldAt l (8 + 2 * i) 2
  { valid := bit w 31, grad := bit w 30, touched := bit w 29, fill := bits w 28 24, head := bits w 23 20, policy := bits w 19 16
    stamp := signed 8 (bits w 15 8), curMax := fieldAt l 4 2, hist := if h.all (· == 0) then [] else h }

/-- Where a die's entry lies in the block. -/
def stampAt (d i : Nat) : Nat := 0x1000 + 0x40000 * d + 64 * i

/-- Die-local address of the slot a boundary's block is written to. -/
def State.blockAt (s : State) (b : Nat) : Nat := if b % 2 = 0 then s.image.protect.block0 else s.image.protect.block1

/-- Write the boundary block into its slot (R383). -/
def State.writeBlock (s : State) (b : Nat) : State :=
  let a := s.blockAt b
  let head := leBytes 8 b ++ leBytes 8 s.image.baseStep ++ leBytes 8 (s.reg64 Reg.FMT_SEED_LO) ++ leBytes 8 s.commits ++
    leBytes 4 (s.reg Reg.FMT_SKIP_CNT) ++ leBytes 1 (s.fld Reg.FMT_BOUNDARY 8 8)
  let t := s.writeBond a (head ++ List.replicate (0x1000 - head.length) 0#8) 0
  (List.range 4).foldl (fun t d =>
    t.writeBond (a + stampAt d 0) ((List.range 4096).flatMap fun i => stampBytes (Map.get {} (s.die d).stamps i)) 0) t

/-! Building a set (R386). -/

/-- A segment to be written: RANGE, its die's half, OFFSET, LENGTH, set offset, and where its bytes lie in bonded memory. -/
structure Seg where
  range : Nat
  half : Nat
  off : Nat
  len : Nat
  pos : Nat
  src : Nat
deriving DecidableEq, Repr

abbrev segMax : Nat := 0x4000000

/-- The bonded-memory address of a copy of a range. -/
def PRange.addr (r : PRange) (copy : Nat) : Nat := 2 ^ 38 * r.die + (if copy = 0 then r.base0 else r.base1)

def PRange.segs (r : PRange) (i copy pos : Nat) : List Seg :=
  (List.range ((r.length + segMax - 1) / segMax)).map fun k =>
    { range := i, half := r.die / 2, off := k * segMax, len := Nat.min segMax (r.length - k * segMax), pos := pos + k * segMax
      src := r.addr copy + k * segMax }

/-- The segments of the set of boundary `b`: the block, then each range of the kinds carried. -/
def State.setSegs (s : State) (b kinds : Nat) : List Seg :=
  let copy := s.commits % 2
  { range := 0xFFFF, half := 0, off := 0, len := 0x101000, pos := 0x100000, src := s.blockAt b } ::
  (s.image.protect.ranges.zipIdx.foldl (fun (x : List Seg × Nat) r =>
    if bit kinds r.1.kind then (x.1 ++ r.1.segs r.2 copy x.2, x.2 + r.1.length) else x) ([], 0x300000)).1

/-- The set header (R386). -/
def State.setHeader (s : State) (b kinds tier st : Nat) (segs : List Seg) (table : List Byte) : List Byte :=
  leBytes 4 0x5A534554 ++ leBytes 2 1 ++ leBytes 2 st ++ leBytes 2 s.node ++ leBytes 2 s.job ++ leBytes 4 segs.length ++
  leBytes 8 b ++ leBytes 8 s.image.ident ++ leBytes 8 (segs.foldl (fun n g => n + g.len) 0) ++ leBytes 1 kinds ++ leBytes 1 tier ++
  List.replicate 22 0#8 ++ shakeDigest32 table

/-- The segment table; in a mirror CONTROLLER is 0. -/
def State.setTable (s : State) (tier : Nat) (segs : List Seg) : List Byte :=
  segs.flatMap fun g =>
    leBytes 2 g.range ++ leBytes 1 (if tier = 1 then g.half else 0) ++ leBytes 5 0 ++ leBytes 8 g.off ++ leBytes 4 g.len ++ leBytes 4 0 ++
    shakeDigest32 (s.readBond g.src g.len).1

/-- The set of a boundary as it stands COMPLETE, without its record (R388). -/
def State.buildSet (s : State) (b kinds tier : Nat) : SetRec :=
  let segs := s.setSegs b kinds
  let table := s.setTable tier segs
  let r := segs.foldl (fun (r : SetRec) g =>
    let (l, p) := s.readBond g.src g.len
    { r.put g.pos l with poison := Map.fill false r.poison (g.pos / 64) ((g.len + 63) / 64) fun i => bit p i }) {}
  (r.put 0x2000 table).put 0 (s.setHeader b kinds tier 2 segs table)

/-- The same set as its first header leaves it: WRITING. -/
def SetRec.writing (r : SetRec) : SetRec := { r with data := Map.fill 0#8 [] 0 0x40 fun i => if i = 6 then 1#8 else Map.get 0#8 r.data i, poison := [] }

/-! Claims on what a mirror or a snapshot reads (R391): identity 0 for a mirror, 1 for a snapshot. -/

def State.holdRanges (s : State) (ident kinds : Nat) : State :=
  let copy := s.commits % 2
  s.image.protect.ranges.foldl (fun t r =>
    if bit kinds r.kind then t.onDie r.die fun d => { d with holds := d.holds ++ [(ident, r.addr copy % 2 ^ 38, r.length)] } else t) s

/-! Cadence (R389, R394, R401). -/

/-- Mirror and flash intervals, in steps, of a size class at a level. -/
def cadence (cls level : Nat) : Nat × Nat :=
  let pick := fun (l : List (Nat × Nat)) => l.getD level (1, 1)
  if cls = 0 then pick [(0, 32), (0, 16), (0, 4), (0, 1)]
  else if cls ≤ 2 then pick [(4, 64), (2, 32), (1, 8), (1, 1)]
  else if cls = 3 then pick [(1, 32), (1, 16), (1, 4), (1, 1)]
  else pick [(1, 16), (1, 8), (1, 2), (1, 1)]

/-- Both intervals in force, 0 for never: the image's pairs where CADENCE is 1 (R381). -/
def State.intervals (s : State) (cls level : Nat) : Nat × Nat :=
  let p := s.image.protect
  let of := fun v => if v = 0xFF then 0 else 2 ^ (v % 16)
  if p.cadence = 1 then (of (p.pairs.getD (2 * level) 0xFF), of (p.pairs.getD (2 * level + 1) 0xFF)) else cadence cls level

def State.sizeClass (s : State) : Nat := s.fld Reg.DOM_REDUND 7 5
def State.domLevel (s : State) : Nat := s.fld Reg.HLT_SCORE 21 20
def State.domWear (s : State) : Nat := s.fld Reg.HLT_SCORE 18 18

def multipleOf (b i : Nat) : Bool := i != 0 && b % i == 0

/-- Is boundary `b` due for a mirror? -/
def State.mirrorDueAt (s : State) (b : Nat) : Bool :=
  decide (1 ≤ s.sizeClass ∧ s.sizeClass ≤ 4) && (s.domLevel == 3 || multipleOf b (s.intervals s.sizeClass s.domLevel).1)

/-- Is boundary `b` due for a flash snapshot? -/
def State.snapDueAt (s : State) (b : Nat) : Bool :=
  s.domLevel == 3 || multipleOf b ((s.intervals s.sizeClass s.domLevel).2 * 2 ^ s.domWear)

/-- Kinds a mirror carries (R389): bit 0 PARAM, 1 MOMENT, 2 OTHER. -/
def mirrorKinds (cls : Nat) : Nat := if cls = 1 then 1 else if cls = 2 then 3 else 7

/-! Flash slots and wear (R393, R395). -/

def State.flashSlot (s : State) (n : Nat) : SetRec := Map.get {} s.res.slots n
def State.setFlashSlot (s : State) (n : Nat) (r : SetRec) : State := { s with res := { s.res with slots := Map.set {} s.res.slots n r } }

/-- The slot a new set is written to. -/
def State.chooseSlot (s : State) : Option Nat :=
  let l := (List.range 4).filter fun n => !(s.res.fillSlot.any fun f => f.1 == n) && !(s.res.snap.any fun j => j.slot == n)
  let none' := l.find? fun n => (s.flashSlot n).state == 0
  let torn := l.find? fun n => (s.flashSlot n).state == 1 || (s.flashSlot n).bad
  let full := l.filter fun n => (s.flashSlot n).complete && !(s.flashSlot n).draining
  let oldest := full.foldl (fun (m : Option Nat) n =>
    match m with
    | some k => if (s.flashSlot n).boundary < (s.flashSlot k).boundary then some n else m
    | none => some n) none
  none' <|> torn <|> oldest

abbrev gbyte : Nat := 1000000000

/-- The bytes of the last 24 hours decide the WEAR flag; 0x4502 as it sets. -/
def State.wearCheck (s : State) : State :=
  let day := s.res.wearDay.filter fun w => decide (s.now < w.1 + ms 86400000)
  let n := day.foldl (fun a w => a + w.2) 0
  let over' := decide (s.reg Reg.RES_WEAR_BUDGET * gbyte < n)
  let was := s.res.wearFlag
  let s := { s with res := { s.res with wearDay := day, wearFlag := over' } }
  let s := (s.setReg Reg.RES_WEAR_DAY (n / gbyte)).setFld Reg.HLT_SCORE 19 19 (if over' then 1 else 0)
  if over' && !was then s.raise 0x4502 0 else s

/-- Bytes written to the snapshot flash: into the day's figure, and, within reach of the configuration flash, the total (R488). -/
def State.flashWrote (s : State) (n : Nat) : State :=
  let s := { s with res := { s.res with wearDay := s.res.wearDay ++ [(s.now, n)] } }
  let s := if s.fw.h1Charge then s else { s with res := { s.res with wearTotal := s.res.wearTotal + n } }
  (s.setReg Reg.RES_WEAR_TOTAL (s.res.wearTotal / gbyte)).wearCheck

/-- Bytes a set costs: the header twice and the table on both controllers, the segments once. -/
def SetRec.cost (r : SetRec) : Nat := 2 * (2 * 4096 + 48 * r.num 0xC 4) + r.num 0x20 8

def execWear (s : State) : Ans := .next s.wearCheck

/-- R395: the slot's set fails its checks, the failing block is retired. -/
def execSnapFlashUncorrectable (slot : Nat) (s : State) : Ans :=
  .next <|
    let s := s.setFlashSlot slot { s.flashSlot slot with bad := true }
    ({ s with res := { s.res with grownBad := s.res.grownBad + 1 } }.tally 15).raise 0x4501 0

/-! Sending a mirror (R390). -/

/-- The reserve region and offset of a byte of the set's stream, the regions filled in order. -/
def reservePlace : List Nat → Nat → Option (Nat × Nat)
  | [], _ => none
  | r :: l, o => let n := Config.reserveBytes r; if o < n then some (r, o) else reservePlace l (o - n)

/-- The pieces of a range of the stream: cut at every 8,192-byte boundary of a region and at each region's end. -/
def State.mirrorPieces (s : State) : Nat → Nat → Nat → List (Nat × Nat × Nat × Nat)
  | 0, _, _ => []
  | fuel + 1, o, n =>
    if n = 0 then [] else
    match reservePlace s.image.protect.reserve o with
    | none => []
    | some (r, off) =>
      let k := Nat.max 1 (Nat.min n (Nat.min (8192 - off % 8192) (Config.reserveBytes r - off)))
      (o, k, r, off) :: s.mirrorPieces fuel (o + k) (n - k)

/-- Ports of a half that are UP, all four where none is. -/
def State.halfPorts (s : State) (half : Nat) : List Nat :=
  let l := (List.range 4).map (· + 4 * half)
  let u := l.filter fun p => (s.port p).link == 2
  if u.isEmpty then l else u

/-- Send `n` bytes of a set from offset `o`, each piece on the next of the half's ports. Answers the packets sent. -/
def State.sendPart (s : State) (r : SetRec) (o n half : Nat) : State × List (Nat × Nat) :=
  match s.partner with
  | none => (s, [])
  | some dst =>
    let ports := s.halfPorts half
    ((s.mirrorPieces (n + 1) o n).zipIdx).foldl (fun (x : State × List (Nat × Nat)) e =>
      let (o, k, reg, off) := e.1
      let p := ports.getD (e.2 % Nat.max 1 ports.length) (4 * half)
      let pm := (List.range ((k + 63) / 64)).foldl (fun v i => if Map.get false r.poison ((o + 64 * i) / 64) then v + 2 ^ i else v) 0
      let seq := ((x.1.port p).txEnt dst).next
      let pk : Packet := { cls := 1, ty := Ty.data, job := x.1.job, dst := dst, addr := 2 ^ 34 * reg + off, payload := r.bytes o k
                           pmap := if pm = 0 then none else some pm }
      (x.1.post p pk, x.2 ++ [(p, seq)])) (s, [])

/-- Is a packet this module sent covered by an ACK? -/
def State.acked (s : State) (dst : Nat) (x : Nat × Nat) : Bool :=
  let pt := s.port x.1
  (((pt.txEnt dst).unacked.all fun k => k.pkt.seq != x.2)) &&
    (pt.q1 ++ pt.q3 ++ pt.q6 ++ pt.q7).all (fun k => k.dst != dst || k.seq != x.2 || !sequenced k.ty)

/-- Write the record page of a set at the partner or in flash (R387, R388). -/
def State.mirrorRecord (s : State) (rec : List Byte) : State :=
  let r := s.res.partner.put 0x1000 (recordPage rec)
  let s := { s with res := { s.res with partner := r } }
  (s.sendPart r 0x1000 0x60 0).1
def State.slotRecord (s : State) (n : Nat) (rec : List Byte) : State :=
  (s.setFlashSlot n ((s.flashSlot n).put 0x1000 (recordPage rec))).flashWrote 8192

/-- Place a formed record in every tier that holds the set of its boundary; a set being written takes it once COMPLETE. -/
def State.placeRecord (s : State) (b : Nat) (rec : List Byte) : State :=
  let s : State := match s.res.mirror with
    | some j => if j.boundary = b then { s with res := { s.res with mirror := some { j with record := some rec } } } else s
    | none => if s.res.partner.complete && s.res.partner.boundary == b then s.mirrorRecord rec else s
  let s : State := match s.res.snap with
    | some j => if j.boundary = b then { s with res := { s.res with snap := some { j with record := some rec } } } else s
    | none => s
  (List.range 4).foldl (fun t n => if (t.flashSlot n).complete && (t.flashSlot n).boundary == b then t.slotRecord n rec else t) s

/-- Start the mirror of a boundary just captured (R389–R391): the WRITING header, the segments and the table go out. -/
def State.startMirror (s : State) (b : Nat) : State :=
  if s.partner.isNone then s
  else if s.res.mirror.isSome then s.raise 0x7401 0
  else
    let kinds := mirrorKinds s.sizeClass
    let r := s.buildSet b kinds 0
    let segs := s.setSegs b kinds
    let s := (s.holdRanges 0 kinds).setFld Reg.RES_STAT 0 0 1
    let (s, l) := s.sendPart r.writing 0 0x1000 0
    let (s, l) := segs.foldl (fun (x : State × List (Nat × Nat)) g =>
      let (t, m) := x.1.sendPart r g.pos g.len g.half; (t, x.2 ++ m)) (s, l)
    let (s, l2) := s.sendPart r 0x2000 (48 * segs.length) 0
    { s with res := { s.res with mirror := some { boundary := b, set := r, sent := l ++ l2 }, partner := r.writing } }

/-- MIRROR_COMPLETE (R388): once ACKs cover every packet, the COMPLETE header goes out. -/
def execMirrorComplete (s : State) : Ans :=
  .next <| match s.res.mirror, s.partner with
    | some j, some dst =>
      if j.sent.all (s.acked dst) then
        let s := { s with res := { s.res with mirror := none, partner := j.set } }
        let (s, _) := s.sendPart j.set 0 0x1000 0
        let s := ((s.dropHolds 0).setFld Reg.RES_STAT 0 0 0).count Reg.RES_MIRROR_CNT
        match j.record with
        | some rec => s.mirrorRecord rec
        | none => s
      else s
    | _, _ => s

/-- Start a flash snapshot of a boundary just captured (R391, R393, R394). -/
def State.startSnap (s : State) (b : Nat) : State :=
  if s.res.snap.isSome then s.raise 0x7401 0
  else match s.chooseSlot with
    | none => s.raise 0x7401 0
    | some n =>
      let r := s.buildSet b 7 1
      let s := ((s.holdRanges 1 7).setFld Reg.RES_STAT 1 1 1).setFlashSlot n r.writing
      { s with res := { s.res with snap := some { boundary := b, slot := n, set := r } } }

/-- SNAPSHOT_COMPLETE (R388, R395): segments, table and header stand in the slot. The total since manufacture goes to COUNTERS. Under the
flash guard nothing is programmed (R508). -/
def execSnapshotComplete (s : State) : Ans :=
  .next <| if s.pwr.guard then s else match s.res.snap with
    | none => s
    | some j =>
      let s := { s with res := { s.res with snap := none } }
      let s := ((s.dropHolds 1).setFld Reg.RES_STAT 1 1 0).count Reg.RES_SNAP_CNT
      let bad := (s.flashSlot j.slot).bad
      let s := (s.setFlashSlot j.slot { j.set with bad := bad }).flashWrote j.set.cost
      let s := s.appendCounter 2 (s.res.wearTotal / gbyte)
      match j.record with
      | some rec => s.slotRecord j.slot rec
      | none => s

end Sys2Proof.Machine
end

