-- ==== Sys2Proof/Machine/Boundary.lean ====
section
/-!
DEFINITION. The step boundary (R160–R165, R96, R380–R385, R407): the step report, the decision, its application, and the capture of the
boundary block.
-/
namespace Sys2Proof.Machine

/-- The format of a code, programmable entries from their registers (R83). -/
def State.fmt (s : State) (code : Nat) : Option FmtInfo := fmtInfo (fun c => s.reg (Reg.FMT_ENTRY10 + 4 * (c - 10))) code

/-- A scale policy (R95, R111). -/
def State.scalePolicy (s : State) (p : Nat) : Policy := policyOf (s.reg (Reg.FMT_POLICY_A0 + 4 * p)) (s.reg (Reg.FMT_POLICY_B0 + 4 * p))

/-- The stamp update of every valid entry of every die (R96). An entry whose policy's TARGET names no format keeps its stamp: an image
with one is not loaded (R95). -/
def State.stampUpdate (s : State) : State :=
  (List.range 4).foldl (fun t d => t.onDie d fun x =>
    { x with stamps := Map.vals {} (fun (e : StampEnt) =>
        if e.valid then
          match s.fmt (s.scalePolicy e.policy).target with
          | some f => e.update f (s.scalePolicy e.policy)
          | none => e
        else e) x.stamps }) s

/-- Does a core take part: has the image a stream for it? -/
def State.stepCores (s : State) : List Nat := s.image.segments.map (·.1)

/-- Has a core a courier transfer, posted before its STEPEND, whose last write is still to come? -/
def State.posting (s : State) (g : Nat) : Bool :=
  let n := (s.core g).stepAt
  (s.clusters.any fun e => e.2.queues.any fun q => q.2.any fun x => x.core == g && decide (x.ident < n)) ||
    s.tags.any fun t => t.2.used && t.2.dest.poster == g + 1 && decide (t.2.dest.claim < n)

/-- Every STEPEND of the step is complete (R145, R160). -/
def State.stepEnds (s : State) : Bool := s.stepCores.all fun g => (s.core g).stepEnd && !s.posting g

/-- Every VALID entry of the mailbag tables is COMPLETE. -/
def State.bagsComplete (s : State) : Bool := s.dies.all fun d => d.2.mbags.all fun m => m.2.flags % 2 == 0 || m.2.complete

/-- A step report's payload (R161). -/
def reportPayload (step : Nat) (r : Report) : List Byte :=
  leBytes 8 step ++ leBytes 2 r.node ++ leBytes 2 (if r.clean then 1 else 0) ++ leBytes 2 r.cause ++ leBytes 2 0

/-- STEP_REPORT (R160–R162): the report is formed and sent with D as release; formed after D it is a cause of a hold. It is withheld in a
module that parks (R165, R402), and resumes with the domain in one that is held. -/
def execStepReport (s : State) : Ans :=
  .next <|
    if s.mod = .running ∧ s.stepSt.own.isNone ∧ !s.stepSt.discarded ∧ s.res.parking.isNone ∧
        s.stepEnds ∧ s.bagsComplete ∧ s.stepSt.bookkeeping ∧ s.schUp then
      let r : Report := { node := s.node, clean := !s.isDirty, cause := if s.isDirty then s.stepSt.dirtyCause else 0 }
      let d := s.decisionPm
      let s := { s with stepSt := { s.stepSt with own := some (r, s.pm), reports := s.stepSt.reports ++ [r] } }
      let s := s.letters Ty.report d (reportPayload s.step40 r)
      if d < s.pm then let (s, ok) := s.holdCause 0x17301; s.seqFull ok else s
    else s

/-- A REPORT letter becomes visible (R162): one of another step is 0x7203. After entry to PARKED it changes nothing (R403). -/
def State.applyReport (s : State) (pay : List Byte) : State :=
  if !s.live then s
  else if fieldAt pay 0 8 % 2 ^ 40 ≠ s.step40 then s.raise 0x7203 0
  else
    let r : Report := { node := fieldAt pay 8 2, clean := bit (fieldAt pay 0xA 2) 0, cause := fieldAt pay 0xC 2 }
    if s.stepSt.reports.any fun x => x.node == r.node then s
    else { s with stepSt := { s.stepSt with reports := s.stepSt.reports ++ [r] } }

/-- Reports are visible from every member (R162). -/
def State.allReports (s : State) : Bool := s.dom.members.all fun m => s.stepSt.reports.any fun r => r.node == m

/-- STEP_DECISION (R162): after D, once every report is visible. The domain level and wear shift of the decision are those of the table
as it then stands (R400). -/
def execStepDecision (s : State) : Ans :=
  .next <|
    let d := s.decisionPm
    if s.live ∧ d < s.pm ∧ s.stepSt.own.isSome ∧ s.allReports ∧ s.stepSt.decision.isNone ∧ !s.stepSt.discarded ∧
        (s.mod = .running ∨ d ≤ s.dom.fstop) then
      let s := s.riskDue
      let top := s.dom.levels.foldl (fun m e => Nat.max m (e.2 % 4)) 0
      let wear := s.dom.levels.any fun e => decide (4 ≤ e.2)
      let s := (s.setFld Reg.HLT_SCORE 21 20 top).setFld Reg.HLT_SCORE 18 18 (if wear then 1 else 0)
      { s with stepSt := { s.stepSt with decision := some (s.stepSt.reports.all (·.clean)) } }
    else s

/-- A mailbag entry after the decision (R163). -/
def MBag.nextStep (m : MBag) : MBag :=
  if m.flags % 2 = 1 then { m with received := 0, nilCount := 0, tokens := 0, dirty := false, complete := false, step := (m.step + 1) % 2 ^ 40 } else m

/-- The DECISION word (R164). -/
def decisionWord (step : Nat) (commit : Bool) : Nat := step * 2 ^ 24 + (if commit then 1 else 2)

/-- What a decision does to a core (R163, R164, R354): the decision words, released; uses from 0; a halted core's next STEPEND stands. -/
def Core.decided (c : Core) (word commits : Nat) : Core :=
  let c := (c.sdmWrite 0x17FF0 8 word).sdmWrite 0x17FF8 8 commits
  { c with claims := c.claims.filter (fun k => k.src != 4), uses := [], stepEnd := c.halted }

/-- The record of boundary b, as 64 bytes (R385, R387). -/
def State.formRecord (s : State) (b : Nat) (commit : Bool) : List Byte :=
  let p := s.image.protect
  leBytes 8 b ++ leBytes 8 ((s.core p.lossCore).sdmRead p.lossAddr 8) ++
  ((List.range 4).flatMap fun d => leBytes 8 (s.die d).gsum.toNat) ++ leBytes 1 (if commit then 1 else 2) ++ List.replicate 15 0#8

/-- What a decision does to a die's tables (R163, R385). -/
def Die.decided (d : Die) : Die := { d with mbags := Map.vals {} MBag.nextStep d.mbags, gsum := 0#64 }

/-- The decision's actions on every die (R163) and the stamp update behind them (R96). -/
def State.decideStep (s : State) (b commits : Nat) (commit : Bool) : State :=
  let s := s.setReg64 Reg.FMT_COMMITS_LO (commits % 2 ^ 64)
  let s := (List.range 384).foldl (fun (t : State) g => t.onCore g fun c => c.decided (decisionWord b commit) commits) s
  let s := (List.range 4).foldl (fun (t : State) d => t.onDie d Die.decided) s
  let s := if commit then s else s.count Reg.FMT_SKIP_CNT
  let s := (s.setReg64 Reg.FMT_STEP_LO ((b + 1) % 2 ^ 40)).setFld Reg.FMT_BOUNDARY 8 8 (if commit then 1 else 0)
  let s := (List.range 4).foldl (fun (t : State) d => t.setFld (Reg.at Reg.FMT_STAT d) 1 0 2) s
  { s with stepSt := {} }.stampUpdate

/-- Compare the record just formed with the restored set's (R407). -/
def State.proofCheck (s : State) (rec' : List Byte) : State × List (Nat × Nat) :=
  let t := { s with res := { s.res with lastRecord := some rec', proofRecord := none, verifying := false } }
  match s.res.proofRecord with
  | some r => if r = rec' then (t.setFld Reg.RES_STAT 6 5 2, []) else (t.setFld Reg.RES_STAT 6 5 3, [(0x7403, 0)])
  | none => (if s.res.verifying then t.setFld Reg.RES_STAT 6 5 1 else t, [])

/-- What the new boundary is due for (R389, R394); a host still absent under POLICY 1 makes it due for a snapshot and parks (R435). -/
def State.makeDue (s : State) (b : Nat) : State × List (Nat × Nat) :=
  let absent := s.fw.hostParkDue && s.fld Reg.FW_HOST 17 16 == 1
  ({ s with res := { s.res with mirrorDue := s.mirrorDueAt b, snapDue := s.snapDueAt b || absent }
            fw := { s.fw with hostParkDue := s.fw.hostParkDue && !absent } }, if absent then [(0xB102, 0)] else [])

/-- A park that waited for the decision settles its cut at the new boundary (R402). -/
def State.parkDecided (s : State) (b : Nat) : State :=
  match s.res.parking with
  | some (c, none) => let (s, ok) := s.settleCut c b; s.seqFull ok
  | _ => s

/-- Apply a decision. -/
def State.applyDecision (s : State) (commit : Bool) : State :=
  let b := s.step40
  let rec' := s.formRecord b commit
  let s := s.decideStep b (s.commits + (if commit then 1 else 0)) commit
  let (s, bad) := s.proofCheck rec'
  let (s, absent) := s.makeDue (b + 1)
  let s := (s.placeRecord b rec').parkDecided (b + 1)
  s.raiseAll ((if commit then [] else (List.range 4).map fun d => (0x1205, d)) ++ bad ++ absent)

def execDecisionApply (s : State) : Ans :=
  .next <| match s.stepSt.decision with
    | some commit => if s.live then s.applyDecision commit else s
    | none => s

/-- BOUNDARY_BLOCK_CAPTURE (R98, R383, R388, R391): the stamp update ends, the block is captured, and a due mirror and snapshot start. -/
def execBoundaryBlockCapture (s : State) : Ans :=
  .next <|
    if s.fld Reg.FMT_STAT 1 1 = 1 then
      let b := s.step40
      let s := (List.range 4).foldl (fun t d => t.setFld (Reg.at Reg.FMT_STAT d) 1 1 0) s
      let s := s.writeBlock b
      let s := if s.res.mirrorDue then s.startMirror b else s
      let s := if s.res.snapDue then s.startSnap b else s
      { s with res := { s.res with mirrorDue := false, snapDue := false } }
    else s

end Sys2Proof.Machine
end

