-- ==== Sys2Proof/Machine/Domain.lean ====
section
/-!
DEFINITION. Joining a domain, latency probes, image runs and host requests (R345–R350, R358, R362, R402).
-/
namespace Sys2Proof.Machine

/-! The join record (R345). -/

/-- Size class and class-1 share (R375). -/
def classOf (redund modules : Nat) : Nat :=
  if redund ≠ 0xFF then redund
  else if modules ≤ 1 then 0 else if modules ≤ 63 then 1 else if modules ≤ 1023 then 2 else if modules ≤ 8191 then 3 else 4
def shareOf (cls : Nat) : Nat := if cls = 0 then 0 else if cls = 1 then 6 else if cls = 2 then 12 else if cls = 3 then 18 else 25

def State.joinMembers (s : State) (slot : Nat) : List Nat := (List.range (s.pay slot 2 2)).map fun i => s.pay slot (0x20 + 2 * i) 2

/-- Every rule of R345 holds. -/
def State.joinRecordOk (s : State) (slot : Nat) : Bool :=
  let size := s.pay slot 2 2
  let index := s.pay slot 4 2
  let synce := s.pay slot 6 1
  let redund := s.pay slot 7 1
  let modules := s.pay slot 0x10 4
  let partner := s.pay slot 0x16 2
  let ms := s.joinMembers slot
  decide (1 ≤ size ∧ size ≤ 512) && decide (index < size) &&
  ((decide (8 ≤ synce ∧ synce ≤ 15)) || (synce == 1 && size == 1)) &&
  (decide (redund ≤ 4) || redund == 0xFF) && decide (s.pay slot 8 8 < 2 ^ 48) && decide (1 ≤ modules ∧ modules ≤ 65536) &&
  ms.getD index 0x10000 == s.node && ms.Nodup &&
  (partner == 0xFFFF) == (modules == 1) && partner != s.node &&
  (partner == 0xFFFF || s.pay slot 0x18 2 != s.pay slot 0x14 2)

/-- The module is JOINED (R346 step 5): the letter is answered. -/
def State.joinedNow (s : State) : State :=
  let slot := s.dom.joinSlot
  let s := { s with dom := { s.dom with joined := true, joinStep := 0, joinSlot := none } }
  match slot with
  | some n => s.answer n 0
  | none => s

/-- Take an accepted record: the DOM registers, and the join steps begin; any loaded image is discarded (R349). A domain of one
loads postmark 0, has no phase reference and is joined. -/
def State.beginJoin (s : State) (slot : Nat) : State :=
  let size := s.pay slot 2 2
  let modules := s.pay slot 0x10 4
  let cls := classOf (s.pay slot 7 1) modules
  let synce := s.pay slot 6 1
  let s' := ((s.setFld Reg.DOM_IDENT 31 16 (s.pay slot 0 2)).setFld Reg.DOM_IDENT 9 0 size)
  let s' := (s'.setFld Reg.DOM_POSITION 24 16 (s.pay slot 4 2)).setFld Reg.DOM_POSITION 15 0 (s.pay slot 0x14 2)
  let s' := (s'.setFld Reg.DOM_PARTNER 31 16 (s.pay slot 0x18 2)).setFld Reg.DOM_PARTNER 15 0 (s.pay slot 0x16 2)
  let s' := ((s'.setFld Reg.DOM_REDUND 31 15 modules).setFld Reg.DOM_REDUND 7 5 cls).setFld Reg.DOM_REDUND 4 0 (shareOf cls)
  let s' := { s' with
    dom := { s'.dom with joined := false, joinStep := 2, joinSlot := some slot, epoch := s.pay slot 8 8, syncE := synce
                         members := s.joinMembers slot, pmLoaded := false, probesSent := 0, lat := [], levels := [], riskWait := [] }
    image := { s'.image with loaded := false } }
  let s' := [0, 1].foldl (fun t h =>
    let c := dpllCtl h
    let p := Reg.at Reg.TIME_REF_PRIO h
    let v := putBits (t.reg c) 1 0 1
    (t.timeWrite p (putBits (t.reg p) 3 0 synce)).timeWrite c (if size = 1 then putBits v 9 8 0 else v)) s'
  if size = 1 then (s'.loadPostmark 0).joinedNow else s'

def execJoin (slot : Nat) (s : State) : Ans :=
  .next (s.startLetter slot 5 fun s =>
    if s.dom.joinStep ≠ 0 then s
    else if s.slotGet true slot 6 2 < 0x20 + 2 * s.pay slot 2 2 ∨ 2016 < s.slotGet true slot 6 2 then s.answer slot 5
    else if s.joinRecordOk slot then s.beginJoin slot
    else s.refuseWith slot 0x7305)

/-- R347: at the first whole second k after step 3 began, postmark k × 600,000,000. -/
def execPostmarkLoad (k : Nat) (s : State) : Ans :=
  .next (if s.mod = .ready ∧ s.dom.joinStep = 3 ∧ !s.dom.pmLoaded then
      let s := s.loadPostmark (600000000 * k)
      { s with dom := { s.dom with pmLoaded := true } }
    else s)

/-- Latency of one member, by index. -/
def State.latency (s : State) (i : Nat) : Latency := Map.get {} s.dom.lat i

/-- Payload of PROBE and PROBE_REPLY (R348). -/
def probePayload (index sender t1 t2 t3 p1 p2 p3 : Nat) : List Byte :=
  leBytes 2 index ++ leBytes 2 sender ++ leBytes 4 0 ++ leBytes 8 t1 ++ leBytes 8 t2 ++ leBytes 8 t3 ++
  leBytes 2 p1 ++ leBytes 2 p2 ++ leBytes 2 p3 ++ List.replicate 10 0#8

/-- Picoseconds after a postmark's cycle edge, which no rule fixes: 0–1,666. -/
def State.edgePs (s : State) : Nat × State := let (v, s) := s.free; (v.toNat % 1667, s)

/-- R348: probe n goes to the other members in turn, INDEX rising with each round. -/
def execProbeTransmit (s : State) : Ans :=
  .next <|
    let n := s.others.length
    if s.mod = .ready ∧ s.dom.joinStep = 4 ∧ s.dom.probesSent < 64 * n then
      let k := s.dom.probesSent
      let (ps, s) := s.edgePs
      let s := { s with dom := { s.dom with probesSent := k + 1 } }
      s.letter Ty.probe (s.others.getD (k % n) 0) 0
        (probePayload (k / n) (s.fld Reg.DOM_POSITION 24 16) s.pm 0 0 ps 0 0)
    else s

/-- The answer to a probe (R348): T2 and T3 are when it reached and the reply leaves these lanes. -/
def State.applyProbe (s : State) (src : Nat) (pay : List Byte) : State :=
  let (p2, s) := s.edgePs
  let (p3, s) := s.edgePs
  s.letter Ty.probeReply src 0
    (probePayload (fieldAt pay 0 2) (fieldAt pay 2 2) (fieldAt pay 8 8) s.pm s.pm (fieldAt pay 0x20 2) p2 p3)

/-- A postmark difference in picoseconds: 5,000/3 ps a cycle. -/
def spanPs (t0 p0 t1 p1 : Nat) : Nat := ((t1 : Int) * 5000 / 3 + p1 - ((t0 : Int) * 5000 / 3 + p0)).toNat

/-- A reply: smallest and largest forward and return latencies, and the probes answered (R348). Each INDEX counts once, its second copy
only its latencies. -/
def State.applyProbeReply (s : State) (src : Nat) (pay : List Byte) : State :=
  let i := s.dom.members.findIdx (· == src)
  if s.dom.joinStep ≠ 4 ∨ s.dom.members.length ≤ i then s
  else
    let (p4, s) := s.edgePs
    let f := spanPs (fieldAt pay 8 8) (fieldAt pay 0x20 2) (fieldAt pay 0x10 8) (fieldAt pay 0x22 2)
    let r := spanPs (fieldAt pay 0x18 8) (fieldAt pay 0x24 2) s.pm p4
    let l := s.latency i
    let seen := bit l.answered (fieldAt pay 0 2 % 64)
    let mask := if seen then l.answered else l.answered + 2 ^ (fieldAt pay 0 2 % 64)
    let l := if l.answered = 0 then { fmin := f, fmax := f, rmin := r, rmax := r, answered := mask : Latency }
      else { fmin := Nat.min l.fmin f, fmax := Nat.max l.fmax f, rmin := Nat.min l.rmin r, rmax := Nat.max l.rmax r, answered := mask }
    { s with dom := { s.dom with lat := Map.set {} s.dom.lat i l } }

/-- Probes answered by a member: the INDEXes answered. -/
def probesAnswered (l : Latency) : Nat := ((List.range 64).filter fun j => bit l.answered j).length

/-- R346: the condition of the present join step, and the next step. -/
def execJoinStepDone (s : State) : Ans :=
  .next (if s.mod ≠ .ready then s
    else if s.dom.joinStep = 2 ∧ s.dpll = 2 ∧ s.activeRef = s.dom.syncE then
      let s := [0, 1].foldl (fun t h => t.timeWrite (dpllCtl h) (putBits (t.reg (dpllCtl h)) 9 8 1)) s
      { s with dom := { s.dom with joinStep := 3, pmLoaded := false } }
    else if s.dom.joinStep = 3 ∧ s.dom.pmLoaded ∧ 8 ≤ s.time.phaseGood then
      { s with dom := { s.dom with joinStep := 4, probesSent := 0, lat := [] } }
    else if s.dom.joinStep = 4 ∧
        (List.range s.dom.members.length).all (fun i => s.dom.members.getD i 0 == s.node || decide (48 ≤ probesAnswered (s.latency i))) then
      s.joinedNow
    else s)

/-- R346: a step past its limit leaves the module unjoined, 0x7306. -/
def execJoinTimeout (s : State) : Ans :=
  .next (if 2 ≤ s.dom.joinStep then
      let slot := s.dom.joinSlot
      let s := { s with dom := { s.dom with joinStep := 0, joined := false, joinSlot := none } }
      let s := s.setFld Reg.DOM_IDENT 9 0 0
      let s := match slot with | some n => s.answer n 1 0x7306 | none => s
      s.raise 0x7306 0
    else s)

/-! Image runs (R350). -/

/-- Open window `i` of a port's transmit table: its allowance, less what the last window overdrew (R300). -/
def Port.openWindow (pt : Port) (i : Nat) : Port :=
  match pt.txTable[i]? with
  | some e => { pt with window := i, remainder := e.2 + (if pt.remainder < 0 then pt.remainder else 0) }
  | none => pt

/-- Every core with a loaded stream begins at bundle 0 of half 0 (R406); the registers of its threads read 0, threads 1–3 are halted and
the hand-off registers empty (R134). A core left with an unrepaired region stays out (R470). -/
def Core.begin (c : Core) : Core :=
  { c.quiet with
           half := 0, index := 0, loops := [], issuing := c.available, halted := false, stepEnd := false, segNext := false, stall := 0
           segs := 0, x := [], th := [], hand := [], handFull := [], claims := c.claims.filter fun k => k.space != 3 }

def State.beginCores (s : State) : State :=
  s.image.segments.foldl (fun t e => t.onCore e.1 Core.begin) s

/-- Enter RUNNING with a schedule time (R350, R406): the count of holds begins anew, the first windows open, the cores begin. -/
def State.beginRun (s : State) (ev tau : Nat) : State :=
  let s := s.transition ev .running
  if s.mod ≠ .running then s else
  let s := { s with waiting := [], time := { s.time with sched := tau, runAt := s.now }, res := { s.res with cutMapOut := false }
                    dom := { s.dom with hold := none, holdsDone := 0, totalH := 0, postponed := [], parkLetters := [], hostHold := false } }
  let s := s.setFld Reg.DOM_HOLD 31 16 0
  let s := (List.range 8).foldl (fun t p => t.onPort p fun pt =>
    let i := (pt.txTable.findIdx fun e => decide (tau % Nat.max 1 pt.txPeriod < e.1)) - 1
    { pt with remainder := 0, slotSent := 0 }.openWindow i) s
  s.beginCores

def execRun (slot : Nat) (s : State) : Ans :=
  .next (s.startLetter slot 6 fun s =>
    let start := s.pay slot 0 8
    if !s.dom.joined || !s.image.loaded then s.answer slot 6
    else if start % 65536 ≠ 0 then s.answer slot 5
    else if start ≤ s.pm then s.refuseWith slot 0x730A
    else { s with host := { s.host with runArmed := some (slot, start) } })

/-- R350: START is reached; schedule time is 0 and the letter is answered. -/
def State.runStart (s : State) : State :=
  match s.host.runArmed with
  | some (slot, start) =>
    if start = s.pm ∧ s.mod = .ready ∧ s.dom.joined ∧ s.image.loaded then
      let s := { s with host := { s.host with runArmed := none } }
      (s.beginRun 0x06 0).answer slot 0
    else s
  | none => s

def execImageRunStart (s : State) : Ans := .next s.runStart

/-! Holds, resumes and parks asked for (R358, R362, R402). -/

def State.holdReq (s : State) : State :=
  if s.live then
    let s := { s with dom := { s.dom with hostHold := true } }
    let (s, ok) := s.holdCause 0
    s.seqFull ok
  else s

def execHoldReq (s : State) : Ans := .next s.holdReq
def State.resumeReq (s : State) : State := { s with dom := { s.dom with hostHold := false } }
def execResumeReq (s : State) : Ans := .next s.resumeReq
/-- `RES.CTL.PARK_REQ` is set (R402): the RES block answers once the registers decode. -/
def State.parkReq (s : State) : State := if s.powered && s.mod != .recovery then s.raise 0x7407 0 else s
def execParkReq (s : State) : Ans := .next s.parkReq
def execHoldLimit (s : State) : Ans := .next s.holdLimit
def execResumeReady (s : State) : Ans := .next s.resumeReady
def execParkEntry (limit : Bool) (s : State) : Ans := .next (s.parkEntry limit)

end Sys2Proof.Machine
end

