-- ==== Sys2Proof/Machine/Desc.lean ====
section
/-!
DEFINITION. Courier descriptors (R240): the common fields and what they say of a copy.
-/
namespace Sys2Proof.Machine

/-- A courier descriptor (R240). -/
structure CDesc where
  kind : Nat
  transpose : Bool
  offSrc : Bool
  offDst : Bool
  allocDst : Bool
  releaseSrc : Bool
  tensor : Nat
  fmt : Nat
  srcSpace : Nat
  dstSpace : Nat
  srcCore : Nat
  dstCore : Nat
  pool : Nat
  op : Nat
  release : Nat
  result : Nat
  src : Nat
  dst : Nat
  rowLen : Nat
  rows : Nat
  srcPitch : Nat
  dstPitch : Nat
  live : Nat
deriving DecidableEq, Repr

/-- Bytes `o` to `o + n - 1` of a descriptor. -/
def dfield (v o n : Nat) : Nat := bits v (8 * (o + n) - 1) (8 * o)

def cdesc (v : Nat) : CDesc :=
  { kind := dfield v 0 1, transpose := bit v 8, offSrc := bit v 9, offDst := bit v 10, allocDst := bit v 11, releaseSrc := bit v 12
    tensor := dfield v 2 2 % 4096, fmt := dfield v 2 2 / 4096, srcSpace := dfield v 4 1, dstSpace := dfield v 5 1
    srcCore := dfield v 6 2, dstCore := dfield v 8 2, pool := dfield v 0xA 1, op := dfield v 0xB 1, release := dfield v 0xC 2
    result := dfield v 0xE 2, src := dfield v 0x10 8, dst := dfield v 0x18 8, rowLen := dfield v 0x20 4, rows := dfield v 0x24 4
    srcPitch := dfield v 0x28 4, dstPitch := dfield v 0x2C 4, live := dfield v 0x30 2 }

/-- The descriptor with the addresses of its CPOST (R240). -/
def CDesc.withOff (d : CDesc) (x : Nat) : CDesc :=
  { d with src := if d.offSrc then (d.src + x) % 2 ^ 64 else d.src, dst := if d.offDst then (d.dst + x) % 2 ^ 64 else d.dst }

/-- Loads of space 4, and returning operations in it or on the die network (R271, R320). -/
def CDesc.isLoad (d : CDesc) : Bool := d.srcSpace == 4
def CDesc.isReturning (d : CDesc) : Bool := (d.dstSpace == 4 || d.dstSpace == 3) && decide (0x41 ≤ d.op) && decide (d.op ≤ 0x4C)
def CDesc.remote (d : CDesc) : Bool := d.srcSpace == 4 || d.dstSpace == 4

end Sys2Proof.Machine
end

