-- ==== Sys2Proof/Machine/Pools.lean ====
section
/-!
DEFINITION. The pigeonhole pools (R246–R253).
-/
namespace Sys2Proof.Machine

def Die.pool (d : Die) (p : Nat) : Pool := Map.get {} d.pools p
def State.pool (s : State) (d p : Nat) : Pool := (s.die d).pool p
def State.setPool (s : State) (d p : Nat) (v : Pool) : State := s.onDie d fun x => { x with pools := Map.set {} x.pools p v }

/-- Buffer size of a class. -/
def poolSize (cls : Nat) : Nat := 256 * 2 ^ cls
def Pool.limit (v : Pool) : Nat := v.base + v.count * poolSize v.cls
abbrev endOfList : Nat := 2 ^ 48 - 1

/-- Eight bytes of a buffer, in its core's tile store or its die's bonded memory. -/
def State.poolWord (s : State) (d : Nat) (v : Pool) (a : Nat) : Nat :=
  if v.space = 0 then leNat ((s.core (d * 96 + v.core)).readSpace 0 a 8).1 else leNat (s.readBond (2 ^ 38 * d + a) 8).1
def State.setPoolWord (s : State) (d : Nat) (v : Pool) (a w : Nat) : State :=
  if v.space = 0 then s.onCore (d * 96 + v.core) fun c => c.writeSpace 0 a (leBytes 8 w) 0 else s.writeBond (2 ^ 38 * d + a) (leBytes 8 w) 0

/-- A link word (R247). -/
def linkCheck (p addr next : Nat) : Nat := crc16 (leBytes 1 p ++ leBytes 6 addr ++ leBytes 6 next)
def linkWord (p addr next : Nat) : Nat := next + linkCheck p addr next * 2 ^ 48

/-- The owner word of a buffer (R248): STATE 0 FREE, 1 HELD, 2 SHARED in bits 31:30, OWNER in bits 15:0. -/
def Pool.ownerAt (v : Pool) (a : Nat) : Nat := v.owners + 4 * ((a - v.base) / poolSize v.cls)
def State.owner (s : State) (v : Pool) (a : Nat) : Nat := leNat (s.readBond (v.ownerAt a) 4).1
def State.setOwner (s : State) (v : Pool) (a st who : Nat) : State := s.writeBond (v.ownerAt a) (leBytes 4 (st * 2 ^ 30 + who)) 0

/-- Refuse an operation: counted, its address kept, its fault raised. -/
def State.poolRefuse (s : State) (d addr code : Nat) : State :=
  let s := s.count (Reg.at Reg.PGN_REFUSED_CNT d)
  ((s.setReg (Reg.at Reg.PGN_BAD_LO d) (addr % 2 ^ 32)).setReg (Reg.at Reg.PGN_BAD_HI d) (addr / 2 ^ 32)).raise code d

/-- Does the address name a buffer (R249)? -/
def Pool.names (v : Pool) (a : Nat) : Bool := v.valid && decide (v.base ≤ a) && decide (a < v.limit) && (a - v.base) % poolSize v.cls == 0

/-- Take the buffer at HEAD (R249). A CHECK mismatch quarantines the pool. -/
def State.allocHead (s : State) (d p caller : Nat) : State × Option Nat :=
  let v := s.pool d p
  let w := s.poolWord d v v.head
  let next := w % 2 ^ 48
  if w / 2 ^ 48 = linkCheck p v.head next then
    ((s.setPool d p { v with head := next, free := v.free - 1 }).setOwner v v.head 1 caller, some v.head)
  else ((s.setPool d p { v with quarantined := true }).poolRefuse d v.head 0x5004, none)

/-- What an ALLOC came to. -/
inductive Alloc where
  | got (addr : Nat)
  | refused
  | empty
deriving DecidableEq, Repr

/-- ALLOC: from an unused pool nothing comes; a quarantined one refuses with 0x5005; an empty one is told apart. -/
def State.alloc (s : State) (d p caller : Nat) : State × Alloc :=
  let v := s.pool d p
  if !v.valid then (s, .refused)
  else if v.quarantined then (s.poolRefuse d v.head 0x5005, .refused)
  else if v.free = 0 then (s, .empty)
  else match s.allocHead d p caller with
    | (s, some a) => (s, .got a)
    | (s, none) => (s, .refused)

/-- An ALLOC waits on an empty pool (R250). A post that waits already is not counted again. -/
def State.allocWait (s : State) (d p : Nat) (w : PoolWait) : State :=
  let v := s.pool d p
  if w.ident ≠ 0 ∧ v.waiting.any fun x => x.ident == w.ident then s
  else (s.setPool d p { v with waiting := v.waiting ++ [w] }).count (Reg.at Reg.PGN_EMPTY_CNT d)

/-- Write an allocated address into a core's scalar word. -/
def State.allocResult (s : State) (res : Option (Nat × Nat)) (addr : Nat) : State :=
  match res with
  | some (g, w) => s.onCore g fun c => c.sdmWrite (8 * w) 8 addr
  | none => s

/-! Posts at the heads of the courier queues (R244). -/

/-- Release every claim that a post made, on its destinations and its sources. -/
def State.releaseIdent (s : State) (ident : Nat) : State :=
  if ident = 0 then s else
  { s with cores := Map.vals {} (fun (c : Core) => if c.claims.any (fun k => k.ident == ident) then c.unclaim ident else c) s.cores
           dies := Map.vals {} (fun (d : Die) => { d with
             holds := d.holds.filter (fun h => h.1 != ident), locks := d.locks.filter (fun h => h.1 != ident) }) s.dies }

/-- The courier has read its source's last row: the claims against writers end (R243). -/
def State.releaseSource (s : State) (ident : Nat) : State :=
  { s with cores := Map.vals {} (fun (c : Core) =>
             if c.claims.any (fun k => k.ident == ident && k.src == 5) then { c with claims := c.claims.filter fun k => !(k.ident == ident && k.src == 5) } else c) s.cores
           dies := Map.vals {} (fun (d : Die) => { d with holds := d.holds.filter fun h => h.1 != ident }) s.dies }

/-- A queue with the post of an identity changed where it is the head; `none` takes it off. -/
def onHead (ident : Nat) (f : QEnt → Option QEnt) : List QEnt → List QEnt
  | x :: r => if x.ident = ident then (f x).toList ++ r else x :: r
  | [] => []

/-- Change the post of an identity where it heads its queue. -/
def State.onPost (s : State) (ident : Nat) (f : QEnt → Option QEnt) : State :=
  if ident = 0 then s else
  { s with clusters := Map.vals {} (fun (k : Cluster) => { k with queues := Map.vals [] (onHead ident f) k.queues }) s.clusters }

/-- Take a post off the head of its courier's queue. -/
def State.popPost (s : State) (ident : Nat) : State := s.onPost ident fun _ => none

/-- Does a post of this identity and kind head its courier's queue? -/
def State.headsQueue (s : State) (ident kind : Nat) : Bool :=
  s.clusters.any fun e => e.2.queues.any fun q =>
    match q.2 with
    | x :: _ => x.ident == ident && (cdesc (Map.get 0 e.2.desc x.desc)).kind == kind
    | [] => false

/-- A courier takes its buffer when its COPY goes on (R253). -/
def isCourier (caller : Nat) : Bool := decide (0x180 ≤ caller) && decide (caller < 0x240)

/-- A freed buffer goes to the oldest ALLOC that waits (R250): to a courier's COPY, or to the word that takes it. -/
def State.serveWaiting (s : State) (d p : Nat) : State :=
  match (s.pool d p).waiting with
  | w :: _ =>
    match s.alloc d p w.caller with
    | (s, .got a) =>
      let s := (s.setPool d p { s.pool d p with waiting := (s.pool d p).waiting.tail }).allocResult w.res a
      if isCourier w.caller then s.onPost w.ident fun q => some { q with got := some a }
      else (s.popPost w.ident).releaseIdent w.ident
    | (s, _) => s
  | [] => s

/-- RELEASE (R249). -/
def State.releaseBuf (s : State) (d p caller a : Nat) : State :=
  let v := s.pool d p
  if !v.names a then s.poolRefuse d a 0x5001
  else if v.quarantined then s
  else
    let w := s.owner v a
    let st := w / 2 ^ 30
    if st = 0 then s.poolRefuse d a 0x5003
    else if w % 65536 ≠ caller then s.poolRefuse d a 0x5002
    else
      let s := ((s.setPoolWord d v a (linkWord p a v.head)).setPool d p { v with head := a, free := v.free + 1 }).setOwner v a 0 0
      s.serveWaiting d p

def State.shareBuf (s : State) (d p caller a last : Nat) : State :=
  let v := s.pool d p
  if !v.names a then s.poolRefuse d a 0x5001
  else if s.owner v a = 2 ^ 30 + caller then s.setOwner v a 2 last
  else s.poolRefuse d a 0x5002

/-! The rows. -/

/-- What an operation on a pool names: die, pool, address, last owner, the word that takes an address, and the identity of its post. -/
structure PoolOp where
  die : Nat
  pool : Nat
  addr : Nat := 0
  last : Nat := 0
  res : Option (Nat × Nat) := none
  ident : Nat := 0
deriving DecidableEq, Repr

/-- The POOL descriptor of a core that heads a courier's queue of its cluster and does not wait yet. -/
def State.poolPost (s : State) (caller : Nat) : Option (QEnt × CDesc) :=
  let cl := s.cluster (caller / 8)
  if 384 ≤ caller then none
  else (List.range 4).findSome? fun k => match Map.get [] cl.queues k with
    | q :: _ =>
      let x := (cdesc (Map.get 0 cl.desc q.desc)).withOff q.off
      if x.kind = 4 ∧ q.core = caller ∧ !(s.pool (caller / 96) (x.pool % 64)).waiting.any (fun w => w.ident == q.ident) then some (q, x) else none
    | [] => none

/-- A core acts through the POOL descriptor that it posted (R248): POOL and RESULT, the buffer in SRC and the last owner in DST (log 94), on
its own die. Any other agent names its operands. -/
def State.poolOp (s : State) (caller : Nat) (o : PoolOp) : PoolOp :=
  match s.poolPost caller with
  | some (q, x) =>
    { die := caller / 96, pool := x.pool % 64, addr := x.src % 2 ^ 38, last := x.dst % 65536
      res := if x.result = 0xFFFF then none else some (x.dstCore, x.result), ident := q.ident }
  | none => o

/-- The descriptor is done: it leaves its queue, and the claim on its RESULT word ends. -/
def State.poolDone (s : State) (o : PoolOp) : State := (s.popPost o.ident).releaseIdent o.ident

def execAlloc (d p caller : Nat) (res : Option (Fin 384 × Nat)) (s : State) : Ans :=
  let o := s.poolOp caller { die := d, pool := p, res := res.map fun r => (r.1.val, r.2) }
  .next <| match s.alloc o.die o.pool caller with
    | (s, .got a) => (s.allocResult o.res a).poolDone o
    | (s, .refused) => s.poolDone o
    | (s, .empty) => s.allocWait o.die o.pool { caller := caller, ident := o.ident, res := o.res }

def execShare (d p caller a last : Nat) (s : State) : Ans :=
  let o := s.poolOp caller { die := d, pool := p, addr := a, last := last }
  .next ((s.shareBuf o.die o.pool caller o.addr o.last).poolDone o)
/-- DROP checks its address and has no effect (R249). -/
def execDrop (d p caller a : Nat) (s : State) : Ans :=
  let o := s.poolOp caller { die := d, pool := p, addr := a }
  .next ((if (s.pool o.die o.pool).names o.addr then s else s.poolRefuse o.die o.addr 0x5001).poolDone o)
def execRelease (d p caller a : Nat) (s : State) : Ans :=
  let o := s.poolOp caller { die := d, pool := p, addr := a }
  .next ((s.releaseBuf o.die o.pool caller o.addr).poolDone o)

/-- Thread a pool at image load (R247): every buffer free, in ascending address. -/
def State.threadPool (s : State) (d p : Nat) : State :=
  let v := s.pool d p
  if !v.valid then s else
  let z := poolSize v.cls
  let s := (List.range v.count).foldl (fun (t : State) i =>
    let a := v.base + i * z
    (t.setPoolWord d v a (linkWord p a (if i + 1 < v.count then a + z else endOfList))).setOwner v a 0 0) s
  s.setPool d p { v with head := v.base, free := v.count, quarantined := false, waiting := [] }

end Sys2Proof.Machine
end

