-- ==== Sys2Proof/Machine/Post.lean ====
section
/-!
DEFINITION. The ports (ch. 10): received frames and their checks, sequencing, acknowledgment, credits, retransmission, transmit windows
and bring-up.
-/
namespace Sys2Proof.Machine

/-- States in which the ports run at all. -/
def State.portsOn (s : State) : Bool := s.fabric || s.mod == .boot

/-- Raise a fault of R296 at most once per port and frame. -/
def State.frameFault (s : State) (p code : Nat) : State :=
  if Map.get 0 (s.port p).faultFrame code = s.frame + 1 then s
  else (s.onPort p fun t => { t with faultFrame := Map.set 0 t.faultFrame code (s.frame + 1) }).raise code p

/-- Drop a frame with its counter and its fault. -/
def State.dropFrame (s : State) (p counter code : Nat) : State := (s.count counter).frameFault p code

/-! Check 3 (R296, R292, R295, R325). -/

def postedOp (op : Nat) : Bool := decide (op ≤ 0xB) || op == 0xD
def returningOp (op : Nat) : Bool := (decide (1 ≤ op ∧ op ≤ 5)) || (decide (8 ≤ op ∧ op ≤ 0xC))

def classOk (ty cls op : Nat) : Bool :=
  if ty = Ty.data ∨ ty = Ty.response then cls == 6 || cls == 3 || cls == 1
  else if ty = Ty.mailbag ∨ ty = Ty.handover then cls == 6 || cls == 3
  else if ty = Ty.request then cls == 6 || cls == 3 || (cls == 1 && op == 0x10)
  else if ty = Ty.count then cls == 6
  else decide (7 ≤ ty) && decide (ty ≤ 14) && cls == 7

def opOk (ty op : Nat) : Bool :=
  if ty = Ty.data then postedOp op else if ty = Ty.request then returningOp op || op == 0x10 else decide (op < 64)

def headerOk (k : Packet) : Bool :=
  classOk k.ty k.cls k.op && opOk k.ty k.op && decide (k.payload.length ≤ 8192) && decide (k.job < 4096) && decide (k.src < 65536) &&
  decide (k.dst < 65536) && decide (k.seq < 2 ^ 32) && decide (k.release < 2 ^ 64) &&
  (if k.ty = Ty.response then decide (k.addr < 2 ^ 48) else decide (k.addr < 2 ^ 44)) && k.pmap.all fun m => decide (m < 2 ^ 128)

/-- Check 5. -/
def State.mine (s : State) (k : Packet) : Bool := k.dst == s.node && (k.ty == Ty.probe || k.ty == Ty.probeReply || k.job == s.job)

/-! Sequencing (R302). -/

inductive SeqV where
  | fresh | seen | ahead | full
deriving DecidableEq, Repr

def Port.seqTest (pt : Port) (src seq : Nat) : SeqV :=
  let e := pt.rxEnt src
  if !e.used && decide (2048 ≤ rxUsed pt.rx) then .full
  else
    let d := (seq + 2 ^ 32 - e.cum) % 2 ^ 32
    if d < 1024 then (if e.ahead.contains seq then .seen else .fresh)
    else if d < 2 ^ 31 then .ahead else .seen

/-- CUM advances past every accepted SEQ. -/
def advanceCum : Nat → Nat → List Nat → Nat × List Nat
  | 0, cum, l => (cum, l)
  | n + 1, cum, l => if l.contains cum then advanceCum n ((cum + 1) % 2 ^ 32) (l.filter (· != cum)) else (cum, l)

def Port.acceptSeq (pt : Port) (now src seq : Nat) : Port :=
  let e := pt.rxEnt src
  let (cum, l) := advanceCum 1025 e.cum (seq :: e.ahead)
  pt.setRx src { e with used := true, cum := cum, ahead := l, since := e.since + 1, firstAt := if e.since = 0 then some now else e.firstAt }

/-! ACK and CREDIT (R304, R308). -/

/-- MAP of an ACK: bit j for SEQ CUM + 1 + j. -/
def RxEnt.map' (e : RxEnt) : Nat := (List.range 64).foldl (fun v j => if e.ahead.contains ((e.cum + 1 + j) % 2 ^ 32) then v + 2 ^ j else v) 0

def State.sendAck (s : State) (p src : Nat) : State :=
  let e := (s.port p).rxEnt src
  let pay := leBytes 4 e.cum ++ leBytes 8 e.map' ++ leBytes 4 0
  let s := s.onPort p fun t => t.setRx src { e with since := 0, firstAt := none }
  (s.handOver p { cls := 7, ty := Ty.ack, job := s.job, dst := src, payload := pay }).1

def State.sendCredit (s : State) (p src : Nat) : State :=
  let e := (s.port p).rxEnt src
  let s := s.onPort p fun t => t.setRx src { e with granted := e.grant, riseAt := none }
  (s.handOver p { cls := 7, ty := Ty.credit, job := s.job, dst := src, payload := leBytes 4 e.grant ++ leBytes 4 0 }).1

/-- A class-3 buffer of a source is released: its GRANT rises (R308). -/
def State.grantUp (s : State) (p src : Nat) : State :=
  let e := (s.port p).rxEnt src
  let e := { e with grant := (e.grant + 1) % 2 ^ 32, riseAt := e.riseAt <|> some s.now }
  let s := s.onPort p fun t => t.setRx src e
  if 8 ≤ (e.grant + 2 ^ 32 - e.granted) % 2 ^ 32 then s.sendCredit p src else s

def execAckTimer (p : Fin 8) (src : Fin 65536) (s : State) : Ans :=
  .next (if s.fabric && decide (0 < ((s.port p).rxEnt src).since) then s.sendAck p src else s)
def execCreditTimer (p : Fin 8) (src : Fin 65536) (s : State) : Ans :=
  .next (if s.fabric && ((s.port p).rxEnt src).riseAt.isSome then s.sendCredit p src else s)

/-- Does an ACK cover a SEQ? -/
def covers (cum map seq : Nat) : Bool :=
  let d := (cum + 2 ^ 32 - seq) % 2 ^ 32
  (decide (1 ≤ d) && decide (d < 2 ^ 31)) || (let j := (seq + 2 ^ 32 - cum - 1) % 2 ^ 32; decide (j < 64) && bit map j)

/-- An ACK frees the frames it covers; the destination answers again (R305, R306, R362). -/
def State.applyAck (s : State) (p src : Nat) (pay : List Byte) : State :=
  (s.onPort p fun t =>
    let e := t.txEnt src
    t.setTx src { e with unacked := e.unacked.filter (fun x => !covers (fieldAt pay 0 4) (fieldAt pay 4 8) x.pkt.seq), unreachable := false }).drain p

/-- GRANT is cumulative (R308). -/
def State.applyCredit (s : State) (p src : Nat) (pay : List Byte) : State :=
  (s.onPort p fun t =>
    let e := t.txEnt src
    let g := fieldAt pay 0 4
    t.setTx src (if (g + 2 ^ 32 - e.grant) % 2 ^ 32 < 2 ^ 31 then { e with grant := g } else e)).drain p

/-! The pool buffers of free post (R308, R309). -/

/-- Free-post pool of a die. -/
def State.freePool (s : State) (d : Nat) : Nat := bits (s.reg Reg.POST_FREE_POOL) (8 * d + 5) (8 * d)
/-- The owner number of a port's receive engine (R248). -/
def portOwner (p : Nat) : Nat := 0x240 + p

/-- The die a class-3 packet's buffer is taken on: that of its ADDR. -/
def State.freeDie (s : State) (k : Packet) : Nat :=
  if k.ty = Ty.response then k.addr / 4096 % 4
  else if k.ty = Ty.mailbag then fieldAt k.payload 0 2 / 1024 % 4
  else (s.region (k.addr / 2 ^ 34 % 1024)).die % 4

/-- PFC (R309): XOFF while a die's pool has fallen below 32 free buffers and not reached 64 again, XON once none is so. -/
def State.pfc (s : State) (p d : Nat) : State :=
  if s.fld (Reg.at Reg.PORT_CTL p) 9 9 = 1 then
    let free := (s.pool d (s.freePool d)).free
    let t := s.port p
    let low := if free < 32 ∧ !t.low.contains d then t.low ++ [d] else if 64 ≤ free then t.low.filter (· != d) else t.low
    let s := s.setPort p { t with low := low, xoff := !low.isEmpty }
    if t.xoff = low.isEmpty then s.emit (.pfc p (!low.isEmpty)) else s
  else s

/-- Every port watches the pools that `POST.FREE_POOL` names, whoever takes their buffers. -/
def State.watchPools (s : State) : State :=
  (List.range 8).foldl (fun (t : State) p =>
    if t.fabric && (t.port p).link == 2 then
      (List.range 4).foldl (fun (t : State) d => if (t.pool d (t.freePool d)).valid then t.pfc p d else t) t
    else t) s

/-- Take a buffer for a class-3 packet; none: dropped with 0x6206. -/
def State.takeBuffer (s : State) (p : Nat) (k : Packet) : State × Bool :=
  let d := s.freeDie k
  let v := s.pool d (s.freePool d)
  let none' := ((s.count Reg.POST_FREE_DROP_CNT).raise 0x6206 0, false)
  if !v.valid ∨ v.cls ≠ 5 ∨ v.quarantined ∨ v.free = 0 then none'
  else match s.alloc d (s.freePool d) (portOwner p) with
    | (s, .got _) => (s.pfc p d, true)
    | (s, _) => ((s.count Reg.POST_FREE_DROP_CNT).raise 0x6206 0, false)

/-- A buffer of the pool that this port holds, for release: any one serves, buffers of a port being alike. -/
def State.heldBuffer (s : State) (p d : Nat) : Option Nat :=
  let v := s.pool d (s.freePool d)
  ((List.range v.count).map fun i => v.base + i * poolSize v.cls).find? fun a => s.owner v a == 2 ^ 30 + portOwner p

/-- A class-3 packet has been applied: its buffer goes back and its source's GRANT rises (R308). -/
def State.freeBuffer (s : State) (p : Nat) (k : Packet) : State :=
  if k.cls ≠ 3 then s else
  let d := s.freeDie k
  let s : State := match s.heldBuffer p d with
    | some a => s.releaseBuf d (s.freePool d) (portOwner p) a
    | none => s
  (s.pfc p d).grantUp p k.src

/-! The receive buffer of class 6 (R339). -/

def State.rxFull (s : State) (p : Nat) (k : Packet) : Bool :=
  k.cls == 6 && decide (2 ^ 21 - 65536 < ((s.port p).waiting.foldl (fun n x => n + frameBytes s.v4 x) 0) + frameBytes s.v4 k)

/-! Receipts (R334). -/

def Port.receipt (pt : Port) (src seq : Nat) : Option Receipt := pt.receipts.find? fun r => r.src == src && r.seq == seq

/-- Receipts within their retention of 4 × RTO. -/
def State.liveReceipts (s : State) (p : Nat) : List Receipt := (s.port p).receipts.filter fun r => decide (s.now < r.lastUse + 4 * s.rto)

def isReturning (k : Packet) : Bool := k.ty == Ty.request && k.op != 0x10

/-- Take a receipt for a returning REQUEST; none free: 0x6305. -/
def State.takeReceipt (s : State) (p : Nat) (k : Packet) : State × Bool :=
  if !isReturning k then (s, true)
  else
    let l := s.liveReceipts p
    if 8192 ≤ l.length then (s.raise 0x6305 0, false)
    else
      let r : Receipt := { src := k.src, seq := k.seq, tag := fieldAt k.payload 0 2 % 16384, status := 0, op := k.op, value := none, lastUse := s.now }
      (s.onPort p fun t => { t with receipts := l ++ [r] }, true)

def State.onReceipt (s : State) (p src seq : Nat) (f : Receipt → Receipt) : State :=
  s.onPort p fun t => { t with receipts := t.receipts.map fun r => if r.src = src ∧ r.seq = seq then f r else r }

/-- A RESPONSE (R327). -/
def responseAddr (tag status seq : Nat) : Nat := tag % 2 ^ 14 + status * 2 ^ 16 + seq % 2 ^ 28 * 2 ^ 20

def State.respond (s : State) (p : Nat) (k : Packet) (status : Nat) (payload : List Byte) (pmap : Option Nat) : State :=
  s.post p { cls := k.cls, ty := Ty.response, op := k.op, job := s.job, dst := k.src
             addr := responseAddr (fieldAt k.payload 0 2) status k.seq, payload := payload, pmap := pmap }

/-- A REQUEST with RETRY that was seen before (R335). `again` applies a LOAD once more. -/
def State.replay (s : State) (p : Nat) (k : Packet) (again : State → State) : State :=
  if k.op = 0x10 then again s
  else match (s.port p).receipt k.src k.seq with
    | some r =>
      if decide (s.now < r.lastUse + 4 * s.rto) then
        match r.value with
        | some v =>
          let s := (s.count Reg.RMT_REPLAY_CNT).onReceipt p k.src k.seq fun r => { r with lastUse := s.now }
          s.respond p k r.status (if r.status = 0 then leBytes 8 v else []) (if r.bad then some 1 else none)
        | none => s.onReceipt p k.src k.seq fun r => { r with again := r.again + 1 }
      else s.respond p k 7 [] none
    | none => s.respond p k 7 [] none

/-- Receive a packet that arrived on an UP port (R296, R302): checks 3, 5 and 6; an accepted one is acknowledged in its turn and handed
to its consumer. `again` answers a LOAD asked for again (R335). -/
def State.receive (s : State) (p : Nat) (k : Packet) (consume again : State → State) : State :=
  if !s.fabric || (s.port p).link != 2 then s
  else
    let s := s.count64 (Reg.at Reg.PORT_RX_LO p)
    if !headerOk k then s.dropFrame p Reg.POST_BAD_CNT 0x6201
    else if !s.mine k then s.dropFrame p Reg.POST_BAD_CNT 0x6203
    else if !sequenced k.ty then consume s
    else match (s.port p).seqTest k.src k.seq with
      | .full => s.raise 0x6204 p
      | .ahead => s.count Reg.POST_DUP_CNT
      | .seen =>
        let s := (s.count Reg.POST_DUP_CNT).sendAck p k.src
        if k.ty = Ty.request ∧ k.retry then s.replay p k again else s
      | .fresh =>
        if s.rxFull p k then (s.count Reg.RMT_RX_DROP_CNT).raise 0x6306 0
        else
          let (s, ok) := if k.cls = 3 then s.takeBuffer p k else (s, true)
          if !ok then s else
          let (s, ok) := s.takeReceipt p k
          if !ok then (s.freeBuffer p k) else
          let s := s.onPort p fun t => t.acceptSeq s.now k.src k.seq
          let s := if 32 ≤ ((s.port p).rxEnt k.src).since then s.sendAck p k.src else s
          consume s

/-! Other frames. -/

/-- PFC (R288, R309): priority 3 pauses or resumes class 3 where PFC3 is set; other priorities are counted and ignored. -/
def execPfcFrame (p : Fin 8) (pri : BitVec 8) (xoff : Bool) (s : State) : Ans :=
  .next <|
    if !s.fabric || (s.port p).link != 2 then s
    else
      let s : State := if pri.getLsbD 3 then
          let s := s.count (Reg.at Reg.PORT_PFC_RX_CNT p)
          if s.fld (Reg.at Reg.PORT_CTL p) 9 9 = 1 then (s.onPort p fun t => { t with paused3 := xoff }).drain p else s
        else s
      if pri &&& 0xF7#8 ≠ 0#8 then (s.count (Reg.at Reg.PORT_PFC_OTHER_CNT p)).event (Reg.at Reg.PORT_STAT p) 17 else s

def execNeighbourSolicitation (p : Fin 8) (sub : Fin 4) (s : State) : Ans :=
  .next (if s.portsOn && bit (s.port p).subUp sub then s.advertise p sub true else s)
def execArpRequest (p : Fin 8) (sub : Fin 4) (s : State) : Ans :=
  .next (if s.portsOn && bit (s.port p).subUp sub && s.v4 then s.arpReply p sub else s)

/-! Retransmission (R305, R306). -/

def State.unackedOf (s : State) (p dst seq : Nat) : Option Sent := ((s.port p).txEnt dst).unacked.find? fun x => x.pkt.seq == seq

/-- RETRANSMIT: the same frame with RETRY. It is charged as any frame, and one of class 6 waits for a window with room but in a hold (R300, R301,
log 105). -/
def execRetransmit (p : Fin 8) (dst : Fin 65536) (seq : Nat) (s : State) : Ans :=
  .next <| match s.unackedOf p dst seq with
    | some x =>
      if s.fabric && (s.port p).link == 2 && (s.sendEnv.held || x.pkt.cls != 6 || (s.port p).windowFits s.v4 x.pkt) then
        let sub := (s.port p).nextUp
        let s := s.onPort p fun t =>
          let e := t.txEnt dst
          let t := t.charge s.v4 x.pkt
          t.setTx dst { e with unacked := e.unacked.map fun y => if y.pkt.seq = seq then { y with tries := y.tries + 1 } else y }
        ((s.count Reg.POST_RETX_CNT).tally 4).sendFrame p sub { x.pkt with retry := true } x.check
      else s
    | none => s

/-- The last allowed retransmission went unanswered (R306): 0x6205 once; a mirror to the partner is lost (R392). -/
def execPostUnreachable (p : Fin 8) (dst : Fin 65536) (s : State) : Ans :=
  .next <|
    let e := (s.port p).txEnt dst
    if s.fabric && !e.unreachable && e.unacked.any fun x => decide (s.retryMax ≤ x.tries) then
      let s := (s.onPort p fun t => t.setTx dst { e with unreachable := true }).raise 0x6205 p
      if s.partner = some dst.val then s.loseMirror else s
    else s

/-! Windows and slots (R298–R300). -/

def execTransmitWindow (p : Fin 8) (s : State) : Ans :=
  .next (if s.mod = .running then
      (s.onPort p fun t => t.openWindow ((t.window + 1) % Nat.max 1 t.txTable.length)).drain p
    else s)

def execClass1Slot (p : Fin 8) (s : State) : Ans :=
  .next (if s.fabric then (s.onPort p fun t => { t with slotSent := 0 }).drain p else s)

/-! Bring-up (R314, R315). -/

def State.portEnabled (s : State) (p : Nat) : Bool := s.fld (Reg.at Reg.PORT_CTL p) 0 0 == 1

/-- A port's link falls: no sub-port is up. -/
def Port.fall (t : Port) (link step : Nat) : Port := { t with link := link, step := step, subUp := 0 }

def execPortBringup (p : Fin 8) (s : State) : Ans :=
  .next (if s.portsOn && s.portEnabled p && (s.port p).link == 0 then
      s.onPort p fun t => { t.fall 1 1 with retrain := false }
    else s)

def execPortBringupStepDone (p : Fin 8) (s : State) : Ans :=
  .next <|
    let t := s.port p
    if !s.portsOn || t.step = 0 then s
    else if t.step < 5 then s.onPort p fun t => { t with step := t.step + 1 }
    else
      let n := s.subPorts p
      let s := s.onPort p fun t => { t with link := 2, step := 0, retrain := false, lost := false, subUp := 2 ^ n - 1, nextSub := 0 }
      ((List.range n).foldl (fun (t : State) k => t.advertise p k false) (s.sendEsmc p)).drain p

/-- A step past its limit: FAILED with 0x6103, or, for steps 3 to 5 after a loss, the whole sequence begins (R315). -/
def execPortBringupFailed (p : Fin 8) (s : State) : Ans :=
  .next <|
    let t := s.port p
    if t.step = 0 then s
    else if t.retrain then s.onPort p fun t => { t with step := 1, retrain := false }
    else (s.onPort p fun t => t.fall 4 0).raise 0x6103 p

def execPortRetry (p : Fin 8) (s : State) : Ans :=
  .next (if s.portsOn && (s.port p).link == 4 then s.onPort p fun t => { t.fall 1 1 with retrain := false } else s)

def execPortLinkLost (p : Fin 8) (s : State) : Ans :=
  .next (if s.portsOn && (s.port p).link == 2 then
      let s := s.onPort p fun t => { t.fall 3 3 with retrain := true, lost := true }
      ((s.count (Reg.at Reg.PORT_FLAP_CNT p)).tally 3).raise 0x6101 p
    else s)

def execPortDownLong (p : Fin 8) (s : State) : Ans :=
  .next (if (s.port p).lost then (s.onPort p fun t => { t with lost := false }).raise 0x6102 p else s)

/-- `n` uncorrectable codewords in the last second (R318). -/
def execPortFecUncorrected (p : Fin 8) (n : Nat) (s : State) : Ans :=
  .next (if n = 0 ∨ (s.port p).link ≠ 2 then s else (s.count (Reg.at Reg.PORT_FEC_UNCORR_CNT p) n).raise 0x6104 p)

end Sys2Proof.Machine
end

