-- ==== Sys2Proof/Machine/Home.lean ====
section
/-!
DEFINITION. The home of remote memory (ch. 11), mailbag headers (R155, R156), landing counters (R219–R221).

An operation that cannot be applied yet answers the state with `false` and waits.
-/
namespace Sys2Proof.Machine

abbrev Tried := State × Bool

/-- A release postmark is reached, and no stop holds it back (R37, R361). -/
def State.relDue (s : State) (p : Nat) : Bool := decide (p ≤ s.pm) && !(s.mod == .held && decide (s.dom.fstop < p))

/-! The region table (R321–R323). -/

def regionOf (addr : Nat) : Nat := addr / 2 ^ 34 % 1024
def offsetOf (addr : Nat) : Nat := addr % 2 ^ 34

/-- The permission bit of an operation (R325). -/
def permBit (op : Nat) : Nat := if op = 0 then 3 else if op = 0xD then 5 else if op = 0x10 then 2 else 4

/-- The cause a packet is refused for, 0 where it passes. -/
def State.regionCheck (s : State) (k : Packet) : Nat :=
  let r := s.region (regionOf k.addr)
  let hand := k.ty == Ty.handover
  let n := (touchOf k).2
  let off := offsetOf k.addr
  if !bit r.flags 0 then 1
  else if r.job ≠ k.job then 2
  else if !hand && (!bit r.flags (permBit k.op) || !(k.op == 0 || k.op == 0x10 || r.space == 3)) then 3
  else if (if hand then bit r.flags 1 || r.owner != k.src
           else (k.op == 0 || k.op == 0xC) && !bit r.flags 1 && r.owner != k.src) then 4
  else if hand then 0
  else if r.length < off + n then 5
  else if k.op = 0xD then
    (if off % 1024 = 0 ∧ k.payload.length % 260 = 0 ∧ 1 ≤ n / 1024 ∧ n / 1024 ≤ 31 then 0 else 6)
  else if k.op = 0x10 then (if 16 ≤ n ∧ n ≤ 8192 ∧ n % 16 = 0 then 0 else 6)
  else if off % opSize k.op = 0 then 0 else 6

/-- Record a refused packet (R324). -/
def State.refusePacket (s : State) (k : Packet) (cause : Nat) : State :=
  let s := s.count Reg.RMT_REFUSED_CNT
  let s := s.setReg Reg.RMT_ERR_INFO (k.src * 2 ^ 16 + regionOf k.addr * 2 ^ 6 + cause * 4 + 1)
  s.raise (if k.ty = Ty.handover then 0x6304 else 0x6301) 0

/-! Operations at bonded memory (R258, R271, R272, R278). -/

/-- The bytes of its target that an operation touches. -/
def opTouch (op n : Nat) : Nat := if op = 0xD then n / 260 * 1024 else if op = 0xC then 8 else n

/-- Is an operand no whole number of aligned elements? The operation is dropped as one out of range (R272). -/
def opMisfit (op addr n : Nat) : Bool :=
  if op = 0 then false
  else if op = 0xD then n % 260 != 0 || addr % 1024 != 0
  else if op = 0xC then n != 16 || addr % 8 != 0
  else n % opSize op != 0 || addr % opSize op != 0

/-- Does an operation touch what is out of range (R258, R272)? -/
def State.opRange (s : State) (op addr n : Nat) : Bool := opMisfit op addr n || s.pastEnd addr (opTouch op n)

/-- Apply a write or a posted operation at a bonded-memory address, unit by unit; an operation goes through the queues of its reduction
units. -/
def State.bondApply (s : State) (op addr : Nat) (data : List Byte) (poison : Nat) : State :=
  let n := data.length
  if opMisfit op addr n then s
  else
    let t := if op = 0 then s.writeBond addr data poison
      else if op = 0xD then (s.queueOp addr (opTouch op n)).exactOp addr data poison
      else if op = 0xC then
        (if s.pastEnd addr 8 then s else ((s.queueOp addr 8).opElem 0xC addr (fieldAt data 0 8) (fieldAt data 8 8) (bit poison 0)).1)
      else (s.queueOp addr n).opRow op addr data poison
    t.hotCount addr (opTouch op n)

/-- The same as one access: what is out of range raises 0x4303 (R258). -/
def State.bondOp (s : State) (op addr : Nat) (data : List Byte) (poison : Nat) : State :=
  let t := s.bondApply op addr data poison
  if s.opRange op addr data.length then t.rangeFault addr else t

/-- Is there room in the queues an operation joins (R270)? -/
def State.opRoom (s : State) (op addr n : Nat) : Bool := op == 0 || s.queueRoom addr (opTouch op n)

/-! Unreleased bytes of bonded memory. -/

def rangesMeet (a n b m : Nat) : Bool := decide (a < b + m) && decide (b < a + n)

/-- A mailbag's accumulator region and record are unreleased until COMPLETE (R156). -/
def Die.bagHolds (d : Die) (a n : Nat) : Bool :=
  d.mbags.any fun m => m.2.flags % 2 == 1 && !m.2.complete && (rangesMeet a n m.2.region m.2.length || rangesMeet a n m.2.record 16)

/-- A LAND's range in bonded memory is unreleased until it is released (R220). -/
def Die.landHolds (d : Die) (a n : Nat) : Bool :=
  d.landings.any fun l => l.land.any fun x => x.2.1.1 == 3 && rangesMeet a n (x.2.1.2.2.1 % 2 ^ 38) x.2.1.2.2.2

/-- Bytes claimed against writers: courier sources (R243) and protected copies being read (R391). -/
def Die.writeHeld (d : Die) (a n : Nat) : Bool := d.holds.any fun h => rangesMeet a n h.2.1 h.2.2

/-- A range that a post's outputs claim (R193, R199). -/
def Die.lockHolds (d : Die) (a n : Nat) : Bool := d.locks.any fun h => rangesMeet a n h.2.1 h.2.2

def State.bondReadable (s : State) (addr n : Nat) : Bool :=
  let d := s.die (addr / 2 ^ 38 % 4)
  !(d.bagHolds (addr % 2 ^ 38) n || d.landHolds (addr % 2 ^ 38) n || d.lockHolds (addr % 2 ^ 38) n)
def State.bondWritable (s : State) (addr n : Nat) : Bool := !(s.die (addr / 2 ^ 38 % 4)).writeHeld (addr % 2 ^ 38) n

/-! Landing counters (R219–R221). -/

/-- End a landing: its claim is released and the counter freed. -/
def State.endLanding (s : State) (d : Nat) (l : Landing) : State :=
  let s := s.onDie d fun x => { x with landings := x.landings.filter fun y => !(y.region == l.region && y.pf == l.pf) }
  match l.land with
  | some (_, _, ident) => s.releaseIdent ident
  | none => s

/-- A fault of a round: its round and layer are kept (R226). -/
def State.roundFault (s : State) (d : Nat) (layer round code : Nat) : State :=
  (s.setReg (Reg.at Reg.SO_ERR_ROUND d) (round * 2 ^ 16 + layer * 2 ^ 8)).raise code d

/-- A counter passed its X (R221): 0x3006, the range poisoned and released. -/
def State.overLanding (s : State) (d : Nat) (l : Landing) : State :=
  let t := s.endLanding d l
  let t : State := match l.land with
    | some (_, (space, g, a, n), _) =>
      if space = 3 then t.writeBond a (t.readBond a n).1 (2 ^ ((n + 63) / 64) - 1)
      else t.onCore g fun c => c.poisonSpace space a n
    | none => t
  t.roundFault d l.layer l.round 0x3006

def Die.landing (d : Die) (region pf : Nat) : Option Landing := d.landings.find? fun l => l.region == region && l.pf == pf
def Die.putLanding (d : Die) (l : Landing) : Die :=
  { d with landings := d.landings.filter (fun y => !(y.region == l.region && y.pf == l.pf)) ++ [l] }

/-- Look at a counter of a LAND: over its X, or complete and due; a late letter where its count was completed after P_F (R220, R356), and where
a packet of it went uncounted and P_F has passed (R221). -/
def State.settleLanding (s : State) (d : Nat) (l : Landing) : State :=
  match l.land with
  | some (x, _, _) =>
    if x < l.bytes then s.overLanding d l
    else if x ≤ l.bytes ∧ s.relDue l.pf then
      let t := s.endLanding d l
      if l.pf < l.last then t.late l.pf else t
    else if l.lost ∧ !l.told ∧ l.pf < s.pm then (s.onDie d fun y => y.putLanding { l with told := true }).late l.pf
    else s
  | none => s

/-- Every LAND that is due is settled (R220). -/
def State.settleLandings (s : State) : State :=
  [0, 1, 2, 3].foldl (fun t d => (t.die d).landings.foldl (fun t l => t.settleLanding d l) t) s

/-- The layer entry that a region belongs to, the lowest that names it. -/
def Die.regionLayer (d : Die) (region : Nat) : Nat :=
  ((List.range 256).find? fun i => (Map.get {} d.layers i).flags % 2 == 1 && (Map.get ({} : Layer) d.layers i).region.contains region).getD 0

/-- Bytes written into a region under a release postmark. A 257th counter is not made: 0x3007, and its LAND will not be complete (R221); which
round the packet is of no rule tells: a free value (log 99). -/
def State.countRegion (s : State) (d region pf n : Nat) : State :=
  match (s.die d).landing region pf with
  | some l =>
    let l := { l with bytes := l.bytes + n, last := s.pm }
    (s.onDie d fun x => x.putLanding l).settleLanding d l
  | none =>
    if 256 ≤ (s.die d).landings.length then
      let (v, s) := s.free
      (s.onDie d fun x => { x with uncounted := x.uncounted.filter (· != (region, pf)) ++ [(region, pf)] }).roundFault d
        ((s.die d).regionLayer region) (v.toNat % 65536) 0x3007
    else s.onDie d fun x => x.putLanding { region := region, pf := pf, bytes := n, last := s.pm }

/-! DATA at its home (R328, R355). -/

/-- An access from outside a core reaches the banks of a range (R233, R236): a sleeping bank is woken, a test in the range is cut short, and
the access waits. -/
def State.reachBanks (s : State) (g space a n : Nat) : Tried :=
  let r := spaceUnits space a n
  match (s.core g).asleep r with
  | some b => (s.reachBank g b false, false)
  | none => if (s.core g).testHit r then (s.cutTest g false, false) else (s, true)

/-- Several ranges, as space, core, address and bytes; ranges in bonded memory have no banks. -/
def State.reachAll (s : State) (l : List (Nat × Nat × Nat × Nat)) : Tried :=
  l.foldl (fun (r : Tried) x => if r.2 && x.1 == 0 then r.1.reachBanks x.2.1 0 x.2.2.1 x.2.2.2 else r) (s, true)

/-- Data lands in a tile space: where its first 16 bytes are the header of a tile that its tensor carries compressed, the tile is known as one
(R173, R180, log 95). -/
def State.markLanded (s : State) (g space a : Nat) (data : List Byte) : State :=
  if space = 0 ∧ 16 ≤ data.length ∧ crc16 (slice data 0 14) = fieldAt data 14 2 ∧
      polInStore (Map.get 0 (s.die (g / 96)).policy (fieldAt data 12 2 % 4096)) then
    s.onCore g fun c => c.markCarried false a (fieldAt data 12 2 % 4096)
  else s

/-- Is a range of a core held against writers alone, or by a remainder pass (R188, R243)? -/
def Core.writersHeld (c : Core) (r : Nat × Nat × Nat) : Bool := c.readHeld r || c.remHeld true r

/-- Write a packet's bytes into a store of a core. One with a release postmark waits for the EXPECT that claims its range. -/
def State.dataToCore (s : State) (g space a : Nat) (k : Packet) : Tried :=
  let n := k.payload.length
  let c := s.core g
  let e := c.expecting space a n k.release
  if k.release ≠ 0 ∧ e.isNone then (s, false)
  else if c.writersHeld (spaceUnits space a n) then (s, false)
  else
    let (s, ok) := s.reachBanks g space a n
    if !ok then (s, false)
    else
      let s := (s.onCore g fun c => c.writeSpace space a k.payload (k.pmap.getD 0)).markLanded g space a k.payload
      match e with
      | some c => (s.countLanded g c n, true)
      | none => (s, true)

/-- DATA (R328, R355); one with a release postmark counts toward the landing of its region (R219). -/
def State.applyData (s : State) (k : Packet) : Tried :=
  let r := s.region (regionOf k.addr)
  let a := r.base + offsetOf k.addr
  let (s, ok) : Tried :=
    if r.space = 3 then
      let addr := 2 ^ 38 * r.die + a
      if !s.bondWritable addr (touchOf k).2 || !s.opRoom k.op addr k.payload.length then (s, false)
      else (s.bondOp k.op addr k.payload (k.pmap.getD 0), true)
    else s.dataToCore (r.die * 96 + r.core) r.space a k
  (if ok ∧ k.release ≠ 0 then s.countRegion r.die (regionOf k.addr) k.release k.payload.length else s, ok)

/-! REQUEST at its home (R327, R328). -/

def poisonMap (p : Nat) : Option Nat := if p = 0 then none else some p

/-- Answer a REQUEST: the receipt keeps the answer, and each retry that came meanwhile is answered from it too (R335). -/
def State.answerRequest (s : State) (p : Nat) (k : Packet) (status : Nat) (value : Nat) (payload : List Byte) (pmap : Option Nat) : State :=
  let n := if isReturning k then (((s.port p).receipt k.src k.seq).map (·.again)).getD 0 else 0
  let t := s.onReceipt p k.src k.seq fun r => { r with status := status, value := some value, bad := pmap.isSome, again := 0, lastUse := s.now }
  let t := if n = 0 then t else t.count Reg.RMT_REPLAY_CNT n
  (List.range (n + 1)).foldl (fun (t : State) _ => t.respond p k status payload pmap) t

/-- Apply a LOAD. -/
def State.applyLoad (s : State) (p : Nat) (k : Packet) : Tried :=
  let r := s.region (regionOf k.addr)
  let a := r.base + offsetOf k.addr
  let n := fieldAt k.payload 2 2
  if r.space = 3 then
    let addr := 2 ^ 38 * r.die + a
    if s.capacity r.die ≤ a then ((s.rangeFault addr).answerRequest p k 5 0 [] none, true)
    else if !s.bondReadable addr n then (s, false)
    else
      let (l, q) := s.readBond addr n
      let s := if s.pastEnd addr n then s.rangeFault addr else s
      ((s.hotCount addr n).answerRequest p k 0 0 l (poisonMap q), true)
  else
    let g := r.die * 96 + r.core
    if (s.core g).unreleased false (spaceUnits r.space a n) then (s, false)
    else
      let (s, ok) := s.reachBanks g r.space a n
      if !ok then (s, false)
      else
        let (l, q) := (s.core g).readSpace r.space a n
        (s.answerRequest p k 0 0 l (poisonMap q), true)

/-- Apply a returning operation, always at bonded memory (R325). -/
def State.applyReturning (s : State) (p : Nat) (k : Packet) : Tried :=
  let r := s.region (regionOf k.addr)
  let addr := 2 ^ 38 * r.die + r.base + offsetOf k.addr
  let n := opSize k.op
  if s.pastEnd addr n then ((s.rangeFault addr).answerRequest p k 5 0 [] none, true)
  else if !s.bondReadable addr n || !s.bondWritable addr n || !s.queueRoom addr n then (s, false)
  else
    let bad := s.bondBad addr || k.pmap.any fun m => bit m 0
    let (t, old) := (s.queueOp addr n).opElem k.op addr (fieldAt k.payload 8 8 % 2 ^ (8 * n)) (fieldAt k.payload 16 8) (k.pmap.any fun m => bit m 0)
    ((t.hotCount addr n).answerRequest p k 0 old (leBytes 8 old) (if bad then some 1 else none), true)

def State.applyRequest (s : State) (p : Nat) (k : Packet) : Tried :=
  if k.release ≠ 0 ∧ !s.relDue k.release then (s, false)
  else if k.op = 0x10 then s.applyLoad p k else s.applyReturning p k

/-! HANDOVER (R332). -/

/-- Packets accepted for a region and not yet applied, on any port: port, source and SEQ. -/
def State.regionWaits (s : State) (n : Nat) : List (Nat × Nat × Nat) :=
  s.ports.flatMap fun e => (e.2.waiting.filter fun k => (k.ty == Ty.data || k.ty == Ty.request) && regionOf k.addr == n).map fun k => (e.1, k.src, k.seq)

/-- What a HANDOVER waits for: the packets of its region accepted before it that still wait. -/
def State.fenceOf (s : State) (p : Nat) (k : Packet) : List (Nat × Nat × Nat) :=
  let now := s.regionWaits (regionOf k.addr)
  match (s.port p).fences.find? fun f => f.1 == (k.src, k.seq) with
  | some f => f.2.filter now.contains
  | none => now

/-- Keep or forget what a HANDOVER waits for. -/
def State.setFence (s : State) (p : Nat) (k : Packet) (l : Option (List (Nat × Nat × Nat))) : State :=
  s.onPort p fun t => { t with fences := t.fences.filter (fun f => f.1 != (k.src, k.seq)) ++ (l.toList.map fun x => ((k.src, k.seq), x)) }

def State.applyHandover (s : State) (p : Nat) (k : Packet) : Tried :=
  let n := regionOf k.addr
  let l := s.fenceOf p k
  if !l.isEmpty || (k.release != 0 && !s.relDue k.release) then (s.setFence p k (some l), false)
  else
    let s := s.setFence p k none
    let r := s.region n
    let new := fieldAt k.payload 0 2
    let s := { s with regions := Map.set {} s.regions n { r with owner := new } }
    let word := n + s.node * 2 ^ 16 + r.owner * 2 ^ 32
    (s.post p { cls := k.cls, ty := Ty.data, job := s.job, dst := new, release := k.release, addr := fieldAt k.payload 8 6
                payload := leBytes 8 word }, true)

/-! Mailbag headers (R155, R156). -/

/-- The completion record (R156). -/
def MBag.recordBytes (m : MBag) : List Byte :=
  leBytes 4 m.received ++ leBytes 4 m.nilCount ++ leBytes 6 m.tokens ++ leBytes 2 ((if m.dirty then 1 else 0) + (if m.tokens = 0 then 2 else 0))

/-- An entry with a header counted in. -/
def MBag.take (m : MBag) (flags tokens : Nat) : MBag :=
  let r := m.received + 1
  { m with received := r, nilCount := m.nilCount + (if bit flags 1 then 1 else 0), tokens := (m.tokens + tokens) % 2 ^ 48
           dirty := m.dirty || bit flags 0, complete := decide (r = m.expect) }

/-- Apply a 32-byte mailbag header. -/
def State.applyHeader (s : State) (h : List Byte) : State :=
  let id := fieldAt h 0 2
  let d := id / 1024 % 4
  let m := Map.get {} (s.die d).mbags (id % 1024)
  if m.flags % 2 = 0 ∨ fieldAt h 8 8 % 2 ^ 40 ≠ m.step then (s.dirty 0x7202).raise 0x7202 d
  else if m.complete then (s.dirty 0x7201).raise 0x7201 d
  else
    let m := m.take (fieldAt h 2 2) (fieldAt h 0x14 4)
    let s := s.onDie d fun x => { x with mbags := Map.set {} x.mbags (id % 1024) m }
    let s := if bit (fieldAt h 2 2) 0 then (s.event (Reg.at Reg.RDU_MBAG_STAT d) 16).dirty 0 else s
    if m.complete then (s.writeBond (2 ^ 38 * d + m.record) m.recordBytes 0).hotCount (2 ^ 38 * d + m.record) 16 else s

/-- A MAILBAG packet waits for every earlier parcel of its sender to the die (R155): on its own port those of an earlier SEQ, on the others
those that wait there and those missing before one that came (log 96). In PARKED it changes nothing (R403). -/
def State.applyMailbag (s : State) (p : Nat) (k : Packet) : Tried :=
  let d := fieldAt k.payload 0 2 / 1024 % 4
  let before := fun (q : Nat) (seq : Nat) => q != p || decide ((seq + 2 ^ 32 - k.seq) % 2 ^ 32 ≥ 2 ^ 31)
  let early := s.ports.any fun e => e.2.waiting.any fun x =>
    x.src == k.src && x.ty == Ty.data && before e.1 x.seq && (s.region (regionOf x.addr)).die == d
  let gap := (((s.port p).rxEnt k.src).cum + 2 ^ 32 - k.seq - 1) % 2 ^ 32 ≥ 2 ^ 31 ∨
    s.ports.any fun e => e.1 != p && !(e.2.rxEnt k.src).ahead.isEmpty
  if early ∨ gap ∨ (k.release ≠ 0 ∧ !s.relDue k.release) then (s, false)
  else (if s.mod = .parked then s else s.applyHeader k.payload, true)

end Sys2Proof.Machine
end

