-- ==== Sys2Proof/Machine/Ranges.lean ====
section
/-!
DEFINITION. The ranges that copies, the Sorting Office and the matching unit read and write (R119, R193, R199, R211, R214, R223, R243).

A range is (space, core, address, bytes): spaces 0–2 and 5 in a global core, space 3 at a bonded-memory address.
-/
namespace Sys2Proof.Machine

abbrev Rng := Nat × Nat × Nat × Nat

def inCore (space : Nat) : Bool := decide (space ≤ 2) || space == 5

/-- Bytes from the first to the last a descriptor touches on a side. -/
def extent (n len pitch : Nat) : Nat := if n = 0 then 0 else (n - 1) * pitch + len

/-- The ranges of `n` rows: one where the rows follow one another. -/
def rowRngs (space core a n len pitch : Nat) : List Rng :=
  if n = 0 then []
  else if pitch = len ∨ space = 5 then [(space, core, a, n * len)]
  else (List.range n).map fun i => (space, core, a + i * pitch, len)

/-- The units of a range in a core; a half of the instruction store is one unit. -/
def rngUnits (r : Rng) : Nat × Nat × Nat := if r.1 = 5 then (4, r.2.2.1 % 2, 1) else spaceUnits r.1 r.2.2.1 r.2.2.2

def ofPlace (p : Place) (off n : Nat) : Rng := (p.space, p.unit, p.addr + off, n)

def State.layer (s : State) (d n : Nat) : Layer := Map.get {} (s.die d).layers n

/-! Sorting Office and matching unit. -/

/-- The rows of planes: `k` planes of `n` elements of `z` bytes, `pitch` elements apart. -/
def planes (space core a k n pitch z : Nat) : List Rng := rowRngs space core a k (n * z) (pitch * z)

/-- The scalar words of an ADMIT: M_LIVE of every core of its mask (R211). -/
def admitLive (a : AdmitDesc) (d local' : Nat) : List Rng :=
  ((List.range 96).filter fun c => bit a.coreMask c).map fun c => (2, d * 96 + c, a.mlive, 8 * (local' + 1))

def admitOuts (a : AdmitDesc) (d : Nat) (l : Layer) : List Rng :=
  (a.segments.flatMap fun g => planes 0 (d * 96 + g.core) g.outGate l.k g.tokens g.pitch 2 ++ [(0, d * 96 + g.core, g.outStatus, 4 * g.tokens)]) ++
    admitLive a d l.loc
def admitIns (a : AdmitDesc) (d : Nat) (l : Layer) : List Rng :=
  (2, d * 96 + a.liveCore, 8 * a.liveWord, 8) :: a.segments.flatMap fun g =>
    planes 0 (d * 96 + g.core) g.index l.k g.tokens g.pitch 2 ++ planes 0 (d * 96 + g.core) g.gate l.k g.tokens g.pitch 4

/-- Bytes from the first to the last row a SEND may read (R216, R222). -/
def sendSpan (a : SendDesc) (l : Layer) : Nat :=
  (if a.dir % 2 = 1 then l.loc * l.capacity else if a.perChoice then (l.k - 1) * a.pitch + l.roundTokens else l.roundTokens) * l.rowBytes.getD a.dir 0

/-- The scalar word of a count. -/
def wordRng (w : Nat × Nat) : Rng := (2, w.1, 8 * w.2, 8)

/-- Bytes of a value of a MATCH (R191). -/
def State.matchSize (s : State) (m : MatchDesc) : Nat := ((s.fmt m.fmt).map fun f => f.width / 8).getD 4
def State.wordOf (s : State) (w : Nat × Nat) : Nat := (s.core w.1).sdmRead (8 * w.2) 8

/-- What an operation of the Sorting Office or the matching unit writes, as far as its CPOST claims it (R193, R199). -/
def State.sortOuts (s : State) (d : Nat) : PostDesc → List Rng
  | .admission a => admitOuts a d (s.layer d a.layer)
  | .send _ => []
  | .land a => [ofPlace a.range 0 a.length]
  | .scatter a =>
    let l := s.layer d a.layer
    (List.range l.k).map fun r => ofPlace a.combine (r * a.pitch * l.rowBytes.getD a.dir 0) (l.roundTokens * l.rowBytes.getD a.dir 0)
  | .pairs m => [ofPlace m.outA 0 (s.matchSize m * m.maxOut), ofPlace m.outB 0 (s.matchSize m * m.maxOut), wordRng m.outN]

/-- What it reads (R243, log 97). -/
def State.sortIns (s : State) (d : Nat) : PostDesc → List Rng
  | .admission a => admitIns a d (s.layer d a.layer)
  | .send a => [ofPlace a.rows 0 (sendSpan a (s.layer d a.layer))]
  | .land _ => []
  | .scatter a =>
    let l := s.layer d a.layer
    [ofPlace a.rows 0 (l.roundTokens * l.k * l.rowBytes.getD a.dir 0)]
  | .pairs m =>
    let z := s.matchSize m
    [wordRng m.na, wordRng m.nb, ofPlace m.keysA 0 (4 * s.wordOf m.na), ofPlace m.keysB 0 (4 * s.wordOf m.nb),
     ofPlace m.valsA 0 (z * s.wordOf m.na), ofPlace m.valsB 0 (z * s.wordOf m.nb)]

end Sys2Proof.Machine
end

