-- ==== Sys2Proof/Machine/Office.lean ====
section
/-!
DEFINITION. The Sorting Office's admission (ch. 7): the choices of a round, count letters, slots and send indices.

Where the spec does not lay the round state block out further than R213, records stand by token × K + rank and counts by
(position × K + rank) × E + expert (log 20).
-/
namespace Sys2Proof.Machine

/-! Bytes of a place, each with its poison. -/

def State.readPlace (s : State) (p : Place) (off n : Nat) : List (Byte × Bool) :=
  let (l, q) := if p.space = 3 then s.readBond (p.addr + off) n else (s.core p.unit).readSpace p.space (p.addr + off) n
  l.mapIdx fun i b => (b, bit q (i / 64))

/-- The poison of each 64-byte piece of some bytes. -/
def packPoison (l : List (Byte × Bool)) : Nat :=
  (List.range ((l.length + 63) / 64)).foldl (fun v i => if ((l.drop (64 * i)).take 64).any (·.2) then v + 2 ^ i else v) 0

def State.writePlace (s : State) (p : Place) (off : Nat) (l : List (Byte × Bool)) : State :=
  let d := l.map (·.1)
  if p.space = 3 then (s.writeBond (p.addr + off) d (packPoison l)).hotCount (p.addr + off) d.length
  else s.onCore p.unit fun c => c.writeSpace p.space (p.addr + off) d (packPoison l)

/-- Count the reads of a place (R340). -/
def State.hotPlace (s : State) (p : Place) (off n : Nat) : State := if p.space = 3 then s.hotCount (p.addr + off) n else s

/-- Bytes all clean or all poisoned. -/
def tagged (p : Bool) (l : List Byte) : List (Byte × Bool) := l.map fun b => (b, p)

/-- May a place be read now: nothing in it is unreleased? -/
def State.placeReady (s : State) (p : Place) (off n : Nat) : Bool :=
  if p.space = 3 then s.bondReadable (p.addr + off) n else !(s.core p.unit).unreleased false (spaceUnits p.space (p.addr + off) n)

/-! The layer entry. -/

def sumTo (n : Nat) (f : Nat → Nat) : Nat := ((List.range n).map f).sum

def Layer.hostOf (l : Layer) (e : Nat) : Nat := l.placement.getD e 0 % 65536
def Layer.localOf (l : Layer) (e : Nat) : Nat := l.placement.getD e 0 / 65536 % 256
def Layer.nodeOf (l : Layer) (q : Nat) : Nat := l.nodes.getD q 0
/-- The expert with a local index at a position. -/
def Layer.expertAt (l : Layer) (q i : Nat) : Nat := ((List.range l.experts).find? fun e => l.hostOf e == q && l.localOf e == i).getD 0
/-- Ports a round may use, ascending (R201, R217). -/
def Layer.ports (l : Layer) : List Nat := if l.portMask = 0 then List.range 8 else (List.range 8).filter fun p => bit l.portMask p

/-- Positions in the order POSITION + 1, POSITION + 2, and so on, the own one last (R217). -/
def Layer.turn (l : Layer) : List Nat := (List.range l.group).map fun i => (l.position + 1 + i) % l.group

/-! The round state block (R213). -/

structure BlockMap where
  cnt : Nat
  adm : Nat
  recs : Nat
  envs : Nat

def Layer.block (l : Layer) (state : Nat) : BlockMap :=
  let adm := state + l.group * l.k * l.experts * 2
  let recs := adm + l.experts * 4
  { cnt := state, adm := adm, recs := recs, envs := recs + l.roundTokens * l.k * 8 }

def State.bondNat (s : State) (addr n : Nat) : Nat := leNat (s.readBond addr n).1

/-! Choices (R203, R204, R206). -/

/-- A choice record (R203). -/
def Choice.word (c : Choice) : Nat :=
  c.token * 2 ^ 40 + c.expert % 4096 * 2 ^ 28 + c.rank * 2 ^ 24 + c.gate * 2 ^ 8 + (if c.duplicate then 64 else 0) +
  (if c.range then 32 else 0) + (if c.poison then 16 else 0) + (if c.pad then 8 else 0) + (if c.cap then 4 else 0) +
  (if c.counted then 2 else 0) + (if c.admitted then 1 else 0)

/-- An envelope (R205). -/
def Choice.envelope (c : Choice) : Nat := c.token * 2 ^ 40 + c.expert % 4096 * 2 ^ 28 + c.rank * 2 ^ 24 + c.slot % 2 ^ 20

/-- The segment of a round's token, and the token's index in it. -/
def segmentOf : List Segment → Nat → Option (Segment × Nat)
  | [], _ => none
  | g :: r, t => if t < g.tokens then some (g, t) else segmentOf r (t - g.tokens)

def isNan32 (v : Nat) : Bool := f32 v == .nan

/-- One choice as its planes hold it: rank `r` of token `t` (R130). -/
def State.readChoice (s : State) (d : Nat) (segs : List Segment) (live t r : Nat) : Choice :=
  match segmentOf segs t with
  | some (g, i) =>
    if live ≤ t then { token := t, expert := 0, rank := r, gate := 0, pad := true }
    else
      let c := s.core (d * 96 + g.core)
      let ia := g.index + 2 * (r * g.pitch + i)
      let ga := g.gate + 4 * (r * g.pitch + i)
      let v := leNat (c.readSpace 0 ga 4).1
      { token := t, expert := leNat (c.readSpace 0 ia 2).1, rank := r, gate := FFmt.bf16.encode .rne (f32 v)
        poison := c.anyPoison false ia 2 || c.anyPoison false ga 4 || isNan32 v }
  | none => { token := t, expert := 0, rank := r, gate := 0, pad := true }

/-- The flags of one token's list (R204). -/
def flagToken (experts : Nat) (l : List Choice) : List Choice :=
  let l := l.map fun c => { c with range := !c.pad && decide (experts ≤ c.expert) }
  let dead := l.any fun c => c.poison || c.range
  l.mapIdx fun i c =>
    let dup := !c.pad && ((l.take i).any fun x => x.expert == c.expert)
    { c with duplicate := dup, counted := !c.pad && !dead && !dup }

/-- Counted choices of rank `r` for expert `e`. -/
def countOf (l : List Choice) (r e : Nat) : Nat := (l.filter fun c => c.counted && c.rank == r && c.expert == e).length

/-! Slots and send indices (R209). -/

structure Slots where
  g : Nat
  k : Nat
  e : Nat
  cap : Nat
  cnt : Nat → Nat → Nat → Nat        -- position, rank, expert

/-- Slots given before position `q` of rank `r`. -/
def Slots.start (t : Slots) (q r e : Nat) : Nat :=
  sumTo r (fun r2 => sumTo t.g fun q2 => t.cnt q2 r2 e) + sumTo q fun q2 => t.cnt q2 r e
def Slots.adm (t : Slots) (q r e : Nat) : Nat := Nat.min (t.cnt q r e) (t.cap - t.start q r e)
def Slots.admitted (t : Slots) (e : Nat) : Nat := Nat.min (t.start 0 t.k e) t.cap
def Slots.sendbase (t : Slots) (q e : Nat) : Nat := sumTo e fun e2 => sumTo t.k fun r => t.adm q r e2
/-- The send index, at position `q`, of slot `s` of expert `e` that rank `r` of that position took. -/
def Slots.sendIndex (t : Slots) (q r e s : Nat) : Nat := t.sendbase q e + sumTo r (fun r2 => t.adm q r2 e) + (s - t.start q r e)
/-- A: this position's admitted choices. -/
def Slots.total (t : Slots) (q : Nat) : Nat := t.sendbase q t.e

/-- Slot and admission of the choice at index `i` of a list in token order. -/
def Slots.assign (t : Slots) (me : Nat) (l : List Choice) : List Choice :=
  l.mapIdx fun i c =>
    if c.counted then
      let s := t.start me c.rank c.expert + countOf (l.take i) c.rank c.expert
      { c with slot := s, admitted := decide (s < t.cap), cap := !decide (s < t.cap) }
    else c

/-- The table of a round, from its state block. -/
def State.slotsOf (s : State) (l : Layer) (state : Nat) : Slots :=
  { g := l.group, k := l.k, e := l.experts, cap := l.capacity
    cnt := fun q r e => s.bondNat ((l.block state).cnt + 2 * ((q * l.k + r) * l.experts + e)) 2 }

/-! Count letters (R207, R208). -/

/-- Parts of a letter. -/
def countParts (l : Layer) : Nat := (l.k * l.experts + 4079) / 4080

def countHeader (r : Round) (l : Layer) (part : Nat) : List Byte :=
  leBytes 8 r.step ++ leBytes 2 r.desc.pass ++ leBytes 1 r.desc.layer ++ leBytes 1 part ++ leBytes 2 r.desc.round ++
  leBytes 2 l.position ++ leBytes 2 l.experts ++ leBytes 1 l.k ++ leBytes 1 (countParts l) ++ leBytes 4 r.live ++ leBytes 8 0

/-- The counts of one part, in index order. -/
def partCounts (r : Round) (l : Layer) (part : Nat) : List Nat :=
  (List.range (Nat.min 4080 (l.k * l.experts - 4080 * part))).map fun i =>
    let x := 4080 * part + i
    countOf r.choices (x / l.experts) (x % l.experts)

def partOf (pc : Nat) (b : List Byte) : CountPart :=
  { pc := pc, step := fieldAt b 0 8 % 2 ^ 40, pass := fieldAt b 8 2, layer := fieldAt b 0xA 1, part := fieldAt b 0xB 1
    round := fieldAt b 0xC 2, source := fieldAt b 0xE 2, experts := fieldAt b 0x10 2, k := fieldAt b 0x12 1, parts := fieldAt b 0x13 1
    live := fieldAt b 0x14 4, counts := (List.range ((b.length - 32) / 2)).map fun i => fieldAt b (32 + 2 * i) 2 }

def Round.holds (r : Round) (l : Layer) (c : CountPart) : Bool :=
  c.step == r.step && c.pass == r.desc.pass && c.layer == r.desc.layer && c.round == r.desc.round && c.experts == l.experts && c.k == l.k

/-- Parts received for a round: those with its postmark. -/
def State.partsOf (s : State) (r : Round) : List CountPart := s.counts.filter fun c => c.pc == r.pc

/-- Is every part of every position there? -/
def State.countsIn (s : State) (r : Round) (l : Layer) : Bool :=
  let ps := s.partsOf r
  (List.range l.group).all fun q => (List.range (countParts l)).all fun i => ps.any fun c => c.source == q && c.part == i

/-- Keep the record of the latest choice that a fault is raised for (R203). -/
def keepChoice (code : Nat) (f : Choice → Bool) (l : List Choice) (m : Map Nat) : Map Nat :=
  match (l.filter f).getLast? with
  | some c => Map.set 0 m code c.word
  | none => m

/-- Ingest of an ADMIT: choices, flags, faults (R204, R215). -/
def State.ingest (s : State) (d : Nat) (a : AdmitDesc) (pc : Nat) : State × Round :=
  let l := s.layer d a.layer
  let word := (s.core (d * 96 + a.liveCore)).sdmRead (8 * a.liveWord) 8
  let live := Nat.min word l.roundTokens
  let choices := (List.range l.roundTokens).flatMap fun t => flagToken l.experts ((List.range l.k).map fun r => s.readChoice d a.segments live t r)
  let faults := (if choices.any (·.range) then [0x3001] else []) ++ (if choices.any (·.duplicate) then [0x3002] else []) ++
    (if choices.any (·.poison) then [0x3003] else []) ++ (if l.roundTokens < word then [0x3004] else [])
  let s := match (choices.filter fun c => c.range || c.duplicate || c.poison).getLast? with
    | some c => s.setReg (Reg.at Reg.SO_ERR_LOC d) (c.token * 2 ^ 8 + c.rank * 2 ^ 4 + 1)
    | none => s
  let s := s.onDie d fun x => { x with choiceOf := keepChoice 0x3003 (·.poison) choices (keepChoice 0x3002 (·.duplicate) choices
    (keepChoice 0x3001 (·.range) choices x.choiceOf)) }
  let s := if faults.isEmpty then s else s.setReg (Reg.at Reg.SO_ERR_ROUND d) (a.round * 2 ^ 16 + a.layer * 2 ^ 8)
  (s.raiseAll (faults.map fun f => (f, d)), { desc := a, pc := pc, live := live, choices := choices, step := s.step40 })

/-- A part reaches the round it belongs to: one that differs from it is 0x3005; the last one after P_C makes the round late. -/
def State.meetPart (s : State) (d : Nat) (c : CountPart) : State :=
  match (s.die d).rounds with
  | r :: rest =>
    let l := s.layer d r.desc.layer
    if r.pc ≠ c.pc then s
    else
      let s := if r.holds l c then s else s.roundFault d r.desc.layer r.desc.round 0x3005
      if s.countsIn r l ∧ r.pc < s.pm then s.onDie d fun x => { x with rounds := { r with late := true } :: rest } else s
  | [] => s

/-- COUNT: a part arrives; a second copy of one changes nothing. -/
def State.applyCount (s : State) (k : Packet) : State :=
  let c := partOf k.release k.payload
  if s.counts.any fun x => x.pc == c.pc && x.source == c.source && x.part == c.part && x.layer == c.layer then s
  else (List.range 4).foldl (fun t d => t.meetPart d c) { s with counts := s.counts ++ [c] }

/-- Send a round's letters, the own one over the die network, the others on the lowest-numbered UP port (R207, R296). -/
def State.sendCounts (s : State) (l : Layer) (r : Round) : State :=
  let sends := l.turn.flatMap fun q => (List.range (countParts l)).map fun i => (q, i)
  sends.foldl (fun (t : State) x =>
    let (q, i) := x
    let pay := countHeader r l i ++ (partCounts r l i).flatMap fun n => leBytes 2 n
    if q = l.position then { t with counts := t.counts ++ [partOf r.pc pay] }
    else t.post ((t.lowestUp 0 8).getD 0)
      { cls := 6, ty := Ty.count, job := t.job, dst := l.nodeOf q, release := r.pc, payload := pay }) s

/-- Start an ADMIT. Without a use left it is not executed, and its claims stay (R357). -/
def State.startAdmit (s : State) (d : Nat) (a : AdmitDesc) : State :=
  match s.takeUse (d * 96 + a.relCore) a.relEntry with
  | (s, none) => s.raise 0x7307 0
  | (s, some (_, pc)) =>
    let l := s.layer d a.layer
    let (s, r) := s.ingest d a pc
    let s := (s.onDie d fun x => { x with rounds := [r], roundOf := Map.set 0 x.roundOf a.state a.round }).releaseSource a.ident
    let s := s.sendCounts l r
    (s.partsOf r).foldl (fun t c => t.meetPart d c) s

/-! Slot assignment and outputs (R206, R209–R213). -/

/-- The counts of the round: a position with a part that differs counts as 0 throughout. -/
def State.roundCounts (s : State) (r : Round) (l : Layer) (q rank e : Nat) : Nat :=
  let ps := (s.partsOf r).filter fun c => c.source == q
  if ps.all fun c => r.holds l c then
    let x := rank * l.experts + e
    ((ps.find? fun c => c.part == x / 4080).map fun c => c.counts.getD (x % 4080) 0).getD 0
  else 0

/-- a ÷ b, of finite b ≠ 0, for one rounding. -/
def divFV : FV → FV → FV
  | .nan, _ => .nan
  | _, .nan => .nan
  | .inf _, .inf _ => .nan
  | .inf s, y => .inf (s != y.isNeg)
  | .fin s _ _, .inf t => .fin (s != t) 0 0
  | .fin s m e, .fin t n f =>
    if n = 0 then (if m = 0 then .nan else .inf (s != t))
    else if m = 0 then .fin (s != t) 0 0
    else
      let p := Nat.log2 n + 80
      match sticky (m * 2 ^ p / n) (e - f - (p : Int)) (decide (m * 2 ^ p % n = 0)) with
      | .fin _ a b => .fin (s != t) a b
      | v => v

/-- The effective gates of a token's list (R206). -/
def effGates (renorm : Bool) (l : List Choice) : List Nat :=
  let adm := l.filter (·.admitted)
  if renorm && !adm.isEmpty then
    let sum := adm.foldl (fun (a : Option Nat) c => match a with
      | none => some (c.gate * 65536)
      | some v => some (addF32 v (c.gate * 65536))) none
    l.map fun c => if c.admitted then FFmt.bf16.encode .rne (divFV (FFmt.bf16.decode c.gate) (f32 (sum.getD 0))) else 0
  else l.map fun c => if c.admitted then c.gate else 0

/-- A token's status word (R206). -/
def statusWord (l : List Choice) : Nat :=
  let dead := l.any fun c => c.poison || c.range
  let pad := l.all (·.pad)
  let mask : Nat := l.foldl (fun v c => if c.admitted then v + 2 ^ c.rank else v) 0
  mask + (if mask == 0 && !pad && !dead then 2 ^ 16 else 0) + (if pad then 2 ^ 17 else 0) + (if dead then 2 ^ 18 else 0)

/-- Write a token's gates and status. -/
def State.writeToken (s : State) (d : Nat) (a : AdmitDesc) (renorm bad : Bool) (t : Nat) (l : List Choice) : State :=
  match segmentOf a.segments t with
  | some (g, i) =>
    let p := bad || bit (statusWord l) 18
    let c := d * 96 + g.core
    let s := (effGates renorm l).zipIdx.foldl (fun (t : State) x =>
      t.writePlace ⟨0, c, g.outGate⟩ (2 * (x.2 * g.pitch + i)) (tagged p (leBytes 2 x.1))) s
    s.writePlace ⟨0, c, g.outStatus⟩ (4 * i) (tagged p (leBytes 4 (statusWord l)))
  | none => s

/-- Write the round state block. -/
def State.writeBlock' (s : State) (b : BlockMap) (t : Slots) (bad : Bool) (me : Nat) (l : List Choice) : State :=
  let put := fun (s : State) (addr : Nat) (x : List Byte) => s.writePlace ⟨3, 0, addr⟩ 0 (tagged bad x)
  let s := put s b.cnt ((List.range t.g).flatMap fun q => (List.range t.k).flatMap fun r => (List.range t.e).flatMap fun e => leBytes 2 (t.cnt q r e))
  let s := put s b.adm ((List.range t.e).flatMap fun e => leBytes 4 (t.admitted e))
  let s := l.foldl (fun (s : State) c => put s (b.recs + 8 * (c.token * t.k + c.rank)) (leBytes 8 c.word)) s
  (l.filter (·.admitted)).foldl (fun (s : State) c => put s (b.envs + 8 * t.sendIndex me c.rank c.expert c.slot) (leBytes 8 c.envelope)) s

/-- Write the M_LIVE words of each core of the mask (R211). -/
def State.writeLive (s : State) (d : Nat) (a : AdmitDesc) (l : Layer) (t : Slots) (bad : Bool) : State :=
  ((List.range 96).filter fun c => bit a.coreMask c).foldl (fun (s : State) c =>
    let s := (List.range l.loc).foldl (fun (s : State) i =>
      s.writePlace ⟨2, d * 96 + c, a.mlive⟩ (8 * i) (tagged bad (leBytes 8 (t.admitted (l.expertAt l.position i))))) s
    s.writePlace ⟨2, d * 96 + c, a.mlive⟩ (8 * l.loc) (tagged bad (leBytes 8 (t.total l.position)))) s

/-- Choices by token. -/
def byToken (k : Nat) (l : List Choice) : List (List Choice) := (List.range (l.length / Nat.max 1 k)).map fun t => (l.drop (t * k)).take k

/-- Slot assignment of a round. -/
def State.assignRound (s : State) (d : Nat) (r : Round) : State :=
  let l := s.layer d r.desc.layer
  let bad := !((s.partsOf r).all fun c => r.holds l c)
  let t : Slots := { g := l.group, k := l.k, e := l.experts, cap := l.capacity, cnt := s.roundCounts r l }
  let cs := t.assign l.position r.choices
  let lists := byToken l.k cs
  let u := s.writeBlock' (l.block (2 ^ 38 * d + r.desc.state % 2 ^ 38)) t bad l.position cs
  let u := lists.zipIdx.foldl (fun (u : State) x => u.writeToken d r.desc (bit l.flags 1) bad x.2 x.1) u
  let u := u.writeLive d r.desc l t bad
  let u := u.count (Reg.at Reg.SO_DROP_CNT d) (cs.filter (·.cap)).length
  let u := u.count (Reg.at Reg.SO_SKIP_CNT d) (lists.filter fun x => bit (statusWord x) 16).length
  let u := (u.count (Reg.at Reg.SO_ROUND_CNT d)).releaseIdent r.desc.ident
  let u := { u with counts := u.counts.filter fun c => c.pc != r.pc || c.layer != r.desc.layer }
  let u := u.onDie d fun x => { x with rounds := [] }
  if r.late then u.late r.pc else u

end Sys2Proof.Machine
end

