-- ==== Sys2Proof/Machine/Parcel.lean ====
section
/-!
DEFINITION. The Sorting Office's parcels, landings and scatter, its two engines (R197–R200, R216–R223), and the matching unit
(R191–R194).
-/
namespace Sys2Proof.Machine

/-! Which rows a SEND carries (R216, R217, R222). -/

/-- Envelope `i` of a round: token, expert, rank and slot. -/
def State.envelopeAt (s : State) (b : BlockMap) (i : Nat) : Nat × Nat × Nat × Nat :=
  let v := s.bondNat (b.envs + 8 * i) 8
  (bits v 63 40, bits v 39 28, bits v 27 24, bits v 19 0)

/-- The position and rank that took a slot of an expert (R222). -/
def Slots.ownerOf (t : Slots) (e s : Nat) : Option (Nat × Nat) :=
  (((List.range t.g).flatMap fun q => (List.range t.k).map fun r => (q, r)).find? fun x =>
    decide (t.start x.1 x.2 e ≤ s) && decide (s < t.start x.1 x.2 e + t.adm x.1 x.2 e))

/-- Where the rows of a SEND for position `q` lie, and at which offsets they land, in sending order. -/
def State.sendRows (s : State) (l : Layer) (a : SendDesc) (state q : Nat) : List (Nat × Nat) :=
  let z := l.rowBytes.getD a.dir 0
  let t := s.slotsOf l state
  if a.dir % 2 = 0 then
    (List.range (t.total l.position)).filterMap fun i =>
      let (tok, e, r, slot) := s.envelopeAt (l.block state) i
      if l.hostOf e = q then
        some ((if a.perChoice then r * a.pitch + tok else tok) * z, (l.localOf e * l.capacity + slot) * z)
      else none
  else
    (List.range l.loc).flatMap fun i =>
      let e := l.expertAt l.position i
      (List.range (t.admitted e)).filterMap fun slot =>
        match t.ownerOf e slot with
        | some (p, r) => if p = q then some ((i * l.capacity + slot) * z, t.sendIndex q r e slot * z) else none
        | none => none

/-- Join rows that follow one another at their destination. -/
def joinRows : List (Nat × List (Byte × Bool)) → List (Nat × List (Byte × Bool))
  | [] => []
  | (o, b) :: r => match joinRows r with
    | (o2, b2) :: r2 => if o2 = o + b.length then (o, b ++ b2) :: r2 else (o, b) :: (o2, b2) :: r2
    | [] => [(o, b)]

/-- Cut bytes at every 8,192-byte boundary of the destination. -/
def cutRun : Nat → Nat × List (Byte × Bool) → List (Nat × List (Byte × Bool))
  | 0, _ => []
  | n + 1, (o, b) => if b.isEmpty then [] else
    let k := 8192 - o % 8192
    (o, b.take k) :: cutRun n (o + k, b.drop k)

/-! Sending. -/

/-- One packet of a SEND: class 6 up to the port's WINDOW, class 3 with SPILL beyond (R218). Gives back whether it spilled. -/
def State.sendParcel (s : State) (d : Nat) (l : Layer) (q region pf port used : Nat) (o : Nat) (b : List (Byte × Bool)) : State × Bool :=
  let spill := decide (l.window < used + b.length)
  let s := if spill then s.count (Reg.at Reg.SO_SPILL_CNT d) else s
  let m := packPoison b
  (s.post port { cls := if spill then 3 else 6, ty := Ty.data, job := s.job, spill := spill, dst := l.nodeOf q, release := pf
                 addr := 2 ^ 34 * region + o, payload := b.map (·.1), pmap := poisonMap m }, spill)

structure Spray where
  st : State
  next : Nat := 0                -- packets sprayed
  used : Map Nat := []           -- class-6 bytes by port
  spilled : Bool := false

/-- Spray the packets of one destination over the ports in turn. -/
def Spray.one (d : Nat) (l : Layer) (region pf q : Nat) (x : Spray) (r : Nat × List (Byte × Bool)) : Spray :=
  let port := l.ports.getD (x.next % Nat.max 1 l.ports.length) 0
  let u := Map.get 0 x.used port
  let (s, sp) := x.st.sendParcel d l q region pf port u r.1 r.2
  { st := s, next := x.next + 1, used := if sp then x.used else Map.set 0 x.used port (u + r.2.length), spilled := x.spilled || sp }

/-- Where a region lies. -/
def State.regionPlace (s : State) (region : Nat) : Place :=
  let r := s.region region
  ⟨r.space, if r.space = 3 then 0 else r.die * 96 + r.core, (if r.space = 3 then 2 ^ 38 * r.die else 0) + r.base⟩

/-- Rows for the own position go over the die network into the region, and count toward its landing (R219). -/
def State.sendOwn (s : State) (region pf : Nat) (runs : List (Nat × List (Byte × Bool))) : State :=
  runs.foldl (fun (t : State) x => (t.writePlace (s.regionPlace region) x.1 x.2).countRegion (s.region region).die region pf x.2.length) s

/-- Run a SEND. -/
def State.runSend (s : State) (d : Nat) (a : SendDesc) : State :=
  match s.takeUse (d * 96 + a.relCore) a.relEntry with
  | (s, none) => s.raise 0x7307 0
  | (s, some (_, pf)) =>
    let l := s.layer d a.layer
    let state := 2 ^ 38 * d + a.state % 2 ^ 38
    let z := l.rowBytes.getD a.dir 0
    let region := l.region.getD a.dir 0
    let s := (List.range l.group).foldl (fun (t : State) q => (s.sendRows l a state q).foldl (fun (t : State) r => t.hotPlace a.rows r.1 z) t) s
    let runs := fun q => joinRows ((s.sendRows l a state q).map fun r => (r.2, s.readPlace a.rows r.1 z))
    let x := (l.turn.filter (· != l.position)).foldl (fun (x : Spray) q =>
      ((runs q).flatMap fun r => cutRun (r.2.length + 1) r).foldl (Spray.one d l region pf q) x) { st := s }
    let u := (x.st.sendOwn region pf (runs l.position)).releaseIdent a.ident
    if x.spilled then u.roundFault d a.layer (Map.get 0 (u.die d).roundOf a.state) 0x3008 else u

/-! LAND (R220). -/

/-- X: the bytes a LAND expects. -/
def State.landBytes (s : State) (l : Layer) (dir state : Nat) : Nat :=
  let t := s.slotsOf l state
  let rows := if dir % 2 = 0 then sumTo l.loc (fun i => t.admitted (l.expertAt l.position i)) else t.total l.position
  rows * l.rowBytes.getD dir 0

/-- The postmark that the next use of an entry takes, if one is left (R354). -/
def State.nextUse (s : State) (g e : Nat) : Option Nat := (s.takeUse g e).2.map (·.2)

/-- Run a LAND. One whose packets went uncounted will be a late letter (R221). -/
def State.runLand (s : State) (d : Nat) (a : LandDesc) : State :=
  match s.takeUse (d * 96 + a.relCore) a.relEntry with
  | (s, none) => s.raise 0x7307 0
  | (s, some (_, pf)) =>
    let l := s.layer d a.layer
    let region := l.region.getD a.dir 0
    let c := ((s.die d).landing region pf).getD { region := region, pf := pf }
    let c := { c with
      land := some (s.landBytes l a.dir (2 ^ 38 * d + a.state % 2 ^ 38), (a.range.space, a.range.unit, a.range.addr, a.length), a.ident)
      lost := (s.die d).uncounted.contains (region, pf), layer := a.layer, round := Map.get 0 (s.die d).roundOf a.state }
    (s.onDie d fun y => { y.putLanding c with uncounted := y.uncounted.filter (· != (region, pf)) }).settleLanding d c

/-- Does a LAND find its counter, or room for one (R219)? -/
def State.landRoom (s : State) (d : Nat) (a : LandDesc) : Bool :=
  decide ((s.die d).landings.length < 256) || match s.nextUse (d * 96 + a.relCore) a.relEntry with
    | some pf => ((s.die d).landing ((s.layer d a.layer).region.getD a.dir 0) pf).isSome
    | none => true

/-! SCATTER (R223): returned rows to their places, +0 rows for every choice that returned nothing. -/

/-- Insert a row by its offset. -/
def insertRow (x : Nat × List (Byte × Bool)) : List (Nat × List (Byte × Bool)) → List (Nat × List (Byte × Bool))
  | [] => [x]
  | y :: r => if x.1 ≤ y.1 then x :: y :: r else y :: insertRow x r

/-- Write runs of rows, each 64-byte unit at once: a unit that rows cover whole takes their poison. -/
def State.writeRuns (s : State) (p : Place) (l : List (Nat × List (Byte × Bool))) : State :=
  (joinRows (l.foldr insertRow [])).foldl (fun (t : State) x =>
    let k := Nat.min x.2.length ((64 - (p.addr + x.1) % 64) % 64)
    (t.writePlace p x.1 (x.2.take k)).writePlace p (x.1 + k) (x.2.drop k)) s

def State.runScatter (s : State) (d : Nat) (a : ScatterDesc) : State :=
  let l := s.layer d a.layer
  let state := 2 ^ 38 * d + a.state % 2 ^ 38
  let b := l.block state
  let z := l.rowBytes.getD a.dir 0
  let back := (List.range ((s.slotsOf l state).total l.position)).map fun i =>
    let (tok, _, r, _) := s.envelopeAt b i
    ((r * a.pitch + tok) * z, s.readPlace a.rows (i * z) z)
  let zeros := (List.range (l.roundTokens * l.k)).filterMap fun i =>
    let v := s.bondNat (b.recs + 8 * i) 8
    if !bit v 0 && !bit v 3 then some ((bits v 27 24 * a.pitch + bits v 63 40) * z, tagged false (List.replicate z 0#8)) else none
  ((s.hotPlace a.rows 0 (z * back.length)).writeRuns a.combine (back ++ zeros)).releaseIdent a.ident

/-! The engines (R198–R200). -/

/-- May a job start: has everything it reads been released? -/
def State.jobReady (s : State) (d : Nat) : SortJob → Bool
  | .admission a =>
    let l := s.layer d a.layer
    (s.die d).rounds.isEmpty && a.segments.all fun g =>
      s.placeReady ⟨0, d * 96 + g.core, g.index⟩ 0 (2 * ((l.k - 1) * g.pitch + g.tokens)) &&
      s.placeReady ⟨0, d * 96 + g.core, g.gate⟩ 0 (4 * ((l.k - 1) * g.pitch + g.tokens))
  | .scatter a =>
    let l := s.layer d a.layer
    (s.die d).rounds.isEmpty && s.placeReady a.rows 0 ((s.slotsOf l (2 ^ 38 * d + a.state % 2 ^ 38)).total l.position * l.rowBytes.getD a.dir 0)
  | .send a =>
    let l := s.layer d a.layer
    let z := l.rowBytes.getD a.dir 0
    !((s.die d).landings.any fun x => x.land.isSome) &&
      l.turn.all fun q => (s.sendRows l a (2 ^ 38 * d + a.state % 2 ^ 38) q).all fun r => s.placeReady a.rows r.1 z
  | .land a => !((s.die d).landings.any fun x => x.land.isSome) && s.landRoom d a

def State.runJob (s : State) (d : Nat) : SortJob → State
  | .admission a => s.startAdmit d a
  | .scatter a => s.runScatter d a
  | .send a => s.runSend d a
  | .land a => s.runLand d a

/-- What a job reads and writes at once, in stores that may sleep (R233): ADMIT its planes, SCATTER and SEND their rows. -/
def State.jobRngs (s : State) (d : Nat) : SortJob → List Rng
  | .admission a => admitIns a d (s.layer d a.layer)
  | .scatter a => s.sortIns d (.scatter a) ++ s.sortOuts d (.scatter a)
  | .send a =>
    let l := s.layer d a.layer
    s.sortIns d (.send a) ++ (s.sendRows l a (2 ^ 38 * d + a.state % 2 ^ 38) l.position).map fun r =>
      ofPlace (s.regionPlace (l.region.getD a.dir 0)) r.2 (l.rowBytes.getD a.dir 0)
  | .land _ => []

/-- A job may run: it is ready, and the banks it reaches are awake. -/
def State.startJob (s : State) (d : Nat) (j : SortJob) : Tried :=
  if s.mod != .held && s.jobReady d j then s.reachAll (s.jobRngs d j) else (s, false)

/-- Run the admission engine's queue from its head, while it may. -/
def State.runAdm (d : Nat) : Nat → State → State
  | 0, s => s
  | n + 1, s => match (s.die d).admQ with
    | j :: r => match s.startJob d j with
      | (s, true) => State.runAdm d n ((s.onDie d fun x => { x with admQ := r }).runJob d j)
      | (s, false) => s
    | [] => s

def State.runPar (d : Nat) : Nat → State → State
  | 0, s => s
  | n + 1, s => match (s.die d).parQ with
    | j :: r => match s.startJob d j with
      | (s, true) => State.runPar d n ((s.onDie d fun x => { x with parQ := r }).runJob d j)
      | (s, false) => s
    | [] => s

/-- Both engines of a die go on. -/
def State.runOffice (s : State) (d : Nat) : State :=
  let s := State.runAdm d (s.die d).admQ.length s
  State.runPar d (s.die d).parQ.length s

def State.runOffices (s : State) : State := (List.range 4).foldl State.runOffice s

/-- P_C is reached and every part is there. -/
def State.assignDue (s : State) (d : Nat) (r : Round) : Bool := s.mod != .held && s.relDue r.pc && s.countsIn r (s.layer d r.desc.layer)

/-! MATCH (R191–R194). -/

/-- The first position of each key of a chunk, and how many keys were duplicates. -/
def insertKeys : List (Nat × Nat) → List (Nat × Nat) → Nat × List (Nat × Nat)
  | [], acc => (0, acc)
  | (k, i) :: r, acc =>
    if acc.any fun x => x.1 == k then let (n, a) := insertKeys r acc; (n + 1, a) else insertKeys r (acc ++ [(k, i)])

/-- The pairs of positions (of A, of B), and the duplicates of A within its chunks. -/
def matchPairs (ka kb : List Nat) : List (Nat × Nat) × Nat :=
  let chunks := (List.range ((ka.length + 4095) / 4096)).map fun c =>
    insertKeys ((((ka.drop (4096 * c)).take 4096).zipIdx).map fun x => (x.1, 4096 * c + x.2)) []
  (chunks.flatMap fun c => kb.zipIdx.filterMap fun b => (c.2.find? fun x => x.1 == b.1).map fun x => (x.2, b.2), (chunks.map (·.1)).sum)

def State.keyList (s : State) (p : Place) (n : Nat) : List Nat :=
  let l := (s.readPlace p 0 (4 * n)).map (·.1)
  (List.range n).map fun i => fieldAt l (4 * i) 4

/-- Poison a whole band. -/
def State.poisonPlace (s : State) (p : Place) (n : Nat) : State := s.writePlace p 0 ((s.readPlace p 0 n).map fun x => (x.1, true))

/-- The index memory after a match: the last chunk's keys, each at its first position in the chunk (R192). -/
def indexOf (ka : List Nat) : List (Nat × Nat) :=
  (insertKeys (((ka.drop (4096 * ((ka.length - 1) / 4096))).take 4096).zipIdx) []).2

def State.runMatch (s : State) (m : MatchDesc) : State :=
  let d := m.core / 96
  let z := s.matchSize m
  let ka := s.keyList m.keysA (s.wordOf m.na)
  let (pairs, dups) := matchPairs ka (s.keyList m.keysB (s.wordOf m.nb))
  let s := (s.hotPlace m.keysA 0 (4 * s.wordOf m.na)).hotPlace m.keysB 0 (4 * s.wordOf m.nb)
  let s := (pairs.take m.maxOut).zipIdx.foldl (fun (t : State) x =>
    let t := (t.hotPlace m.valsA (z * x.1.1) z).hotPlace m.valsB (z * x.1.2) z
    (t.writePlace m.outA (z * x.2) (t.readPlace m.valsA (z * x.1.1) z)).writePlace m.outB (z * x.2) (t.readPlace m.valsB (z * x.1.2) z)) s
  let s := if ka.isEmpty then s else s.onCore m.core fun c => { c with matchIx := indexOf ka }
  let s := s.onCore m.outN.1 fun c => c.sdmWrite (8 * m.outN.2) 8 pairs.length
  let s := (List.range dups).foldl (fun (t : State) _ => t.raise 0x2003 d) s
  let s := if m.maxOut < pairs.length then ((s.poisonPlace m.outA (z * m.maxOut)).poisonPlace m.outB (z * m.maxOut)).raise 0x2004 d else s
  (s.count (Reg.at Reg.SPZ_MATCH_CNT d)).releaseIdent m.ident

/-- Matches on one index memory run in the order posted (R193): no earlier one on it waits. -/
def State.matchFirst (s : State) (m : MatchDesc) : Bool :=
  !(s.clusters.any fun e => e.2.queues.any fun q => q.2.any fun x => decide (x.ident < m.ident) &&
    match Config.postDesc (Map.get 0 e.2.desc x.desc) x.off with
    | some (.pairs o) => (cdesc (Map.get 0 e.2.desc x.desc)).kind == 2 && o.core == m.core
    | _ => false)

/-- A match waits at the head of its courier's queue for its turn and for released operands, and for the end of a hold. -/
def State.matchReady (s : State) (m : MatchDesc) : Bool :=
  s.mod != .held && s.headsQueue m.ident 2 && s.matchFirst m &&
  let na := s.wordOf m.na
  let nb := s.wordOf m.nb
  let z := s.matchSize m
  s.placeReady ⟨2, m.na.1, 8 * m.na.2⟩ 0 8 && s.placeReady ⟨2, m.nb.1, 8 * m.nb.2⟩ 0 8 &&
  s.placeReady m.keysA 0 (4 * na) && s.placeReady m.keysB 0 (4 * nb) && s.placeReady m.valsA 0 (z * na) && s.placeReady m.valsB 0 (z * nb)

/-- A match that may run, once the banks it reaches are awake (R233). -/
def State.startMatch (s : State) (m : MatchDesc) : Tried :=
  if s.matchReady m then s.reachAll (s.sortIns (m.core / 96) (.pairs m) ++ s.sortOuts (m.core / 96) (.pairs m)) else (s, false)

end Sys2Proof.Machine
end

