-- ==== Sys2Proof/Machine/Claims.lean ====
section
/-!
DEFINITION. What a CPOST claims (R119, R132, R193, R199, R243): the destinations of its descriptor against everyone, its sources against
writers.
-/
namespace Sys2Proof.Machine

/-! A COPY. -/

/-- The exact read-out reads through a window two bytes for each it delivers (R281). -/
def CDesc.inWindow (s : State) (d : CDesc) : Bool :=
  d.srcSpace == 3 && d.fmt == 7 && (s.die (d.src / 2 ^ 38 % 4)).windows.any fun w =>
    w.2.valid && decide (w.2.base ≤ d.src % 2 ^ 38) && decide (d.src % 2 ^ 38 < w.2.base + 131072 * w.2.tiles)

/-- Bytes a row reads. -/
def CDesc.readLen (s : State) (d : CDesc) : Nat := if d.inWindow s then 2 * d.rowLen else d.rowLen

/-- The destination of a COPY (R119, R253, R320): its rows in a core, or the scalar words of a returning operation and of an allocation. -/
def CDesc.outs (d : CDesc) (n : Nat) : List Rng :=
  if d.allocDst then (if d.result = 0xFFFF then [] else [(2, d.dstCore, 8 * d.result, 8)])
  else if d.isReturning then (if d.result = 0xFFFF then [] else [(2, d.dstCore, 8 * d.result, 8 * n)])
  else if inCore d.dstSpace then rowRngs d.dstSpace d.dstCore d.dst n d.rowLen d.dstPitch
  else []

/-- Its source: rows of a core, or the extent of its rows in bonded memory (R243). -/
def CDesc.ins (s : State) (d : CDesc) (n : Nat) : List Rng :=
  if inCore d.srcSpace then rowRngs d.srcSpace d.srcCore d.src n d.rowLen d.srcPitch
  else if d.srcSpace = 3 then [(3, 0, d.src, extent n (d.readLen s) d.srcPitch)]
  else []

/-! A post. -/

/-- What a posted descriptor claims against everyone. -/
def State.postOuts (s : State) (g v x : Nat) : List Rng :=
  let d := (cdesc v).withOff x
  if d.kind = 0 then d.outs d.rows
  else if d.kind = 4 then (if d.result = 0xFFFF then [] else [(2, d.dstCore, 8 * d.result, 8)])
  else ((Config.postDesc v x).map (s.sortOuts (g / 96))).getD []

/-- What it claims against writers. -/
def State.postIns (s : State) (g v x : Nat) : List Rng :=
  let d := (cdesc v).withOff x
  if d.kind = 0 then d.ins s d.rows
  else if d.kind = 4 then []
  else ((Config.postDesc v x).map (s.sortIns (g / 96))).getD []

def Core.addClaim (c : Core) (src ident : Nat) (u : Nat × Nat × Nat) : Core :=
  { c with claims := c.claims ++ [{ ident := ident, src := src, space := u.1, first := u.2.1, units := u.2.2 }] }

/-- Claim a range: against everyone (source 1), or against writers (source 5). -/
def State.claimRng (src ident : Nat) (s : State) (r : Rng) : State :=
  if r.2.2.2 = 0 then s
  else if r.1 = 3 then
    let h := (ident, r.2.2.1 % 2 ^ 38, r.2.2.2)
    s.onDie (r.2.2.1 / 2 ^ 38 % 4) fun x => if src = 5 then { x with holds := x.holds ++ [h] } else { x with locks := x.locks ++ [h] }
  else s.onCore r.2.1 fun c => c.addClaim src ident (rngUnits r)

/-- The identity of the next post's claims. -/
def State.nextPost (s : State) : Nat := 2 ^ 32 + s.posts

/-- Take the claims of a post. -/
def State.claimPost (s : State) (g v x : Nat) : State :=
  let outs := s.postOuts g v x
  let ins := s.postIns g v x
  let id := s.nextPost
  ins.foldl (State.claimRng 5 id) (outs.foldl (State.claimRng 1 id) { s with posts := s.posts + 1 })

/-- The STALL_CAUSE that a post meets (R120): a destination in a core that is unreleased to writers, but for sources of other posts. -/
def State.postBlocked (s : State) (g v x : Nat) : Option Nat :=
  ((s.postOuts g v x).find? fun r => r.1 != 3 && ((s.core r.2.1).claimed (rngUnits r) || (s.core r.2.1).closing true (rngUnits r) ||
    (s.core r.2.1).converting true (rngUnits r) || (s.core r.2.1).remHeld true (rngUnits r))).map fun r => causeOf (rngUnits r).1

end Sys2Proof.Machine
end

