-- ==== Sys2Proof/Machine/Courier.lean ====
section
/-!
DEFINITION. Couriers (R240–R245): posting with claims, copies in the die, to bonded memory and over the fabric, mailbags (R149–R153), and
the exact read-out (R281, R384).
-/
namespace Sys2Proof.Machine

/-- Is a side in a core within its space? -/
def sideFits (space a n len pitch : Nat) : Bool :=
  if space ≤ 2 then decide (a + extent n len pitch ≤ spaceSize space) else true

def State.descOf (s : State) (g i : Nat) : Nat := Map.get 0 (s.cluster (g / 8)).desc i
def Cluster.queue (c : Cluster) (k : Nat) : List QEnt := Map.get [] c.queues k
def Cluster.setQueue (c : Cluster) (k : Nat) (l : List QEnt) : Cluster := { c with queues := Map.set [] c.queues k l }

/-- A core stalls with a cause (R60, R142). -/
def State.stallCore (s : State) (g cause : Nat) : State := s.onCore g fun c => { c with stall := cause }

/-- Do the sides of a COPY in cores lie in their spaces (R132)? -/
def CDesc.fits (d : CDesc) : Bool :=
  sideFits d.srcSpace d.src d.rows d.rowLen d.srcPitch && (d.allocDst || d.isReturning || sideFits d.dstSpace d.dst d.rows d.rowLen d.dstPitch)

/-- CPOST (R132). Answers the state, and whether the core stalled instead; a CPOST of the core's stream was found free of stalls with its
whole bundle (R120). -/
def State.cpost (s : State) (g k xa i : Nat) : State × Bool :=
  let v := s.descOf g i
  let x := ((s.core g).rx xa).toNat
  let d := (cdesc v).withOff x
  if d.kind = 3 then
    let cl := s.cluster (g / 8)
    (s.setCluster (g / 8) { cl with banks := cl.banks ++ [{ desc := i, off := x, core := g, ident := 0 }] }, false)
  else if d.kind = 0 ∧ !d.fits then (s.raise 0x1302 g, false)
  else if !s.inBundle ∧ 32 ≤ ((s.cluster (g / 8)).queue k).length then (s.stallCore g 9, true)
  else match (if s.inBundle then none else s.postBlocked g v x) with
    | some cause => (s.stallCore g cause, true)
    | none =>
      let id := s.nextPost
      let s := s.claimPost g v x
      let (s, rel) := if d.kind = 0 ∧ d.remote ∧ d.release ≠ 0xFFFF then s.takeUse g d.release else (s, some (0, 0))
      match rel with
      | none => (s.raise 0x7307 0, false)
      | some (_, p) =>
        let cl := s.cluster (g / 8)
        (s.setCluster (g / 8) (cl.setQueue k (cl.queue k ++ [{ desc := i, off := x, core := g, ident := id, rel := p }])), false)

/-! Rows (R241). -/

structure Row where
  data : List (Byte × Bool)
  corrupt : Option (Nat × Nat) := none       -- address and cause of a corrupt tile (R189)
  drops : Nat := 0
  dense : Bool := false                      -- a tile stored dense by assert (R186)

/-- The byte at `a` of a row that starts at `a0`: an access of bonded memory stays in its die (R256). -/
def State.srcByte (s : State) (d : CDesc) (a0 a : Nat) : Byte :=
  if d.srcSpace = 3 then (if leavesDie a0 a then Config.lostByte a else s.bondByte a)
  else if d.srcSpace = 2 then (s.core d.srcCore).sdmByte a else (s.core d.srcCore).tileByte (d.srcSpace = 1) a
def State.srcBad (s : State) (d : CDesc) (a0 a : Nat) : Bool :=
  if d.srcSpace = 3 then leavesDie a0 a || s.bondBad a
  else if d.srcSpace = 2 then (s.core d.srcCore).sdmPoisoned a 1 else (s.core d.srcCore).poisonAt (d.srcSpace = 1) a

/-- Bytes of a dense tile with the poison of its rows. -/
def denseRow (t : FmtInfo) (x : DTile) : List (Byte × Bool) :=
  let w := 16 * t.width
  (denseBody t x).mapIdx fun k b => (b, x.poison.getD (if k < t.elemBytes then k / w else (k - t.elemBytes) / 4) false)

/-- A tile transposed; a poisoned row reaches every row of it. -/
def flipTile (x : DTile) : DTile :=
  { x with code := (Array.range 16384).map fun k => x.code.getD (k % 128 * 128 + k / 128) 0, poison := Array.replicate 128 (x.poison.any id) }

/-- What a copy does with the tiles of its tensor (R179, R180): with reach expanded they are dense in a tile store and compressed beyond. -/
inductive TileMode where
  | plain | transpose | compress | expand
deriving DecidableEq, Repr

def tileMode (d : CDesc) (p : Nat) : TileMode :=
  let form := polForm p == 1 || polForm p == 2
  if d.transpose then .transpose
  else if !form || polCarried p then .plain
  else if d.srcSpace = 0 ∧ (d.dstSpace = 3 ∨ d.dstSpace = 4) then .compress
  else if (d.srcSpace = 3 ∨ d.srcSpace = 4) ∧ d.dstSpace = 0 then .expand
  else .plain

/-- The policy of a descriptor's tensor on the die of its cluster. -/
def State.copyPolicy (s : State) (d : CDesc) (cl : Nat) : Nat := Map.get 0 (s.die (cl / 12)).policy d.tensor

/-- A row as it is written, from its bytes and their poison at `a`. -/
def State.formRow (s : State) (d : CDesc) (p : Nat) (rd : Nat → Byte) (ps : Nat → Bool) (a : Nat) : Row :=
  let plain : Row := { data := (List.range d.rowLen).map fun k => (rd (a + k), ps (a + k)) }
  match s.fmt d.fmt with
  | none => plain
  | some t =>
    match tileMode d p with
    | .plain => plain
    | .transpose =>
      let form := (polForm p == 1 || polForm p == 2) && (d.srcSpace == 3 || d.srcSpace == 4 || polCarried p)
      let x := if form then decodeTile t d.fmt (reservation t p) rd ps a else readDense t rd ps a
      { data := denseRow t (flipTile x), corrupt := x.corrupt.map fun c => (a, c) }
    | .expand =>
      let x := decodeTile t d.fmt (reservation t p) rd ps a
      { data := denseRow t x, corrupt := x.corrupt.map fun c => (a, c) }
    | .compress =>
      let z := compressTile t d.fmt d.tensor p (readDense t rd ps a)
      let w := 16 * t.width
      { data := z.bytes.toList.mapIdx fun k b => (b, z.dense && decide (16 ≤ k) && z.poison.getD (if k - 16 < t.elemBytes then (k - 16) / w else (k - 16 - t.elemBytes) / 4) false)
        drops := z.drops, dense := z.asserted }

/-- Row `i` of a copy as it is written. -/
def State.copyRow (s : State) (d : CDesc) (cl i : Nat) : Row :=
  let a := d.src + i * d.srcPitch
  s.formRow d (s.copyPolicy d cl) (s.srcByte d a) (s.srcBad d a) a

/-- A row read through the exact read-out, and the state after it (R281, R384). -/
def State.readOut (s : State) (d : CDesc) (i : Nat) : State × List (Byte × Bool) :=
  let a := d.src + i * d.srcPitch
  let die := a / 2 ^ 38 % 4
  let n := d.rowLen / 4
  let w := (((s.die die).windows.map (·.2)).find? fun w => w.valid && decide (w.base ≤ a % 2 ^ 38) && decide (a % 2 ^ 38 < w.base + 131072 * w.tiles)).getD {}
  let ms := (List.range n).map fun k => leNat ((List.range 8).map fun j => s.srcByte d a (a + 8 * k + j))
  let inv := ms.any (· == invalid64)
  let elem := fun (k m : Nat) =>
    let v := if m = invalid64 then 0x7FC00000 else rne32 (.fin (decide (signed 64 m < 0)) (signed 64 m).natAbs w.scale)
    (leBytes 4 v).map fun b => (b, inv || s.srcBad d a (a + 8 * k))
  let sum := ms.zipIdx.foldl (fun (h : W64) x =>
    h + mix64 (mix64 (BitVec.ofNat 64 (a + 8 * x.2) ^^^ 0x3C6EF372FE94F82B#64) + BitVec.ofNat 64 x.1)) (s.die die).gsum
  let data := (ms.zipIdx.map fun x => elem x.2 x.1).flatten
  let s := s.onDie die fun x => { x with gsum := sum }
  let s := if w.clearOnRead then s.writeBond a (List.replicate (8 * n) 0#8) 0 else s
  (if inv then s.dirty 0 else s, data)

/-- Record a corrupt tile, by the space and address of its header (R190, R195). -/
def State.tileCorrupt (s : State) (die space a cause : Nat) : State :=
  let s := s.setReg (Reg.at Reg.SPZ_ERR_LOC die) (space * 2 ^ 30 + 0x1FF * 2 ^ 21 + cause * 2 ^ 17 + 1)
  ((s.setReg (Reg.at Reg.SPZ_ERR_ADDR_LO die) (a % 2 ^ 32)).setReg (Reg.at Reg.SPZ_ERR_ADDR_HI die) (a / 2 ^ 32)).raise 0x2002 die

/-- What the compressor and the decoder tell of a row: pruned elements, a tile stored dense, a corrupt tile. -/
def State.rowEvents (s : State) (die space : Nat) (r : Row) : State :=
  let s := if r.drops = 0 then s else s.count (Reg.at Reg.SPZ_DROP_CNT die) r.drops
  let s := if r.dense then (s.count (Reg.at Reg.SPZ_DENSE_CNT die)).raise 0x2001 die else s
  match r.corrupt with
  | some (a, cause) => s.tileCorrupt die space a cause
  | none => s

/-- SPACE of a tile that a courier reads where it lies. -/
def CDesc.errSpace (d : CDesc) : Nat := if d.srcSpace = 3 then 1 else 0

/-! Stamped rows of a G16 tile (R326). -/

/-- The five pieces of a tile: offset in the exact tile, and the stamped rows. -/
def stampedRows (t : List (Byte × Bool)) : List (Nat × List (Byte × Bool)) :=
  let row := fun i => (t.drop (256 * i)).take 256 ++ (t.drop (32768 + 4 * i)).take 4
  [(0, 31), (31, 31), (62, 31), (93, 31), (124, 4)].map fun x => (1024 * x.1, (List.range x.2).flatMap fun j => row (x.1 + j))

/-- Cut a row at every 8,192-byte boundary of its destination offset; an EXACT row into its five pieces. -/
def remotePieces (op o : Nat) (l : List (Byte × Bool)) : List (Nat × List (Byte × Bool)) :=
  if op = 0xD then (stampedRows l).map fun x => (o + x.1, x.2) else cutRun (l.length + 1) (o, l)

/-! Dirty marks (R108): they go with a tile. -/

def State.markOf (s : State) (space core a : Nat) : Bool :=
  if space = 3 then Map.get false s.bondMarks a else if space ≤ 1 then Map.get false (s.core core).dirtyTiles (tileKey (space = 1) a) else false

def State.setMark (s : State) (space core a : Nat) (on : Bool) : State :=
  if space = 3 then { s with bondMarks := Map.set false s.bondMarks a on }
  else if space ≤ 1 then s.onCore core fun c => { c with dirtyTiles := Map.set false c.dirtyTiles (tileKey (space = 1) a) on }
  else s

/-! Space 4 (R319, R320). -/

def nodeOfAddr (a : Nat) : Nat := a / 2 ^ 44 % 65536
def portOfAddr (a : Nat) : Nat := a / 2 ^ 60 % 16

/-- Is a remote side invalid or out of range (R243): a reserved PORT, or rows that run past the 34-bit offset? -/
def CDesc.badRemote (d : CDesc) : Bool :=
  let bad := fun a len pitch => (decide (8 ≤ portOfAddr a) && decide (portOfAddr a < 15)) || decide (2 ^ 34 < a % 2 ^ 34 + extent d.rows len pitch)
  (d.srcSpace == 4 && bad d.src d.rowLen d.srcPitch) || (d.dstSpace == 4 && bad d.dst (if d.op = 0xD then 131072 else if d.isReturning || d.op == 0x80 then 8 else d.rowLen) d.dstPitch)

/-- The ports a spray takes in turn: those that are UP, from the lowest; all where none is. -/
def State.upPorts (s : State) : List Nat :=
  let l := (List.range 8).filter fun p => (s.port p).link == 2
  if l.isEmpty then List.range 8 else l

/-- The port of the n-th packet to an address. -/
def State.portFor (s : State) (a n : Nat) : Nat :=
  if portOfAddr a = 15 then s.upPorts.getD (n % s.upPorts.length) 0 else portOfAddr a

/-- Class of a courier's packets: scheduled with a release, free post without (R295). -/
def relClass (rel : Nat) : Nat := if rel = 0 then 3 else 6

/-- Send the rows of a copy as DATA; answers the packets sent. -/
def State.sendRowsData (s : State) (d : CDesc) (rel : Nat) (rows : List (List (Byte × Bool))) : State × Nat :=
  let pieces := (rows.mapIdx fun i l => remotePieces d.op (d.dst % 2 ^ 44 + i * d.dstPitch) l).flatten
  (pieces.zipIdx.foldl (fun (t : State) x =>
    t.post (t.portFor d.dst x.2)
      { cls := relClass rel, ty := Ty.data, op := d.op, job := t.job, dst := nodeOfAddr d.dst, release := rel, addr := x.1.1
        payload := x.1.2.map (·.1), pmap := poisonMap (packPoison x.1.2) }) s, pieces.length)

/-- The lowest free entry of a die's outstanding requests. -/
def State.freeEntry (s : State) (d : Nat) : Option Nat := (List.range 4096).find? fun e => !(s.tag d e).used

/-- A REQUEST payload (R327). -/
def requestPayload (die e size operand swap : Nat) : List Byte :=
  leBytes 2 (die * 4096 + e) ++ leBytes 2 size ++ leBytes 4 0 ++ leBytes 8 operand ++ leBytes 8 swap ++ leBytes 8 0

/-- Send one REQUEST, taking an entry; none free: nothing is sent. -/
def State.sendRequest (s : State) (die port cls op node rel addr size operand swap : Nat) (bad : Bool) (dest : ReqDest) : State × Bool :=
  match s.freeEntry die with
  | none => (s, false)
  | some e =>
    let seq := ((s.port port).txEnt node).next
    let s := s.setTag die e { used := true, home := node, port := port, cls := cls, seq := seq, dest := dest }
    (s.post port { cls := cls, ty := Ty.request, op := op, job := s.job, dst := node, release := rel, addr := addr
                   payload := requestPayload die e size operand swap, pmap := if bad then some 1 else none }, true)

/-- The pieces of a LOAD: row, offset in it, remote offset, size. -/
def CDesc.loadPieces (d : CDesc) (n : Nat) : List (Nat × Nat × Nat × Nat) :=
  (List.range n).flatMap fun i =>
    let o := d.src % 2 ^ 44 + i * d.srcPitch
    (cutRun (d.rowLen + 1) (o, List.replicate d.rowLen (0#8, false))).map fun x => (i, x.1 - o, x.1, x.2.length)

/-- Where a piece of a LOAD goes: `whole` where its row is expanded or transposed when it is whole, `mark` where a carried tile begins (R180). -/
def CDesc.loadDest (d : CDesc) (p : Nat) (q : QEnt) (x : Nat × Nat × Nat × Nat) : ReqDest :=
  let a := d.dst + x.1 * d.dstPitch + x.2.1
  { load := true, space := d.dstSpace, core := if d.dstSpace = 3 then a / 2 ^ 38 % 4 else d.dstCore
    addr := if d.dstSpace = 3 then a % 2 ^ 38 else a, size := x.2.2.2, claim := q.ident, poster := q.core + 1, row := x.1, off := x.2.1
    whole := decide (tileMode d p ≠ .plain), mark := if polInStore p ∧ !d.transpose ∧ d.dstSpace ≤ 1 ∧ x.2.1 = 0 then d.tensor + 1 else 0 }

/-- Send requests of a descriptor from the `q.done`-th on while entries are free: how many are now sent, out of how many. -/
def State.sendRequests (s : State) (cl : Nat) (d : CDesc) (q : QEnt) (n : Nat) : State × Nat × Nat :=
  let die := cl / 12
  if d.isLoad then
    let ps := d.loadPieces n
    let (t, k) := (ps.drop q.done).zipIdx.foldl (fun (x : State × Nat) r =>
      if x.2 < q.done + r.2 then x else
      let (t, ok) := x.1.sendRequest die (x.1.portFor d.src (q.done + r.2)) (relClass q.rel) 0x10 (nodeOfAddr d.src) q.rel r.1.2.2.1 r.1.2.2.2 0 0 false
        (d.loadDest (s.copyPolicy d cl) q r.1)
      if ok then (t, x.2 + 1) else x) (s, q.done)
    (t, k, ps.length)
  else
    let (t, k) := ((List.range n).drop q.done).foldl (fun (x : State × Nat) i =>
      if x.2 < i then x else
      let l := (x.1.copyRow d cl i).data
      let b := l.map (·.1)
      let q' : ReqDest := { load := false, space := 2, core := d.dstCore, addr := 8 * (d.result + i), size := 8, claim := q.ident, poster := q.core + 1 }
      let (t, ok) := x.1.sendRequest die (x.1.portFor d.dst i) (relClass q.rel) (d.op - 0x40) (nodeOfAddr d.dst) q.rel (d.dst % 2 ^ 44 + i * d.dstPitch)
        (opSize (d.op - 0x40)) (fieldAt b 0 8) (fieldAt b 8 8) (l.any (·.2)) q'
      if ok then (t, x.2 + 1) else x) (s, q.done)
    (t, k, n)

/-! Mailbags (R149–R153). -/

/-- The marks of the tiles a copy carries. -/
def State.tilesDirty (s : State) (d : CDesc) (n : Nat) : Bool :=
  (List.range n).any fun i => s.markOf d.srcSpace d.srcCore (d.src + i * d.srcPitch)

/-- The marks of a mailbag's tiles: those of this copy, and of the copies of the courier since its last header (log 98). -/
def State.bagDirty (s : State) (cl k : Nat) (d : CDesc) (n : Nat) : Bool := s.tilesDirty d n || Map.get false (s.cluster cl).bags k

/-- The word of TOKENS as it was when the last tile of the copy was converted; where that is not known, as it is (R152, log 98). -/
def State.mailTokens (s : State) (m : MailSpec) (d : CDesc) (n : Nat) : Nat :=
  let c := s.core m.tokensCore
  let key := tileKey (d.srcSpace = 1) (d.src + (n - 1) * d.srcPitch)
  if d.srcSpace ≤ 1 ∧ d.srcCore = m.tokensCore ∧ c.tileSdm.any (fun e => e.1 == key) then
    leNat ((List.range 4).map fun i => Map.get 0#8 (Map.get [] c.tileSdm key) (8 * m.tokensWord + i))
  else c.sdmRead (8 * m.tokensWord) 4

/-- An EXPERT mailbag with no token and no dirty tile goes as a header alone (R153). -/
def State.mailNil (s : State) (cl k : Nat) (m : MailSpec) (d : CDesc) (n : Nat) : Bool := m.expert && s.mailTokens m d n == 0 && !s.bagDirty cl k d n

def State.mailHeader (s : State) (cl k : Nat) (m : MailSpec) (d : CDesc) (n : Nat) : List Byte :=
  let nil := s.mailNil cl k m d n
  let flags := (if s.bagDirty cl k d n then 1 else 0) + (if nil then 2 else 0) + (if m.expert then 4 else 0) + (if m.linked then 8 else 0)
  leBytes 2 m.mbId ++ leBytes 2 flags ++ leBytes 2 s.node ++ leBytes 2 (m.pass % 4096) ++ leBytes 8 s.step40 ++ leBytes 2 d.tensor ++
    leBytes 2 (if m.expert then m.expertId % 4096 else 0) ++ leBytes 4 (s.mailTokens m d n) ++ leBytes 4 (if nil then 0 else n) ++ leBytes 4 0

def State.setBag (s : State) (cl k : Nat) (on : Bool) : State := s.setCluster cl { s.cluster cl with bags := Map.set false (s.cluster cl).bags k on }

/-- The header follows the tiles: in a packet on the same port, or on the die network where the owner is this module. A dirty mailbag that is
sent makes the step dirty (R109). -/
def State.sendHeader (s : State) (cl k : Nat) (m : MailSpec) (d : CDesc) (rel n sent : Nat) : State :=
  let h := s.mailHeader cl k m d n
  let s := if s.bagDirty cl k d n then s.dirty 0 else s
  let s := s.setBag cl k false
  if d.dstSpace = 4 then
    s.post (s.portFor d.dst (sent - 1)) { cls := relClass rel, ty := Ty.mailbag, job := s.job, dst := nodeOfAddr d.dst, release := rel, payload := h }
  else s.applyHeader h

/-- A copy's rows have gone: its mailbag's header follows, or its dirty marks wait for that of a later copy of the courier. -/
def State.mailed (s : State) (cl k : Nat) (d : CDesc) (rel n sent : Nat) (mail : Option MailSpec) : State :=
  match mail with
  | some m => s.sendHeader cl k m d rel n sent
  | none => if d.op = 0xD ∧ s.tilesDirty d n then s.setBag cl k true else s

/-! Running a copy. -/

/-- Rows to move: LIVE, at most ROWS. -/
def State.liveRows (s : State) (g : Nat) (d : CDesc) : Nat :=
  if d.live = 0xFFFF then d.rows else Nat.min d.rows ((s.core g).sdmRead (8 * d.live) 8)

/-- The descriptor of a queue entry: with the addresses of its CPOST, and with the buffer it was allocated (R240, R253). -/
def CDesc.poolDie (d : CDesc) : Nat := if d.dstSpace = 3 then d.dst / 2 ^ 38 % 4 else d.dstCore / 96
def State.descFor (s : State) (cl : Nat) (q : QEnt) : CDesc :=
  let d := (cdesc (Map.get 0 (s.cluster cl).desc q.desc)).withOff q.off
  match q.got with
  | some a => { d with dst := if d.dstSpace = 3 then 2 ^ 38 * d.poolDie + a else a }
  | none => d

/-- Is a range released to a reader, but for the claims of its own post? -/
def State.freeToRead (s : State) (ident : Nat) (r : Rng) : Bool :=
  if r.1 = 3 then s.bondReadable r.2.2.1 r.2.2.2 else !((s.core r.2.1).unclaim ident).unreleased false (rngUnits r)

/-- Is a range held against writers by nobody but its own post? -/
def State.freeToWrite (s : State) (ident : Nat) (r : Rng) : Bool :=
  if r.1 = 3 then !(s.die (r.2.2.1 / 2 ^ 38 % 4)).holds.any fun h => h.1 != ident && rangesMeet (r.2.2.1 % 2 ^ 38) r.2.2.2 h.2.1 h.2.2
  else
    let c := (s.core r.2.1).unclaim ident
    !(c.readHeld (rngUnits r) || c.remHeld true (rngUnits r) || c.closing true (rngUnits r))

/-- The ranges a copy reads, row by row, and those it writes. -/
def CDesc.readRngs (s : State) (d : CDesc) (n : Nat) : List Rng :=
  if d.srcSpace = 3 then (List.range n).map fun i => (3, 0, d.src + i * d.srcPitch, d.readLen s) else d.ins s n
def CDesc.writeRngs (d : CDesc) (n : Nat) : List Rng :=
  if d.isReturning then (if d.result = 0xFFFF then [] else [(2, d.dstCore, 8 * d.result, 8 * n)]) ++
      (if d.dstSpace = 3 then (List.range n).map fun i => (3, 0, d.dst + i * d.dstPitch, opSize (d.op - 0x40)) else [])
  else if d.dstSpace = 3 then (List.range n).map fun i => (3, 0, d.dst + i * d.dstPitch, opTouch d.op d.rowLen)
  else if inCore d.dstSpace then rowRngs d.dstSpace d.dstCore d.dst n d.rowLen d.dstPitch
  else []

/-- Is every row of the source, and the live row count, released for reading (R243)? -/
def State.srcReady (s : State) (g ident : Nat) (d : CDesc) (n : Nat) : Bool :=
  (d.live == 0xFFFF || s.freeToRead ident (2, g, 8 * d.live, 8)) && (d.readRngs s n).all (s.freeToRead ident)

/-- Is the destination held against writers by nobody else? -/
def State.dstReady (s : State) (ident : Nat) (d : CDesc) (n : Nat) : Bool := (d.writeRngs n).all (s.freeToWrite ident)

/-- The banks of both sides are awake and untested; else they are reached and the courier waits (R233, R236). -/
def State.banksReady (s : State) (d : CDesc) (n : Nat) : Tried := s.reachAll (d.readRngs s n ++ if d.isLoad then [] else d.writeRngs n)

/-- A row as pieces of operations at bonded memory: an EXACT one is five (R326). -/
def bondPieces (op a : Nat) (r : List (Byte × Bool)) : List (Nat × List (Byte × Bool)) :=
  if op = 0xD then (stampedRows r).map fun x => (a + x.1, x.2) else [(a, r)]

/-- Write one row at its destination: the state, and the first address out of range (R258). -/
def State.putRow (s : State) (d : CDesc) (i : Nat) (r : List (Byte × Bool)) : State × Option Nat :=
  let a := d.dst + i * d.dstPitch
  if d.dstSpace = 5 then (s.onCore d.dstCore fun c =>
      { c with istore := Map.fill 0#8 c.istore (131072 * (d.dst % 2) + i * d.dstPitch) r.length fun k => (r.getD k (0#8, false)).1
               filled := Map.set false c.filled (d.dst % 2) true }, none)
  else if d.dstSpace = 3 then
    let ps := bondPieces d.op a r
    (ps.foldl (fun (t : State) x => t.bondApply d.op x.1 (x.2.map (·.1)) (packPoison x.2)) s,
     (ps.find? fun x => s.opRange d.op x.1 x.2.length).map (·.1))
  else (s.onCore d.dstCore fun c => c.writeSpace d.dstSpace a (r.map (·.1)) (packPoison r), none)

/-- The result of a row that could not be applied, or whose previous value is poisoned (R336). -/
abbrev lostWord : Nat := 0x7FBD7FBD7FBD7FBD

/-- A returning operation of a row inside the module (R271, R272): bytes 0–7 are the operand, 8–15 the swap value; the previous value goes to
its result word, and one out of range ends as R327 says. -/
def State.returnRow (s : State) (d : CDesc) (i : Nat) (r : List (Byte × Bool)) : State × Option Nat :=
  let a := d.dst + i * d.dstPitch
  let op := d.op - 0x40
  let n := opSize op
  let b := r.map (·.1)
  let put := fun (t : State) (v : Nat) => if d.result = 0xFFFF then t else t.onCore d.dstCore fun c => c.sdmWrite (8 * (d.result + i)) 8 v
  if s.pastEnd a n ∨ a % n ≠ 0 then (put s lostWord, some a)
  else
    let bad := s.bondBad a || (r.take 16).any (·.2)
    let (t, old) := (s.queueOp a n).opElem op a (fieldAt b 0 8 % 2 ^ (8 * n)) (fieldAt b 8 8) ((r.take 16).any (·.2))
    (put (t.hotCount a n) (if bad then lostWord else old), none)

/-- A carried tile that lands in a tile space is known as one (R180), and a dirty mark goes with its tile (R108). -/
def State.markRow (s : State) (d : CDesc) (cl i : Nat) (dirty : Bool) : State :=
  let a := d.dst + i * d.dstPitch
  let s := s.setMark d.dstSpace d.dstCore a dirty
  if polInStore (s.copyPolicy d cl) && !d.transpose && decide (d.dstSpace ≤ 1) then
    s.onCore d.dstCore fun c => c.markCarried (d.dstSpace = 1) a d.tensor
  else s

/-- A row read, with what reading it met: the state, its bytes, and the address where it runs out of range. -/
def State.takeRow (s : State) (d : CDesc) (cl i : Nat) : State × List (Byte × Bool) × Option Nat :=
  let a := d.src + i * d.srcPitch
  let wrong := if d.srcSpace = 3 ∧ s.pastEnd a (d.readLen s) then some a else none
  let s := if d.srcSpace = 3 then s.hotCount a (d.readLen s) else s
  if d.inWindow s then let (t, r) := s.readOut d i; (t, r, wrong)
  else let r := s.copyRow d cl i; (s.rowEvents (cl / 12) d.errSpace r, r.data, wrong)

/-- One row of a copy on the die network. -/
def State.moveRow (s : State) (d : CDesc) (cl i : Nat) : State × Option Nat :=
  let dirty := s.markOf d.srcSpace d.srcCore (d.src + i * d.srcPitch)
  let (s, r, w) := s.takeRow d cl i
  if d.isReturning then let (s, w2) := s.returnRow d i r; (s, w <|> w2)
  else
    let (s, w2) := s.putRow d i r
    (s.markRow d cl i dirty, w <|> w2)

/-- Does a row find room in the queues of the reduction units (R270)? -/
def State.rowRoom (s : State) (d : CDesc) (i : Nat) : Bool :=
  d.dstSpace != 3 || d.op == 0 ||
    (if d.isReturning then s.queueRoom (d.dst + i * d.dstPitch) (opSize (d.op - 0x40)) else s.opRoom d.op (d.dst + i * d.dstPitch) d.rowLen)

/-- Copy the rows from the `q.done`-th on while there is room: the state, the rows now done, and the first address out of range. -/
def State.copyRows (s : State) (d : CDesc) (cl : Nat) (q : QEnt) (n : Nat) : State × Nat × Option Nat :=
  ((List.range n).drop q.done).foldl (fun (x : State × Nat × Option Nat) i =>
    if x.2.1 < i ∨ !x.1.rowRoom d i then x
    else let (t, w) := x.1.moveRow d cl i; (t, i + 1, x.2.2 <|> w)) (s, q.done, q.wrong)

/-- Rows read for sending, and the first address out of range. -/
def State.gatherRows (s : State) (d : CDesc) (cl n : Nat) : State × List (List (Byte × Bool)) × Option Nat :=
  (List.range n).foldl (fun (x : State × List (List (Byte × Bool)) × Option Nat) i =>
    let (t, r, w) := x.1.takeRow d cl i
    (t, x.2.1 ++ [r], x.2.2 <|> w)) (s, [], none)

/-- Change the entry at the head of a courier's queue. -/
def State.setHead (s : State) (cl k : Nat) (q : QEnt) : State :=
  let c := s.cluster cl
  s.setCluster cl (c.setQueue k (q :: (c.queue k).tail))

/-- Take the descriptor off its queue. -/
def State.popQueue (s : State) (cl k : Nat) : State :=
  let c := s.cluster cl
  s.setCluster cl (c.setQueue k (c.queue k).tail)

def courierOwner (cl k : Nat) : Nat := 0x180 + 4 * cl + k

/-- The last row of the source is read: the claims on it end, and its buffer goes back to its pool (R243, R253). -/
def State.sourceRead (s : State) (cl k : Nat) (d : CDesc) (q : QEnt) : State :=
  let s := s.releaseSource q.ident
  if d.releaseSrc then
    s.releaseBuf (if d.srcSpace = 3 then d.src / 2 ^ 38 % 4 else d.srcCore / 96) d.pool (courierOwner cl k) (if d.srcSpace = 3 then d.src % 2 ^ 38 else d.src)
  else s

/-- A descriptor is done: off its queue, its claims released; what it met out of range is one fault (R258). -/
def State.endPost (s : State) (cl k : Nat) (q : QEnt) : State :=
  let s := (s.popQueue cl k).releaseIdent q.ident
  match q.wrong with
  | some a => s.rangeFault a
  | none => s

/-- End a copy. -/
def State.endCopy (s : State) (cl k : Nat) (d : CDesc) (q : QEnt) : State := (s.sourceRead cl k d q).endPost cl k q

/-- Record the descriptor of a courier's latest fault (R254). -/
def State.courErr (s : State) (cl k desc : Nat) : State := s.setReg (Reg.at Reg.COUR_ERR_LOC cl) (k * 2 ^ 30 + desc * 2 ^ 21 + 1)

/-- Poison a range, its contents kept. -/
def State.poisonRng (s : State) (r : Rng) : State :=
  let (space, g, a, n) := r
  if space = 3 then (s.writeBond a (s.readBond a n).1 (2 ^ ((n + 63) / 64) - 1)).hotCount a n else if space ≤ 2 then s.onCore g fun c => c.poisonSpace space a n else s

/-- An invalid remote address (R243): nothing moves, the destination is poisoned and released, 0x4201. -/
def State.refuseCopy (s : State) (cl k : Nat) (d : CDesc) (q : QEnt) : State :=
  let dest := if d.allocDst then d.outs d.rows else d.writeRngs d.rows
  (((dest.foldl State.poisonRng s).courErr cl k q.desc).endPost cl k q).raise 0x4201 cl

/-- Allocate the destination of a copy (R253): the entry with its buffer; `none` while it waits, or where it is refused one. -/
def State.copyAlloc (s : State) (cl k : Nat) (d : CDesc) (q : QEnt) : State × Option QEnt :=
  let res := if d.result = 0xFFFF then none else some (d.dstCore, d.result)
  if (s.pool d.poolDie d.pool).waiting.any (fun w => w.ident == q.ident) then (s, none)
  else match s.alloc d.poolDie d.pool (courierOwner cl k) with
    | (s, .got a) => let q := { q with got := some a }; ((s.allocResult res a).setHead cl k q, some q)
    | (s, .refused) => (s.popQueue cl k, none)
    | (s, .empty) => (s.allocWait d.poolDie d.pool { caller := courierOwner cl k, ident := q.ident, res := res }, none)

/-- Does every packet this module handed over stand acknowledged (R332)? -/
def State.allAcked (s : State) : Bool :=
  s.ports.all fun e => (e.2.tx.all fun x => x.2.unacked.all fun y => y.pkt.cls == 7) && e.2.q6.isEmpty && e.2.q3.isEmpty && e.2.q1.isEmpty

/-- Send a copy to space 4, with its mailbag header. -/
def State.copyRemote (s : State) (cl k : Nat) (d : CDesc) (q : QEnt) (n : Nat) (mail : Option MailSpec) : State :=
  if d.op = 0x80 then
    if !s.allAcked then s else
    let (s, r, w) := s.takeRow d cl 0
    (s.post (s.portFor d.dst 0) { cls := relClass q.rel, ty := Ty.handover, job := s.job, dst := nodeOfAddr d.dst, release := q.rel
                                  addr := d.dst % 2 ^ 44, payload := (r.take 16).map (·.1) }).endCopy cl k d { q with wrong := w }
  else
    let (t, rows, w) := if mail.any fun m => s.mailNil cl k m d n then (s, [], none) else s.gatherRows d cl n
    let (t, sent) := t.sendRowsData d q.rel rows
    (t.mailed cl k d q.rel n sent mail).endCopy cl k d { q with wrong := w }

/-- The first address of the destination of a LOAD that is out of range. -/
def State.loadWrong (s : State) (d : CDesc) (n : Nat) : Option Nat :=
  if d.dstSpace = 3 then ((List.range n).map fun i => d.dst + i * d.dstPitch).find? fun a => s.pastEnd a d.rowLen else none

/-- Send what requests there are entries for. A descriptor stays at the head of its queue until the last response (R244, R320). -/
def State.copyRequests (s : State) (cl k : Nat) (d : CDesc) (q : QEnt) (n : Nat) : State :=
  let (t, sent, all) := s.sendRequests cl d q n
  if all = 0 then t.endCopy cl k d q
  else if sent < all then t.setHead cl k { q with done := sent }
  else (t.sourceRead cl k d q).setHead cl k { q with done := sent, sent := true, wrong := s.loadWrong d n }

/-- Copy on the die network; where a queue of a reduction unit is full, the courier waits with the rest. -/
def State.copyLocal (s : State) (cl k : Nat) (d : CDesc) (q : QEnt) (n : Nat) (mail : Option MailSpec) : State :=
  if mail.any fun m => s.mailNil cl k m d n then (s.mailed cl k d 0 n 0 mail).endCopy cl k d q
  else
    let (t, done, w) := s.copyRows d cl q n
    if done < n then t.setHead cl k { q with done := done, wrong := w }
    else (t.mailed cl k d 0 n 0 mail).endCopy cl k d { q with wrong := w }

/-- Run the COPY at the head of a courier's queue. -/
def State.runCopy (s : State) (cl k : Nat) (q : QEnt) (mail : Option MailSpec) : State :=
  let d := s.descFor cl q
  let n := s.liveRows q.core d
  if q.sent then s
  else if d.badRemote then s.refuseCopy cl k d q
  else if !s.srcReady q.core q.ident d n then s
  else match (if d.allocDst ∧ q.got.isNone then s.copyAlloc cl k d q else (s, some q)) with
    | (s, none) => s
    | (s, some q) =>
      let d := s.descFor cl q
      if !s.dstReady q.ident d n then s
      else
        let (s, ok) := s.banksReady d n
        if !ok then s
        else if d.isLoad || (d.isReturning && d.dstSpace == 4) then s.copyRequests cl k d q n
        else if d.dstSpace = 4 then s.copyRemote cl k d q n mail
        else s.copyLocal cl k d q n mail

end Sys2Proof.Machine
end

