-- ==== Sys2Proof/Machine/Response.lean ====
section
/-!
DEFINITION. What comes back to a requester: responses (R333, R336) and dead letters (R337), and the rows of a LOAD that are expanded or
transposed as they arrive (R180).
-/
namespace Sys2Proof.Machine

/-- The post of an identity, where it heads its courier's queue: cluster, courier and entry. -/
def State.headOf (s : State) (ident : Nat) : Option (Nat × Nat × QEnt) :=
  s.clusters.findSome? fun e => (List.range 4).findSome? fun k => match e.2.queue k with
    | q :: _ => if ident ≠ 0 ∧ q.ident = ident then some (e.1, k, q) else none
    | [] => none

/-- Free a tag. With the last one of its descriptor, the descriptor is done (R320); a tag of no queued one releases its claim. -/
def State.freeTag (s : State) (d e : Nat) (t : Tag) : State :=
  let s := s.setTag d e {}
  let id := t.dest.claim
  if s.tags.any fun x => x.2.used && x.2.dest.claim == id then s
  else match s.headOf id with
    | some (cl, k, q) => if q.sent then s.endPost cl k q else s
    | none => s.releaseIdent id

/-- The range a request's data goes to. -/
def destRng (q : ReqDest) : Rng := if q.space = 3 then (3, 0, 2 ^ 38 * q.core + q.addr, q.size) else (q.space, q.core, q.addr, q.size)

/-- Write bytes, with the poison of each 64-byte piece of them, to a range. -/
def State.putRng (s : State) (r : Rng) (data : List Byte) (poison : Nat) : State :=
  if r.1 = 3 then (s.writeBond r.2.2.1 data poison).hotCount r.2.2.1 data.length else s.onCore r.2.1 fun c => c.writeSpace r.1 r.2.2.1 data poison

/-- The dead-letter bytes of a range: 0x7FBD in every 16-bit half (R337). -/
def deadBytes (a n : Nat) : List Byte := (List.range n).map fun i => if (a + i) % 2 = 0 then 0xBD#8 else 0x7F#8

def State.putDead (s : State) (r : Rng) : State := s.putRng r (deadBytes r.2.2.1 r.2.2.2) (2 ^ ((r.2.2.2 + 63) / 64) - 1)

def State.destWord (s : State) (q : ReqDest) (v : Nat) : State := s.onCore q.core fun c => c.sdmWrite q.addr 8 v

/-- Cluster of the core, or first of the die, that a destination belongs to. -/
def clusterOf (q : ReqDest) : Nat := if q.space = 3 then q.core * 12 else q.core / 8

/-- The bytes of a row from its pieces. -/
def rowOf (l : List Piece) (n : Nat) : List (Byte × Bool) :=
  (List.range n).map fun i => match l.find? fun p => decide (p.off ≤ i) && decide (i < p.off + p.data.length) with
    | some p => p.data.getD (i - p.off) (0#8, false)
    | none => (0#8, false)

/-- A row of a LOAD that is whole is written expanded or transposed (R180, R241). A dead piece makes the row dead, a refused one poisons it; a
corrupt tile lies in a port receive buffer, at an address no rule tells: a free value (R190, R195, log 36). -/
def State.landRow (s : State) (cl : Nat) (d : CDesc) (row : Nat) (l : List Piece) : Tried :=
  let b := rowOf l d.rowLen
  let x := s.formRow d (s.copyPolicy d cl) (fun k => (b.getD k (0#8, false)).1) (fun k => (b.getD k (0#8, false)).2) 0
  let r : Rng := (d.dstSpace, if d.dstSpace = 3 then 0 else d.dstCore, d.dst + row * d.dstPitch, x.data.length)
  let (s, ok) := s.reachAll [r]
  if !ok then (s, false)
  else if l.any (·.fate == 1) then (s.putDead r, true)
  else if l.any (·.fate == 2) then (s.poisonRng r, true)
  else
    let s := s.putRng r (x.data.map (·.1)) (packPoison x.data)
    match x.corrupt with
    | some (_, cause) => let (v, s) := s.free; (s.tileCorrupt (cl / 12) 2 v.toNat cause, true)
    | none => (s, true)

/-- A piece of a row that is expanded or transposed arrives: it is kept until the row is whole. -/
def State.landPiece (s : State) (q : ReqDest) (p : Piece) : Tried :=
  match s.headOf q.claim with
  | none => (s, true)
  | some (cl, k, e) =>
    let d := s.descFor cl e
    let l := e.parts.filter (·.row == p.row) ++ [p]
    if (l.map (·.data.length)).sum < d.rowLen then (s.setHead cl k { e with parts := e.parts ++ [p] }, true)
    else match s.landRow cl d p.row l with
      | (s, true) => (s.setHead cl k { e with parts := e.parts.filter (·.row != p.row) }, true)
      | (s, false) => (s, false)

/-- The data of a LOAD, or what stands for it, arrives: `fate` 0 the bytes, 1 dead, 2 refused. It waits for the banks it reaches (R233). -/
def State.landLoad (s : State) (q : ReqDest) (data : List (Byte × Bool)) (fate : Nat) : Tried :=
  if q.whole then s.landPiece q { row := q.row, off := q.off, data := data, fate := fate }
  else
    let (s, ok) := s.reachAll [destRng q]
    if !ok then (s, false)
    else if fate = 1 then (s.putDead (destRng q), true)
    else if fate = 2 then (s.poisonRng (destRng q), true)
    else
      let s := s.putRng (destRng q) (data.map (·.1)) (packPoison data)
      (if q.mark = 0 then s else s.onCore q.core fun c => c.markCarried (q.space = 1) q.addr (q.mark - 1), true)

/-- Bytes that stand for data that never came. -/
def noData (n : Nat) : List (Byte × Bool) := List.replicate n (0#8, false)

/-- A RESPONSE completes its entry (R336). -/
def State.completeTag (s : State) (d e : Nat) (t : Tag) (k : Packet) : Tried :=
  let q := t.dest
  let status := k.addr / 2 ^ 16 % 16
  let (s, ok) : Tried :=
    if q.load then
      (if status = 0 then s.landLoad q ((k.payload.take q.size).mapIdx fun i b => (b, bit (k.pmap.getD 0) (i / 64))) 0 else s.landLoad q (noData q.size) 2)
    else (s.destWord q (if status = 0 ∧ !(k.pmap.any fun m => bit m 0) then fieldAt k.payload 0 8 else lostWord), true)
  if !ok then (s, false)
  else
    let err : State → State := match s.headOf q.claim with
      | some (cl, k, x) => if status = 0 ∨ status = 7 then id else fun u => u.courErr cl k x.desc
      | none => id
    let s := err (s.freeTag d e t)
    (if status = 0 then s
     else if status = 7 then (s.count Reg.RMT_UNKNOWN_CNT).raise 0x6303 0
     else s.raise 0x4201 (clusterOf q), true)

def State.applyResponse (s : State) (p : Nat) (k : Packet) : Tried :=
  let d := k.addr / 4096 % 4
  let e := k.addr % 4096
  let t := s.tag d e
  if t.used && t.port == p && t.cls == k.cls && t.home == k.src && t.seq % 2 ^ 28 == k.addr / 2 ^ 20 % 2 ^ 28 then s.completeTag d e t k
  else (s.count Reg.RMT_LATE_RESP_CNT, true)

/-- DEAD_LETTER (R337): none completes in HELD. The entry completes once the banks of its destination are awake (R233). -/
def execDeadLetter (d : Fin 4) (e : Fin 4096) (s : State) : Ans :=
  .next <|
    let t := s.tag d e
    if !t.used || s.mod == .held then s
    else if t.dest.load then
      match s.landLoad t.dest (noData t.dest.size) 1 with
      | (s, true) => ((s.count Reg.RMT_DEAD_CNT).freeTag d e t).raise 0x6302 0
      | (s, false) => s
    else (((s.count Reg.RMT_DEAD_CNT).destWord t.dest lostWord).freeTag d e t).raise 0x6303 0

end Sys2Proof.Machine
end

