-- ==== Sys2Proof/Machine/Banks.lean ====
section
/-!
DEFINITION. Banks of the tile stores (R228–R239): BANK descriptors, retention and wake, uncorrectable errors, the test engine and repair.
-/
namespace Sys2Proof.Machine

/-- Granules of a bank. -/
def bankGranules (b : Nat) : Nat × Nat × Nat := (0, 384 * b, 384)

/-- Is a bank free of claims and of accesses in flight (R232)? -/
def Core.bankFree (c : Core) (b : Nat) : Bool :=
  !(c.claims.any (fun k => unitsMeet k.units? (bankGranules b))) && !c.closing false (bankGranules b) &&
  !c.converting false (bankGranules b) && !c.ports.any (fun u => u.banks.any fun l => l.contains b)

def Core.setBank (c : Core) (b : Nat) (v : Bank) : Core := { c with banks := Map.set .active c.banks b v }

/-- A bank enters RETAINED. -/
def Core.retain (c : Core) (b : Nat) : Core :=
  { c.setBank b .retained with
    retainWait := c.retainWait.filter (· != b), waking := c.waking.filter (fun w => w.1 != b), bankGoal := Map.set 0 c.bankGoal b 0
    wakeTold := c.wakeTold.filter (· != b) }

/-- A bank whose wake has run its 720 cycles enters the state named (R232, R233). -/
def Core.woken (c : Core) (b : Nat) : Core :=
  { c.setBank b (if Map.get 0 c.bankGoal b = 1 then .idle else .active) with
    waking := c.waking.filter (fun w => w.1 != b), bankGoal := Map.set 0 c.bankGoal b 0, wakeTold := c.wakeTold.filter (· != b) }

/-- A state change ends a test in the bank; the region holds what it held (R236). -/
def Core.stopTest (c : Core) (b : Nat) : Core :=
  match c.testing with
  | some (k, _) => if k / 48 = b then { c with testing := none } else c
  | none => c

/-- Give one bank a state (R232). One that sleeps wakes first, and enters the state when its wake is complete. -/
def Core.toBank (c : Core) (b st : Nat) : Core :=
  let c := if c.bank b = .idle ∧ st ≠ 1 then c.stopTest b else c
  let c := { c with retainWait := c.retainWait.filter (· != b) }
  if st = 2 then (if c.bankFree b then c.retain b else { c with retainWait := c.retainWait ++ [b] })
  else if c.bank b = .retained ∨ c.bank b = .waking then
    let d := c.wake b
    { d with bankGoal := Map.set 0 d.bankGoal b st }
  else c.setBank b (if st = 1 then .idle else .active)

/-- BANK: the oldest posted one takes effect. -/
def execBank (cl : Fin 48) (s : State) : Ans :=
  .next <| match (s.cluster cl).banks with
    | q :: r =>
      let d := (cdesc (Map.get 0 (s.cluster cl).desc q.desc)).withOff q.off
      let s := s.setCluster cl { s.cluster cl with banks := r }
      s.onCore d.dstCore fun c => (List.range 32).foldl (fun c b => if bit d.src b then c.toBank b (d.dst % 4) else c) c
    | [] => s

def execBankRetain (g : Fin 384) (b : Fin 32) (s : State) : Ans :=
  .next <| if (s.core g).retainWait.contains b.val && (s.core g).bankFree b then s.onCore g fun c => c.retain b else s

/-- TS_UNSCHEDULED_WAKE (R233). -/
def execTsUnscheduledWake (g : Fin 384) (b : Fin 32) (byCore : Bool) (s : State) : Ans :=
  .next <| if (s.core g).bank b = .retained ∨ (s.core g).bank b = .waking then s.reachBank g b byCore else s

/-- The place `TS.ERR_LOC` shows for a 64-byte unit. -/
def errLoc (unit : Nat) : Nat := unit / 3072 * 2 ^ 27 + unit % 3072 / 64 * 2 ^ 21 + unit % 64 * 2 ^ 15 + 1

def execTsUncorrectable (g : Fin 384) (unit : Fin 98304) (s : State) : Ans :=
  .next <|
    let s := s.onCore g fun c => { c with tsPoison := Map.set false c.tsPoison unit true }
    ((s.setReg (Reg.at Reg.TS_ERR_LOC g) (errLoc unit)).tally 1).raise 0x4101 g

/-! The test engine (R235–R239). -/

/-- Spares a bank has used: a region that fails on its spare moves on to the next one (R237). -/
def Core.sparesUsed (c : Core) (b : Nat) : Nat := (c.spares.filter fun e => e.1 / 48 == b).foldl (fun n e => Nat.max n e.2) 0

/-- A failing region moves to a spare, or stays unrepaired (R237, R238). -/
def State.repairRegion (s : State) (g key : Nat) : State :=
  let c := s.core g
  let b := key / 48
  let n := c.sparesUsed b
  let at' := b * 256 + key % 48
  let s := s.setReg (Reg.at Reg.TS_ERR_LOC g) (errLoc (key * 64))
  let s := s.record 9 (ctlOf g) 0 0 0
  if n < 2 then
    let s := s.setCore g { c with spares := Map.set 0 c.spares key (n + 1) }
    (((s.queueRepair (s.repairEntry 2 (g / 96) g at' n)).count (Reg.at Reg.TS_REPAIR_CNT g)).tally 11).raise 0x4102 g
  else
    let s := s.setCore g { c with badRegions := if c.badRegions.contains key then c.badRegions else c.badRegions ++ [key] }
    (s.queueRepair (s.repairEntry 3 (g / 96) g at' 0)).raise 0x4103 g

/-- One region tested. -/
def State.testRegion (s : State) (g key : Nat) (fails : Bool) : State :=
  let s := s.count (Reg.at Reg.TS_TEST_CNT g)
  if fails then s.repairRegion g key else s

/-- A background test that has run its time ends. -/
def State.finishTest (s : State) (g : Nat) : State :=
  match (s.core g).testing with
  | some (key, _, fails, _) => (s.onCore g fun c => { c with testing := none }).testRegion g key fails
  | none => s

/-- BACKGROUND_TEST (R236, R239): a running control core tests a region of an IDLE bank; the one before it has ended. -/
def execBackgroundTest (g : Fin 384) (b : Fin 32) (region : Fin 48) (fails : Bool) (s : State) : Ans :=
  .next <|
    if s.ctlUp g && (s.core g).bank b == .idle then
      let s := s.finishTest g
      let key := b.val * 48 + region.val
      let saved := (List.range 4096).map fun i => (s.core g).tileByte false (4096 * key + i)
      s.onCore g fun c => { c with testing := some (key, saved, fails, s.now) }
    else s

/-- TEST_ABORT (R236). -/
def execTestAbort (g : Fin 384) (byCore : Bool) (s : State) : Ans := .next (if (s.core g).testing.isSome then s.cutTest g byCore else s)

/-- TEST_WINDOW (R419): the IDLE banks of the mask are tested for the cycles the window lasts, 336 to a region; the answer is the number
of regions tested. `bad` are the failing regions met. -/
def execTestWindow (g : Fin 384) (slot : Fin 4) (bad : List (Fin 32 × Fin 48)) (s : State) : Ans :=
  .next <| match (s.core g).service slot with
    | some v =>
      if v.kind = 3 ∧ s.ctlUp g then
        let s := s.finishTest g
        let banks := (List.range 32).filter fun b => bit (fieldAt v.arg 0 4) b && (s.core g).bank b == .idle
        let n := Nat.min (fieldAt v.arg 8 8 / 336) (48 * banks.length)
        let keys := (banks.flatMap fun b => (List.range 48).map fun r => b * 48 + r).take n
        let s := keys.foldl (fun (t : State) k => t.testRegion g k (bad.any fun x => x.1.val * 48 + x.2.val == k)) s
        s.onCore g fun c => { c.serve slot n with tested := n }
      else s
    | none => s

end Sys2Proof.Machine
end

