-- ==== Sys2Proof/Machine/Deliver.lean ====
section
/-!
DEFINITION. What becomes of a received packet, by its TYPE (R295), the packets that wait (R328, R355), and the rows of the operations at
homes and reduction units.
-/
namespace Sys2Proof.Machine

/-- Try to apply an accepted packet. A letter of class 7 is acted on by the hub in charge alone (R296). -/
def State.tryPacket (s : State) (p : Nat) (k : Packet) : Tried :=
  let pay := k.payload
  if k.ty = Ty.data then s.applyData k
  else if k.ty = Ty.request then s.applyRequest p k
  else if k.ty = Ty.handover then s.applyHandover p k
  else if k.ty = Ty.mailbag then s.applyMailbag p k
  else if k.ty = Ty.response then s.applyResponse p k
  else if k.ty = Ty.count then (s.applyCount k, true)
  else if k.ty = Ty.ack then (s.applyAck p k.src pay, true)
  else if k.ty = Ty.credit then (s.applyCredit p k.src pay, true)
  else if !s.inCharge p then (s, true)
  else if k.ty = Ty.report then
    (if k.release ≠ 0 ∧ !s.relDue k.release then (s, false) else (s.applyReport pay, true))
  else if k.ty = Ty.hold then (s.applyHold (fieldAt pay 0 8) (fieldAt pay 8 2) (fieldAt pay 0xA 2), true)
  else if k.ty = Ty.resume then (s.applyResume (fieldAt pay 0 8) (fieldAt pay 8 2) (fieldAt pay 0xA 2), true)
  else if k.ty = Ty.probe then (s.applyProbe k.src pay, true)
  else if k.ty = Ty.probeReply then (s.applyProbeReply k.src pay, true)
  else if k.ty = Ty.risk then
    (if k.release = 0 then (if s.partner = some k.src then s.partnerScore (fieldAt pay 0xA 1) else s)
     else s.applyRisk k.release (fieldAt pay 0 8) (fieldAt pay 8 2) (fieldAt pay 0xB 1) (fieldAt pay 0xC 1) (fieldAt pay 0xE 2), true)
  else (s, true)

/-- Packets that reach a region of the table. -/
def reachesRegion (k : Packet) : Bool := k.ty == Ty.data || k.ty == Ty.request || k.ty == Ty.handover

/-- A REPORT that arrives after D is a late letter (R162, R356). -/
def State.lateReport (s : State) (p : Nat) (k : Packet) : State :=
  if k.ty = Ty.report ∧ s.inCharge p ∧ s.live ∧ k.release ≠ 0 ∧ k.release < s.pm then s.late k.release else s

/-- An accepted packet: refused at the region table, applied, or kept waiting. -/
def State.consume (s : State) (p : Nat) (k : Packet) : State :=
  let s := s.lateReport p k
  let cause := if reachesRegion k then s.regionCheck k else 0
  if cause ≠ 0 then
    let s := s.refusePacket k cause
    (if k.ty = Ty.request then s.answerRequest p k cause 0 [] none else s).freeBuffer p k
  else match s.tryPacket p k with
    | (s, true) => s.freeBuffer p k
    | (s, false) => s.onPort p fun t => { t with waiting := t.waiting ++ [k] }

/-- Try one waiting packet again. -/
def State.retryPacket (s : State) (x : Nat × Packet) : State :=
  match s.tryPacket x.1 x.2 with
  | (s, true) => (s.onPort x.1 fun t => { t with waiting := t.waiting.filter fun y => !(y.src == x.2.src && y.seq == x.2.seq) }).freeBuffer x.1 x.2
  | (s, false) => s

/-- Every packet that waits, in ascending port order. -/
def State.allWaiting (s : State) : List (Nat × Packet) := (List.range 8).flatMap fun p => (s.port p).waiting.map fun k => (p, k)

/-- Apply what waits, as long as something can be applied. -/
def State.deliver : Nat → State → State
  | 0, s => s
  | n + 1, s =>
    let l := s.allWaiting
    let t := l.foldl State.retryPacket s
    if t.allWaiting.length < l.length then State.deliver n t else t

/-- What a change of the state lets go on: packets that wait, the Sorting Offices' engines, and LANDs that are due (R220). -/
def State.settle (s : State) : State := (State.deliver s.allWaiting.length s).runOffices.settleLandings

/-- A packet of a TYPE arrives at a port. -/
def State.arrive (s : State) (p : Nat) (k : Packet) : State :=
  (s.receive p k (fun t => t.consume p k) (fun t => if t.regionCheck k = 0 then (t.applyRequest p k).1 else t)).settle

/-! Operations at homes (R271, R325). -/

/-- A courier of this module applies an operation (R271): at bonded memory any posted one, at a store of a core a write. It waits while
its bytes are claimed against writers, while a queue of a reduction unit is full (R270) or a bank it reaches sleeps (R233), and in HELD
(R245). -/
def State.courierOp (s : State) (op : Nat) (pl : Place) (data : List Byte) (poison : Nat) : State :=
  if s.mod = .held then s
  else if pl.space = 3 then
    if s.bondWritable pl.addr (opTouch op data.length) && s.opRoom op pl.addr data.length then s.bondOp op pl.addr data poison else s
  else if op = 0 ∧ !(s.core pl.unit).writersHeld (spaceUnits pl.space pl.addr data.length) then
    match s.reachBanks pl.unit pl.space pl.addr data.length with
    | (s, true) => s.onCore pl.unit fun c => c.writeSpace pl.space pl.addr data poison
    | (s, false) => s
  else s

/-- One operation from either side. A returning one comes as a REQUEST, CAS64 always does. -/
def State.operate (s : State) (op : Nat) (via : Via) : State :=
  match via with
  | .packet p k =>
    let ty := if op = 0xC then Ty.request else if k.ty = Ty.request ∧ returningOp op then Ty.request else Ty.data
    s.arrive p { k with ty := ty, op := op }
  | .courier pl data poison => (s.courierOp op pl data poison).settle

def execWrite (v : Via) (s : State) : Ans := .next (s.operate 0 v)
def execFadd32 (v : Via) (s : State) : Ans := .next (s.operate 1 v)
def execIadd32 (v : Via) (s : State) : Ans := .next (s.operate 2 v)
def execIadd64 (v : Via) (s : State) : Ans := .next (s.operate 3 v)
def execFmin32 (v : Via) (s : State) : Ans := .next (s.operate 4 v)
def execFmax32 (v : Via) (s : State) : Ans := .next (s.operate 5 v)
def execBmin (v : Via) (s : State) : Ans := .next (s.operate 6 v)
def execBmax (v : Via) (s : State) : Ans := .next (s.operate 7 v)
def execImin32 (v : Via) (s : State) : Ans := .next (s.operate 8 v)
def execImax32 (v : Via) (s : State) : Ans := .next (s.operate 9 v)
def execImin64 (v : Via) (s : State) : Ans := .next (s.operate 0xA v)
def execImax64 (v : Via) (s : State) : Ans := .next (s.operate 0xB v)
def execCas64 (v : Via) (s : State) : Ans := .next (s.operate 0xC v)
def execExact (v : Via) (s : State) : Ans := .next (s.operate 0xD v)

def execLoad (p : Fin 8) (k : Packet) (s : State) : Ans := .next (s.arrive p { k with ty := Ty.request, op := 0x10 })
def execResponse (p : Fin 8) (k : Packet) (s : State) : Ans := .next (s.arrive p { k with ty := Ty.response })
def execMailbag (p : Fin 8) (k : Packet) (s : State) : Ans := .next (s.arrive p { k with ty := Ty.mailbag })
def execHandover (p : Fin 8) (k : Packet) (s : State) : Ans := .next (s.arrive p { k with ty := Ty.handover })
def execCount (p : Fin 8) (k : Packet) (s : State) : Ans := .next (s.arrive p { k with ty := Ty.count })
def execReport (p : Fin 8) (k : Packet) (s : State) : Ans := .next (s.arrive p { k with ty := Ty.report })
def execHold (p : Fin 8) (k : Packet) (s : State) : Ans := .next (s.arrive p { k with ty := Ty.hold })
def execResume (p : Fin 8) (k : Packet) (s : State) : Ans := .next (s.arrive p { k with ty := Ty.resume })
def execProbe (p : Fin 8) (k : Packet) (s : State) : Ans := .next (s.arrive p { k with ty := Ty.probe })
def execProbeReply (p : Fin 8) (k : Packet) (s : State) : Ans := .next (s.arrive p { k with ty := Ty.probeReply })
def execRisk (p : Fin 8) (k : Packet) (s : State) : Ans := .next (s.arrive p { k with ty := Ty.risk })
def execAck (p : Fin 8) (k : Packet) (s : State) : Ans := .next (s.arrive p { k with ty := Ty.ack })
def execCredit (p : Fin 8) (k : Packet) (s : State) : Ans := .next (s.arrive p { k with ty := Ty.credit })

/-- A double-bit error of bonded memory, and the failure of a channel's interface (R263, R266, R535). -/
def execBondUncorrectable (g : Fin 1024) (unit : Fin 16777216) (s : State) : Ans := .next (s.uncorrectable g unit)
def execChannelInterfaceFailure (g : Fin 1024) (s : State) : Ans := .next (s.mapOut g)

/-! Rows after which packets and jobs that waited for a claim or a bank may go on. -/

/-- COPY (R241–R245). A courier does not start one while the module is HELD. -/
def execCopy (cl : Fin 48) (k : Fin 4) (mail : Option MailSpec) (s : State) : Ans :=
  .next <| match (s.cluster cl).queue k with
    | q :: _ => if s.mod != .held && dfield (Map.get 0 (s.cluster cl).desc q.desc) 0 1 == 0 then (s.runCopy cl k q mail).settle else s
    | [] => s

/-- A SORT descriptor at the head of its courier's queue goes to the engine it runs on (R197, R198). -/
def State.sortPost (s : State) (d ident : Nat) (f : Die → Die) : State :=
  if s.headsQueue ident 1 then (((s.popPost ident).onDie d f).runOffice d).settle else s

def execAdmission (d : Fin 4) (a : AdmitDesc) (s : State) : Ans :=
  .next (s.sortPost d a.ident fun x => { x with admQ := x.admQ ++ [.admission a] })
def execScatter (d : Fin 4) (a : ScatterDesc) (s : State) : Ans :=
  .next (s.sortPost d a.ident fun x => { x with admQ := x.admQ ++ [.scatter a] })
def execSend (d : Fin 4) (a : SendDesc) (s : State) : Ans :=
  .next (s.sortPost d a.ident fun x => { x with parQ := x.parQ ++ [.send a] })
def execLand (d : Fin 4) (a : LandDesc) (s : State) : Ans :=
  .next (s.sortPost d a.ident fun x => { x with parQ := x.parQ ++ [.land a] })

/-- SLOT_ASSIGNMENT (R208, R214): once P_C and every part are visible, and the banks of its outputs awake. -/
def execSlotAssignment (d : Fin 4) (s : State) : Ans :=
  .next <| match (s.die d).rounds with
    | r :: _ =>
      if s.assignDue d r then match s.reachAll (admitOuts r.desc d (s.layer d r.desc.layer)) with
        | (s, true) => ((s.assignRound d r).runOffice d).settle
        | (s, false) => s
      else s
    | [] => s

def execLandRelease (d : Fin 4) (region pf : Nat) (s : State) : Ans :=
  .next <| match (s.die d).landing region pf with
    | some l => ((s.settleLanding d l).runOffice d).settle
    | none => s

def execMatchKeys (m : MatchDesc) (s : State) : Ans :=
  .next <| match s.startMatch m with
    | (s, true) => ((s.popPost m.ident).runMatch m).settle
    | (s, false) => s

def execWakeComplete (g : Fin 384) (b : Fin 32) (s : State) : Ans :=
  .next (if (s.core g).bank b = .waking then (s.onCore g fun c => c.woken b).settle else s)

end Sys2Proof.Machine
end

