-- ==== Sys2Proof/Machine/MoveOps.lean ====
section
/-!
DEFINITION. The tile-move path of a core (R131–R133): vector loads and stores and tile moves. Twin fills and group loads are with
the arrays; courier posts are with the clusters.
-/
namespace Sys2Proof.Machine

/-- BF16 and G16 tiles load into a BF16 register; every other format widens to FP32 (R132). -/
def loadsBf16 (code : Nat) : Bool := code == 0 || code == 8

/-- One element as it is loaded: BF16 and FP32 as they are, G16 under R88, every other format widened exactly. -/
def loadElem (t : FmtInfo) (code : Nat) (d : DTile) (i j : Nat) : Nat :=
  let c := d.code.getD (i * 128 + j) 0
  if code = 0 ∨ code = 7 then c
  else if t.g16 then FFmt.bf16.encode .rne (tileVal d t i j)
  else rne32 (tileVal d t i j)

/-- The bytes a band of `n` lines from `aux` lies in: rows and their scales; columns reach over the whole tile, and a compressed tile is read
whole. -/
def Core.bandBytes (c : Core) (e : Env) (t : FmtInfo) (acc : Bool) (a : Nat) (tr : Bool) (aux n : Nat) : List (Nat × Nat) :=
  if tr || (c.carriedAt acc a).isSome then [(a, c.markedSize e t acc a)]
  else
    let k := min n (128 - aux)
    (a + 16 * t.width * aux, 16 * t.width * k) :: (if t.hasScale then [(a + t.elemBytes + 4 * aux, 4 * k)] else [])

/-- VLD (R131–R133): one band of the tile into V, rows from AUX, or columns where transposed. A band that runs past the tile's 128
rows or columns has no stated contents there and takes the free value; one that runs past the end of its space raises 0x1302 (log 91).
`opt` says that this is an optimizer instruction (R109). -/
def Core.vld (e : Env) (free : Nat → Nat) (opt : Nat → Bool) (t : FmtInfo) (core code v addr : Nat) (x : W64) (tr : Bool) (aux : Nat) (c : Core) : CRes :=
  let refuse := fun (c : Core) => (e.done (c.poisonV v) [.fault 0x1302]).after 6 [.vecPoison v]
  match effAddr addr x with
  | none => refuse c
  | some (acc, a) =>
    let b16 := loadsBf16 code
    let rows := if b16 then 32 else 16
    let band := c.bandBytes e t acc a tr aux rows
    if band.any fun s => decide (spaceBytes acc < s.1 + s.2) then refuse c
    else
      c.issue e { units := [.tileMove], reads := band.map (fun s => tileUnits acc s.1 s.2), writes := [(5, v, 1)], lasts := 2 } fun c =>
        let d := c.readMarked e t code acc a
        let elem := fun r j =>
          if aux + r ≥ 128 then free (r * 128 + j) else if tr then loadElem t code d j (aux + r) else loadElem t code d (aux + r) j
        let invalid := fun i j => t.g16 && d.code.getD (i * 128 + j) 0 == 0x8000
        let rowP := fun r =>
          if aux + r ≥ 128 then false
          else if tr then d.poison.any id || (List.range 128).any fun i => invalid i (aux + r)
          else d.poison.getD (aux + r) false || (List.range 128).any fun j => invalid (aux + r) j
        let lane := fun i => elem (i / 128) (i % 128)
        let c := c.putV v (if b16 then fun w => lane (2 * w) % 65536 + 65536 * (lane (2 * w + 1) % 65536) else fun w => lane w % 2 ^ 32)
          fun g => rowP (if b16 then g else g / 2)
        let bad := (List.range rows).any rowP
        let c := c.usePorts e acc false false 0 [banksOfAll band, banksOfAll band]
        e.wroteV c v 6 (corruptEvs 0 core a d ++ (if bad && opt a then [.dirty] else []))

/-- A raw element that is an infinity or a NaN in its format. -/
def nonFinite (code x : Nat) : Bool :=
  match (if code = 7 then FFmt.f32 else if code = 0 then FFmt.bf16 else FFmt.f16).decode x with
  | .fin .. => false
  | _ => true

/-- VST (R132): V as 8 KiB of raw bits, from row AUX of the tile. -/
def Core.vst (e : Env) (opt : Nat → Bool) (code v addr : Nat) (x : W64) (aux : Nat) (c : Core) : CRes :=
  match effAddr addr x with
  | none => e.done c [.fault 0x1302]
  | some (acc, t) =>
    let w := if code = 7 then 4 else 2
    let a := t + aux * 128 * w
    if a + 8192 > spaceBytes acc then e.done c [.fault 0x1302]
    else
      c.issue e { units := [.tileMove], writes := [tileUnits acc a 8192], lasts := 2 } fun c =>
        let byte := fun k => BitVec.ofNat 8 (c.vw v (k / 4) / 256 ^ (k % 4))
        let chunk := if acc then 512 else 256
        let ws := (List.range (8192 / chunk)).map fun i =>
          Write.bytes acc (a + i * chunk) ((List.range chunk).map fun k => byte (i * chunk + k))
            ((List.range (chunk / 256)).any fun g => c.vp v (i * (chunk / 256) + g))
        let lane := fun i => if w = 4 then c.vw v i else c.vh v i
        let bad := c.anyVp v || (List.range (8192 / w)).any fun i => nonFinite code (lane i)
        let d := (c.lands ws).usePorts e acc true false 0 [banksOf a 4096, banksOf (a + 4096) 4096]
        (e.done d (if bad && opt a then [.dirty] else [])).after 4 ws false true

/-- The address a register holds, in the form of the ADDR field (R131): R132 does not say what form x[XC] takes; a value that needs more than
its 15 bits raises 0x1302 (DESIGN CHOICE, log 92). -/
def regAddr (x : W64) : Option (Bool × Nat) := if x.toNat < 32768 then effAddr x.toNat 0#64 else none

/-- The writes of a copy of bytes with their poison, 64 bytes at a time in the tile store and a row at a time in the accumulator store. -/
def Core.copyWrites (c : Core) (sacc : Bool) (s : Nat) (dacc : Bool) (d n : Nat) : List Write :=
  let u := if dacc then 512 else 64
  (List.range ((n + u - 1) / u)).map fun i =>
    let k := min u (n - i * u)
    .bytes dacc (d + i * u) ((List.range k).map fun b => c.tileByte sacc (s + i * u + b)) (c.anyPoison sacc (s + i * u) k)

/-- The writes of a transposed copy: row i of the destination from column i of the tile, poisoned where any row of it is (R74). -/
def transposeWrites (t : FmtInfo) (tile : DTile) (dacc : Bool) (d : Nat) : List Write :=
  let w := t.width / 8
  let any := tile.poison.any id
  (List.range 128).map fun i =>
    .bytes dacc (d + i * 128 * w) ((List.range (128 * w)).map fun k => BitVec.ofNat 8 (tile.code.getD (k / w * 128 + i) 0 / 256 ^ (k % w))) any

/-- TMOV (R132, R180): one tile of FMT's size, transposed if T is set, then decoded where it is compressed; a compressed tile is otherwise
copied as it is, header included. -/
def Core.tmov (e : Env) (t : FmtInfo) (core code addr : Nat) (x xc : W64) (tr : Bool) (c : Core) : CRes :=
  match effAddr addr x, regAddr xc with
  | some (sacc, s), some (dacc, d) =>
    let size := c.markedSize e t sacc s
    let out := if tr then t.tileBytes else size
    let occ := (t.tileBytes + 4095) / 4096
    if s + size > spaceBytes sacc ∨ d + out > spaceBytes dacc then e.done c [.fault 0x1302]
    else
      c.issue e { units := [.tileMove], reads := [tileUnits sacc s size], writes := [tileUnits dacc d out], lasts := occ } fun c =>
        let tile := c.readMarked e t code sacc s
        let ws := if tr then transposeWrites t tile dacc d
          else c.copyWrites sacc s dacc d size ++ (match c.carriedAt sacc s with
            | some tensor => [.carried dacc d tensor]
            | none => [])
        let lines := fun (a n : Nat) => (List.range occ).map fun i => banksOf (a + 4096 * i) (min 4096 (n - 4096 * i))
        let c' := ((c.lands ws).usePorts e sacc false false 0 (lines s size)).usePorts e dacc true false 4 (lines d out)
        (e.done c' (if tr then corruptEvs 0 core s tile else [])).after (occ + 4) ws false true
  | _, _ => e.done c [.fault 0x1302]

end Sys2Proof.Machine
end

