-- ==== Sys2Proof/Machine/ScalarOps.lean ====
section
/-!
DEFINITION. The scalar processor of a core (R134–R136): arithmetic, memory accesses, hand-off registers and branches, as functions of
the core and the thread.
-/
namespace Sys2Proof.Machine

/-- A thread 1–3 moves on to its next program word; thread 0 has none (R134). -/
def Core.nextWord (c : Core) (t : Nat) : Core :=
  if t = 0 then c else c.setThread t { c.thread t with pc := (c.thread t).pc + 1, stalled := false }

/-- A register result: written, and the thread moves on. -/
def Core.scalar (t xd : Nat) (v : W64) (c : Core) : Core := (c.wt t xd v).nextWord t

/-- The signed immediate of R136. -/
def immVal (imm : BitVec 19) : W64 := imm.signExtend 64

/-- DIVU: unsigned quotient, all ones for a zero divisor; a thread 1–3 is held 20 cycles, thread 0's divider is occupied 20 (R134,
R136). -/
def divu (a b : W64) : W64 := if b = 0#64 then BitVec.allOnes 64 else a / b

def Core.divide (e : Env) (t xd xs1 xs2 : Nat) (c : Core) : CRes :=
  let q := divu (c.rt t xs1) (c.rt t xs2)
  if t = 0 then c.issue e { units := [.divider], lasts := 20 } fun c => (e.done (c.wx xd q)).after 20 [.x xd q]
  else
    let c := c.scalar t xd q
    e.done (c.setThread t { c.thread t with busy := 20 })

/-- Signed minimum, maximum and less-than of R136. -/
def smin (a b : W64) : W64 := if a.sle b then a else b
def smax (a b : W64) : W64 := if a.sle b then b else a
def slt64 (a b : W64) : W64 := if a.slt b then 1#64 else 0#64

/-! Scalar data memory (R135). -/

/-- A thread may read, or write, these bytes. -/
def sdmMayRead (t a n : Nat) : Bool :=
  decide (a + n ≤ 0x18000) || (t != 0 && decide (0x16000 + 0x2000 * t ≤ a) && decide (a + n ≤ 0x18000 + 0x2000 * t))
def sdmMayWrite (t a n : Nat) : Bool :=
  if t = 0 then decide (a + n ≤ 0x18000) else decide (0x16000 + 0x2000 * t ≤ a) && decide (a + n ≤ 0x18000 + 0x2000 * t)

/-- A disallowed access: not executed; a thread 1–3 halts (R135). -/
def Core.sdmRefuse (e : Env) (t : Nat) (c : Core) : CRes :=
  e.done (if t = 0 then c else c.setThread t { c.thread t with running := false }) [.fault 0x1303]

/-- A thread 1–3 meets an unreleased word: it stalls alone (R135). -/
def Core.threadStall (e : Env) (t : Nat) (c : Core) : CRes := e.done (c.setThread t { c.thread t with stalled := true })

/-- An access of `n` bytes at xs1 + imm: thread 0 stalls the core on an unreleased word, a thread 1–3 stalls alone. -/
def Core.sdmAccess (e : Env) (t a n : Nat) (write : Bool) (body : Core → CRes) (c : Core) : CRes :=
  if !(if write then sdmMayWrite t a n else sdmMayRead t a n) then c.sdmRefuse e t
  else if t = 0 then c.issue e (if write then { writes := [sdmUnits a n] } else { reads := [sdmUnits a n] }) body
  else if (c.blocked { reads := [sdmUnits a n] }).isSome then c.threadStall e t
  else
    let r := body c
    { r with core := r.core.nextWord t }

/-- The effective address of R136. -/
def Core.sdmAddr (c : Core) (t xs1 : Nat) (imm : BitVec 19) : Nat := (c.rt t xs1 + immVal imm).toNat

/-- A word of the range has a double-bit error (R143). -/
def Core.sdmFails (c : Core) (a n : Nat) : Bool := c.sdmBad.any fun w => unitsMeet (2, w, 1) (sdmUnits a n)

/-- A load: 0 with 0x1305 where a word of it has a double-bit error (R143). -/
def Core.load (e : Env) (n t xd xs1 : Nat) (imm : BitVec 19) (c : Core) : CRes :=
  let a := c.sdmAddr t xs1 imm
  c.sdmAccess e t a n false fun c =>
    let v := if c.sdmFails a n then 0#64 else BitVec.ofNat 64 (c.sdmRead a n)
    (e.done (c.wt t xd v) (if c.sdmFails a n then [.fault 0x1305] else [])).after 3 [.x xd v]

def Core.store (e : Env) (n t xs1 xs2 : Nat) (imm : BitVec 19) (c : Core) : CRes :=
  let a := c.sdmAddr t xs1 imm
  c.sdmAccess e t a n true fun c => (e.done (c.sdmWrite a n (c.rt t xs2).toNat)).after 1 [.sdm a n (c.rt t xs2).toNat]

/-! Hand-off registers (R119, R134, R136). -/

/-- GETH: thread 0 takes h[i] and clears its full bit, or stalls while it is empty. -/
def Core.geth (e : Env) (xd i : Nat) (c : Core) : CRes :=
  if Map.get false c.handFull i then
    (e.done ({ c with handFull := Map.set false c.handFull i false }.wx xd (Map.get 0#64 c.hand i))).after 1 [.x xd (Map.get 0#64 c.hand i)]
  else { core := c, stamps := e.stamps, stalled := some 3 }

/-- PUTH of thread t: writes h[4(t − 1) + imm bits 1:0] and sets its full bit; TSTART's claim on it ends. -/
def Core.puth (t xs1 i : Nat) (c : Core) : Core :=
  let h := 4 * (t - 1) + i
  ({ c with
    hand := Map.set 0#64 c.hand h (c.rt t xs1)
    handFull := Map.set false c.handFull h true
    claims := c.claims.filter fun (k : Claim) => !(k.space == 3 && k.first == h) }).nextWord t

/-- A branch of threads 1–3: by imm words from its own word when taken. A target outside the program area is fetched from outside it
(R135): word 1,024 stands for all of those. -/
def Core.branch (t : Nat) (taken : Bool) (imm : BitVec 19) (c : Core) : Core :=
  if taken then
    let p : Int := ((c.thread t).pc : Int) + imm.toInt
    c.setThread t { c.thread t with pc := if 0 ≤ p ∧ p < 1024 then p.toNat else 1024, stalled := false }
  else c.nextWord t

def Core.thalt (t : Nat) (c : Core) : Core := c.setThread t { c.thread t with running := false, stalled := false }

/-! Sync slot (R118, R137). -/

/-- LOOP: the body is the LEN bundles that follow, run COUNT times. -/
def Core.loop (count len : Nat) (c : Core) : Core :=
  { c with loops := { first := c.index + 1, len := len, left := count - 1 } :: c.loops }

/-- TSTART: the thread's four full bits are cleared, its hand-off registers claimed, and it starts at a program word, abandoning any
program it ran. -/
def Core.tstart (t word : Nat) (c : Core) : Core :=
  let h := fun i => 4 * (t - 1) + i
  let claims := (List.range 4).map fun i => ({ ident := c.nextClaim + i, src := 2, space := 3, first := h i, units := 1 } : Claim)
  ({ c with
    handFull := Map.fill false c.handFull (h 0) 4 fun _ => false
    claims := (c.claims.filter fun (k : Claim) => !(k.space == 3 && decide (h 0 ≤ k.first) && decide (k.first ≤ h 3))) ++ claims
    nextClaim := c.nextClaim + 4 }).setThread t { c.thread t with pc := word, running := true, busy := 2, stalled := false }

/-- SEG: the next bundle is bundle 0 of the other half (R117, R137). -/
def Core.seg (c : Core) : Core := { c with segNext := true }

def Core.halt (c : Core) : Core := { c with halted := true, issuing := false }

/-- Where the loops let execution go after the bundle just issued: the first bundle of a loop whose body ends here and has turns left,
else the next bundle (R118). -/
def advanceLoops : List Loop → Nat → List Loop × Nat
  | [], i => ([], i + 1)
  | l :: r, i =>
    if i + 1 = l.first + l.len then
      if l.left = 0 then advanceLoops r i else ({ l with left := l.left - 1 } :: r, l.first)
    else (l :: r, i + 1)

/-- The bundle behind a SEG, and the one behind index 4,095, is bundle 0 of the other half (R117). -/
def Core.advance (c : Core) : Core :=
  let (l, i) := advanceLoops c.loops c.index
  if c.segNext ∨ i = 4096 then
    { c with segNext := false, half := 1 - c.half, index := 0, loops := [], segs := min (c.segs + 1) 0xFFFF }
  else { c with loops := l, index := i }

end Sys2Proof.Machine
end

