-- ==== Sys2Proof/Machine/CoreInstr.lean ====
section
/-!
DEFINITION. A core's instructions in the module: what they read from outside the core, what becomes of the faults and stalls they meet,
and the rows whose effect reaches beyond the core (R114–R145, R354, R419).
-/
namespace Sys2Proof.Machine

/-- A stall by the full brake (R506, R517): a supply warning or a temperature limit, in every state but OFF and STANDBY. -/
def State.fullBrake (s : State) : Bool := (s.pwr.warn || s.pwr.tempBrake) && s.mod != .off && s.mod != .standby

/-- Is the stamp update running (R98)? -/
def State.updating (s : State) : Bool := s.fld Reg.FMT_STAT 1 1 == 1

/-- What an instruction of core `g` reads from outside the core. A conversion waits from its core's STEPEND until the decision is
applied, and through the stamp update (R98, R164). -/
def State.env (s : State) (g : Nat) : Env :=
  { entry := fun c => s.reg (Reg.FMT_ENTRY10 + 4 * (c - 10))
    seed := s.reg64 Reg.FMT_SEED_LO
    step := s.step40
    node := s.node
    pm := s.pm
    updating := s.updating || (s.core g).stepEnd
    stamps := (s.die (g / 96)).stamps
    policy := fun t => Map.get 0 (s.die (g / 96)).policy t
    timed := s.inBundle }

/-- An instruction that stalls waits, with those that follow it (R120). -/
def State.wait (s : State) (g : Nat) (i : Instr) : State :=
  { s with waiting := Map.set [] s.waiting g (Map.get [] s.waiting g ++ [i]) }

/-- Take over what an instruction left: the core, the die's stamps, what it tells the module, and a stall. -/
def State.takeCore (s : State) (g : Nat) (i : Instr) (r : CRes) : State :=
  let s := s.setCore g r.core
  let s := if (s.die (g / 96)).stamps = r.stamps then s else s.onDie (g / 96) fun d => { d with stamps := r.stamps }
  let s := s.tells g r.evs
  match r.stalled with
  | some cause => (s.stallCore g cause).wait g i
  | none => s

/-- The cause a core is stopped for before it issues anything: the stall it is in, the full brake, or HELD (R60, R142). -/
def State.frozen (s : State) (g : Nat) : Option Nat :=
  if (s.core g).stall ≠ 0 then some (s.core g).stall
  else if s.fullBrake then some 5
  else if s.mod = .held then some 6
  else none

/-- Issue an instruction of thread 0's stream: no core runs but in RUNNING and HELD (R3, log 13); a frozen core issues nothing, and it waits.
What the core's own stream issues leaves its writes under way (R115). -/
def State.issue (s : State) (g : Nat) (i : Instr) (f : Env → Core → CRes) : State :=
  if !s.live then s
  else match s.frozen g with
  | some cause => (s.stallCore g cause).wait g i
  | none =>
    let r := f (s.env g) (s.core g)
    s.takeCore g i (if s.inBundle then r.deferred (s.core g) else r)

/-- Run an instruction of threads 1–3, which run on while the core is stalled (R116). In HELD they freeze with it (R361). -/
def State.runThread (s : State) (g : Nat) (i : Instr) (f : Env → Core → CRes) : State :=
  if !s.live then s else if s.mod == .held then s.wait g i else s.takeCore g i (f (s.env g) (s.core g))

/-- A scalar instruction of thread `t`. -/
def State.scalar (s : State) (g t : Nat) (i : Instr) (f : Env → Core → CRes) : State :=
  if t = 0 then s.issue g i f else s.runThread g i f

/-- A form the image check refuses, so that no core issues it. -/
def illegal (mnemonic : String) : Ans := .refused (.illFormed mnemonic)

/-- Run with a format, where its code names one (R83, R85). -/
def withFmt (s : State) (mnemonic : String) (code : Nat) (ok : Bool) (f : FmtInfo → State) : Ans :=
  match s.fmt code with
  | some t => if ok then .next (f t) else illegal mnemonic
  | none => illegal mnemonic

/-- Codes an array operand may name (R83). -/
def arrayCode (code : Nat) : Bool := decide (code ≤ 6) || decide (10 ≤ code)

/-- Values of the model's free counter, and the counter past `n` of them. -/
def State.freeAt (s : State) (i : Nat) : Nat := (Config.freeValue (s.freeIx + i)).toNat
def State.freeSkip (s : State) (n : Nat) : State := { s with freeIx := s.freeIx + n }

/-- Is the instruction a core is at one of the optimizer (R109)? -/
def State.optimizer (s : State) (g : Nat) (_ : Nat) : Bool := Config.optimizer g ((s.core g).half * 4096 + (s.core g).index)

/-! Array slots (R122). -/

def State.adesc (s : State) (g d : Nat) : ArrDesc := (s.core g).descAt d

def execRload (g : Fin 384) (arr : Arr) (d : Fin 256) (xa : Fin 32) (s : State) : Ans :=
  let x := s.adesc g d
  withFmt s "RLOAD" x.fmt (arrayCode x.fmt) fun t =>
    s.issue g (.rload g arr d xa) fun e c => c.rload e t g arr x (c.rx xa)

def execStream (g : Fin 384) (arr : Arr) (d : Fin 256) (xa xn : Fin 32) (swap : Bool) (grp : Fin 8) (start : Fin 4096) (s : State) : Ans :=
  let x := s.adesc g d
  withFmt s "STREAM" x.fmt (arrayCode x.fmt) fun t =>
    s.issue g (.stream g arr d xa xn swap grp start) fun e c => c.stream e t g arr x (c.rx xa) (c.rx xn) swap grp start

/-- TWIN (R64, R122): its operands are the twin buffer's and the resident registers'. -/
def execTwin (g : Fin 384) (d : Fin 256) (xa xn : Fin 32) (swap : Bool) (grp : Fin 8) (start : Fin 4096) (s : State) : Ans :=
  .next (s.issue g (.twin g d xa xn swap grp start) fun e c => c.twin e (s.adesc g d) (c.rx xa) (c.rx xn) swap grp start)

def execGopenClear (g : Fin 384) (arr : Arr) (d : Fin 256) (grp : Fin 8) (s : State) : Ans :=
  .next (s.issue g (.gopenClear g arr d grp) fun e c => c.gopenClear e arr grp (s.adesc g d).first (s.adesc g d).count)

/-- GCLOSE: E8M0 is no target (R83). -/
def execGclose (g : Fin 384) (arr : Arr) (d : Fin 256) (xa : Fin 32) (grp : Fin 8) (s : State) : Ans :=
  let x := s.adesc g d
  withFmt s "GCLOSE" x.dfmt (x.dfmt != 9) fun t =>
    s.issue g (.gclose g arr d xa grp) fun e c => c.gclose e t arr x (c.rx xa) grp

def execGcloseComplete (g : Fin 384) (grp : Fin 8) (s : State) : Ans :=
  .next ((s.onCore g fun c => c.gcloseComplete grp).settle)

def execGcloseKeep (g : Fin 384) (arr : Arr) (grp : Fin 8) (s : State) : Ans :=
  .next (s.issue g (.gcloseKeep g arr grp) fun e c => c.gcloseKeep e arr grp)

/-! Tile-move slot (R131, R132). -/

def execVld (g : Fin 384) (fmt : Fin 16) (v : Fin 32) (addr : Fin 32768) (xa : Fin 32) (tr : Bool) (aux : Fin 512) (s : State) : Ans :=
  withFmt s "VLD" fmt true fun t =>
    (s.issue g (.vld g fmt v addr xa tr aux) fun e c =>
      c.vld e s.freeAt (s.optimizer g) t g fmt v addr (c.rx xa) tr aux).freeSkip 4096

def execVst (g : Fin 384) (fmt : Fin 16) (v : Fin 32) (addr : Fin 32768) (xa : Fin 32) (aux : Fin 512) (s : State) : Ans :=
  if fmt.val = 0 ∨ fmt.val = 1 ∨ fmt.val = 7 then
    .next (s.issue g (.vst g fmt v addr xa aux) fun e c => c.vst e (s.optimizer g) fmt v addr (c.rx xa) aux)
  else illegal "VST"

def execTmov (g : Fin 384) (fmt : Fin 16) (addr : Fin 32768) (xa xc : Fin 32) (tr : Bool) (s : State) : Ans :=
  match s.fmt fmt with
  | some t =>
    if tr && t.hasScale then illegal "TMOV"
    else .next (s.issue g (.tmov g fmt addr xa xc tr) fun e c => c.tmov e t g fmt addr (c.rx xa) (c.rx xc) tr)
  | none => illegal "TMOV"

def execTfill (g : Fin 384) (fmt : Fin 16) (addr : Fin 32768) (xa : Fin 32) (s : State) : Ans :=
  withFmt s "TFILL" fmt (arrayCode fmt) fun t => s.issue g (.tfill g fmt addr xa) fun e c => c.tfill e t g fmt addr (c.rx xa)

/-- GOPEN.LOAD takes FP32, BF16, FP16 and G16 (R62). -/
def execGopenLoad (g : Fin 384) (fmt : Fin 16) (grp : Fin 8) (addr : Fin 32768) (xa : Fin 32) (count first : Fin 32) (s : State) : Ans :=
  withFmt s "GOPEN_LOAD" fmt (decide (fmt.val ≤ 1) || fmt.val == 7 || fmt.val == 8) fun t =>
    s.issue g (.gopenLoad g fmt grp addr xa count first) fun e c => c.gopenLoad e t g fmt grp addr (c.rx xa) first (count.val + 1)

def execCpost (g : Fin 384) (k : Fin 4) (xa : Fin 32) (d : Fin 512) (s : State) : Ans :=
  .next <|
    let i := Instr.cpost g k xa d
    if !s.live then s
    else match s.frozen g with
    | some cause => (s.stallCore g cause).wait g i
    | none =>
      let (t, stalled) := s.cpost g k xa d
      if stalled then t.wait g i else t

/-! Vector slot (R125–R130). -/

/-- An instruction that writes vector register `vd`, seen after `lat` cycles. -/
def State.vec (s : State) (g : Nat) (i : Instr) (vd lat : Nat) (f : Core → Core) : State :=
  s.issue g i fun e c => c.issue e (vecUses vd) fun c => e.wroteV (f c) vd lat

/-- An instruction that changes the core's control state alone. -/
def State.control (s : State) (g : Nat) (i : Instr) (f : Core → Core) : State := s.issue g i fun e c => e.done (f c)

def execVadd (g : Fin 384) (ty : VTy) (vd va vb : Fin 32) (s : State) : Ans :=
  .next (s.vec g (.vadd g ty vd va vb) vd 4 (Core.vec2 ty (laneAdd ty) vd va vb))
def execVsub (g : Fin 384) (ty : VTy) (vd va vb : Fin 32) (s : State) : Ans :=
  .next (s.vec g (.vsub g ty vd va vb) vd 4 (Core.vec2 ty (laneSub ty) vd va vb))
def execVmul (g : Fin 384) (ty : VTy) (vd va vb : Fin 32) (s : State) : Ans :=
  .next (s.vec g (.vmul g ty vd va vb) vd 4 (Core.vec2 ty (laneMul ty) vd va vb))
def execVfma (g : Fin 384) (ty : VTy) (vd va vb vc : Fin 32) (s : State) : Ans :=
  .next (s.vec g (.vfma g ty vd va vb vc) vd 4 (Core.vfma ty vd va vb vc))
def execVmin (g : Fin 384) (ty : VTy) (vd va vb : Fin 32) (s : State) : Ans :=
  .next (s.vec g (.vmin g ty vd va vb) vd 2 (Core.vec2 ty (laneMin ty) vd va vb))
def execVmax (g : Fin 384) (ty : VTy) (vd va vb : Fin 32) (s : State) : Ans :=
  .next (s.vec g (.vmax g ty vd va vb) vd 2 (Core.vec2 ty (laneMax ty) vd va vb))
def execVcmplt (g : Fin 384) (ty : VTy) (vd va vb : Fin 32) (s : State) : Ans :=
  .next (s.vec g (.vcmplt g ty vd va vb) vd 2 (Core.vec2 ty (laneLt ty) vd va vb))
def execVcmpeq (g : Fin 384) (ty : VTy) (vd va vb : Fin 32) (s : State) : Ans :=
  .next (s.vec g (.vcmpeq g ty vd va vb) vd 2 (Core.vec2 ty (laneEq ty) vd va vb))
def execVsel (g : Fin 384) (ty : VTy) (vd va vb vc : Fin 32) (s : State) : Ans :=
  .next (s.vec g (.vsel g ty vd va vb vc) vd 2 (Core.vsel ty vd va vb vc))
def execVand (g : Fin 384) (ty : VTy) (vd va vb : Fin 32) (s : State) : Ans :=
  .next (s.vec g (.vand g ty vd va vb) vd 2 (Core.vec2 ty Nat.land vd va vb))
def execVor (g : Fin 384) (ty : VTy) (vd va vb : Fin 32) (s : State) : Ans :=
  .next (s.vec g (.vor g ty vd va vb) vd 2 (Core.vec2 ty Nat.lor vd va vb))
def execVxor (g : Fin 384) (ty : VTy) (vd va vb : Fin 32) (s : State) : Ans :=
  .next (s.vec g (.vxor g ty vd va vb) vd 2 (Core.vec2 ty Nat.xor vd va vb))
def execVbcast (g : Fin 384) (ty : VTy) (vd xs : Fin 32) (s : State) : Ans :=
  .next (s.vec g (.vbcast g ty vd xs) vd 2 (Core.vbcast ty vd xs))

def execVcvt (g : Fin 384) (ty : VTy) (vd va vb : Fin 32) (sr : Bool) (tensor : Fin 4096) (xs : Fin 32) (upper : Bool) (s : State) : Ans :=
  .next ((s.issue g (.vcvt g ty vd va vb sr tensor xs upper) fun e c => c.vcvt e s.freeAt ty vd va vb sr tensor xs upper).freeSkip 2048)

/-- VCVTS (R129): the source is FP32 or BF16 registers, from a multiple of eight or of four. -/
def execVcvts (g : Fin 384) (ty : VTy) (va : Fin 32) (sr : Bool) (tensor : Fin 4096) (xs : Fin 32) (fmt : Fin 16) (s : State) : Ans :=
  withFmt s "VCVTS" fmt (fmt.val != 9 && ((ty == .f32 && va.val % 8 == 0) || (ty == .bf16 && va.val % 4 == 0))) fun t =>
    s.issue g (.vcvts g ty va sr tensor xs fmt) fun e c => c.vcvts e t fmt ty va sr tensor xs

/-- The special-function unit (R127). An INT32 lane has no stated result. -/
def State.special (s : State) (g : Nat) (i : Instr) (f : FV → FV) (ty : VTy) (vd va : Nat) : State :=
  (s.issue g i fun e c => c.issue e { units := [.special], writes := [(5, vd, 1)], lasts := if ty = .bf16 then 8 else 4 } fun c =>
    e.wroteV (c.vspecial s.freeAt f ty vd va) vd (if ty = .bf16 then 20 else 16)).freeSkip 2048

def execVexp (g : Fin 384) (ty : VTy) (vd va : Fin 32) (s : State) : Ans := .next (s.special g (.vexp g ty vd va) sfExp ty vd va)
def execVrcp (g : Fin 384) (ty : VTy) (vd va : Fin 32) (s : State) : Ans := .next (s.special g (.vrcp g ty vd va) sfRcp ty vd va)
def execVrsqrt (g : Fin 384) (ty : VTy) (vd va : Fin 32) (s : State) : Ans := .next (s.special g (.vrsqrt g ty vd va) sfRsqrt ty vd va)
def execVlog (g : Fin 384) (ty : VTy) (vd va : Fin 32) (s : State) : Ans := .next (s.special g (.vlog g ty vd va) sfLog ty vd va)

def execVrsum (g : Fin 384) (ty : VTy) (vd va : Fin 32) (s : State) : Ans :=
  .next (s.vec g (.vrsum g ty vd va) vd 10 (Core.vrow ty (rowSum ty) vd va))
def execVrmax (g : Fin 384) (ty : VTy) (vd va : Fin 32) (s : State) : Ans :=
  .next (s.vec g (.vrmax g ty vd va) vd 10 (Core.vrow ty (rowMax ty) vd va))

/-- VTOPK (R130): the source is FP32 or BF16. -/
def execVtopk (g : Fin 384) (ty : VTy) (xs : Fin 32) (k : Fin 16) (l : Fin 128) (s : State) : Ans :=
  if ty = .int32 then illegal "VTOPK"
  else .next (s.issue g (.vtopk g ty xs k l) fun e c => c.vtopk e ty xs (k.val + 1) (32 * (l.val + 1)))

/-! Scalar instructions (R134–R136). -/

/-- A result register written, seen after `lat` cycles (R136). -/
def State.alu (s : State) (g t : Nat) (i : Instr) (xd : Nat) (f : Core → W64) (lat : Nat := 1) : State :=
  s.scalar g t i fun e c => (e.done (c.scalar t xd (f c))).after lat [.x xd (f c)]

def execAdd (g : Fin 384) (t : Fin 4) (xd xs1 xs2 : Fin 32) (s : State) : Ans :=
  .next (s.alu g t (.add g t xd xs1 xs2) xd fun c => c.rt t xs1 + c.rt t xs2)
def execAddi (g : Fin 384) (t : Fin 4) (xd xs1 : Fin 32) (imm : BitVec 19) (s : State) : Ans :=
  .next (s.alu g t (.addi g t xd xs1 imm) xd fun c => c.rt t xs1 + immVal imm)
def execSub (g : Fin 384) (t : Fin 4) (xd xs1 xs2 : Fin 32) (s : State) : Ans :=
  .next (s.alu g t (.sub g t xd xs1 xs2) xd fun c => c.rt t xs1 - c.rt t xs2)
def execAnd (g : Fin 384) (t : Fin 4) (xd xs1 xs2 : Fin 32) (s : State) : Ans :=
  .next (s.alu g t (.and g t xd xs1 xs2) xd fun c => c.rt t xs1 &&& c.rt t xs2)
def execOr (g : Fin 384) (t : Fin 4) (xd xs1 xs2 : Fin 32) (s : State) : Ans :=
  .next (s.alu g t (.or g t xd xs1 xs2) xd fun c => c.rt t xs1 ||| c.rt t xs2)
def execXor (g : Fin 384) (t : Fin 4) (xd xs1 xs2 : Fin 32) (s : State) : Ans :=
  .next (s.alu g t (.xor g t xd xs1 xs2) xd fun c => c.rt t xs1 ^^^ c.rt t xs2)

/-- Shift amounts are imm bits 5:0. -/
def shiftBy (imm : BitVec 19) : Nat := imm.toNat % 64

def execShli (g : Fin 384) (t : Fin 4) (xd xs1 : Fin 32) (imm : BitVec 19) (s : State) : Ans :=
  .next (s.alu g t (.shli g t xd xs1 imm) xd fun c => c.rt t xs1 <<< shiftBy imm)
def execShri (g : Fin 384) (t : Fin 4) (xd xs1 : Fin 32) (imm : BitVec 19) (s : State) : Ans :=
  .next (s.alu g t (.shri g t xd xs1 imm) xd fun c => c.rt t xs1 >>> shiftBy imm)
def execSrai (g : Fin 384) (t : Fin 4) (xd xs1 : Fin 32) (imm : BitVec 19) (s : State) : Ans :=
  .next (s.alu g t (.srai g t xd xs1 imm) xd fun c => (c.rt t xs1).sshiftRight (shiftBy imm))
def execShlor (g : Fin 384) (t : Fin 4) (xd xs1 : Fin 32) (imm : BitVec 19) (s : State) : Ans :=
  .next (s.alu g t (.shlor g t xd xs1 imm) xd fun c => c.rt t xs1 <<< 19 ||| imm.zeroExtend 64)
def execMul (g : Fin 384) (t : Fin 4) (xd xs1 xs2 : Fin 32) (s : State) : Ans :=
  .next (s.alu g t (.mul g t xd xs1 xs2) xd (fun c => c.rt t xs1 * c.rt t xs2) 3)
def execDivu (g : Fin 384) (t : Fin 4) (xd xs1 xs2 : Fin 32) (s : State) : Ans :=
  .next (s.scalar g t (.divu g t xd xs1 xs2) fun e c => c.divide e t xd xs1 xs2)
def execMin (g : Fin 384) (t : Fin 4) (xd xs1 xs2 : Fin 32) (s : State) : Ans :=
  .next (s.alu g t (.min g t xd xs1 xs2) xd fun c => smin (c.rt t xs1) (c.rt t xs2))
def execMax (g : Fin 384) (t : Fin 4) (xd xs1 xs2 : Fin 32) (s : State) : Ans :=
  .next (s.alu g t (.max g t xd xs1 xs2) xd fun c => smax (c.rt t xs1) (c.rt t xs2))
def execSlt (g : Fin 384) (t : Fin 4) (xd xs1 xs2 : Fin 32) (s : State) : Ans :=
  .next (s.alu g t (.slt g t xd xs1 xs2) xd fun c => slt64 (c.rt t xs1) (c.rt t xs2))
def execRdpm (g : Fin 384) (t : Fin 4) (xd : Fin 32) (s : State) : Ans :=
  .next (s.alu g t (.rdpm g t xd) xd fun _ => BitVec.ofNat 64 (s.env g).pm)

def execLd (g : Fin 384) (t : Fin 4) (xd xs1 : Fin 32) (imm : BitVec 19) (s : State) : Ans :=
  .next (s.scalar g t (.ld g t xd xs1 imm) fun e c => c.load e 8 t xd xs1 imm)
def execLw (g : Fin 384) (t : Fin 4) (xd xs1 : Fin 32) (imm : BitVec 19) (s : State) : Ans :=
  .next (s.scalar g t (.lw g t xd xs1 imm) fun e c => c.load e 4 t xd xs1 imm)

/-- The service slot whose REQUEST's kind byte lies in a written range (R419). -/
def serviceIn (a n : Nat) : Option Nat := (List.range 4).find? fun i => decide (a ≤ serviceAddr i) && decide (serviceAddr i < a + n)

/-- A write of REQUEST with a non-zero kind hands the slot to the control core, and ANSWER is claimed until it is written. -/
def Core.request (a n : Nat) (c : Core) : Core :=
  match serviceIn a n with
  | some i =>
    let kind := (c.sdmByte (serviceAddr i)).toNat
    if kind = 0 ∨ (c.service i).isSome then c
    else
      let v : Service := { kind := kind, arg := (List.range 16).map fun j => c.sdmByte (serviceAddr i + 8 + j) }
      (({ c with services := Map.set none c.services i (some v) } : Core).claim
        { ident := 0, src := 3, space := 2, first := (serviceAddr i + 24) / 8, units := 1 }).1
  | none => c

/-- A store of thread 0 that was made reaches a service slot; one of the core's own stream reaches it when it lands. -/
def State.storeDone (s : State) (g t a n : Nat) : State :=
  if t = 0 ∧ sdmMayWrite 0 a n ∧ (s.core g).stall = 0 ∧ s.live ∧ !s.inBundle then (s.onCore g (Core.request a n)).serveUnknown g else s

def execSt (g : Fin 384) (t : Fin 4) (xs1 xs2 : Fin 32) (imm : BitVec 19) (s : State) : Ans :=
  .next ((s.scalar g t (.st g t xs1 xs2 imm) fun e c => c.store e 8 t xs1 xs2 imm).storeDone g t ((s.core g).sdmAddr t xs1 imm) 8)
def execSw (g : Fin 384) (t : Fin 4) (xs1 xs2 : Fin 32) (imm : BitVec 19) (s : State) : Ans :=
  .next ((s.scalar g t (.sw g t xs1 xs2 imm) fun e c => c.store e 4 t xs1 xs2 imm).storeDone g t ((s.core g).sdmAddr t xs1 imm) 4)

/-- GETH: thread 0 alone, of h[0] to h[11]. -/
def execGeth (g : Fin 384) (t : Fin 4) (xd : Fin 32) (imm : BitVec 19) (s : State) : Ans :=
  if t.val = 0 ∧ imm.toNat < 12 then .next (s.issue g (.geth g t xd imm) fun e c => c.geth e xd imm.toNat) else illegal "GETH"
def execPuth (g : Fin 384) (t : Fin 4) (xs1 : Fin 32) (imm : BitVec 19) (s : State) : Ans :=
  if t.val = 0 then illegal "PUTH"
  else .next (s.runThread g (.puth g t xs1 imm) fun e c => e.done (c.puth t xs1 (imm.toNat % 4)))

/-- A branch of threads 1–3. -/
def State.branch (s : State) (g t : Nat) (i : Instr) (imm : BitVec 19) (taken : Core → Bool) : State :=
  s.runThread g i fun e c => e.done (c.branch t (taken c) imm)

def execBeq (g : Fin 384) (t : Fin 4) (xs1 xs2 : Fin 32) (imm : BitVec 19) (s : State) : Ans :=
  if t.val = 0 then illegal "BEQ" else .next (s.branch g t (.beq g t xs1 xs2 imm) imm fun c => c.rt t xs1 == c.rt t xs2)
def execBne (g : Fin 384) (t : Fin 4) (xs1 xs2 : Fin 32) (imm : BitVec 19) (s : State) : Ans :=
  if t.val = 0 then illegal "BNE" else .next (s.branch g t (.bne g t xs1 xs2 imm) imm fun c => c.rt t xs1 != c.rt t xs2)
def execBlt (g : Fin 384) (t : Fin 4) (xs1 xs2 : Fin 32) (imm : BitVec 19) (s : State) : Ans :=
  if t.val = 0 then illegal "BLT" else .next (s.branch g t (.blt g t xs1 xs2 imm) imm fun c => (c.rt t xs1).slt (c.rt t xs2))
def execThalt (g : Fin 384) (t : Fin 4) (s : State) : Ans :=
  if t.val = 0 then illegal "THALT" else .next (s.runThread g (.thalt g t) fun e c => e.done (c.thalt t))

/-! Sync slot (R118, R137, R145, R354). -/

/-- A fifth open loop is none the image check passes (R118). -/
def execLoop (g : Fin 384) (count : Fin 4096) (len : Fin 256) (s : State) : Ans :=
  if 4 ≤ (s.core g).loops.length then illegal "LOOP"
  else .next (s.control g (.loop g count len) (Core.loop (count.val + 1) (len.val + 1)))

/-- SEG within a loop body is refused at load (R118). -/
def execSeg (g : Fin 384) (s : State) : Ans :=
  if (s.core g).loops = [] then .next (s.control g (.seg g) Core.seg) else illegal "SEG"

/-- EXPECT: the space is the entry's own (R354). -/
def execExpect (g : Fin 384) (space : Fin 4) (entry : Fin 1024) (s : State) : Ans :=
  let r := (s.core g).relEnt entry
  if space.val = 3 ∨ !r.valid ∨ r.space ≠ space then illegal "EXPECT"
  else
    .next <|
      let i := Instr.expect g space entry
      if !s.live then s
      else match s.frozen g with
      | some cause => (s.stallCore g cause).wait g i
      | none => (s.expectUse g entry).settle

def execTstart (g : Fin 384) (thread : Fin 4) (word : Fin 1024) (s : State) : Ans :=
  if thread.val = 0 then illegal "TSTART" else .next (s.control g (.tstart g thread word) (Core.tstart thread word))

/-- STEPEND (R145, R164): while the previous one waits for its decision, the core stalls; else it claims the decision words. -/
def Core.stepend (e : Env) (next : Nat) (c : Core) : CRes :=
  if c.stepEnd then { core := c, stamps := e.stamps, stalled := some 3 }
  else e.done (({ c with stepEnd := true, stepAt := next } : Core).claim { ident := 0, src := 4, space := 2, first := 0x17FF0 / 8, units := 2 }).1

def execStepend (g : Fin 384) (s : State) : Ans := .next (s.issue g (.stepend g) fun e c => c.stepend e s.nextPost)

/-- HALT (R137, R144): a halted core counts as having executed STEPEND in every later step. -/
def execHalt (g : Fin 384) (s : State) : Ans := .next (s.control g (.halt g) Core.halt)

/-- CLAIM_RELEASE (R37, R354): a claim complete and due is released, and what waited for it goes on. -/
def execClaimRelease (g : Fin 384) (claim : Nat) (s : State) : Ans :=
  .next (if (s.core g).claims.any (fun k => k.ident == claim && s.claimDue k) then (s.onCore g fun c => c.unclaim claim).settle else s)

end Sys2Proof.Machine
end

