-- ==== Sys2Proof/Machine/Reissue.lean ====
section
/-!
DEFINITION. The end of a core's stall (R60, R120): the instructions that waited issue again.
-/
namespace Sys2Proof.Machine

/-- Issue an instruction of a core's stream again. Only those of CoreInstr.lean ever wait. -/
def reissue (i : Instr) (s : State) : Ans :=
  match i with
  | .rload core arr desc xa => execRload core arr desc xa s
  | .stream core arr desc xa xn swap group start => execStream core arr desc xa xn swap group start s
  | .twin core desc xa xn swap group start => execTwin core desc xa xn swap group start s
  | .gopenClear core arr desc group => execGopenClear core arr desc group s
  | .gclose core arr desc xa group => execGclose core arr desc xa group s
  | .gcloseKeep core arr group => execGcloseKeep core arr group s
  | .vld core fmt v addr xa t aux => execVld core fmt v addr xa t aux s
  | .vst core fmt v addr xa aux => execVst core fmt v addr xa aux s
  | .tmov core fmt addr xa xc t => execTmov core fmt addr xa xc t s
  | .tfill core fmt addr xa => execTfill core fmt addr xa s
  | .gopenLoad core fmt group addr xa count first => execGopenLoad core fmt group addr xa count first s
  | .cpost core courier xa desc => execCpost core courier xa desc s
  | .vadd core ty vd va vb => execVadd core ty vd va vb s
  | .vsub core ty vd va vb => execVsub core ty vd va vb s
  | .vmul core ty vd va vb => execVmul core ty vd va vb s
  | .vfma core ty vd va vb vc => execVfma core ty vd va vb vc s
  | .vmin core ty vd va vb => execVmin core ty vd va vb s
  | .vmax core ty vd va vb => execVmax core ty vd va vb s
  | .vcmplt core ty vd va vb => execVcmplt core ty vd va vb s
  | .vcmpeq core ty vd va vb => execVcmpeq core ty vd va vb s
  | .vsel core ty vd va vb vc => execVsel core ty vd va vb vc s
  | .vand core ty vd va vb => execVand core ty vd va vb s
  | .vor core ty vd va vb => execVor core ty vd va vb s
  | .vxor core ty vd va vb => execVxor core ty vd va vb s
  | .vbcast core ty vd xs => execVbcast core ty vd xs s
  | .vcvt core ty vd va vb sr tensor xs upper => execVcvt core ty vd va vb sr tensor xs upper s
  | .vcvts core ty va sr tensor xs fmt => execVcvts core ty va sr tensor xs fmt s
  | .vexp core ty vd va => execVexp core ty vd va s
  | .vrcp core ty vd va => execVrcp core ty vd va s
  | .vrsqrt core ty vd va => execVrsqrt core ty vd va s
  | .vlog core ty vd va => execVlog core ty vd va s
  | .vrsum core ty vd va => execVrsum core ty vd va s
  | .vrmax core ty vd va => execVrmax core ty vd va s
  | .vtopk core ty xs k l => execVtopk core ty xs k l s
  | .add core t xd xs1 xs2 => execAdd core t xd xs1 xs2 s
  | .addi core t xd xs1 imm => execAddi core t xd xs1 imm s
  | .sub core t xd xs1 xs2 => execSub core t xd xs1 xs2 s
  | .and core t xd xs1 xs2 => execAnd core t xd xs1 xs2 s
  | .or core t xd xs1 xs2 => execOr core t xd xs1 xs2 s
  | .xor core t xd xs1 xs2 => execXor core t xd xs1 xs2 s
  | .shli core t xd xs1 imm => execShli core t xd xs1 imm s
  | .shri core t xd xs1 imm => execShri core t xd xs1 imm s
  | .srai core t xd xs1 imm => execSrai core t xd xs1 imm s
  | .shlor core t xd xs1 imm => execShlor core t xd xs1 imm s
  | .mul core t xd xs1 xs2 => execMul core t xd xs1 xs2 s
  | .divu core t xd xs1 xs2 => execDivu core t xd xs1 xs2 s
  | .min core t xd xs1 xs2 => execMin core t xd xs1 xs2 s
  | .max core t xd xs1 xs2 => execMax core t xd xs1 xs2 s
  | .slt core t xd xs1 xs2 => execSlt core t xd xs1 xs2 s
  | .ld core t xd xs1 imm => execLd core t xd xs1 imm s
  | .st core t xs1 xs2 imm => execSt core t xs1 xs2 imm s
  | .lw core t xd xs1 imm => execLw core t xd xs1 imm s
  | .sw core t xs1 xs2 imm => execSw core t xs1 xs2 imm s
  | .rdpm core t xd => execRdpm core t xd s
  | .geth core t xd imm => execGeth core t xd imm s
  | .puth core t xs1 imm => execPuth core t xs1 imm s
  | .beq core t xs1 xs2 imm => execBeq core t xs1 xs2 imm s
  | .bne core t xs1 xs2 imm => execBne core t xs1 xs2 imm s
  | .blt core t xs1 xs2 imm => execBlt core t xs1 xs2 imm s
  | .thalt core t => execThalt core t s
  | .loop core count len => execLoop core count len s
  | .seg core => execSeg core s
  | .expect core space entry => execExpect core space entry s
  | .tstart core thread word => execTstart core thread word s
  | .stepend core => execStepend core s
  | .halt core => execHalt core s
  | _ => .next s

/-- The state an answer goes on with. -/
def nextOr (s : State) (a : Ans) : State := match a with | .next t => t | _ => s

/-- CORE_STALL_END (R60, R120): outside the brake and HELD the core goes on; what waited issues in the order it came, and an instruction
whose units are still unreleased stalls it again. -/
def State.stallEnd (s : State) (g : Nat) : State :=
  if s.fullBrake || s.mod == .held then s
  else
    let l := Map.get [] s.waiting g
    let s := { s.onCore g fun c => { c with stall := 0 } with waiting := Map.set [] s.waiting g [] }
    l.foldl (fun t i => nextOr t (reissue i t)) s

def execCoreStallEnd (g : Fin 384) (s : State) : Ans := .next (s.stallEnd g)

end Sys2Proof.Machine
end

