-- ==== Sys2Proof/Machine/Bundle.lean ====
section
/-!
DEFINITION. The encodings of the instruction stream: the slots of a bundle and the words of thread programs (R114, R122, R125, R126, R131,
R132, R136, R137). A slot decodes to nothing for a NOP, to an instruction, or to `bad` for a reserved code or a bit that must be 0.
-/
namespace Sys2Proof.Machine

/-- What a slot holds. -/
inductive Slot where
  | nop
  | instr (i : Instr)
  | bad
deriving DecidableEq, Repr

/-- A 5-bit register field whose lowest bit is `lo`. -/
def fin5 (w lo : Nat) : Fin 32 := ⟨w / 2 ^ lo % 32, Nat.mod_lt _ (by decide)⟩
/-- A field of `n` bits from `lo`. -/
def finN (n w lo : Nat) : Fin (2 ^ n) := ⟨w / 2 ^ lo % 2 ^ n, Nat.mod_lt _ (Nat.two_pow_pos n)⟩

/-- The 19-bit immediate of R136. -/
def imm19 (w : Nat) : BitVec 19 := BitVec.ofNat 19 w

/-- An array slot (R122). TWIN is encoded in slot A alone. -/
def arraySlot (g : Fin 384) (arr : Arr) (w : Nat) : Slot :=
  let d := finN 8 w 28
  let xa := fin5 w 23
  let xn := fin5 w 18
  let swap := bit w 17
  let grp := finN 3 w 14
  let start := finN 12 w 2
  if w % 4 ≠ 0 then .bad
  else match bits w 39 36 with
    | 0 => .nop
    | 1 => .instr (.rload g arr d xa)
    | 2 => .instr (.stream g arr d xa xn swap grp start)
    | 3 => if arr = .a then .instr (.twin g d xa xn swap grp start) else .bad
    | 4 => .instr (.gopenClear g arr d grp)
    | 5 => .instr (.gclose g arr d xa grp)
    | 6 => .instr (.gcloseKeep g arr grp)
    | _ => .bad

/-- TYPE of a vector instruction. -/
def vtype (w : Nat) : Option VTy :=
  match bits w 55 54 with
  | 0 => some .f32
  | 1 => some .bf16
  | 2 => some .int32
  | _ => none

/-- The vector slot (R125, R126). -/
def vectorSlot (g : Fin 384) (w : Nat) : Slot :=
  let vd := fin5 w 49
  let va := fin5 w 44
  let vb := fin5 w 39
  let vc := fin5 w 34
  let xs := fin5 w 11
  let tensor := finN 12 w 16
  let imm := w % 2048
  let sr := bit w 28
  if bits w 63 56 = 0 then .nop
  else if bits w 33 30 ≠ 0 then .bad
  else match vtype w with
    | none => .bad
    | some ty => match bits w 63 56 with
      | 0x01 => .instr (.vadd g ty vd va vb)
      | 0x02 => .instr (.vsub g ty vd va vb)
      | 0x03 => .instr (.vmul g ty vd va vb)
      | 0x04 => .instr (.vfma g ty vd va vb vc)
      | 0x05 => .instr (.vmin g ty vd va vb)
      | 0x06 => .instr (.vmax g ty vd va vb)
      | 0x07 => .instr (.vcmplt g ty vd va vb)
      | 0x08 => .instr (.vcmpeq g ty vd va vb)
      | 0x09 => .instr (.vsel g ty vd va vb vc)
      | 0x0A => .instr (.vand g ty vd va vb)
      | 0x0B => .instr (.vor g ty vd va vb)
      | 0x0C => .instr (.vxor g ty vd va vb)
      | 0x0D => .instr (.vbcast g ty vd xs)
      | 0x0E => if bit w 29 then .bad else .instr (.vcvt g ty vd va vb sr tensor xs (bit imm 0))
      | 0x0F => if bit w 29 then .bad else .instr (.vcvts g ty va sr tensor xs (finN 4 imm 0))
      | 0x10 => .instr (.vexp g ty vd va)
      | 0x11 => .instr (.vrcp g ty vd va)
      | 0x12 => .instr (.vrsqrt g ty vd va)
      | 0x13 => .instr (.vlog g ty vd va)
      | 0x14 => .instr (.vrsum g ty vd va)
      | 0x15 => .instr (.vrmax g ty vd va)
      | 0x16 => .instr (.vtopk g ty xs (finN 4 imm 7) (finN 7 imm 0))
      | _ => .bad

/-- The tile-move slot (R131, R132). -/
def moveSlot (g : Fin 384) (w : Nat) : Slot :=
  let fmt := finN 4 w 40
  let v := fin5 w 35
  let addr := finN 15 w 20
  let xa := fin5 w 15
  let xc := fin5 w 10
  let tr := bit w 9
  let aux := finN 9 w 0
  match bits w 47 44 with
  | 0 => .nop
  | 1 => .instr (.vld g fmt v addr xa tr aux)
  | 2 => .instr (.vst g fmt v addr xa aux)
  | 3 => .instr (.tmov g fmt addr xa xc tr)
  | 4 => .instr (.tfill g fmt addr xa)
  | 5 => .instr (.gopenLoad g fmt (finN 3 w 35) addr xa xc (fin5 w 0))
  | 6 => .instr (.cpost g (finN 2 w 35) xa aux)
  | _ => .bad

/-- A scalar instruction of thread `t` (R136). -/
def scalarSlot (g : Fin 384) (t : Fin 4) (w : Nat) : Slot :=
  let xd := fin5 w 29
  let a := fin5 w 24
  let b := fin5 w 19
  let imm := imm19 w
  match bits w 39 34 with
  | 0x00 => .nop
  | 0x01 => .instr (.add g t xd a b)
  | 0x02 => .instr (.addi g t xd a imm)
  | 0x03 => .instr (.sub g t xd a b)
  | 0x04 => .instr (.and g t xd a b)
  | 0x05 => .instr (.or g t xd a b)
  | 0x06 => .instr (.xor g t xd a b)
  | 0x07 => .instr (.shli g t xd a imm)
  | 0x08 => .instr (.shri g t xd a imm)
  | 0x09 => .instr (.srai g t xd a imm)
  | 0x0A => .instr (.shlor g t xd a imm)
  | 0x0B => .instr (.mul g t xd a b)
  | 0x0C => .instr (.divu g t xd a b)
  | 0x0D => .instr (.min g t xd a b)
  | 0x0E => .instr (.max g t xd a b)
  | 0x0F => .instr (.slt g t xd a b)
  | 0x10 => .instr (.ld g t xd a imm)
  | 0x11 => .instr (.st g t a b imm)
  | 0x12 => .instr (.lw g t xd a imm)
  | 0x13 => .instr (.sw g t a b imm)
  | 0x14 => .instr (.rdpm g t xd)
  | 0x15 => .instr (.geth g t xd imm)
  | 0x16 => .instr (.puth g t a imm)
  | 0x17 => .instr (.beq g t a b imm)
  | 0x18 => .instr (.bne g t a b imm)
  | 0x19 => .instr (.blt g t a b imm)
  | 0x1A => .instr (.thalt g t)
  | _ => .bad

/-- The sync slot (R137). -/
def syncSlot (g : Fin 384) (w : Nat) : Slot :=
  match bits w 23 20 with
  | 0 => .nop
  | 1 => .instr (.loop g (finN 12 w 8) (finN 8 w 0))
  | 2 => .instr (.seg g)
  | 3 => .instr (.expect g (finN 2 w 18) (finN 10 w 8))
  | 4 => .instr (.tstart g (finN 2 w 18) (finN 10 w 0))
  | 5 => .instr (.stepend g)
  | 6 => .instr (.halt g)
  | _ => .bad

/-- The six slots of a bundle (R114). -/
structure Bundle where
  a : Slot
  b : Slot
  vec : Slot
  move : Slot
  scal : Slot
  sync : Slot
deriving DecidableEq, Repr

/-- A bundle from its 256 bits. Beside a TWIN, array slot B must be a NOP (R122). -/
def bundle (g : Fin 384) (v : Nat) : Bundle :=
  let a := arraySlot g .a (bits v 255 216)
  let b := arraySlot g .b (bits v 215 176)
  { a := a
    b := match a, b with
      | .instr (.twin ..), .nop => .nop
      | .instr (.twin ..), _ => .bad
      | _, b => b
    vec := vectorSlot g (bits v 175 112), move := moveSlot g (bits v 111 64), scal := scalarSlot g 0 (bits v 63 24)
    sync := syncSlot g (bits v 23 0) }

def Bundle.slots (x : Bundle) : List Slot := [x.a, x.b, x.vec, x.move, x.scal, x.sync]

/-- The instruction of a slot, if it holds one. -/
def Slot.get? : Slot → Option Instr
  | .instr i => some i
  | _ => none

end Sys2Proof.Machine
end

