-- ==== Sys2Proof/Machine/Arrive.lean ====
section
/-!
DEFINITION. A frame as its bytes arrive (R288–R296): the checks of R296 on the bytes, up to the packet they spell.
-/
namespace Sys2Proof.Machine

/-- What a received frame turns out to be: dropped, a post packet, or an ARP request or a solicitation for the sub-port's own address. -/
inductive RxKind where
  | drop (c : DropCause)
  | packet (k : Packet)
  | arp
  | solicit
deriving DecidableEq, Repr

/-- Checks 2 to 4 of the UDP datagram at the front of `b`, sent between the addresses of a pseudo-header. A zero checksum is accepted on IPv4
only. The packet's class is the PCP of its frame (log 102). -/
def State.rxUdp (s : State) (v4 : Bool) (src dst pcp : Nat) (b : List Byte) : RxKind :=
  let len := beField b 4 2
  let u := b.take len
  let sum := beField b 6 2
  if len < 8 ∨ b.length < len ∨ beField b 2 2 ≠ s.udpPort then .drop .address
  else if !(v4 && sum == 0) && (sum == 0 || onesSum (pseudo v4 src dst len ++ u) != 65535) then .drop .address
  else match postPacket pcp (u.drop 8) with
    | none => .drop .header
    | some (k, check) =>
      if !headerOk k then .drop .header
      else if checkOf k ≠ check then .drop .crc
      else if !s.mine k then .drop .foreign
      else .packet k

/-- IPv6 extension headers (RFC 8200 and the IANA registry). -/
def extensions : List Nat := [0, 43, 44, 50, 51, 60, 135, 139, 140]

/-- An IPv6 packet for sub-port `k`: UDP in a frame with the port's VID and the sub-port's MAC, or a solicitation for its address. -/
def State.rxIp6 (s : State) (p k pcp : Nat) (own : Bool) (b : List Byte) : RxKind :=
  let len := beField b 4 2
  let next := beField b 6 1
  let dst := beField b 24 16
  if b.length < 40 + len ∨ beField b 0 1 / 16 ≠ 6 then .drop .address
  else if extensions.contains next then .drop .silent
  else if next = 58 then
    if beField b 40 1 = 135 ∧ 24 ≤ len then (if beField b 48 16 = s.ip6 s.node p k then .solicit else .drop .silent) else .drop .icmp
  else if !own ∨ dst ≠ s.ip6 s.node p k ∨ next ≠ 17 then .drop .address
  else s.rxUdp false (beField b 8 16) dst pcp ((b.drop 40).take len)

/-- An IPv4 packet, where `POST.CTL.IPV4` is set: no options and no fragments. -/
def State.rxIp4 (s : State) (p k pcp : Nat) (own : Bool) (b : List Byte) : RxKind :=
  let len := beField b 2 2
  let dst := beField b 16 4
  if !s.v4 ∨ b.length < len ∨ len < 20 ∨ beField b 0 1 / 16 ≠ 4 then .drop .address
  else if beField b 0 1 % 16 ≠ 5 ∨ beField b 6 2 % 16384 ≠ 0 then .drop .silent
  else if onesSum (b.take 20) ≠ 65535 ∨ !own ∨ dst ≠ s.ip4 s.node p k then .drop .address
  else if beField b 9 1 = 1 then .drop .icmp
  else if beField b 9 1 ≠ 17 then .drop .address
  else s.rxUdp true (beField b 12 4) dst pcp ((b.take len).drop 20)

/-- An ARP request for the sub-port's address is answered over IPv4; other ARP is not. -/
def State.rxArp (s : State) (p k : Nat) (b : List Byte) : RxKind :=
  if s.v4 ∧ beField b 6 2 = 1 ∧ beField b 24 4 = s.ip4 s.node p k then .arp else .drop .silent

/-- What follows the EtherType. Untagged and priority-tagged frames are accepted only with ARP or neighbour discovery. LLDP is discarded, and MAC
control, slow protocols and PTP have rows of their own. -/
def State.rxType (s : State) (p k ty pcp : Nat) (own : Bool) (b : List Byte) : RxKind :=
  if ty = 0x88CC ∨ ty = 0x8808 ∨ ty = 0x8809 ∨ ty = 0x88F7 then .drop .silent
  else if ty = 0x0806 then s.rxArp p k b
  else if ty = 0x86DD then s.rxIp6 p k pcp own b
  else if ty = 0x0800 then s.rxIp4 p k pcp own b
  else .drop .address

/-- The frame at sub-port `k` of port `p` (R296): check 1, which also takes in the lengths of R288, then the C-tag and what it holds. -/
def State.inspect (s : State) (p k : Nat) (f : RxFrame) : RxKind :=
  let n := f.bytes.length
  let b := f.bytes.take (n - 4)
  if f.fecBad ∨ n < 64 ∨ 9216 < n ∨ leBytes 4 (crc32 b) ≠ f.bytes.drop (n - 4) then .drop .fcs
  else
    let mac := beField b 0 6 == s.mac p k
    if beField b 12 2 = 0x8100 then
      let tci := beField b 14 2
      let ours := tci % 4096 == s.vid p
      if tci % 4096 ≠ 0 ∧ !ours then .drop .address
      else s.rxType p k (beField b 16 2) (tci / 8192) (mac && ours) (b.drop 18)
    else s.rxType p k (beField b 12 2) 0 false (b.drop 14)

/-- Count and report a dropped frame (R288, R296). -/
def State.dropped (s : State) (p : Nat) : DropCause → State
  | .fcs => s.count (Reg.at Reg.PORT_RX_BAD_CNT p)
  | .address => s.dropFrame p Reg.POST_BAD_CNT 0x6201
  | .header => s.dropFrame p Reg.POST_BAD_CNT 0x6201
  | .crc => s.dropFrame p Reg.POST_CRC_CNT 0x6202
  | .foreign => s.dropFrame p Reg.POST_BAD_CNT 0x6203
  | .icmp => s.count Reg.POST_BAD_CNT
  | .silent => s

/-- DISCARDED_FRAME (R288, R296): a frame given by its bytes. Where they pass every check, the packet, request or solicitation they spell is
taken in as by its own row. -/
def execDiscardedFrame (p : Fin 8) (f : RxFrame) (s : State) : Ans :=
  .next <|
    let k := s.rxSub p f.lane
    if !s.fabric || (s.port p).link != 2 || !bit (s.port p).subUp k then s
    else
      let t := s.count64 (Reg.at Reg.PORT_RX_LO p)
      match s.inspect p k f with
      | .drop c => t.dropped p c
      | .packet q => s.arrive p q
      | .arp => t.arpReply p k
      | .solicit => t.advertise p k true

end Sys2Proof.Machine
end

