-- ==== Sys2Proof/Machine/Reset.lean ====
section
/-!
DEFINITION. What a reset leaves (R469, R412): cold and warm resets, and the loss of the input.
-/
namespace Sys2Proof.Machine

/-! Registers. -/

/-- The bits of a register that a warm reset keeps. -/
def warmMask (off : Nat) : Word := match Reg.find? off with | some d => BitVec.ofNat 32 d.warm | none => 0#32

/-- The registers after a warm reset: kept bits as they were, the others at their reset values (R469). -/
def warmRegs (old : Map Word) : Map Word :=
  (old.map (·.1) ++ Reg.resetMap.map (·.1)).foldl (fun m k =>
    Map.set 0#32 m k ((Map.get 0#32 Reg.resetMap k &&& ~~~ warmMask k) ||| (Map.get 0#32 old k &&& warmMask k))) Reg.resetMap

/-! Parts that outlast a reset. -/

/-- A firmware processor as a reset leaves it: stopped, with the restarts counted since cold reset. -/
def Proc.afterReset (p : Proc) (cold : Bool) : Proc := { restarts := if cold then 0 else p.restarts }

/-- The processors at the start of BOOT (R470 phase 1), with the counts a warm reset keeps. -/
def bootProcs (old : Map Proc) (cold : Bool) : Map Proc :=
  let m : Map Proc := if cold then [] else old.foldl (fun m e => Map.set {} m e.1 (e.2.afterReset false)) []
  Map.set {} (Map.set {} m 0 { Map.get {} m 0 with st := .running }) 4 { Map.get {} m 4 with st := .standby }

/-- Firmware state as BOOT is entered. A warm reset keeps H0's daybook and the count of SEQ. -/
def Fw.atBoot (f : Fw) (cold : Bool) (from' : Mod) (ev : Nat) (now : Nat) : Fw :=
  let b : Fw := { mod := .boot, prev := from', event := ev, procs := bootProcs f.procs cold, lastWord := now }
  if cold then b
  else { b with daySeq := f.daySeq, day := f.day, faultQ0 := f.faultQ0, faultQ1 := f.faultQ1, faultSeen := f.faultSeen }

/-- What a die keeps of its channels' counts over a warm reset. -/
def Die.afterReset (d : Die) : Die :=
  { chans := Map.vals {} (fun (c : Chan) => { corr := c.corr, uncorr := c.uncorr }) d.chans }

/-- Supply and pins: what lies outside the reset part stays; the brake of a temperature limit is released (R517), and sensors are taken
into service again. -/
def Pwr.afterReset (p : Pwr) : Pwr :=
  { p with ramping := false, tempWarn := false, tempBrake := false, supplyParked := false, resetLow := false, railsGood := true, dieRails := false
           deadSensors := [] }

/-- Enter BOOT (R469, R470): a cold reset where the module passed through OFF since its previous BOOT, otherwise a warm one. `BOOT.CAUSE`
tells what was left. A cold reset clears the daybook, whose head then reads 0 (R440). -/
def State.enterBoot (s : State) (ev : Nat) : State :=
  let cold := s.boot.coldPending
  let kind := if s.mod = .fenced then 2 else if s.mod = .recovery then 3 else if cold then 0 else 1
  let t : State :=
    { pending := s.pending, now := s.now, freeIx := s.freeIx, gather := s.gather, out := s.out
      regs := if cold then Reg.resetMap else warmRegs s.regs
      fw := s.fw.atBoot cold s.mod ev s.now
      dies := if cold then [] else Map.vals {} Die.afterReset s.dies
      boot := { coldPending := false, cfgFlash := s.boot.cfgFlash, bootAt := s.now, regdefDue := cold }
      pwr := s.pwr.afterReset
      time := { present := s.time.present, presentAt := s.time.presentAt }
      res := { slots := Map.vals {} (fun e => { e with draining := false, drainOff := 0 }) s.res.slots, wearTotal := s.res.wearTotal
               grownBad := s.res.grownBad }
      hlt := if cold then Hlt.initial else { Hlt.initial with curveX := s.hlt.curveX, curveY := s.hlt.curveY, window := s.hlt.window } }
  let t := (t.setFld Reg.BOOT_STAT 7 4 1).setFld Reg.BOOT_STAT 1 1 (if cold then 0 else 1)
  let t := (t.setFld Reg.BOOT_CAUSE 1 0 kind).setFld Reg.BOOT_CAUSE 31 16 (if kind = 2 then s.boot.stopFault else 0)
  (if cold then t else (t.record 2 0xFF 0 0 ev).signal 32).emit (.uart 2 ev)

/-- Enter OFF (event 0x03; R412, R437): everything but the two flashes and what stands at the supply is lost. -/
def State.goOff (s : State) : State :=
  { pending := s.pending, now := s.now, freeIx := s.freeIx, gather := s.gather, out := s.out
    regs := Reg.resetMap
    fw := { mod := .off, prev := s.mod, event := 0x03 }
    boot := { cfgFlash := s.boot.cfgFlash }
    pwr := { switch := s.pwr.switch, latched := s.pwr.latched, resetLow := s.pwr.resetLow, railsGood := s.pwr.railsGood }
    time := { present := s.time.present, presentAt := s.time.presentAt }
    res := { slots := Map.vals {} (fun e => { e with draining := false, drainOff := 0 }) s.res.slots, wearTotal := s.res.wearTotal
             grownBad := s.res.grownBad }
    hlt := Hlt.initial }

end Sys2Proof.Machine
end

