-- ==== Sys2Proof/Machine/Power.lean ====
section
/-!
DEFINITION. The supply, the brakes, resets by pin, temperatures, refresh, margin scans and the spine (ch. 17; R20, R262–R269, R409–R412).
-/
namespace Sys2Proof.Machine

def State.onPwr (s : State) (f : Pwr → Pwr) : State := { s with pwr := f s.pwr }

/-! The input and its switch (R503–R505, R412). -/

/-- R503: the switch closes while no latched trip stands; the ramp begins. -/
def execInputSwitchClose (s : State) : Ans :=
  .next (if s.mod = .off ∧ !s.pwr.latched then s.onPwr fun p => { p with switch := true, ramping := true } else s)

/-- R503, R437, R520, R525: the ramp ends, OFF to STANDBY, with its record and its line on the console; the SMBus address straps are
sampled. -/
def execInputValid (strap : Fin 8) (s : State) : Ans :=
  .next (if s.mod = .off ∧ s.pwr.switch ∧ s.pwr.ramping then
      (({ s with fw := { s.fw with mod := .standby, prev := .off, event := 0x01 }
                 pwr := { s.pwr with ramping := false, smbAddr := strap } } : State).record 2 0xFF 0 0 0x01).emit (.uart 2 0x01)
    else s)

/-- The input is lost: OFF, wherever the module was (event 0x03). -/
def State.inputLost (s : State) : State := if s.mod = .off then s else s.goOff

/-- The switch opens, and with a latched trip stays open (R505). -/
def State.openSwitch (s : State) (latch : Bool) : State :=
  (s.onPwr fun p => { p with switch := false, ramping := false, latched := p.latched || latch }).inputLost

def execSupplyReset (s : State) : Ans := .next s.inputLost
def execOverVoltage (s : State) : Ans := .next (s.openSwitch false)
def execShortCircuit (s : State) : Ans := .next (s.openSwitch true)
def execThermalTrip (s : State) : Ans := .next (s.openSwitch true)
def execTripLatchClear (s : State) : Ans := .next (s.onPwr fun p => { p with latched := false })

/-! Warnings and brakes (R504, R506–R508, R411). -/

def execSupplyWarning (s : State) : Ans :=
  .next (if s.mod = .off ∨ s.pwr.warn then s
    else
      let s := s.onPwr fun p => { p with warn := true, warnAt := s.now, supplyParked := false }
      ((s.count Reg.PWR_WARN_CNT).tally 9).raise 0x9101 0)

def execFlashGuard (s : State) : Ans := .next (if s.pwr.warn then s.onPwr fun p => { p with guard := true } else s)

/-- The brake and the flash guard are released; the cause of 0x9101 clears with it (R362). -/
def execWarningClear (s : State) : Ans :=
  .next (s.onPwr fun p => { p with warn := false, guard := false, supplyParked := false })

/-- R411: a warning still in force after 10 s parks the job. -/
def execSupplyPark (s : State) : Ans :=
  .next (if s.pwr.warn ∧ !s.pwr.supplyParked then (s.onPwr fun p => { p with supplyParked := true }).raise 0x9201 0 else s)

def execCurrentLimit (s : State) : Ans :=
  .next (if s.mod = .off ∨ s.pwr.half then s
    else ((s.onPwr fun p => { p with half := true }).count Reg.PWR_LIMIT_CNT).raise 0x9102 0)

def execCurrentLimitClear (s : State) : Ans := .next (s.onPwr fun p => { p with half := false })

/-- `PWR.STAT.BRAKE`: while both brakes apply, the full one governs (R507). -/
def State.brake (s : State) : Nat := if s.fullBrake then 2 else if s.pwr.half then 1 else 0

/-! Resets and rails (R521, R522). -/

/-- R521: low in OFF or STANDBY keeps the module in STANDBY; in FENCED and RECOVERY it waits for the release; elsewhere it is a stop. -/
def execResetNLow (s : State) : Ans :=
  .next <|
    let s := s.onPwr fun p => { p with resetLow := true }
    if s.mod = .off ∨ s.mod = .standby ∨ s.mod = .fenced ∨ s.mod = .recovery then s else s.raise 0x9103 0

/-- R521: event 0x02 from STANDBY, 0x0D from FENCED and RECOVERY after a low. -/
def execResetNRelease (s : State) : Ans :=
  .next <|
    let low := s.pwr.resetLow
    let s := s.onPwr fun p => { p with resetLow := false }
    if s.mod = .standby then s.enterBoot 0x02
    else if low ∧ (s.mod = .fenced ∨ s.mod = .recovery) then s.enterBoot 0x0D
    else s

/-- R522: a stop fault, and the compute dies lose their contents with their rails. -/
def execRailFault (s : State) : Ans :=
  .next (if s.powered then
      let s := s.onPwr fun p => { p with railsGood := false, dieRails := false }
      ({ s with cores := [], clusters := [], dies := [], waiting := [], tags := [] }).raise 0x9104 0
    else s)

/-- PWR_GOOD (R522). -/
def State.pwrGood (s : State) : Bool := s.powered && s.pwr.railsGood

/-! Temperatures (R514–R518, R530). -/

/-- The largest value of a map among keys below `n`, with the first key that holds it. -/
def hottest (m : Map Nat) (n : Nat) : Nat × Nat :=
  (List.range n).foldl (fun x i => if x.1 < Map.get 0 m i then (Map.get 0 m i, i) else x) (0, 0)

/-- `THM.HOT` from the readings, and `THM.PEAK` kept. -/
def State.heat (s : State) : State :=
  let (j, d) := hottest s.pwr.dieTemp 6
  let (t, k) := hottest s.pwr.stackTemp 16
  let s := s.setReg Reg.THM_HOT (j % 4096 * 2 ^ 20 + t % 4096 * 2 ^ 8 + k * 16 + d)
  let s := if s.fld Reg.THM_PEAK 31 20 < j then (s.setFld Reg.THM_PEAK 31 20 j).setFld Reg.THM_PEAK 3 0 d else s
  if s.fld Reg.THM_PEAK 19 8 < t then (s.setFld Reg.THM_PEAK 19 8 t).setFld Reg.THM_PEAK 7 4 k else s

def State.dieReads (s : State) (d t : Nat) : State := (s.onPwr fun p => { p with dieTemp := Map.set 0 p.dieTemp d t }).heat
def State.stackReads (s : State) (k t : Nat) : State := (s.onPwr fun p => { p with stackTemp := Map.set 0 p.stackTemp k t }).heat

/-- A temperature warning comes into force: recorded in every state, a hold in RUNNING (R516). -/
def State.tempWarning (s : State) (b code : Nat) : State :=
  if s.fld Reg.THM_STAT b b = 1 then s
  else (((s.onPwr fun p => { p with tempWarn := true }).setFld Reg.THM_STAT b b 1).count Reg.THM_WARN_CNT).raise code 0

/-- A temperature limit: the full brake until reset, and FENCED (R517). -/
def State.tempLimit (s : State) (code : Nat) : State := (s.onPwr fun p => { p with tempBrake := true }).raise code 0

def execJunctionWarning (d : Fin 6) (t : Nat) (s : State) : Ans := .next (if s.powered then (s.dieReads d t).tempWarning 0 0x9301 else s)
def execStackWarning (k : Fin 16) (t : Nat) (s : State) : Ans := .next (if s.powered then (s.stackReads k t).tempWarning 1 0x9302 else s)
def execJunctionLimit (d : Fin 6) (t : Nat) (s : State) : Ans := .next (if s.powered then (s.dieReads d t).tempLimit 0x9303 else s)
def execStackLimit (k : Fin 16) (t : Nat) (s : State) : Ans := .next (if s.powered then (s.stackReads k t).tempLimit 0x9304 else s)

/-- R515: the junction is below 95 °C and every stack below 90 °C. -/
def execTemperatureWarningClear (s : State) : Ans :=
  .next ((s.onPwr fun p => { p with tempWarn := false }).setFld Reg.THM_STAT 1 0 0)

/-! Refresh (R262, R264). -/

/-- Stack S`k` is stack position `k % 4` of die `k / 4`. -/
def State.doubled (s : State) (k : Nat) : Bool := s.fld (Reg.at Reg.BOND_REFRESH (k / 4)) (k % 4) (k % 4) == 1
def State.setDoubled (s : State) (k v : Nat) : State := s.setFld (Reg.at Reg.BOND_REFRESH (k / 4)) (k % 4) (k % 4) v

def State.refreshDouble (s : State) (k : Nat) : State := if s.doubled k then s else (s.setDoubled k 1).raise 0x4305 (k / 4)

/-- Neither sensor of a stack is in service (R518). -/
def State.stackBlind (s : State) (k : Nat) : Bool := s.pwr.deadSensors.contains (6 + k, 0) && s.pwr.deadSensors.contains (6 + k, 1)

def execRefreshDoubled (k : Fin 16) (s : State) : Ans := .next (if s.powered then s.refreshDouble k else s)
def execRefreshNormal (k : Fin 16) (s : State) : Ans := .next (if s.stackBlind k then s else s.setDoubled k 0)

/-- R264: the scrub reads one atom; a correctable error is corrected and counted. -/
def execRefreshWindow (g : Fin 1024) (corrected : Bool) (s : State) : Ans :=
  .next (if s.powered ∧ corrected then
      let s := s.onDie (g / 256) fun d =>
        let c := d.chan (g % 256)
        d.setChan (g % 256) { c with corr := Nat.min 0xFFFFFFFF (c.corr + 1) }
      (s.event (Reg.at Reg.BOND_STAT (g / 256)) 14).tally 0
    else s)

/-- How many sensors a place has: 13 on a compute die, 4 on a hub, 2 in a stack (R514). -/
def sensorsAt (place : Nat) : Nat := if place < 4 then 13 else if place < 6 then 4 else 2

/-- R518: out of service until reset; a stack without sensors refreshes at the doubled rate. -/
def execSensorFault (place : Fin 22) (sensor : Fin 13) (s : State) : Ans :=
  .next <|
    let k : Nat × Nat := (place, sensor)
    if !s.powered || decide (sensorsAt place ≤ sensor) || s.pwr.deadSensors.contains k then s
    else
      let s := s.onPwr fun p => { p with deadSensors := p.deadSensors ++ [k] }
      let b : Nat := if place < 6 then 16 + place else place - 6
      let s := (s.setFld Reg.THM_FAILED b b 1).raise 0x9305 0
      if 6 ≤ place.val ∧ s.stackBlind (place - 6) then s.refreshDouble (place - 6) else s

/-! Margin scans (R268, R269). -/

/-- The scanned megabyte afterwards: what the PRBS31 pattern left there, which no rule fixes. -/
def State.scanFill (s : State) (key : Nat) : State :=
  let ix := s.freeIx
  { s with bond := Map.fill 0#8 s.bond key (2 ^ 20) fun i => (Config.freeValue (ix + i)).setWidth 8
           bondPoison := Map.fill false s.bondPoison (key / 64) (2 ^ 14) fun _ => false
           freeIx := ix + 2 ^ 20 }

/-- A write of `BOND.MARGIN_CTL`: with START, in READY and with no scan running on the die, a scan of the channel in `BOND.CH_SEL`
begins; elsewhere START is ignored. -/
def State.marginWrite (s : State) (d : Nat) (v : Nat) : State :=
  let s := s.setReg (Reg.at Reg.BOND_MARGIN_CTL d) (Nat.land v 0x3F03)
  if !bit v 31 then s
  else if s.mod = .ready ∧ (s.die d).margin.isNone then
    let c := s.fld (Reg.at Reg.BOND_CH_SEL d) 7 0
    let s := s.discardImage.setFld (Reg.at Reg.BOND_MARGIN_RES d) 31 31 0
    (s.onDie d fun x => { x with margin := some (c, bits v 1 0, Nat.max 1 (bits v 13 8)) }).scanFill ((d * 256 + c) * 2 ^ 30)
  else s.event (Reg.at Reg.BOND_STAT d) 20

def execMarginScan (d : Fin 4) (v : BitVec 32) (s : State) : Ans := .next (s.marginWrite d v.toNat)

/-- Least steps on each side: 10 for timing, 12 for voltage (R269). -/
def marginLeast (kind : Nat) : Nat := if kind < 2 then 10 else 12

def marginPass (kind lo hi : Nat) : Bool := decide (marginLeast kind ≤ lo) && decide (marginLeast kind ≤ hi)

/-- A scan's result goes to `BOND.MARGIN_RES` and to a daybook record (R269). -/
def State.marginResult (s : State) (d c kind lo hi : Nat) : State :=
  let v := 2 ^ 31 + (if marginPass kind lo hi then 2 ^ 30 else 0) + kind * 2 ^ 28 + c * 2 ^ 16 + lo * 2 ^ 8 + hi
  (s.setReg (Reg.at Reg.BOND_MARGIN_RES d) v).record 8 0xFF 0 0 (d * 256 + c)

/-- The scan ends with the error-free steps of each side; no side goes beyond RANGE. -/
def execMarginScanDone (d : Fin 4) (low high : Nat) (s : State) : Ans :=
  .next <| match (s.die d).margin with
    | none => s
    | some (c, kind, range) =>
      (s.onDie d fun x => { x with margin := none }).marginResult d c kind (Nat.min low range) (Nat.min high range)

/-! The spine and the pulse (R20, R523). -/

/-- A packet with the unit of its payload at an offset poisoned (R294). -/
def Packet.poisonAt (k : Packet) (off : Nat) : Packet :=
  if off < k.payload.length then { k with pmap := some (Nat.lor (k.pmap.getD 0) (2 ^ (off / 64))) } else k

/-- Poison the last packet of a queue. -/
def poisonLast (off : Nat) (l : List Packet) : List Packet :=
  match l.getLast? with
  | some k => l.dropLast ++ [Packet.poisonAt k off]
  | none => l

def Port.poisonQueued (pt : Port) (cls off : Nat) : Port :=
  if cls = 7 then { pt with q7 := poisonLast off pt.q7 } else if cls = 6 then { pt with q6 := poisonLast off pt.q6 }
  else if cls = 3 then { pt with q3 := poisonLast off pt.q3 } else { pt with q1 := poisonLast off pt.q1 }

/-- Poison the data of a flit where it lands (R20): in a store, in a packet that a port is handed, or in the set that a snapshot writes. -/
def State.poisonFlit (s : State) (pl : Place) : State :=
  if pl.space = 4 then s.onPort (pl.unit % 8) fun pt => pt.poisonQueued (pl.unit / 8) pl.addr
  else if pl.space = 5 then
    { s with res := { s.res with snap := s.res.snap.map fun j => { j with set := { j.set with poison := Map.set false j.set.poison (pl.addr / 64) true } } } }
  else s.poisonPlace pl 8

/-- R20: the data of the flit is poisoned where it lands. -/
def execSpineUncorrectable (pl : Place) (s : State) : Ans :=
  .next (if s.powered then ((s.poisonFlit pl).tally 1).raise 0x6001 0 else s)

/-- PPS_OUT is high for 100 ms from every whole second (R523). -/
def State.ppsLevel (s : State) : Bool := decide (s.pm % 600000000 < ms 100)

def execPpsOutPulse (s : State) : Ans := .next (if s.powered ∧ s.pm % 600000000 = 0 then s.emit .pps else s)

end Sys2Proof.Machine
end

