-- ==== Sys2Proof/Machine/Health.lean ====
section
/-!
DEFINITION. The health monitor (R397–R400, R416): inputs, curves, score, level and RISK letters.
-/
namespace Sys2Proof.Machine

def State.onHlt (s : State) (f : Hlt → Hlt) : State := { s with hlt := f s.hlt }

/-- Take the sensors' and the supply's readings (R514, R530). -/
def State.sampled (s : State) (m : Sample) : State :=
  let put := fun (old : Map Nat) (l : List Nat) => l.zipIdx.foldl (fun (o : Map Nat) e => Map.set 0 o e.2 e.1) old
  let s := (s.onPwr fun p => { p with dieTemp := put p.dieTemp (m.dieTemps.take 6), stackTemp := put p.stackTemp (m.stackTemps.take 16) }).heat
  let s := s.setReg Reg.PWR_INPUT (m.volts % 2 ^ 16 * 2 ^ 16 + m.amps % 2 ^ 16)
  s.setReg Reg.PWR_POWER (m.ripple % 2 ^ 16 * 2 ^ 16 + m.watts % 2 ^ 16)

/-- What an input measures (R397): a count over its window, a gauge, or the rise of the junction temperature. -/
inductive Measure where
  | count | gauge | rise
deriving DecidableEq, Repr

def measureOf (i : Nat) : Measure :=
  if i = 6 then .rise else if i = 2 ∨ i = 4 ∨ i = 5 ∨ i = 7 ∨ i = 8 ∨ i = 13 ∨ i = 14 then .gauge else .count

/-- The reading of a period: the count of it, or what the gauge shows; none where the spec gives no number (the logarithm of 0). -/
def State.reading (s : State) (m : Sample) (i : Nat) : Option Nat :=
  if i = 2 then
    let w := m.fec.foldl Nat.max 0
    if w = 0 then none else some w.log2
  else if i = 5 ∨ i = 6 then some (s.fld Reg.THM_HOT 31 20)
  else if i = 7 then some (s.fld Reg.THM_HOT 19 8)
  else if i = 8 then some m.ripple
  else if i = 13 then some (signed 32 (s.reg (Reg.at Reg.TIME_PHASE_ERR s.hub))).natAbs
  else if i = 14 then some (s.fld Reg.HLT_SCORE 15 8)
  else some (Map.get 0 s.hlt.tally i)

def Hlt.windowOf (h : Hlt) (i : Nat) : Nat := Nat.max 1 (Map.get 0 h.window i)

/-- The value of an input, from its readings newest first. A gauge over more than one period has no stated measure. -/
def Hlt.valueOf (h : Hlt) (i : Nat) (l : List Nat) : Option Nat :=
  let w := h.windowOf i
  match measureOf i with
  | .count => some (l.take w).sum
  | .gauge => if w = 1 then l.head? else none
  | .rise => some (l.headD 0 - (l.take (w + 1)).getLastD 0)

/-- Risk points of a value on a curve (R398). -/
def curve (x y : Nat → Nat) (v : Nat) : Nat :=
  if v ≤ x 0 then y 0
  else if x 7 ≤ v then y 7
  else
    let i := ((List.range 8).filter fun j => decide (x j ≤ v)).foldl Nat.max 0
    let num : Int := ((v - x i : Nat) : Int) * ((y (i + 1) : Int) - (y i : Int))
    ((y i : Int) + num.tdiv ((x (i + 1) - x i : Nat) : Int)).toNat

def Hlt.points' (h : Hlt) (i v : Nat) : Nat :=
  curve (fun j => Map.get 0 h.curveX (8 * i + j)) (fun j => Map.get 0 h.curveY (8 * i + j)) v

/-- Evaluate one input: its reading enters its history, its value and points are kept. A value no rule gives is a free value. -/
def State.evalInput (m : Sample) (s : State) (i : Nat) : State :=
  let (f, t) := s.free
  let (r, s) := match s.reading m i with | some r => (r, s) | none => (f.toNat, t)
  let l := (r :: Map.get [] s.hlt.hist i).take (s.hlt.windowOf i + 1)
  let (f, t) := s.free
  let (v, s) := match s.hlt.valueOf i l with | some v => (v, s) | none => (f.toNat, t)
  s.onHlt fun h => { h with hist := Map.set [] h.hist i l, values := Map.set 0 h.values i v, points := Map.set 0 h.points i (h.points' i v) }

def levelOf (score : Nat) : Nat := if score < 64 then 0 else if score < 128 then 1 else if score < 192 then 2 else 3

/-- Own score and level into `HLT.SCORE`, with the events and the fault of a change (R398, R400, R447). -/
def State.setScore (s : State) (score : Nat) : State :=
  let level := Nat.max (levelOf score) (s.fld Reg.HLT_CTL 9 8)
  let was := s.level
  let s := (s.setFld Reg.HLT_SCORE 31 24 score).setFld Reg.HLT_SCORE 23 22 level
  let s := if level ≠ was then (s.event Reg.HLT_STAT 17).signal 36 else s
  let first := level = 3 ∧ !s.hlt.wasImminent
  let s := s.onHlt fun h => { h with wasImminent := level == 3 }
  if first then s.raise 0x7408 0 else s

/-- A RISK letter is due (R399): a change of level or WEAR since the last one, or eight periods. -/
def State.riskLetterDue (s : State) : Bool :=
  match s.hlt.lastSent with
  | some (l, w) => l != s.level || w != s.res.wearFlag || decide (8 ≤ s.hlt.sinceLetter)
  | none => true

/-- HEALTH_EVALUATION (R397), at a frame boundary whose frame number is a multiple of 1,024. -/
def execHealthEvaluation (m : Sample) (s : State) : Ans :=
  .next <|
    if !s.hlt.due then s
    else
      let s := (s.sampled m).wearCheck
      let s := (List.range 16).foldl (State.evalInput m) s
      let sum := (List.range 16).foldl (fun n i => n + Map.get 0 s.hlt.points i) 0
      let s := s.onHlt fun h => { h with due := false, tally := [], sinceLetter := h.sinceLetter + 1 }
      let s := s.setScore (if s.fld Reg.HLT_CTL 0 0 = 1 then Nat.min 255 sum else 0)
      if s.dom.joined && s.fabric && s.riskLetterDue then
        let (s, ok) := s.sendRisk false 0 0
        s.seqFull ok
      else s

end Sys2Proof.Machine
end

