-- ==== Sys2Proof/Machine/Image.lean ====
section
/-!
DEFINITION. The parts of a schedule image and what each section loads (R139–R141, R97, R117, R123, R154, R170, R201, R240, R246, R276, R298,
R321, R352, R372, R381), and what an image load and a restore reset alike (R405).
-/
namespace Sys2Proof.Machine

/-- A section: its table entry and its bytes. -/
structure Sect where
  ty : Nat
  ix : Nat
  flags : Nat
  off : Nat
  len : Nat
  digest : List Byte
  bytes : List Byte
  bad : Bool
deriving DecidableEq, Repr

/-- The header's fields. -/
structure ImgHead where
  sections : Nat
  total : Nat
  node : Nat
  job : Nat
  domain : Nat
  minChannels : Nat
  ident : Nat
deriving DecidableEq, Repr

def imgHead (h : List Byte) : ImgHead :=
  { sections := fieldAt h 8 4, total := fieldAt h 0x10 8, node := fieldAt h 0x18 2, job := fieldAt h 0x1A 2 % 4096
    domain := fieldAt h 0x1C 2, minChannels := fieldAt h 0x1E 2, ident := fieldAt h 0x20 8 }

/-- Section `i` of an image at an address, from its table. -/
def State.sectAt (s : State) (base : Nat) (table : List Byte) (i : Nat) : Sect :=
  let e := slice table (64 * i) 64
  let off := fieldAt e 8 8
  let len := fieldAt e 0x10 8
  let (b, p) := s.readBond (base + off) len
  { ty := fieldAt e 0 2, ix := fieldAt e 2 2, flags := fieldAt e 4 4, off := off, len := len, digest := slice e 0x20 32
    bytes := b, bad := p != 0 }

def sectOf (l : List Sect) (ty ix : Nat) : Option Sect := l.find? fun x => x.ty == ty && x.ix == ix
def sectBytes (l : List Sect) (ty ix : Nat) : List Byte := ((sectOf l ty ix).map (·.bytes)).getD []
/-- The constants section of a die (type 0x000A). -/
def constOf (l : List Sect) (d : Nat) : List Byte := sectBytes l 0xA d

/-! What a die's constants section holds. Of an address in the die's own bonded memory only bits 37:0 are used (R256). -/

def localAddr (a : Nat) : Nat := a % 2 ^ 38

def mbagOf (b : List Byte) (i : Nat) : MBag :=
  let e := slice b (64 * i) 64
  { flags := fieldAt e 0 4, expect := fieldAt e 4 4 % 2 ^ 24, region := localAddr (fieldAt e 8 8), length := fieldAt e 0x10 8
    record := localAddr (fieldAt e 0x18 8) }

def layerOf (b : List Byte) (i : Nat) : Layer :=
  let e := slice b (0x14000 + 64 * i) 64
  let group := fieldAt e 0xC 2
  let experts := fieldAt e 4 2
  let gt := fieldAt e 0x2C 4
  let pt := fieldAt e 0x30 4
  if bit (fieldAt e 0 4) 0 then
    { flags := fieldAt e 0 4, experts := experts, k := fieldAt e 6 1, loc := fieldAt e 7 1, capacity := fieldAt e 8 4
      group := group, position := fieldAt e 0xE 2, roundTokens := fieldAt e 0x10 4
      rowBytes := (List.range 4).map fun j => fieldAt e (0x14 + 4 * j) 4, region := (List.range 4).map fun j => fieldAt e (0x24 + 2 * j) 2
      nodes := (List.range group).map fun j => fieldAt b (gt + 2 * j) 2, placement := (List.range experts).map fun j => fieldAt b (pt + 4 * j) 4
      portMask := fieldAt e 0x34 1, window := fieldAt e 0x38 4, rest := fieldAt e 0x35 3 }
  else {}

def poolOf (b : List Byte) (i : Nat) : Pool :=
  let e := slice b (0x18000 + 32 * i) 32
  if bit (fieldAt e 0 1) 0 then
    { valid := true, cls := fieldAt e 1 1, space := fieldAt e 2 1, core := fieldAt e 3 1, count := fieldAt e 4 4
      base := if fieldAt e 2 1 = 1 then localAddr (fieldAt e 8 8) else fieldAt e 8 8, owners := fieldAt e 0x10 8 }
  else {}

def windowOf (b : List Byte) (i : Nat) : Window :=
  let e := slice b (0x1C000 + 16 * i) 16
  if bit (fieldAt e 0xD 1) 0 then
    { base := localAddr (fieldAt e 0 8), tiles := fieldAt e 8 4, scale := signed 8 (fieldAt e 0xC 1), valid := true, clearOnRead := bit (fieldAt e 0xD 1) 1 }
  else {}

def regionOfConst (b : List Byte) (i : Nat) : Region :=
  let e := slice b (0x20000 + 32 * i) 32
  { flags := fieldAt e 0 2, space := fieldAt e 2 1, die := fieldAt e 3 1, core := fieldAt e 4 2, owner := fieldAt e 6 2
    job := fieldAt e 8 2 % 4096, base := fieldAt e 0x10 8, length := fieldAt e 0x18 8 }

def protectOf (b : List Byte) : Protect :=
  let h := 0x28000
  { ranges := (List.range (fieldAt b h 2)).map fun i =>
      let e := h + 64 + 32 * i
      { kind := fieldAt b e 1, die := fieldAt b (e + 1) 1, base0 := fieldAt b (e + 8) 8, base1 := fieldAt b (e + 0x10) 8, length := fieldAt b (e + 0x18) 8 }
    lossCore := fieldAt b (h + 2) 2, lossAddr := fieldAt b (h + 4) 4, block0 := fieldAt b (h + 8) 8, block1 := fieldAt b (h + 0x10) 8
    reserve := ((List.range 4).map fun i => fieldAt b (h + 0x18 + 2 * i) 2).filter (· != 0xFFFF), cadence := fieldAt b (h + 0x20) 1
    pairs := (List.range 8).map fun i => fieldAt b (h + 0x21 + i) 1 }

/-! The other sections. -/

/-- A release table: PERIOD and its entries (R352). -/
def relPeriod (b : List Byte) : Nat := fieldAt b 0 8
def relCount (b : List Byte) : Nat := fieldAt b 8 4
def relEntOf (b : List Byte) (i : Nat) : RelEnt :=
  if relCount b ≤ i then {} else
  let e := slice b (16 + 32 * i) 32
  { offset := fieldAt e 0 8, stride := fieldAt e 8 4, uses := fieldAt e 0xC 2, valid := bit (fieldAt e 0xE 1) 0, async := bit (fieldAt e 0xE 1) 1
    space := fieldAt e 0xF 1, dest := fieldAt e 0x10 4, dstride := fieldAt e 0x14 4, bytes := fieldAt e 0x18 4 }

/-- A transmit table (R298). -/
def txPeriodOf (b : List Byte) : Nat := fieldAt b 0 4
def txShareOf (b : List Byte) : Nat := fieldAt b 8 1
def txEntriesOf (b : List Byte) : List (Nat × Nat) :=
  (List.range (fieldAt b 4 4)).map fun i => (fieldAt b (16 + 8 * i) 4, fieldAt b (20 + 8 * i) 4)

/-- Shape buckets (R372). -/
def bucketsOf (b : List Byte) : List Bucket :=
  (List.range (fieldAt b 0 1)).map fun i =>
    let e := slice b (16 + 16 * i) 16
    { tokens := fieldAt e 0 4, seqMax := fieldAt e 4 4, liveAddr := fieldAt e 8 4, entry := fieldAt e 0xC 2 }
def passMapOf (b : List Byte) : List Nat := (List.range (fieldAt b 4 4)).map fun p => fieldAt b (16 + 16 * fieldAt b 0 1 + p) 1

/-! What an image load and a restore reset alike (R405 step 4, R154, R234, R276, R303, R533). -/

/-- A core: release uses and claims, the resident, remainder and twin registers (R533), DECISION 0 and COMMITS, its stall and what it has
under way; no half of its instruction store is filled (R117). -/
def Core.runReset (commits : Nat) (c : Core) : Core :=
  ({ c with uses := [], claims := [], frontA := {}, backA := {}, remA := {}, backRemA := {}, frontB := {}, backB := {}, remB := {}, backRemB := {}
            twin0 := {}, twin1 := {}, filled := [], issuing := false, stepEnd := false, stall := 0 }.quiet.sdmWrite 0x17FF0 8 0).sdmWrite
    0x17FF8 8 commits

/-- Write zeros over the tiles of a die's windows (R276). -/
def State.clearWindows (s : State) (d : Nat) : State :=
  ((s.die d).windows.map (·.2)).foldl (fun (t : State) w =>
    if w.valid then (List.range (w.tiles * 32)).foldl (fun (t : State) i => t.writeBond (2 ^ 38 * d + w.base + 4096 * i) (List.replicate 4096 0#8) 0) t
    else t) s

/-- The fill of half 0 of every core: the first 4,096 bundles of its stream. -/
def State.fillHalves (s : State) : State :=
  s.image.segments.foldl (fun (t : State) e =>
    let (at', len) := e.2
    let b := (t.readBond at' (Nat.min len 131072)).1
    t.onCore e.1 fun c => { c with istore := Map.tab 0#8 b.length fun i => byteAt b i, filled := Map.set false c.filled 0 true }) s

/-- The rest of the module, reset. Mailbag entries start at the step that `FMT.STEP` names. -/
def State.runReset (s : State) : State :=
  let step := s.step40
  let commits := s.commits
  let s := { s with
    cores := (List.range 384).foldl (fun (m : Map Core) g => Map.set ({} : Core) m g ((Map.get ({} : Core) m g).runReset commits)) s.cores
    dies := (List.range 4).foldl (fun (m : Map Die) n => let d := Map.get ({} : Die) m n; Map.set ({} : Die) m n { d with
      mbags := Map.tab {} 1024 fun i =>
        { Map.get ({} : MBag) d.mbags i with received := 0, nilCount := 0, tokens := 0, dirty := false, complete := false, step := step }
      landings := [], rounds := [], admQ := [], parQ := [], gsum := 0#64 }) s.dies
    clusters := Map.vals {} (fun (k : Cluster) => { k with queues := [], banks := [] }) s.clusters
    waiting := [], counts := [], stepSt := {} }
  let s := s.clearTables.banksActive
  let s := (List.range 4).foldl State.clearWindows s
  ((List.range 4).foldl (fun (t : State) d => t.setFld (Reg.at Reg.FMT_STAT d) 1 0 0) s).fillHalves

/-! Applying an image (R141 step 5). -/

/-- The format table and the policies that the image supplies; the rest keep their registers (R97). -/
def State.applyFormats (s : State) (l : List Sect) : Option State :=
  let f := match sectOf l 8 0 with | some x => Config.formatSection x.bytes | none => some []
  let p := match sectOf l 9 0 with | some x => Config.stampSection x.bytes | none => some ([], [])
  match f, p with
  | some f, some (pol, tens) =>
    let s := (f ++ pol).foldl (fun (t : State) w => t.setReg w.1 w.2.toNat) s
    let init := fun (pn : Nat) => signed 8 (s.fld (Reg.FMT_POLICY_A0 + 4 * (pn % 16)) 31 24)
    let m : Map StampEnt := tens.foldl (fun (m : Map StampEnt) x =>
      Map.set ({} : StampEnt) m (x.1 % 4096) { valid := true, grad := x.2.1, policy := x.2.2 % 16, stamp := init x.2.2 }) []
    some ((List.range 4).foldl (fun (t : State) d => t.onDie d fun x => { x with stamps := m }) s)
  | _, _ => none

/-- The registers of R111 that a snapshot restore restores beside those of the boundary block: ENTRY10–15 and the policies. -/
def formatRegs : List Nat :=
  (List.range 6).map (fun i => Reg.FMT_ENTRY10 + 4 * i) ++ (List.range 16).map (fun i => Reg.FMT_POLICY_A0 + 4 * i) ++
    (List.range 16).map fun i => Reg.FMT_POLICY_B0 + 4 * i

/-- What a core takes from its sections. The general area of scalar data memory keeps what its section does not supply. -/
def Core.applyImage (l : List Sect) (g : Nat) (c : Core) : Core :=
  let rel := sectBytes l 7 g
  let sdm := sectBytes l 5 g
  let prog := sectBytes l 4 g
  let c := { c with
    desc := Map.tab 0 (Nat.min 256 ((sectBytes l 2 g).length / 16)) fun i => fieldAt (sectBytes l 2 g) (16 * i) 16
    rel := Map.tab {} (Nat.min 1024 (relCount rel)) (relEntOf rel)
    istore := [] }
  let c := if sdm.isEmpty then c else c.sdmPut 0 (Nat.min 0x18000 sdm.length) (byteAt sdm) false
  if prog.isEmpty then c else c.sdmPut 0x1E000 (Nat.min 0x2000 prog.length) (byteAt prog) false

/-- What a die takes from its constants section. -/
def Die.applyImage (b : List Byte) (d : Die) : Die :=
  { d with
    mbags := Map.tab {} 1024 (mbagOf b)
    policy := Map.tab 0 4096 fun i => fieldAt b (0x10000 + 4 * i) 4
    layers := Map.tab {} 256 (layerOf b)
    pools := Map.tab {} 64 (poolOf b)
    windows := Map.tab {} 512 (windowOf b) }

def State.imageRecord (s : State) (base : Nat) (h : ImgHead) (l : List Sect) : Image :=
  let streams := l.filter fun x => x.ty == 1
  let rel := (l.find? fun x => x.ty == 7).map (·.bytes)
  { loaded := true, node := h.node, job := h.job, domainSize := h.domain, minChannels := h.minChannels, ident := h.ident, at' := base
    period := relPeriod (rel.getD []), baseStep := s.step40, buckets := bucketsOf (sectBytes l 0xB 0), passMap := passMapOf (sectBytes l 0xB 0)
    protect := protectOf (constOf l 0), segments := streams.foldl (fun (m : Map (Nat × Nat)) x => Map.set (0, 0) m x.ix (base + x.off, x.len)) []
    formats := formatRegs.map fun r => (r, BitVec.ofNat 32 (s.reg r)) }

/-- A port takes its transmit table; one without a table sends no class-6 packet (R298). -/
def Port.applyImage (b : List Byte) (pt : Port) : Port :=
  { pt with txTable := txEntriesOf b, txPeriod := txPeriodOf b, share := txShareOf b, remainder := 0, window := 0, slotSent := 0 }

/-- The image applied: tables, memories and registers. -/
def State.applyImage (s : State) (base : Nat) (h : ImgHead) (l : List Sect) : Option State :=
  (s.applyFormats l).map fun (s : State) =>
    let s := { s with
      cores := (List.range 384).foldl (fun (m : Map Core) g => Map.set ({} : Core) m g ((Map.get ({} : Core) m g).applyImage l g)) s.cores
      clusters := (List.range 48).foldl (fun (m : Map Cluster) n =>
        let b := sectBytes l 3 n
        Map.set ({} : Cluster) m n { Map.get ({} : Cluster) m n with desc := Map.tab 0 (Nat.min 512 (b.length / 64)) fun i => fieldAt b (64 * i) 64 }) s.clusters
      dies := (List.range 4).foldl (fun (m : Map Die) d => Map.set ({} : Die) m d ((Map.get ({} : Die) m d).applyImage (constOf l d))) s.dies
      ports := (List.range 8).foldl (fun (m : Map Port) p => Map.set ({} : Port) m p ((Map.get ({} : Port) m p).applyImage (sectBytes l 6 p))) s.ports
      regions := Map.tab {} 1024 (regionOfConst (constOf l 0))
      image := s.imageRecord base h l }
    let s := (List.range 8).foldl (fun (t : State) p => t.setFld (Reg.at Reg.PORT_TXTAB p) 21 16 (t.port p).share) s
    let s := ((s.setFld Reg.POST_JOB 11 0 h.job).setReg64 Reg.FMT_COMMITS_LO 0).setReg Reg.FMT_SKIP_CNT 0
    s.setFld Reg.RES_STAT 6 4 0

/-- Thread every pool of every die (R247). -/
def State.threadPools (s : State) : State :=
  (List.range 4).foldl (fun (t : State) d => (List.range 64).foldl (fun (t : State) p => t.threadPool d p) t) s

end Sys2Proof.Machine
end

