-- ==== Sys2Proof/Machine/Restore.lean ====
section
/-!
DEFINITION. Draining to the shared store and filling from it (R396, R462), and restores and restarts (R404–R407).
-/
namespace Sys2Proof.Machine

/-! Draining. -/

/-- Entries of ADDR and LENGTH from offset 0x10 of a letter (R462). -/
def State.bufEntries (s : State) (slot : Nat) (n : Nat) : List (Nat × Nat) :=
  (List.range n).map fun i => (s.pay slot (0x10 + 16 * i) 8, s.pay slot (0x18 + 16 * i) 8)

/-- COUNT and the entries within range: 1–125 of them inside LENGTH, each a multiple of 4 KiB. -/
def State.bufsOk (s : State) (slot n : Nat) : Bool :=
  decide (1 ≤ n ∧ n ≤ 125) && decide (0x10 + 16 * n ≤ s.slotGet true slot 6 2) && (s.bufEntries slot n).all fun e => e.2 % 4096 == 0

/-- DRAIN_BUFFERS: buffers join the supply, in order. -/
def execDrainBuffers (slot : Fin 16) (s : State) : Ans :=
  .next (s.startLetter slot 0xA fun s =>
    let n := s.pay slot 0 2
    if s.bufsOk slot n then
      { s with host := { s.host with drainBufs := s.host.drainBufs ++ s.bufEntries slot n } }.answer slot 0
    else s.answer slot 5)

/-- States in which the store tier works: those in which its letters are accepted (R462). -/
def State.storeUp (s : State) : Bool := s.mod == .ready || s.mod == .running || s.mod == .held || s.mod == .parked

/-- Is a flash set eligible for draining (R396)? A complete set with its record; in PARKED also the set of the cut. -/
def State.eligible (s : State) (n : Nat) : Bool :=
  let r := s.flashSlot n
  r.complete && !r.drained && (r.record.isSome || (s.mod == .parked && r.boundary == s.reg64 Reg.RES_CUT_LO % 2 ^ 40))

/-- The set a drain works on: the one begun, else the oldest eligible. -/
def State.drainSet (s : State) : Option Nat :=
  ((List.range 4).find? fun n => (s.flashSlot n).draining) <|>
  ((List.range 4).filter s.eligible).foldl (fun (m : Option Nat) n =>
    match m with
    | some k => if (s.flashSlot n).boundary < (s.flashSlot k).boundary then some n else m
    | none => some n) none

/-- Give up a set's drain: it stays eligible and restarts from offset 0. -/
def State.abandonDrain (s : State) (n : Nat) : State :=
  let s := s.setFlashSlot n { s.flashSlot n with draining := false, drainOff := 0 }
  { s with res := { s.res with drainParts := s.res.drainParts.filter fun p => p.2.1 != n } }.setFld Reg.RES_STAT 2 2 0

/-- An EMPTY outbound slot: the lowest. -/
def State.emptyOutbound (s : State) : Option Nat := (List.range 16).find? fun n => s.slotState false n == 0

/-- Post a drain letter (R457, R462); the TAG is the poster's choice. -/
def State.postDrain (s : State) (slot : Nat) (body : List Byte) : State :=
  let (tag, s) := s.free
  let s := s.slotFill false slot 4 (leBytes 1 0x81 ++ leBytes 1 0 ++ leBytes 2 body.length ++ leBytes 8 tag.toNat ++ List.replicate 8 0#8 ++
    leBytes 8 s.pm ++ body)
  (s.setSlotState false slot 1).signal (16 + slot)

/-- The next part of set `n` goes into the buffer at `addr`. -/
def State.drainTo (s : State) (n slot addr len : Nat) : State :=
  let r := s.flashSlot n
  let off := r.drainOff
  let k := Nat.min len (r.size - off)
  let last := decide (r.size ≤ off + k)
  let body := leBytes 8 r.boundary ++ leBytes 1 n ++ leBytes 1 (if last then 1 else 0) ++ leBytes 2 (s.host.drainCount % 65536) ++
    List.replicate 4 0#8 ++ leBytes 8 off ++ leBytes 8 k
  let s := (s.setFlashSlot n { r with draining := true, drainOff := off + k }).emit (.hostWrite addr (r.bytes off k))
  let s := { s with host := { s.host with drainBufs := s.host.drainBufs.tail, drainCount := s.host.drainCount + 1 }
                    res := { s.res with drainParts := s.res.drainParts ++ [(slot, n, last)] } }
  (s.setFld Reg.RES_STAT 2 2 1).postDrain slot body

/-- May a drain go on (R396, R435, R462)? -/
def State.mayDrain (s : State) : Bool :=
  s.storeUp && s.fld Reg.RES_CTL 0 0 == 1 && !s.fw.absent && s.granted 7

/-- DRAIN_PART: one part of the set, written into the next buffer and reported; it waits for a buffer and an EMPTY outbound slot. A failed
write raises 0xB304, and the part is abandoned. -/
def execDrainPart (ok : Bool) (s : State) : Ans :=
  .next <|
    if !s.mayDrain then s
    else match s.drainSet, s.host.drainBufs, s.emptyOutbound with
      | some n, (addr, len) :: _, some slot =>
        if (s.flashSlot n).size ≤ (s.flashSlot n).drainOff then s
        else if ok then s.drainTo n slot addr len
        else ({ s with host := { s.host with drainBufs := s.host.drainBufs.tail, drainCount := s.host.drainCount + 1 } }).raise 0xB304 0
      | _, _, _ => s

/-- The host's answer to a part (R462): with STATUS 0 it is stored, and the set is drained once every part is; any other value abandons
the set's drain. -/
def State.drainAnswer (s : State) (slot : Nat) : State :=
  match s.res.drainParts.find? fun p => p.1 == slot with
  | none => s
  | some (_, n, _) =>
    let s := { s with res := { s.res with drainParts := s.res.drainParts.filter fun p => p.1 != slot } }
    if s.slotGet false slot 0x10 2 ≠ 0 then s.abandonDrain n
    else if (s.flashSlot n).draining ∧ (s.flashSlot n).size ≤ (s.flashSlot n).drainOff ∧ !(s.res.drainParts.any fun p => p.2.1 == n) then
      let s := s.setFlashSlot n { s.flashSlot n with draining := false, drained := true }
      (s.setFld Reg.RES_STAT 2 2 0).count Reg.RES_DRAIN_CNT
    else s

/-- Collect an ANSWERED outbound slot: it becomes EMPTY (R459). -/
def State.collectOutbound (s : State) (slot : Nat) : State :=
  if s.slotState false slot = 3 then (s.drainAnswer slot).setSlotState false slot 0 else s

/-- DRAIN_PART_ANSWER: the scheduler core collects the answered slot. -/
def execDrainPartAnswer (slot : Fin 16) (s : State) : Ans := .next (if s.schUp then s.collectOutbound slot else s)

/-! Filling. -/

/-- Take one part of a fill into its slot; the last one completes it (R396, R462). A set that does not fit the slot on a controller (R16, R393)
fails as one whose digests fail. -/
def State.fillPart (s : State) (slot n off : Nat) (last : Bool) (l : List Byte) : State :=
  let r : SetRec := if off = 0 then {} else s.flashSlot n
  let s := (s.setFlashSlot n { r.put off l with bad := true }).flashWrote l.length
  let s := ({ s with res := { s.res with fillSlot := some (n, off + l.length) } }).setFld Reg.RES_STAT 3 3 1
  if !last then s.answer slot 0
  else
    let s := ({ s with res := { s.res with fillSlot := none } }).setFld Reg.RES_STAT 3 3 0
    let r := { s.flashSlot n with bad := false }
    if r.verified && r.fits then ((s.setFlashSlot n r).appendCounter 2 (s.res.wearTotal / gbyte)).answer slot 0 0 (leBytes 1 n)
    else s.answer slot 9

/-- FILL: `data` is what the host's buffers hold, one after another. A part out of turn, one without FIRST at offset 0, and one that ends past
what a slot holds on its two controllers (R16, R393) is out of range.
With no slot to take the set, or the host absent, the fill is refused; under the flash guard it waits (R508). -/
def execFill (slot : Fin 16) (data : Option (List Byte)) (s : State) : Ans :=
  .next (s.startLetter slot 0xB fun s =>
    let first := bit (s.pay slot 0 1) 0
    let last := bit (s.pay slot 0 1) 1
    let n := s.pay slot 2 2
    let off := s.pay slot 8 8
    if s.pwr.guard then s
    else if s.fw.absent then s.answer slot 6
    else if !s.bufsOk slot n || (first != decide (off = 0)) || decide (2 * slotBytes < off + ((s.bufEntries slot n).map (·.2)).sum) then s.answer slot 5
    else
      let place := if first then s.chooseSlot else (s.res.fillSlot.bind fun f => if f.2 = off then some f.1 else none)
      match place with
      | none => s.answer slot (if first then 6 else 5)
      | some k => s.hostRead slot ((s.bufEntries slot n).map (·.2)).sum data fun l s => s.fillPart slot k off last l)

/-! Restores (R404, R405). -/

/-- Kinds the protection table declares. -/
def State.declaredKinds (s : State) : Nat := s.image.protect.ranges.foldl (fun m r => if bit m r.kind then m else m + 2 ^ r.kind) 0

/-- Does a set carry every declared kind? -/
def State.carriesKinds (s : State) (r : SetRec) : Bool := Nat.land (s.declaredKinds) r.kinds == s.declaredKinds

/-- The set a restore names: from the partner's reserve as the loads bring it, or from flash. -/
def State.restoreSet (s : State) (slot : Nat) (partner : Option (List Byte)) : Option SetRec :=
  if s.pay slot 8 1 = 1 then partner.map fun l => ({} : SetRec).put 0 l else some (s.flashSlot (s.pay slot 9 1))

/-- Does the set answer the record (R404)? -/
def State.setMatches (s : State) (source b : Nat) (r : SetRec) : Bool :=
  r.complete && r.boundary == b && r.node == s.node && (source == 1 || (r.job == s.job && r.imageId == s.image.ident)) && s.carriesKinds r

/-- Bytes of a segment go to the current copy of its range (R405 step 2), or to the block's slot. -/
def State.segPlace (s : State) (b copy range off : Nat) : Option Nat :=
  if range = 0xFFFF then some (s.blockAt b + off) else (s.image.protect.ranges[range]?).map fun p => p.addr copy + off

/-- The ranges already written are undefined after a digest mismatch: free bytes. -/
def State.tearSegs (s : State) (b copy : Nat) (l : List (Nat × Nat × Nat × List Byte × Nat)) : State :=
  l.foldl (fun (t : State) g =>
    match t.segPlace b copy g.1 g.2.1 with
    | some a =>
      let len := g.2.2.1
      (t.writeBond a ((List.range len).map fun i => BitVec.ofNat 8 (t.freeAt i)) 0).freeSkip len
    | none => t) s

/-- Read the segments into place; `none` tells a digest mismatch, with the state it leaves. -/
def State.placeSegs (s : State) (b copy : Nat) (r : SetRec) : State × Bool :=
  let bad := r.segments.findIdx fun g => shakeDigest32 (r.bytes g.2.2.2.2 g.2.2.1) != g.2.2.2.1
  if bad < r.segments.length then (s.tearSegs b copy (r.segments.take bad), false)
  else (r.segments.foldl (fun (t : State) g =>
    match t.segPlace b copy g.1 g.2.1 with
    | some a => t.writeBond a (r.bytes g.2.2.2.2 g.2.2.1) 0
    | none => t) s, true)

/-- Apply a boundary block's bytes (R405 step 3). ENTRY10–15 and the policies, which no block holds, come back as the image load left them
(R111). -/
def State.applyBlock (s : State) (l : List Byte) : State :=
  let s := (s.setReg64 Reg.FMT_STEP_LO (fieldAt l 0 8 % 2 ^ 40)).setReg64 Reg.FMT_SEED_LO (fieldAt l 0x10 8)
  let s := (s.setReg64 Reg.FMT_COMMITS_LO (fieldAt l 0x18 8)).setReg Reg.FMT_SKIP_CNT (fieldAt l 0x20 4)
  let s := s.setFld Reg.FMT_BOUNDARY 8 8 (fieldAt l 0x24 1)
  let s := (List.range 4).foldl (fun (t : State) d => t.onDie d fun x => { x with
    stamps := Map.tab ({} : StampEnt) 4096 fun i => stampOf (slice l (stampAt d i) 64) }) s
  let s := s.image.formats.foldl (fun (t : State) w => t.setReg w.1 w.2.toNat) s
  { s with image := { s.image with baseStep := fieldAt l 8 8 } }

/-- Steps 3 to 5, and the answer. A restore without a record shows VERIFIED at the first decision (R407). -/
def State.restored (s : State) (slot b : Nat) (record : Option (List Byte)) : State :=
  let s := (s.applyBlock (s.readBond (s.blockAt b) 0x101000).1).runReset
  let s := { s with res := { s.res with proofRecord := record, verifying := record.isNone, tornRestore := false } }
  (((s.setFld Reg.RES_STAT 6 5 0).setFld Reg.RES_STAT 4 3 2).count Reg.RES_RESTORE_CNT).answer slot 0

/-- A set's restore (R405 steps 1 and 2). COMMITS stands in the boundary block's segment. -/
def State.restoreFrom (s : State) (slot b : Nat) (r : SetRec) : State :=
  if !r.tableOk then (s.setFld Reg.RES_STAT 3 3 0).refuseWith slot 0x7404
  else
    let copy := r.num (0x100000 + 0x18) 8 % 2
    match s.placeSegs b copy r with
    | (s, true) => s.restored slot b r.record
    | (s, false) => ({ s with res := { s.res with tornRestore := true } }.setFld Reg.RES_STAT 3 3 0).refuseWith slot 0x7404

/-- Take an accepted record. -/
def State.beginRestore (s : State) (restart : Nat) : State :=
  { s with res := { s.res with restart := some restart } }.setFld Reg.RES_STAT 4 3 1

/-- RESTORE (R404): `partner` is what the loads from the partner's reserve bring, from the set's offset 0 on. -/
def execRestore (slot : Fin 16) (partner : Option (List Byte)) (s : State) : Ans :=
  .next (s.startLetter slot 8 fun s =>
    let b := s.pay slot 0 8
    let source := s.pay slot 8 1
    let proof := bit (s.pay slot 0xA 1) 0
    let restart := s.pay slot 0x10 8
    if s.mod = .ready ∧ !(s.dom.joined && s.image.loaded) then s.answer slot 6
    else if 2 < source ∨ (source = 2 ∧ 3 < s.pay slot 9 1) ∨ restart % 65536 ≠ 0 then s.answer slot 5
    else if source = 0 then
      if s.mod = .parked ∧ s.reg64 Reg.RES_CUT_LO % 2 ^ 40 = b ∧ !s.res.cutMapOut ∧ !s.channelLost ∧ !s.res.tornRestore ∧ !proof then (s.beginRestore restart).restored slot b none
      else s.refuseWith slot 0x7405
    else match s.restoreSet slot partner with
      | some r =>
        if s.setMatches source b r ∧ (!proof || r.record.isSome) then (s.beginRestore restart).restoreFrom slot b r
        else s.refuseWith slot 0x7405
      | none => s.refuseWith slot 0x7405)

/-! Restarts (R406). -/

/-- At RESTART: RUNNING again from the boundary restored, or 0x7406. A supply warning that parked the job holds it (R411), and a channel
mapped out since the interleave was built keeps PARKED from RUNNING (R267). One that falls in the cycle of a release from PARKED to READY
meets the state that the cycle began in, and loses (R4). -/
def State.restartRun (s : State) : State :=
  match s.res.restart with
  | some p =>
    if p = s.pm ∧ (s.mod = .ready ∨ s.mod = .parked) then
      let parked := s.mod == .parked || s.rival == some .parked
      let s := { s with res := { s.res with restart := none } }
      let held := parked && ((s.pwr.warn && s.pwr.supplyParked) || s.channelLost)
      if s.mod = .ready ∧ parked then s.transition 0x0A .running
      else if s.fld Reg.RES_STAT 4 4 = 0 ∨ !s.image.loaded ∨ held then s.raise 0x7406 0
      else
        let tau := (s.step40 - s.image.baseStep) * s.image.period
        (s.clearTables.beginRun (if parked then 0x0A else 0x06) tau)
    else s
  | none => s

def execRestart (s : State) : Ans := .next s.restartRun

end Sys2Proof.Machine
end

