-- ==== Sys2Proof/Machine/View.lean ====
section
/-!
DEFINITION. What the host reads (R445, R450–R455): registers whose fields show running state, daybook records (R438) and the snap
captures (R452, R453).
-/
namespace Sys2Proof.Machine

/-- One where a condition holds, else 0. -/
def one (b : Bool) : Nat := if b then 1 else 0

/-- Pack fields, each given with its lowest bit. -/
def pack (l : List (Nat × Nat)) : Nat := (l.map fun e => e.2 * 2 ^ e.1).sum

/-! Records (R438). -/

def DRec.bytes (r : DRec) : List Byte :=
  let b := leBytes 8 r.seq ++ leBytes 8 r.postmark ++ leBytes 2 r.kind ++ leBytes 2 r.source ++ leBytes 2 r.fault ++ leBytes 1 r.severity ++
    leBytes 1 r.state ++ leBytes 2 r.ident ++ leBytes 6 0 ++ slice r.payload 0 28
  b ++ leBytes 4 (crc32c b)

/-! The measurements (R492): index, digest and VERSION. -/

def noMeasure : List Byte := List.replicate 64 0#8

def State.measure (s : State) (k : Nat) : List Byte × Nat :=
  if k = 0 then (shake512 Config.romBytes, Config.romVersion.toNat)
  else if 4 ≤ k ∧ k ≤ 7 then
    let img := s.cached s.hub (k - 4) false
    if img.bytes.isEmpty then (noMeasure, 0) else (img.digest, imageVersion img.bytes)
  else if k = 8 ∧ !s.image.loaded then (noMeasure, 0)
  else (slice (Map.get noMeasure s.boot.measure k) 0 64, Map.get 0 s.boot.versions k)

/-! Registers. -/

/-- The instance of its window that an offset lies in. -/
def Reg.inst (off : Nat) : Nat := let d := Reg.stride (Reg.canon off); if d = 0 then 0 else (off - Reg.canon off) / d

/-- `FW.STATE` (R440); `HOST.STATE` copies all but H1_CHARGE. -/
def State.fwState (s : State) : Nat :=
  pack [(28, s.mod.code), (24, s.fw.prev.code), (16, one s.fw.h1Charge), (0, s.fw.event)]

def State.fwProc (s : State) : Nat :=
  let p := s.proc (s.fld Reg.FW_PROC_SEL 7 0)
  pack [(29, p.st.code), (16, Nat.min p.restarts 255), (12, p.cause), (0, Nat.min p.lastMs 0xFFF)]

def State.fwLease (s : State) : Nat :=
  pack [(8, Nat.min s.fw.maxGap 255), (4, s.fw.h0SchLast), (3, one s.fw.haW), (2, one s.fw.haE), (1, one s.fw.unanswered), (0, one s.fw.expired)]

/-- `DOM.STAT.STATE`. -/
def State.domState (s : State) : Nat :=
  match s.dom.hold with
  | some h => if h.res.isSome then 6 else if s.mod = .held then 5 else 4
  | none => if s.mod = .running then 3 else if s.dom.joined then 2 else if s.dom.joinStep ≠ 0 then 1 else 0

def State.slotStates (s : State) (inb : Bool) : Nat := ((List.range 16).map fun n => s.slotState inb n * 4 ^ n).sum

/-- Cores of the image whose STEPEND is not complete. -/
def State.coresPending (s : State) : Nat := (s.stepCores.filter fun g => !((s.core g).stepEnd && !s.posting g)).length

def State.fmtPhase (s : State) : Nat :=
  if s.updating then 3 else if s.stepSt.own.isSome then 2 else if s.live && s.stepEnds then 1 else 0

def GState.code : GState → Nat
  | .closed => 0 | .opened => 1 | .closing => 2
def Bank.code : Bank → Nat
  | .active => 0 | .idle => 1 | .retained => 2 | .waking => 3

def Core.statBits (c : Core) : Nat :=
  pack [(8, c.stall), (4, ((List.range 3).map fun i => one (c.thread (i + 1)).running * 2 ^ i).sum), (2, one c.halted), (1, one c.issuing),
    (0, one (c.stall != 0))]

def Core.grp (c : Core) (i : Nat) : Nat :=
  let g := c.group i
  pack [(16, Nat.min g.rows 0xFFFF), (12, g.arrays), (5, g.count), (0, g.first)]

def Core.bankStates (c : Core) (lo : Nat) : Nat := ((List.range 16).map fun i => (c.bank (lo + i)).code * 4 ^ i).sum

/-- The bank of a region under test. -/
def Core.testBits (c : Core) : Nat := match c.testing with | some (r, _) => 2 * (r / 48) + 1 | none => 0

/-- The other half has been released: a fill has landed in it, and no claim stands on it (R117). -/
def Core.otherFilled (c : Core) : Bool := Map.get false c.filled (1 - c.half) && !c.claimed (4, 1 - c.half, 1)

/-- An array is issuing rows (R78). -/
def Core.issuing? (c : Core) (l : List Rows) : Bool := l.any fun r => decide (r.start ≤ c.count r.runs) && decide (c.count r.runs < r.start + r.count)

/-- Registers of a core's window that show its state. -/
def Core.view (c : Core) (g : Nat) (off : Nat) : Option Nat :=
  if off = Reg.CORE_ID then some (pack [(16, g), (12, g / 96), (8, g / 8 % 12), (0, g % 8)])
  else if off = Reg.CORE_STAT then some c.statBits
  else if off = Reg.CORE_PC then some (pack [(12, c.loops.length), (0, c.index)])
  else if off = Reg.CORE_SEG then some (pack [(16, Nat.min c.segs 0xFFFF), (1, one c.otherFilled), (0, c.half)])
  else if off = Reg.CORE_STALL_LO then some (c.stallCycles % 2 ^ 32)
  else if off = Reg.CORE_STALL_HI then some (c.stallCycles / 2 ^ 32 % 2 ^ 32)
  else if off = Reg.ARR_STAT then some (pack [(3, one (c.stall != 0)), (2, one (c.busyUnit .twinPass)), (1, one (c.issuing? c.issueB)), (0, one (c.issuing? c.issueA))])
  else if off = Reg.ARR_GRP_STATE then some ((List.range 8).map fun i => (c.group i).st.code * 4 ^ i).sum
  else if Reg.ARR_GRP0 ≤ off ∧ off < Reg.ARR_GRP0 + 32 then some (c.grp ((off - Reg.ARR_GRP0) / 4))
  else if off = Reg.ARR_BUSY_A_LO then some (c.busyA % 2 ^ 32)
  else if off = Reg.ARR_BUSY_A_HI then some (c.busyA / 2 ^ 32 % 2 ^ 32)
  else if off = Reg.ARR_BUSY_B_LO then some (c.busyB % 2 ^ 32)
  else if off = Reg.ARR_BUSY_B_HI then some (c.busyB / 2 ^ 32 % 2 ^ 32)
  else if off = Reg.VEC_STAT then some (pack [(2, one (c.convs.any fun k => decide (k.further ≤ c.run) && decide (c.run < k.ends))), (1, one (c.busyUnit .topk)), (0, one (c.busyUnit .special))])
  else if off = Reg.TS_STAT then some c.testBits
  else if off = Reg.TS_BANK_LO then some (c.bankStates 0)
  else if off = Reg.TS_BANK_HI then some (c.bankStates 16)
  else none

/-- Is a match running on a core of a die: does a MATCH head a queue of one of its clusters (R195, log 100)? -/
def State.matchBusy (s : State) (d : Nat) : Bool :=
  s.clusters.any fun e => e.1 / 12 == d && e.2.queues.any fun q => match q.2 with
    | x :: _ => (cdesc (Map.get 0 e.2.desc x.desc)).kind == 2
    | [] => false

/-- Is a range of a core where an access reaches it at once (R233, R236)? -/
def State.rngAwake (s : State) (r : Rng) : Bool :=
  r.1 != 0 || ((s.core r.2.1).asleep (rngUnits r)).isNone && !(s.core r.2.1).testHit (rngUnits r)

/-- Does a courier wait on a source, a wake or a pool (R254)? -/
def State.courierWaits (s : State) (cl k : Nat) : Bool :=
  match (s.cluster cl).queue k with
  | [] => false
  | q :: _ =>
    let d := s.descFor cl q
    let pool := (s.pool (if d.kind = 4 then q.core / 96 else d.poolDie) (d.pool % 64)).waiting.any fun w => w.ident == q.ident
    if d.kind = 4 then pool
    else if d.kind = 0 then
      let n := s.liveRows q.core d
      !q.sent && (pool || !s.srcReady q.core q.ident d n || !(d.readRngs s n ++ if d.isLoad then [] else d.writeRngs n).all s.rngAwake)
    else
      let l := s.postIns q.core (Map.get 0 (s.cluster cl).desc q.desc) q.off
      !(l.all fun r => s.freeToRead q.ident r && s.rngAwake r)

def Pool.view (v : Pool) : Nat := pack [(30, if v.quarantined then 2 else one v.valid), (26, v.cls), (0, v.free)]

/-- Registers of a die's window. -/
def State.dieView (s : State) (d off : Nat) : Option Nat :=
  let x := s.die d
  let ch := s.fld (Reg.at Reg.BOND_CH_SEL d) 7 0
  let c := x.chan ch
  if off = Reg.FMT_BOUNDARY then some (pack [(18, s.stepSt.reports.length), (9, s.coresPending), (0, s.fmtPhase)])
  else if off = Reg.RDU_MBAG_STAT then some (x.mbags.filter fun m => bit m.2.flags 0 && !m.2.complete).length
  else if off = Reg.SO_STAT then
    some (pack [(2, one (!x.parQ.isEmpty || x.landings.any (·.land.isSome))), (1, one (!x.rounds.isEmpty)), (0, one (!x.admQ.isEmpty || !x.rounds.isEmpty))])
  else if off = Reg.SO_LAND_USED then some x.landings.length
  else if off = Reg.RDU_STAT then some (one x.queueFull)
  else if off = Reg.SPZ_STAT then
    some (one (s.matchBusy d) + 2 * one ((List.range 96).any fun i => let k := s.core (d * 96 + i); (k.remPass .a).isSome || (k.remPass .b).isSome))
  else if off = Reg.PGN_STAT then some (x.pools.filter fun p => p.2.quarantined).length
  else if off = Reg.PGN_POOL then some (x.pool (s.fld (Reg.at Reg.PGN_SEL d) 5 0)).view
  else if off = Reg.BOND_CH_STAT then
    some (pack [(30, if x.margin.any fun m => m.1 == ch then 3 else c.state), (16, Nat.min 255 (c.units.filter fun u => decide (s.now < u.2 + ms 1000)).length)])
  else if off = Reg.BOND_CORR_CNT then some c.corr
  else if off = Reg.BOND_UNCORR_CNT then some c.uncorr
  else if off = Reg.RMT_TAGS then some (s.tags.filter fun t => t.1 / 4096 == d && t.2.used).length
  else none

/-- Registers of a port's window. -/
def State.portView (s : State) (p off : Nat) : Option Nat :=
  let t := s.port p
  if off = Reg.PORT_STAT then some (pack [(4, t.subUp), (3, one t.paused3), (0, t.link)])
  else if off = Reg.PORT_TXTAB then some t.window
  else if off = Reg.PORT_SEQ_USED then some (pack [(16, rxUsed t.rx), (0, txUsed t.tx)])
  else if off = Reg.RMT_RECEIPTS then some (s.liveReceipts p).length
  else none

def State.clusterView (s : State) (n off : Nat) : Option Nat :=
  let l := (List.range 4).map fun k => ((s.cluster n).queue k).length
  let busy := ((List.range 4).map fun k => one (l.getD k 0 != 0) * 2 ^ k).sum
  if off = Reg.COUR_STAT then some (pack [(8, ((List.range 4).map fun k => one (s.courierWaits n k) * 2 ^ k).sum), (0, busy)])
  else if off = Reg.COUR_DEPTH then some ((List.range 4).map fun k => l.getD k 0 * 256 ^ k).sum
  else none

/-- Registers of the module-wide windows. -/
def State.moduleView (s : State) (off : Nat) : Option Nat :=
  if off = Reg.FW_STATE then some s.fwState
  else if off = Reg.HOST_STATE then some (s.fwState - one s.fw.h1Charge * 2 ^ 16)
  else if off = Reg.FW_PROC then some s.fwProc
  else if off = Reg.FW_LEASE then some s.fwLease
  else if off = Reg.FW_HOST then some (one s.fw.absent)
  else if off = Reg.DOM_STAT then some (pack [(7, one s.dom.hostHold), (6, one s.selfReady), (0, s.domState)])
  else if off = Reg.MBX_IN_STATE then some (s.slotStates true)
  else if off = Reg.MBX_OUT_STATE then some (s.slotStates false)
  else if off = Reg.MBX_STAT then some (one (!s.schUp))
  else if off = Reg.POST_STAT then some (one ((List.range 8).any fun p => !(s.port p).room s.v4 { cls := 6, ty := Ty.data }))
  else if off = Reg.PWR_STAT then some (pack [(4, one s.pwr.guard), (3, one s.pwr.warn), (0, s.brake)])
  else if off = Reg.PWR_SMBUS then some (0x60 + s.pwr.smbAddr)
  else if off = Reg.HLT_CURVE_PT then
    let k := s.fld Reg.HLT_CURVE_SEL 3 0 * 8 + s.fld Reg.HLT_CURVE_SEL 6 4
    some (pack [(24, Map.get 0 s.hlt.curveY k), (0, Map.get 0 s.hlt.curveX k)])
  else if off = Reg.HLT_INPUT_CFG then some (Map.get 0 s.hlt.window (s.fld Reg.HLT_CURVE_SEL 3 0) * 2 ^ 16)
  else if off = Reg.SEC_REPAIR then some (pack [(16, s.repairs.length), (0, Nat.min 64 s.boot.repairQueue.length)])
  else none

/-- The copy that holds a module-wide FMT register, on die 0; every other register is its own (R111, R167). -/
def Reg.home (off : Nat) : Nat :=
  let c := Reg.canon off
  if 0x40000 ≤ c ∧ c ≤ 0x400C0 ∧ (c < Reg.FMT_STAT ∨ Reg.FMT_BOUNDARY ≤ c) then c else off

/-- What a register's running fields show, by its block. -/
def State.shown (s : State) (off : Nat) : Option Nat :=
  let c := Reg.canon off
  let i := Reg.inst off
  if c < 0x10000 then s.moduleView c else if c < 0x20000 then none else if c < 0x40000 then s.portView i c
  else if c < 0x80000 then s.dieView i c else if c < 0x100000 then s.clusterView i c else (s.core i).view i c

/-- The value of a register: what is kept, and what its running fields show. Write-only fields are kept nowhere and read 0. -/
def State.view (s : State) (off : Nat) : Nat :=
  Nat.lor (s.reg (Reg.home off)) ((s.shown off).getD 0)

/-! Which blocks answer (R450, R470, R471, R495). -/

/-- The BOOT phase after which a window's block is up: its die and core blocks after phase 8, spine and die supplies before it. -/
def blockPhase (off : Nat) : Nat :=
  if off < 0x2000 then 0 else if off < 0x3000 then 1 else if off < 0x5000 then 1 else if off < 0x7000 then 4 else if off < 0x10000 then 4
  else if off < 0x20000 then 1 else if off < 0x40000 then 7 else 7

/-- Is a register's block up? -/
def State.blockUp (s : State) (off : Nat) : Bool :=
  match s.mod with
  | .off => false
  | .standby => false
  | .boot => decide (blockPhase off < s.fld Reg.BOOT_STAT 7 4)
  | .recovery => decide (off < 0x1000)
  | .fenced => s.pwr.dieRails || decide (off < 0x20000)
  | _ => true

/-- Does the endpoint answer at all: from BOOT on (R471), and not once H0 is gone (R433)? -/
def State.endpointUp (s : State) : Bool := s.powered && !s.fw.h1Charge

/-- A host read of a register (R445, R450): the word. -/
def State.hostReads (s : State) (off : Nat) : Nat :=
  if s.mod = .recovery ∧ 0x1000 ≤ off then 0
  else if (Reg.find? off).isNone then 0
  else if s.blockUp off then s.view off else 0xFFFFFFFF

/-- It sets `HOST.STAT.BLOCK_DOWN` where the block is down. -/
def State.readMark (s : State) (off : Nat) : State :=
  if s.mod ≠ .recovery ∧ (Reg.find? off).isSome ∧ !s.blockUp off then s.event Reg.HOST_STAT 18 else s

/-- A read of the daybook (R438): a record's bytes, 0 where the ring holds none. -/
def State.dayRead (s : State) (i : Nat) : List Byte := match s.dayAt (i % 16384) with | some r => r.bytes | none => List.replicate 64 0#8

/-! Snap captures (R453). -/

def words64 (v : Nat) : List Nat := [v % 2 ^ 32, v / 2 ^ 32 % 2 ^ 32]
def wordsOf (l : List Byte) : List Nat := (List.range (l.length / 4)).map fun i => fieldAt l (4 * i) 4
def pairs16 (l : List Nat) : List Nat := (List.range ((l.length + 1) / 2)).map fun i => l.getD (2 * i) 0 % 65536 + l.getD (2 * i + 1) 0 % 65536 * 65536

def MBag.words (m : MBag) : List Nat :=
  [pack [(31, one (bit m.flags 0)), (30, one (bit m.flags 1)), (29, one (bit m.flags 2)), (28, one m.dirty), (27, one m.complete), (0, m.expect)],
   m.received % 2 ^ 24, m.nilCount % 2 ^ 24] ++ words64 (m.tokens % 2 ^ 48) ++ words64 (m.step % 2 ^ 40)

def Region.words (r : Region) : List Nat :=
  [r.flags, pack [(0, r.space), (8, r.die), (16, r.core)], pack [(0, r.owner), (16, r.job)]] ++ words64 r.base ++ words64 r.length

def SetRec.words (r : SetRec) : List Nat :=
  if r.state = 0 then [r.num 6 2] else
  let rec' := r.record
  [pack [(0, r.num 6 2), (16, r.kinds), (24, one rec'.isSome), (25, one r.draining)]] ++ words64 r.boundary ++
  (match rec' with | some p => words64 (fieldAt p 8 8) ++ [fieldAt p 0x30 1] | none => [])

/-- The captured words of a selector, `none` where it is not listed. The postmark is the one at the selector's write (R41). -/
def State.capture (s : State) (sel pm : Nat) : Option (List Nat) :=
  let entry := fun (d : Nat) => Map.get ({} : StampEnt) (s.die d).stamps (s.fld (Reg.at Reg.FMT_HIST_SEL d) 11 0)
  if sel = 1 then some (words64 pm)
  else if sel = 2 then some (words64 s.time.sched)
  else if 0x20 ≤ sel ∧ sel < 0x24 then some [stampWord (entry (sel - 0x20)), (entry (sel - 0x20)).curMax]
  else if 0x24 ≤ sel ∧ sel < 0x28 then some ((List.range 8).map (histWord (entry (sel - 0x24))))
  else if 0x30 ≤ sel ∧ sel < 0x34 then
    some (Map.get ({} : MBag) (s.die (sel - 0x30)).mbags (s.fld (Reg.at Reg.RDU_MBAG_SEL (sel - 0x30)) 9 0)).words
  else if sel = 0x40 then some (s.region (s.fld Reg.RMT_REGION_SEL 9 0)).words
  else if sel = 0x50 then some (words64 s.dom.fstop ++ words64 s.dom.fres ++ words64 s.dom.totalH)
  else if sel = 0x51 then
    let l := s.latency (s.fld Reg.DOM_LAT_SEL 8 0)
    some [l.fmin, l.fmax, l.rmin, l.rmax, probesAnswered l]
  else if 0x60 ≤ sel ∧ sel < 0x64 then some (s.flashSlot (sel - 0x60)).words
  else if sel = 0x64 then some s.res.partner.words
  else if sel = 0x70 then
    let i := s.fld Reg.HLT_CURVE_SEL 3 0
    some [Map.get 0 s.hlt.values i, Map.get 0 s.hlt.points i]
  else if sel = 0x80 then some (pairs16 s.boot.endTimes)
  else if 0x90 ≤ sel ∧ sel < 0xA2 then some (wordsOf (slice (s.measure ((sel - 0x90) / 2)).1 (32 * (sel % 2)) 32))
  else if sel = 0xC0 then some (pairs16 ((List.range 16).map (Map.get 0 s.pwr.stackTemp)))
  else if sel = 0xC1 then some (pairs16 ((List.range 6).map (Map.get 0 s.pwr.dieTemp)))
  else none

/-- SNAP_SEL (R452): VALID clears and a capture starts; one in progress is abandoned. -/
def State.snapSel (s : State) (v : Nat) : State :=
  let sel := v % 65536
  let s := (s.setFld Reg.HOST_SNAP_STAT 31 31 0).setFld Reg.HOST_SNAP_STAT 15 0 sel
  { s with host := { s.host with snapPending := some (sel, s.pm) } }

/-- SNAP_CAPTURE: the words, VALID, ERR and GEN. -/
def State.snapCapture (s : State) : State :=
  match s.host.snapPending with
  | none => s
  | some (sel, pm) =>
    let w := s.capture sel pm
    let s := { s with host := { s.host with snapPending := none } }
    let s := (List.range 8).foldl (fun (t : State) k => t.setReg (Reg.HOST_SNAP_D0 + 4 * k) ((w.getD []).getD k 0)) s
    let s := s.setFld Reg.HOST_SNAP_STAT 31 30 (if w.isNone then 3 else 2)
    let s := s.setFld Reg.HOST_SNAP_STAT 23 16 ((s.fld Reg.HOST_SNAP_STAT 23 16 + 1) % 256)
    if w.isNone then s.event Reg.HOST_STAT 16 else s

def execSnapSel (v : BitVec 32) (s : State) : Ans := .next (if s.endpointUp then s.snapSel v.toNat else s)
def execSnapCapture (s : State) : Ans := .next s.snapCapture

end Sys2Proof.Machine
end

