-- ==== Sys2Proof/Machine/HostIf.lean ====
section
/-!
DEFINITION. What the host writes (R443–R452, R458, and the write rules of each block's registers): registers, post box words, the memory
window, endpoint resets.
-/
namespace Sys2Proof.Machine

/-! Sequence-clear registers (R451). -/

/-- Error-location registers whose VALID goes with bits of a status register (R78, R226, R195, R254, R284, R342). -/
def errLocs : List (Nat × Nat × Nat × Nat) :=
  [(Reg.ARR_STAT, Reg.ARR_ERR_LOC, 16, 15), (Reg.SO_STAT, Reg.SO_ERR_LOC, 17, 15), (Reg.SPZ_STAT, Reg.SPZ_ERR_LOC, 17, 17),
   (Reg.TS_STAT, Reg.TS_ERR_LOC, 19, 16), (Reg.COUR_STAT, Reg.COUR_ERR_LOC, 16, 16),
   (Reg.RDU_STAT, Reg.RDU_ERR_INFO, 18, 16)]

/-- VALID falls where its status bits are all clear. -/
def State.dropErrLocs (s : State) (off : Nat) : State :=
  let i := Reg.inst off
  let s := errLocs.foldl (fun (t : State) e =>
    if Reg.canon off = e.1 ∧ t.fld off e.2.2.1 e.2.2.2 = 0 then t.setFld (Reg.at e.2.1 i) 0 0 0 else t) s
  if off = Reg.RMT_STAT ∧ s.fld off 18 18 = 0 ∧ s.fld off 15 15 = 0 then s.setFld Reg.RMT_ERR_INFO 0 0 0 else s

/-- Does a write with SEQ field `w` clear a bit whose latest event took `q`? -/
def clears (w q : Nat) : Bool := decide ((w + 256 - q % 256) % 256 ≤ 127)

/-- A write of `v` to a status register. -/
def State.sequenceClear (s : State) (off v : Nat) : State :=
  match Reg.find? off with
  | none => s
  | some d =>
    let w := v / 2 ^ 24 % 256
    if !clears (s.fld off 31 24) w then s
    else
      let s := (List.range 24).foldl (fun (t : State) j =>
        if bit d.sqc j && bit v j && clears w (Map.get 0 s.seqOf (off * 32 + j)) then t.setFld off j j 0 else t) s
      s.dropErrLocs off

/-! Registers with a write rule of their own. -/

/-- The status bit that tells a refused write to a READY-only field (R111, R316, R317, R342, R415). -/
def State.refuseWrite (s : State) (off : Nat) : State :=
  let c := Reg.canon off
  if 0x40000 ≤ c ∧ c < 0x41000 then (List.range 4).foldl (fun (t : State) d => t.event (Reg.at Reg.FMT_STAT d) 20) s
  else if 0x20000 ≤ c ∧ c < 0x40000 then s.event (Reg.at Reg.PORT_STAT (Reg.inst off)) 23
  else if 0xA000 ≤ c ∧ c < 0xB000 then s.event Reg.POST_STAT 23
  else if 0xB000 ≤ c ∧ c < 0xC000 then s.event Reg.RMT_STAT 23
  else if 0x9000 ≤ c ∧ c < 0xA000 then s.event Reg.HLT_STAT 18
  else s

/-- Bits of `mask` from `v`, the others from `old`. -/
def mergeBits (old v mask : Nat) : Nat := Nat.lor (Nat.land old (0xFFFFFFFF - mask)) (Nat.land v mask)

/-- A plain write: read-only and reserved bits stay; READY-only bits change in READY alone, and elsewhere the refusal is noted (R10, R11). -/
def State.plainWrite (s : State) (off v : Nat) (d : RegDef) : State :=
  let off := Reg.home off
  let old := s.reg off
  if d.ready = 0 ∨ s.mod = .ready then s.setReg off (mergeBits old v d.wr)
  else (s.setReg off (mergeBits old v (d.wr - Nat.land d.wr d.ready))).refuseWrite off

/-- A write of a point of a health curve: X must keep ascending (R415). -/
def State.curveWrite (s : State) (v : Nat) : State :=
  let i := s.fld Reg.HLT_CURVE_SEL 3 0
  let p := s.fld Reg.HLT_CURVE_SEL 6 4
  let x := v % 65536
  let below := p = 0 ∨ Map.get 0 s.hlt.curveX (i * 8 + p - 1) < x
  let above := p = 7 ∨ x < Map.get 0 s.hlt.curveX (i * 8 + p + 1)
  if s.mod = .ready ∧ below ∧ above then
    s.onHlt fun h => { h with curveX := Map.set 0 h.curveX (i * 8 + p) x, curveY := Map.set 0 h.curveY (i * 8 + p) (v / 2 ^ 24 % 256) }
  else s.event Reg.HLT_STAT 18

def State.windowWrite (s : State) (v : Nat) : State :=
  if s.mod = .ready then s.onHlt fun h => { h with window := Map.set 0 h.window (s.fld Reg.HLT_CURVE_SEL 3 0) (v / 65536) }
  else s.event Reg.HLT_STAT 18

/-- A write of `PORT.CTL`: a change of MODE, MEDIA or ENABLE restarts the port at step 1 of R314 (R316). -/
def State.portCtlWrite (s : State) (off v : Nat) (d : RegDef) : State :=
  let p := Reg.inst off
  let t := s.plainWrite off v d
  let key := fun (x : State) => (x.fld off 5 4, x.fld off 3 2, x.fld off 0 0)
  if key t = key s then t else t.onPort p fun q => { q.fall (if t.portEnabled p then 1 else 0) (if t.portEnabled p then 1 else 0) with retrain := false, lost := false }

/-- `DOM.CTL`: the limit, and the host's hold and resume requests (R358, R377). -/
def State.domCtlWrite (s : State) (off v : Nat) (d : RegDef) : State :=
  let s := s.plainWrite off v d
  let s := if bit v 0 then s.holdReq else s
  if bit v 1 then s.resumeReq else s

/-- `RES.CTL`: DRAIN_EN, and PARK_REQ (R402, R413). -/
def State.resCtlWrite (s : State) (off v : Nat) (d : RegDef) : State :=
  let s := s.plainWrite off v d
  if bit v 1 then s.parkReq else s

/-- A host write of all 32 bits of a register that is up. -/
def State.regWrite (s : State) (off v : Nat) (d : RegDef) : State :=
  let c := Reg.canon off
  if d.sqc ≠ 0 then s.sequenceClear off v
  else if c = Reg.HOST_HEARTBEAT then nextOr s (execHeartbeatBump s)
  else if c = Reg.HOST_SNAP_SEL then s.snapSel v
  else if c = Reg.FW_RESTART then s.fwRestart v
  else if c = Reg.DOM_CTL then s.domCtlWrite off v d
  else if c = Reg.RES_CTL then s.resCtlWrite off v d
  else if c = Reg.HLT_CURVE_PT then s.curveWrite v
  else if c = Reg.HLT_INPUT_CFG then s.windowWrite v
  else if c = Reg.TIME_DPLL_CTL ∨ c = Reg.TIME_REF_PRIO then s.timeWrite off v
  else if c = Reg.BOND_MARGIN_CTL then s.marginWrite (Reg.inst off) v
  else if c = Reg.PORT_CTL then s.portCtlWrite off v d
  else s.plainWrite off v d

/-- A write into the register windows (R445, R448, R450): a partial one is dropped, one to a block that is down too. -/
def State.hostWrite (s : State) (off v : Nat) (full : Bool) : State :=
  if s.mod = .recovery ∧ 0x1000 ≤ off then s
  else match Reg.find? off with
    | none => s
    | some d => if !full then s.event Reg.HOST_STAT 17 else if s.blockUp off then s.regWrite off v d else s

/-! Post box words (R458). -/

/-- A write that the table does not allow: noted, and 0xB203 at most once per frame. -/
def State.slotRefused (s : State) : State :=
  if s.host.slotWriteFrame = some s.frame then s.event Reg.MBX_STAT 16
  else { s with host := { s.host with slotWriteFrame := some s.frame } }.raise 0xB203 0

/-- The host writes STATE of a slot. -/
def State.slotStateWrite (s : State) (outb : Bool) (n v : Nat) : State :=
  let old := s.slotState (!outb) n
  let v := v % 4
  if !outb ∧ old = 0 ∧ v = 1 then
    let s := s.setSlotState true n 1
    { s with host := { s.host with posted := s.host.posted ++ [n] } }
  else if !outb ∧ old = 3 ∧ v = 0 then s.setSlotState true n 0
  else if outb ∧ old = 1 ∧ v = 2 then s.setSlotState false n 2
  else if outb ∧ old = 2 ∧ v = 3 then s.setSlotState false n 3
  else s.slotRefused

/-- Slots that answer: all from BOOT on, the recovery post box alone in RECOVERY (R471, R495). -/
def State.slotUp (s : State) (outb : Bool) (n : Nat) : Bool :=
  s.endpointUp && (s.mod != .recovery || (!outb && n == 0))

def execSlotStateWrite (outb : Bool) (slot : Fin 16) (v : BitVec 32) (s : State) : Ans :=
  .next (if s.slotUp outb slot then s.slotStateWrite outb slot v.toNat else s)

/-- A write of another word of a slot: an inbound one while EMPTY; STATUS of an outbound one while COLLECTED. -/
def State.slotWordWrite (s : State) (outb : Bool) (n o v : Nat) : State :=
  if !outb ∧ s.slotState true n = 0 then s.slotFill true n o (leBytes 4 v)
  else if outb ∧ s.slotState false n = 2 ∧ o = 0x10 then s.slotFill false n o (leBytes 2 v)
  else s.slotRefused

/-- A word of the post box area of BAR0, 0x0100_0000 to 0x0100_FFFF. -/
def State.boxWrite (s : State) (off v : Nat) : State :=
  let o := off % 0x10000
  let outb := decide (0x8000 ≤ o)
  let n := o % 0x8000 / 2048
  if !s.slotUp outb n then s
  else if o % 2048 = 0 then s.slotStateWrite outb n v
  else s.slotWordWrite outb n (o % 2048) v

/-- A word of the MSI-X table and pending bits, by its byte enables (R445). -/
def State.msixWrite (s : State) (off v be : Nat) : State :=
  if s.mod = .recovery then s
  else
    let t := (List.range 4).foldl (fun (m : Map Byte) i => if bit be i then Map.set 0#8 m (off % 0x2000 + i) (byteAt (leBytes 4 v) i) else m) s.host.msixTable
    { s with host := { s.host with msixTable := t } }

/-- REGISTER_WRITE (R445, R448): a 32-bit write to BAR0 with its byte enables. -/
def State.bar0Write (s : State) (off v be : Nat) : State :=
  if !s.endpointUp ∨ off % 4 ≠ 0 then s
  else if off < 0x300000 then s.hostWrite off v (be == 15)
  else if 0x1000000 ≤ off ∧ off < 0x1010000 then (if be = 15 then s.boxWrite off v else s.event Reg.HOST_STAT 17)
  else if 0x3000000 ≤ off ∧ off < 0x3002000 then s.msixWrite off v be
  else s

def execRegisterWrite (off : BitVec 26) (v : BitVec 32) (be : BitVec 4) (s : State) : Ans := .next (s.bar0Write off.toNat v.toNat be.toNat)

/-- SEQUENCE_CLEAR (R451): a whole write to a register; one that is no status register is unchanged by it. -/
def execSequenceClear (off : BitVec 26) (v : BitVec 32) (s : State) : Ans :=
  .next (match Reg.find? off.toNat with
    | some d => if s.endpointUp && s.blockUp off.toNat && d.sqc != 0 then s.sequenceClear off.toNat v.toNat else s
    | none => s)

/-! The memory window (R446). -/

def State.winSize (s : State) : Nat := 2 ^ (30 + s.fld Reg.HOST_WIN_CTL 2 0)

/-- The bonded-memory address of an offset in BAR2. -/
def State.winAddr (s : State) (o : Nat) : Nat :=
  let b := s.reg64 Reg.HOST_WIN_BASE_LO % 2 ^ 40
  (b - b % s.winSize + o % s.winSize) % 2 ^ 40

def State.winRefused (s : State) : State :=
  let s := s.event Reg.HOST_STAT 20
  if s.host.winRefusedFrame = some s.frame then s
  else { s with host := { s.host with winRefusedFrame := some s.frame } }.raise 0xB302 0

/-- BAR2_WRITE: applied in READY and PARKED with the WINDOW feature and ENABLE; dropped otherwise. -/
def execBar2Write (o : BitVec 36) (data : List Byte) (s : State) : Ans :=
  .next <|
    if !s.endpointUp ∨ s.mod = .recovery then s
    else if (s.mod = .ready ∨ s.mod = .parked) ∧ s.granted 10 ∧ s.fld Reg.HOST_WIN_CTL 31 31 = 1 then s.writeBond (s.winAddr o.toNat) data 0
    else s.winRefused

/-! The endpoint (R443, R468). -/

/-- ENDPOINT_RESET. -/
def execEndpointReset (s : State) : Ans :=
  .next <|
    if !s.endpointUp then s
    else
      let s := ((s.setReg Reg.HOST_WIN_CTL 0).setReg64 Reg.HOST_WIN_BASE_LO 0).safeSet
      let s := s.host.posted.foldl (fun (t : State) n => if t.slotState true n = 1 then t.setSlotState true n 0 else t) s
      let s := { s with host := { s.host with posted := [], msixTable := [] } }
      (s.withdrawOutbound.count Reg.HOST_RESET_CNT).raise 0xB301 0

def execAerUncorrectable (s : State) : Ans := .next (if s.endpointUp then s.raise 0xB303 0 else s)

end Sys2Proof.Machine
end

