-- ==== Sys2Proof/Machine/ImageCheck.lean ====
section
/-!
DEFINITION. The checks of a schedule image (R141): what may be read, the header, the digests and the encodings, and the load itself. The
encodings are checked on the state the image would leave, which a refusal drops.
-/
namespace Sys2Proof.Machine

/-! Instructions. -/

/-- The bundles of an instruction-stream section. -/
def bundlesOf (g : Fin 384) (b : List Byte) : List Bundle := (List.range (b.length / 32)).map fun i => bundle g (fieldAt b (32 * i) 32)

/-- The words of a thread-program section (R136): a 40-bit instruction in an 8-byte word. -/
def programOf (g : Fin 384) (b : List Byte) : List Slot :=
  (List.range (b.length / 8)).map fun i => if fieldAt b (8 * i + 5) 3 = 0 then scalarSlot g 1 (fieldAt b (8 * i) 5) else .bad

/-- What step 4 looks at in a core: its instructions, its descriptors' count and its release table. -/
structure CoreSect where
  g : Fin 384
  stream : List Bundle
  program : List Slot
  descs : Nat
  posts : Nat

def coreSect (l : List Sect) (g : Fin 384) : CoreSect :=
  { g := g, stream := bundlesOf g (sectBytes l 1 g), program := programOf g (sectBytes l 4 g), descs := (sectBytes l 2 g).length / 16
    posts := (sectBytes l 3 (g / 8)).length / 64 }

def coreSects (l : List Sect) : List CoreSect := (List.finRange 384).map (coreSect l)
def CoreSect.slots (c : CoreSect) : List Slot := c.stream.flatMap Bundle.slots ++ c.program
def CoreSect.instrs (c : CoreSect) : List Instr := c.slots.filterMap Slot.get?

/-- The array descriptor an array slot names. -/
def descIndex : Instr → Option Nat
  | .rload _ _ d _ => some d
  | .stream _ _ d .. => some d
  | .twin _ d .. => some d
  | .gopenClear _ _ d _ => some d
  | .gclose _ _ d _ _ => some d
  | _ => none

/-- A form that some rule refuses at load: on the state the image would leave, with no loop open, the meaning refuses it. -/
def formOk (t : State) (i : Instr) : Bool :=
  match reissue i t with
  | .refused _ => false
  | _ => true

/-- The format a code names in the candidate (R83, R85). -/
def State.fmtOk (t : State) (code : Nat) : Bool := (t.fmt code).isSome

/-- Formats an instruction names, and the codes its use does not allow (R83): 0x1201. -/
def fmtFails (t : State) (g : Nat) (i : Instr) : Bool :=
  let operand := fun d => let f := (t.adesc g d).fmt; !(arrayCode f && t.fmtOk f)
  match i with
  | .rload _ _ d _ => operand d
  | .stream _ _ d .. => operand d
  | .gclose _ _ d _ _ => let f := (t.adesc g d).dfmt; f == 9 || !t.fmtOk f
  | .vcvts _ _ _ _ _ _ f => f.val == 9 || !t.fmtOk f
  | .vld _ f .. => !t.fmtOk f
  | .vst _ f .. => !t.fmtOk f
  | .tmov _ f .. => !t.fmtOk f
  | .tfill _ f .. => !(arrayCode f && t.fmtOk f)
  | .gopenLoad _ f .. => !t.fmtOk f
  | _ => false

/-- Tensor ids an instruction uses, each with its format code (R171). -/
def tensorUse (t : State) (g : Nat) (i : Instr) : List (Nat × Nat) :=
  match i with
  | .rload _ _ d _ => [((t.adesc g d).tensor, (t.adesc g d).fmt)]
  | .stream _ _ d .. => [((t.adesc g d).tensor, (t.adesc g d).fmt)]
  | .gclose _ _ d _ _ => [((t.adesc g d).tensor, (t.adesc g d).dfmt)]
  | .vcvts _ _ _ _ tensor _ f => [(tensor, f)]
  | _ => []

/-! Loops and segments (R118). -/

/-- Scan a stream: `ends` are the last bundles of the open loops, innermost first, `seg` the first bundle of the present half. -/
def loopScan (b : Array Bundle) : Nat → Nat → List Nat → Nat → Bool
  | 0, _, _, _ => true
  | n + 1, i, ends, seg =>
    let ends := ends.filter fun e => decide (i ≤ e)
    match (b.getD i { a := .nop, b := .nop, vec := .nop, move := .nop, scal := .nop, sync := .nop }).sync with
    | .instr (.loop _ _ len) =>
      let last := i + 1 + len.val
      decide (last < b.size) && decide (ends.length < 4) && ends.all (fun e => decide (last ≤ e)) && decide (last - seg < 4096) &&
        loopScan b n (i + 1) (last :: ends) seg
    | .instr (.seg _) => ends.isEmpty && loopScan b n (i + 1) [] (i + 1)
    | _ => loopScan b n (i + 1) ends (if i + 1 - seg = 4096 then i + 1 else seg)

def loopsOk (l : List Bundle) : Bool := loopScan l.toArray l.length 0 [] 0

/-! Sections (R140). -/

/-- The instances of a type, and the bytes its section may have. -/
def sectRule (ty : Nat) : Option (Nat × Nat) :=
  match ty with
  | 1 => some (384, 2 ^ 40)
  | 2 => some (384, 4096)
  | 3 => some (48, 32768)
  | 4 => some (384, 8192)
  | 5 => some (384, 0x18000)
  | 6 => some (8, 16 + 8 * 65536)
  | 7 => some (384, 16 + 32 * 1024)
  | 8 => some (1, 2 ^ 40)
  | 9 => some (1, 2 ^ 40)
  | 0xA => some (4, 2 ^ 40)
  | 0xB => some (1, 16 + 128 + 4096)
  | _ => none

/-- Bytes of one entry of a section that is a plain list of entries. -/
def sectUnit (ty : Nat) : Nat := match ty with | 1 => 32 | 2 => 16 | 3 => 64 | 4 => 8 | _ => 1

def sectionsOk (l : List Sect) : Bool :=
  (l.all fun x => match sectRule x.ty with
    | some (n, m) => decide (x.ix < n) && decide (x.len ≤ m) && x.len % sectUnit x.ty == 0 && x.flags == 0
    | none => false) && (l.map fun x => (x.ty, x.ix)).Nodup

/-! Descriptors. -/

/-- An array descriptor: reserved bits, and CLASS (R123, R534). -/
def adescOk (t : State) (v : Nat) : Bool :=
  let d := arrDesc v
  v / 2 ^ 113 == 0 && d.cls != 3 && !(d.cls == 2 && ((t.fmt d.fmt).map fun f => f.g) == some 1)

/-- OP bytes (R320): of a LOAD, and of a destination in space 4 or, HANDOVER apart, in space 3 (R271). -/
def opByteOk (d : CDesc) : Bool :=
  if d.srcSpace = 4 then d.op == 0x10
  else if d.dstSpace = 4 ∨ d.dstSpace = 3 then
    decide (d.op ≤ 0xB) || d.op == 0xD || (decide (0x41 ≤ d.op) && decide (d.op ≤ 0x45)) || (decide (0x48 ≤ d.op) && decide (d.op ≤ 0x4C)) ||
      (d.op == 0x80 && d.dstSpace == 4)
  else true

/-- Is a side in a tile store at multiples of 16, row after row? -/
def sideOk (space a rows pitch : Nat) : Bool := space != 0 || (a % 16 == 0 && (rows == 1 || pitch % 16 == 0))

/-- The rules of a COPY (R240, R241). -/
def copyOk (t : State) (d : CDesc) : Bool :=
  decide (d.srcSpace ≤ 4) && decide (d.dstSpace ≤ 5) && decide (16 ≤ d.rowLen ∧ d.rowLen ≤ 65536) && d.rowLen % 16 == 0 &&
  decide (1 ≤ d.rows ∧ d.rows ≤ 65536) && (!(d.allocDst || d.releaseSrc) || decide (d.pool ≤ 63)) &&
  sideOk d.srcSpace d.src d.rows d.srcPitch && sideOk d.dstSpace d.dst d.rows d.dstPitch && opByteOk d &&
  (!d.transpose || ((d.fmt == 0 || d.fmt == 1 || d.fmt == 7) && ((t.fmt d.fmt).map fun f => f.tileBytes) == some d.rowLen))

/-- A courier descriptor (R240, R241, R320). -/
def cdescOk (t : State) (v : Nat) : Bool :=
  let d := cdesc v
  decide (d.kind ≤ 4) && dfield v 1 1 / 32 == 0 &&
  (if d.kind = 0 then copyOk t d
   else if d.kind = 3 ∨ d.kind = 4 then decide (d.srcSpace ≤ 4) && decide (d.dstSpace ≤ 5) && (d.kind = 3 || decide (d.pool ≤ 63))
   else true)

def descList (b : List Byte) (unit : Nat) : List Nat := (List.range (b.length / unit)).map fun i => fieldAt b (unit * i) unit

/-! Tables. -/

/-- Mailbag entries (R154). -/
def mbagOk (cap : Nat) (m : MBag) : Bool :=
  !bit m.flags 0 || (m.expect != 0 && m.region % 4096 == 0 && m.record % 64 == 0 && m.length % 4096 == 0 &&
    decide (m.region + m.length ≤ cap) && decide (m.record + 64 ≤ cap))

/-- A routing layer (R201, R202); `placement` gives each expert's host and local index. -/
def layerOk (node : Nat) (y : Layer) : Bool :=
  !bit y.flags 0 ||
  (decide (y.flags < 4) && decide (1 ≤ y.experts ∧ y.experts ≤ 4096) && decide (1 ≤ y.k ∧ y.k ≤ 16) &&
   decide (1 ≤ y.capacity ∧ y.capacity ≤ 1048576) && decide (1 ≤ y.group ∧ y.group ≤ 512) &&
   decide (1 ≤ y.roundTokens ∧ y.roundTokens ≤ 65535) && (y.rowBytes.all fun r => decide (1 ≤ r ∧ r ≤ 65536) && r % 16 == 0) &&
   y.rest == 0 && decide (y.position < y.group) && y.nodeOf y.position == node &&
   (y.placement.all fun w => decide (w < 2 ^ 24) && decide (w % 65536 < y.group) && (w % 65536 != y.position || decide (w / 65536 < y.loc))) &&
   y.placement.Nodup)

/-- Do byte ranges of one space meet? -/
def spansMeet (a b : Nat × Nat × Nat) : Bool := a.1 == b.1 && decide (a.2.1 < b.2.1 + b.2.2) && decide (b.2.1 < a.2.1 + a.2.2)

/-- Does no range meet a later one? -/
def disjoint : List (Nat × Nat × Nat) → Bool
  | [] => true
  | a :: r => r.all (fun b => !spansMeet a b) && disjoint r

/-- Windows (R276). -/
def windowsOk (cap : Nat) (l : List Window) : Bool :=
  let v := l.filter (·.valid)
  (v.all fun w => w.base % 4096 == 0 && decide (1 ≤ w.tiles ∧ w.tiles ≤ 65536) && decide (w.base + 131072 * w.tiles ≤ cap)) &&
  (v.zip v.tail).all fun p => decide (p.1.base + 131072 * p.1.tiles ≤ p.2.base)

/-- Pools of a die (R246): ranges as (space × 96 + core, or 1,000 for bonded memory; start; bytes). -/
def Pool.span (v : Pool) : Nat × Nat × Nat := (if v.space = 0 then v.core else 1000, v.base, v.count * poolSize v.cls)

def poolOk (cap : Nat) (v : Pool) : Bool :=
  decide (v.cls ≤ 8) && decide (v.space ≤ 1) && (v.space != 0 || decide (v.core < 96)) && decide (1 ≤ v.count ∧ v.count ≤ 16777216) &&
  v.base % poolSize v.cls == 0 && v.owners % 4096 == 0 && decide (v.limit ≤ if v.space = 0 then spaceSize 0 else cap)

/-- A die's pools; the owner tables of all dies, as ranges of 40-bit addresses, are `owners`. -/
def poolsOk (cap d : Nat) (l : List Pool) (owners : List (Nat × Nat × Nat)) : Bool :=
  let v := l.filter (·.valid)
  v.all (poolOk cap) && disjoint (v.map Pool.span) &&
  v.all fun p => p.space != 1 || owners.all fun o => !spansMeet (0, 2 ^ 38 * d + p.base, p.count * poolSize p.cls) o

def ownerSpans (l : List Pool) : List (Nat × Nat × Nat) := (l.filter (·.valid)).map fun p => (0, p.owners, 4 * p.count)

/-- A region (R322). -/
def regionOk (caps : Nat → Nat) (job : Nat) (r : Region) : Bool :=
  !bit r.flags 0 ||
  ((r.space == 0 || r.space == 2 || r.space == 3) && decide (r.die ≤ 3) && (r.space == 3 || decide (r.core ≤ 95)) && r.job == job &&
   (r.space == 3 || (!bit r.flags 4 && !bit r.flags 5)) &&
   decide (r.base + r.length ≤ if r.space = 3 then caps r.die else spaceSize r.space))

/-- The protection table (R382). -/
def protectOk (caps : Nat → Nat) (domain : Nat) (p : Protect) : Bool :=
  let copies := p.ranges.flatMap fun r => [(r.die, r.base0, r.length), (r.die, r.base1, r.length)]
  decide (p.ranges.length ≤ 64) && decide (p.lossCore < 384) && p.lossAddr % 8 == 0 && decide (p.lossAddr < 0x18000) && p.block0 % 4096 == 0 &&
  p.block1 % 4096 == 0 && decide (p.cadence ≤ 1) && (p.cadence == 0 || p.pairs.all fun x => decide (x ≤ 15) || x == 0xFF) &&
  (p.ranges.all fun r => decide (r.kind ≤ 2) && decide (r.die ≤ 3) && r.base0 % 4096 == 0 && r.base1 % 4096 == 0 && r.length % 4096 == 0) &&
  p.reserve.all (fun n => decide (n < 1024)) && disjoint copies &&
  (copies.all fun c => !spansMeet c (0, p.block0, 0x200000) && !spansMeet c (0, p.block1, 0x200000)) &&
  (copies.all fun c => decide (c.2.1 + c.2.2 ≤ caps c.1)) && !(decide (1 < domain) && p.reserve.isEmpty)

/-- A release table by itself (R352). -/
def relOk (b : List Byte) : Bool :=
  let n := relCount b
  let p := relPeriod b
  decide (1 ≤ p ∧ p ≤ 2 ^ 48) && decide (1 ≤ n ∧ n ≤ 1024) && decide (16 + 32 * n ≤ b.length) &&
  (relEntOf b 0).valid && (relEntOf b 0).uses == 1 &&
  (List.range n).all fun i =>
    let e := relEntOf b i
    !e.valid || (decide (1 ≤ e.uses) && decide (e.offset + (e.uses - 1) * e.stride < 2 * p) && decide (e.space ≤ 2) &&
      decide (e.dest + (e.uses - 1) * e.dstride + e.bytes ≤ spaceSize e.space) && decide (e.dest + e.bytes ≤ spaceSize e.space))

/-- The release tables together: each its own, PERIOD and entry 0 alike, one beside every stream. -/
def relsOk (l : List Sect) : Bool :=
  let r := (l.filter fun x => x.ty == 7).map (·.bytes)
  r.all relOk && (r.all fun b => r.all fun c => relPeriod b == relPeriod c && slice b 16 32 == slice c 16 32) &&
  (l.filter fun x => x.ty == 1).all fun x => (sectOf l 7 x.ix).isSome

/-- The core of the die and the release-table entry that an ADMIT, SEND or LAND names (R354). -/
def PostDesc.relName : PostDesc → Option (Nat × Nat)
  | .admission a => some (a.relCore, a.relEntry)
  | .send a => some (a.relCore, a.relEntry)
  | .land a => some (a.relCore, a.relEntry)
  | .scatter _ => none
  | .pairs _ => none

/-- Is an entry that a posted operation of the Sorting Office names a VALID one? Other operations name none. -/
def relNameOk (t : State) (die : Nat) (p : Option PostDesc) : Bool :=
  match p.bind PostDesc.relName with
  | some (c, e) => ((t.core (die * 96 + c)).relEnt e).valid
  | none => true

/-- What an EXPECT and a CPOST name in the release table (R352): the RELEASE field of a COPY, or the entry of an ADMIT, SEND or LAND. -/
def relUseOk (t : State) (g : Nat) (i : Instr) : Bool :=
  match i with
  | .expect _ space e => let r := (t.core g).relEnt e; r.valid && r.space == space.val
  | .cpost _ _ _ d =>
    let v := t.descOf g d
    let c := cdesc v
    if c.kind = 0 then c.release == 0xFFFF || ((t.core g).relEnt c.release).valid
    else if c.kind = 1 then relNameOk t (g / 96) (Config.postDesc v 0)
    else true
  | _ => true

/-- A transmit table (R298); SHARE is the job's (R375). -/
def txOk (share : Nat) (b : List Byte) : Bool :=
  let p := txPeriodOf b
  let l := txEntriesOf b
  let ends := (l.map (·.1)).tail ++ [p]
  decide (1 ≤ p) && decide (1 ≤ l.length ∧ l.length ≤ 65536) && decide (16 + 8 * l.length ≤ b.length) && decide (txShareOf b ≤ 25) && fieldAt b 9 7 == 0 &&
  txShareOf b == share && (l.map (·.1)).head? == some 0 &&
  (l.zip ends).all fun x => decide (x.1.1 < x.2) && decide (x.1.2 ≤ (x.2 - x.1.1) * 1000 * (200 - txShareOf b) / 600)

/-- Shape buckets (R372). -/
def bucketsOk (b : List Byte) : Bool :=
  let l := bucketsOf b
  let m := passMapOf b
  decide (1 ≤ l.length ∧ l.length ≤ 8) && decide (1 ≤ m.length ∧ m.length ≤ 4096) && fieldAt b 1 3 == 0 && fieldAt b 8 8 == 0 &&
  decide (16 + 16 * l.length + m.length ≤ b.length) &&
  (l.all fun x => decide (128 ≤ x.tokens ∧ x.tokens ≤ 65536) && x.tokens % 128 == 0 && decide (1 ≤ x.seqMax ∧ x.seqMax ≤ 16777216) &&
    x.liveAddr % 8 == 0 && decide (x.liveAddr < 0x18000) && decide (x.entry < 1024)) &&
  m.all fun i => decide (i < l.length)

/-! Step 4 (R141): the first check that fails, as fault and instance. -/

/-- Formats and policies (R113): the sections themselves, what instructions name, and the policies of VALID entries. -/
def formatFails (t : State) (l : List Sect) (cs : List CoreSect) : Option (Nat × Nat) :=
  let entries := match sectOf l 8 0 with | some x => (Config.formatSection x.bytes).getD [] | none => []
  let polOk := fun (p : Nat) => let q := t.scalePolicy p; q.target != 9 && t.fmtOk q.target
  let rangesOk := (List.range 16).all fun p => let q := t.scalePolicy p; decide (q.smin ≤ q.smax)
  if !(entries.all fun e => entryValid e.2.toNat) || !rangesOk || !((t.die 0).stamps.all fun e => !e.2.valid || polOk e.2.policy)
  then some (0x1201, 0)
  else (cs.find? fun c => c.instrs.any (fmtFails t c.g)).map fun c => (0x1201, c.g / 96)

/-- The sparse policies (R171). -/
def policyFails (t : State) (l : List Sect) (cs : List CoreSect) : Option (Nat × Nat) :=
  let copies := (List.range 48).flatMap fun n => ((descList (sectBytes l 3 n) 64).map cdesc).filterMap fun d =>
    if d.kind = 0 then some (d.tensor, d.fmt) else none
  let uses := copies ++ cs.flatMap fun c => c.instrs.flatMap (tensorUse t c.g)
  ((List.range 4).find? fun d =>
    (t.die d).policy.any (fun e => bits e.2 2 1 == 3) ||
    uses.any fun u => let p := Map.get 0 (t.die d).policy u.1; (bits p 2 1 == 1 || bits p 2 1 == 2) && decide (7 ≤ u.2 ∧ u.2 ≤ 9)).map
      fun d => (0x2005, d)

/-- The tables with a fault of their own (R202, R276, R246, R322, R382), in that order. -/
def tableFails (t : State) (h : ImgHead) : Option (Nat × Nat) :=
  let dies := List.range 4
  let caps := t.capacity
  let pools := fun d => (t.die d).pools.map (·.2)
  let owners := dies.flatMap fun d => ownerSpans (pools d)
  ((dies.find? fun d => !((t.die d).layers.all fun y => layerOk t.node y.2)).map fun d => (0x3009, d)) <|>
  ((dies.find? fun d => !windowsOk (caps d) ((t.die d).windows.map (·.2))).map fun d => (0x4404, d)) <|>
  ((dies.find? fun d => !poolsOk (caps d) d (pools d) owners).map fun d => (0x5006, d)) <|>
  (if t.regions.all fun r => regionOk caps h.job r.2 then none else some (0x6308, 0)) <|>
  (if protectOk caps h.domain t.image.protect then none else some (0x7409, 0))

/-- One core's stream, program and tables (R118, R122, R123, R132, R136, R352). -/
def coreOk (t : State) (l : List Sect) (c : CoreSect) : Bool :=
  c.slots.all (fun x => decide (x ≠ .bad)) && loopsOk c.stream && (descList (sectBytes l 2 c.g) 16).all (adescOk t) &&
  c.instrs.all fun i =>
    formOk t i && relUseOk t c.g i && (match descIndex i with | some d => decide (d < c.descs) | none => true) &&
    (match i with | .cpost _ _ _ d => decide (d.val < c.posts) | _ => true)

/-- Everything that raises 0x7104. -/
def encodingOk (t : State) (l : List Sect) (cs : List CoreSect) : Bool :=
  sectionsOk l && cs.all (coreOk t l) && (List.range 48).all (fun n => (descList (sectBytes l 3 n) 64).all (cdescOk t)) &&
  (List.range 4).all (fun d => (t.die d).mbags.all fun m => mbagOk (t.capacity d) m.2) && relsOk l &&
  (l.all fun x => x.ty != 6 || txOk (t.fld Reg.DOM_REDUND 4 0) x.bytes) && (l.all fun x => x.ty != 0xB || bucketsOk x.bytes)

/-- Step 4 on the candidate `t`, with its loops closed. -/
def encodingFails (t : State) (h : ImgHead) (l : List Sect) : Option (Nat × Nat) :=
  let t := { t with cores := Map.vals {} (fun (c : Core) => { c with loops := [], stall := 0 }) t.cores }
  let cs := coreSects l
  formatFails t l cs <|> policyFails t l cs <|> tableFails t h <|> (if encodingOk t l cs then none else some (0x7104, 0))

/-! Steps 1 to 3. -/

/-- A range that lies wholly within the channels in service (R141, R258). -/
def State.inService (s : State) (addr len : Nat) : Bool :=
  decide (addr + len ≤ 2 ^ 40) && (List.range 4).all fun d =>
    decide (addr + len ≤ 2 ^ 38 * d) || decide (2 ^ 38 * (d + 1) ≤ addr) ||
    decide (Nat.min (addr + len) (2 ^ 38 * (d + 1)) - 2 ^ 38 * d ≤ s.capacity d)

/-- Step 1: what must be readable, and the signature. Answers the header, the table and the signed message, or nothing where the step fails. -/
def State.imageSignature (s : State) (addr len : Nat) : Option (ImgHead × List Byte × List Byte) :=
  if len < 0x100 then none else
  let (hb, hp) := s.readBond addr 0x100
  let h := imgHead hb
  if hp ≠ 0 ∨ fieldAt hb 0 4 ≠ 0x4D49535A ∨ fieldAt hb 4 2 ≠ 1 ∨ h.sections < 1 ∨ 4096 < h.sections ∨ h.total < 0x100 + 64 * h.sections then none else
  let sig := (h.total + 15) / 16 * 16
  if len < sig + 12 + 3309 then none else
  let (tb, tp) := s.readBond (addr + 0x100) (64 * h.sections)
  let (sb, sp) := s.readBond (addr + sig) (12 + 3309)
  if tp ≠ 0 ∨ sp ≠ 0 ∨ fieldAt sb 0 2 ≠ 1 then none else
  match s.scheduleKey (fieldAt sb 4 8) with
  | some key => if sigOver key (hb ++ tb) (slice sb 12 3309) then some (h, tb, shake512 (hb ++ tb)) else none
  | none => none

/-- Channels in service. -/
def State.channelsUp (s : State) : Nat := ((List.range 4).map fun d => (s.die d).order.length).sum

/-- Step 2. -/
def State.headerMatches (s : State) (h : ImgHead) : Bool :=
  h.node == s.node && decide (h.minChannels ≤ s.channelsUp) && decide (1 ≤ h.domain ∧ h.domain ≤ 512)

/-- Cores that the section table names (R140): the sections of types 1, 2, 4, 5 and 7 are those of a core. -/
def sectCores (l : List Sect) : List Nat :=
  (l.filter fun x => x.ty == 1 || x.ty == 2 || x.ty == 4 || x.ty == 5 || x.ty == 7).map (·.ix)

def placeCores (p : Place) : List Nat := if inCore p.space then [p.unit] else []

/-- Cores that an operation of the Sorting Office or the matching unit names, on die `d`. -/
def postCores (d : Nat) : PostDesc → List Nat
  | .admission a =>
    [d * 96 + a.liveCore] ++ a.segments.map (fun (g : Segment) => d * 96 + g.core) ++ ((List.range 96).filter fun c => bit a.coreMask c).map (d * 96 + ·)
  | .send a => placeCores a.rows
  | .land a => placeCores a.range
  | .scatter a => placeCores a.rows ++ placeCores a.combine
  | .pairs m =>
    [m.na.1, m.nb.1, m.outN.1] ++ ([m.keysA, m.valsA, m.keysB, m.valsB, m.outA, m.outB] : List Place).flatMap placeCores

/-- Cores that a courier descriptor of cluster `n` names. Those of a SORT or MATCH are read with no address offset added. -/
def descCores (n v : Nat) : List Nat :=
  let d := cdesc v
  if d.kind = 0 then
    (if inCore d.srcSpace then [d.srcCore] else []) ++ (if inCore d.dstSpace ∨ d.result ≠ 0xFFFF ∨ d.isReturning then [d.dstCore] else [])
  else if d.kind = 3 then [d.dstCore]
  else if d.kind = 1 ∨ d.kind = 2 then
    match Config.postDesc v 0 with | some p => postCores (n / 12) p | none => []
  else []

/-- Cores that the candidate's sections name in what they hold: descriptors, pools, regions and the protection table. -/
def namedCores (t : State) (l : List Sect) : List Nat :=
  (List.range 48).flatMap (fun n => (descList (sectBytes l 3 n) 64).flatMap (descCores n)) ++
  (List.range 4).flatMap (fun d => ((t.die d).pools.filter fun p => p.2.valid && p.2.space == 0).map fun p => d * 96 + p.2.core) ++
  (t.regions.filter fun r => bit r.2.flags 0 && r.2.space != 3).map (fun r => r.2.die * 96 + r.2.core) ++
  (if (constOf l 0).length ≤ 0x28000 then [] else [t.image.protect.lossCore])

/-- Does a list name a core that is unavailable (R238)? -/
def State.namesBad (s : State) (l : List Nat) : Bool := l.any fun g => decide (g < 384) && !(s.core g).available

/-- Step 3 for one section. -/
def sectDigestOk (h : ImgHead) (x : Sect) : Bool :=
  x.off % 4096 == 0 && decide (x.off + x.len ≤ h.total) && !x.bad && shakeDigest32 x.bytes == x.digest

/-- The load after its address check (R141): a section of an unavailable core fails step 2, a core named inside a section after step 3 (R238). The state with the image applied, or the fault and its instance. -/
def State.loadImage (s : State) (addr len : Nat) : Except (Nat × Nat) State :=
  match s.imageSignature addr len with
  | none => .error (0x7101, 0)
  | some (h, table, signed') =>
    if !s.headerMatches h then .error (0x7102, 0) else
    let l := (List.range h.sections).map (s.sectAt addr table)
    if s.namesBad (sectCores l) then .error (0x7102, 0) else
    if !l.all (sectDigestOk h) then .error (0x7103, 0) else
    match s.applyImage addr h l with
    | none => .error (0x1201, 0)
    | some t =>
      if s.namesBad (namedCores t l) then .error (0x7102, 0) else
      match encodingFails t h l with
      | some f => .error f
      | none => .ok ({ t.threadPools.runReset with
          boot := { s.boot with imageId := h.ident, measure := Map.set [] s.boot.measure 8 signed' } })

/-- IMAGE_LOAD (R141, R462). While SEC restarts it waits (R428). -/
def execImageLoad (slot : Fin 16) (s : State) : Ans :=
  .next (s.startLetter slot 4 fun s =>
    let addr := s.pay slot 0 8
    let len := s.pay slot 8 8
    if !s.inService addr len then s.answer slot 5
    else if !s.secUp then s
    else match s.loadImage addr len with
      | .ok t => t.answer slot 0
      | .error (code, inst) => (s.answer slot 1 code).raise code inst)

end Sys2Proof.Machine
end

