-- ==== Sys2Proof/Machine/Letters.lean ====
section
/-!
DEFINITION. Host letters (R462): NEGOTIATE, RECOVER_REQ, UPDATE, ATTEST, RELEASE and MICROBATCH with its live words. JOIN and RUN are in
Domain.lean, IMAGE_LOAD in ImageCheck.lean, RESTORE, DRAIN_BUFFERS and FILL in Restore.lean.
-/
namespace Sys2Proof.Machine

/-! Negotiation (R465). -/

/-- GRANTED of word `k`: what is offered and wanted; bit 0 always with the same major version, the safe set alone with another one. -/
def grantWord (same : Bool) (offer want k : Nat) : Nat :=
  if same then Nat.lor (Nat.land offer want) (if k = 0 then 1 else 0) else if k = 0 then Nat.land (Nat.land offer want) 7 else 0

/-- NEGOTIATE: WANT and GRANT are set; BUFFER counts anew (R462). The answer holds OFFERED, then GRANTED. -/
def execNegotiate (slot : Fin 16) (s : State) : Ans :=
  .next (s.startLetter slot 1 fun s =>
    let same := s.pay slot 0 2 == s.fld Reg.HOST_IF_VERSION 31 16
    let s := (List.range 8).foldl (fun (t : State) k =>
      let want := s.pay slot (0x20 + 4 * k) 4
      (t.setReg (Reg.HOST_FEAT_WANT0 + 4 * k) want).setReg (Reg.HOST_FEAT_GRANT0 + 4 * k)
        (grantWord same (t.reg (Reg.HOST_FEAT_OFFER0 + 4 * k)) want k)) s
    let bits8 := fun (r : Nat) => (List.range 8).flatMap fun k => leBytes 4 (s.reg (r + 4 * k))
    { s with host := { s.host with drainCount := 0 } }.answer slot (if same then 0 else 8) 0 (bits8 Reg.HOST_FEAT_OFFER0 ++ bits8 Reg.HOST_FEAT_GRANT0))

/-- RECOVER_REQ (R489): RECOVER = 1 goes to COUNTERS; it waits for SEC (R428) and under the flash guard (R508). -/
def execRecoverReq (slot : Fin 16) (s : State) : Ans :=
  .next (s.startLetter slot 2 fun s =>
    if !s.secUp ∨ s.pwr.guard then s
    else ({ s with boot := { s.boot with recover := true } }.appendCounter 3 1).answer slot 0)

/-! Updates (R423). -/

/-- UPDATE: `data` is the image as the host's memory holds it. The letter of an update in progress is started already. -/
def execUpdate (slot : Fin 16) (data : Option (List Byte)) (s : State) : Ans :=
  .next (s.startLetter slot 3 fun s =>
    let kind := s.pay slot 0 1
    if s.fw.update.any (fun u => u.1 == slot.val) then s
    else if s.fw.update.isSome ∨ !s.secUp then s.refuseWith slot 0x800D
    else s.hostRead slot (s.pay slot 4 4) data fun img s =>
      if imageFields kind img && s.imageSigned img then
        let s := (List.range 2).foldl (fun (t : State) h => t.setCached h kind true img) s
        { s with fw := { s.fw with update := some (slot, kind) } }.updateNext none
      else s.refuseWith slot 0x800D)

/-! Attestation (R492, R493). -/

/-- The module's serial: SUBJECT_NAME of its identity certificate (R477). -/
def State.serial (s : State) : List Byte := s.flash (Area.identity + 0x2020) 16

def identityAt : Nat := Area.identity + 0x2000
def manufacturingAt : Nat := Area.identity + 0x4000

/-- ξ of R490. -/
def identitySeed (k : List Byte) : List Byte := shake256 (k ++ [1#8]) 32

/-- A report without its signature: bytes 0x0000 to 0x2D2F. -/
def State.reportBody (s : State) (nonce : List Byte) : List Byte :=
  leBytes 4 0x41545354 ++ leBytes 2 1 ++ leBytes 2 9 ++ leBytes 4 14877 ++ leBytes 2 s.node ++ leBytes 1 s.mod.code ++
  leBytes 1 (pack [(0, one s.ownerEnrolled), (1, one (s.fld Reg.SEC_STAT 1 1 == 0)), (2, one s.fw.h1Charge)]) ++ nonce ++
  leBytes 8 s.pm ++ leBytes 8 (s.reg64 Reg.BOOT_COUNT_LO) ++ s.serial ++ leBytes 8 (if s.image.loaded then s.boot.imageId else 0) ++ leBytes 8 0 ++
  ((List.range 9).flatMap fun k => leBytes 4 k ++ leBytes 4 (s.measure k).2 ++ leBytes 8 0 ++ (s.measure k).1) ++
  s.flash identityAt 5376 ++ s.flash manufacturingAt 5376

/-- ATTEST: `ok` tells whether the write of the report into host memory succeeds. -/
def execAttest (slot : Fin 16) (ok : Bool) (s : State) : Ans :=
  .next (s.startLetter slot 0xC fun s =>
    if !s.secUp then s
    else if s.pay slot 0x28 4 < 14877 then s.answer slot 5
    else match s.boot.pufKey with
      | none => s.answer slot 1 0xA004
      | some k =>
        if s.fld Reg.SEC_STAT 2 2 = 0 then s.answer slot 1 0xA004
        else if !ok then (s.answer slot 7).raise 0xB304 0
        else
          let body := s.reportBody (s.slotBytes true slot 0x20 32)
          let sig := Config.mldsaSign (identitySeed k) (shake512 body) (Config.random s.freeIx)
          let addr := s.pay slot 0x20 8
          ((s.freeSkip 1).emit (.hostWrite addr (body ++ slice sig 0 3309))).answer slot 0 0 (leBytes 4 14877))

/-! RELEASE (R462, R437 event 0x0B): PARKED to READY; a warning that parked the job holds it (R411). -/

def execReleaseLetter (slot : Fin 16) (s : State) : Ans :=
  .next (s.startLetter slot 9 fun s =>
    if s.pwr.warn && s.pwr.supplyParked then s else s.leaveParked.answer slot 0)

/-! Micro-batches (R373, R463). -/

def State.bucketOf (s : State) (pass : Nat) : Option Bucket := (s.image.passMap[pass]?).bind fun i => s.image.buckets[i]?

/-- The use of its ENTRY that a pass takes: one for each earlier pass with the same ENTRY. -/
def State.useOfPass (s : State) (pass : Nat) : Nat :=
  let e := (s.bucketOf pass).map (·.entry)
  ((List.range pass).filter fun p => (s.bucketOf p).map (·.entry) == e).length

/-- Cores that receive a pass's live word: those of the image whose table has the bucket's entry. -/
def State.liveCores (s : State) (b : Bucket) : List Nat := s.stepCores.filter fun g => ((s.core g).relEnt b.entry).valid

/-- MICROBATCH: `data` is what the host's memory holds. -/
def execMicrobatch (slot : Fin 16) (data : Option (List Byte)) (s : State) : Ans :=
  .next (s.startLetter slot 7 fun s =>
    if s.host.micro.any (fun m => m.slot == slot.val) then s else
    let step := s.pay slot 0 8 % 2 ^ 40
    let pass := s.pay slot 8 2
    let live := s.pay slot 0xC 4
    let len := s.pay slot 0x20 8
    let dest := s.pay slot 0x28 8
    if (step ≠ s.step40 ∧ step ≠ (s.step40 + 1) % 2 ^ 40) ∨ !s.inService dest len then s.answer slot 5
    else match s.bucketOf pass with
      | none => s.answer slot 5
      | some b =>
        if b.tokens < live ∨ b.seqMax < s.pay slot 0x10 4 then s.refuseWith slot 0x7309
        else s.hostRead slot len data fun l s =>
          let s := s.writeBond dest l 0
          let cs := s.liveCores b
          if cs.isEmpty then s.answer slot 0
          else { s with host := { s.host with
            micro := s.host.micro ++ [{ slot := slot, step := step, pass := pass, word := live + s.pay slot 0xA 2 * 2 ^ 32, cores := cs }] } })

/-- The claim that waits for a pass's live word on a core: the EXPECT of the pass's use of ENTRY. -/
def State.liveClaim (s : State) (g : Nat) (m : Micro) (b : Bucket) : Option Claim :=
  if m.step = s.step40 ∧ (s.core g).usesOf b.entry = s.useOfPass m.pass + 1 then (s.core g).expecting 2 b.liveAddr 8 0 else none

/-- A core has its live word; with the last one the letter is answered. -/
def State.liveWritten (s : State) (g : Nat) (m : Micro) : State :=
  let left := m.cores.filter (· != g)
  let others := s.host.micro.filter (·.slot != m.slot)
  if left.isEmpty then { s with host := { s.host with micro := others } }.answer m.slot 0
  else { s with host := { s.host with micro := others ++ [{ m with cores := left }] } }

/-- LIVE_WORD_WRITE (R463 step 4). -/
def execLiveWordWrite (slot : Fin 16) (g : Fin 384) (s : State) : Ans :=
  .next <|
    match s.host.micro.find? fun m => m.slot == slot.val && m.cores.contains g.val with
    | none => s
    | some m =>
      match s.bucketOf m.pass with
      | none => s
      | some b =>
        match s.liveClaim g m b with
        | none => s
        | some k =>
          if s.live && s.schUp then
            let s := (s.onCore g fun c => c.writeSpace 2 b.liveAddr (leBytes 8 m.word) 0).countLanded g k 8
            (s.liveWritten g m).settle
          else s

end Sys2Proof.Machine
end

