-- ==== Sys2Proof/Machine/Boot.lean ====
section
/-!
DEFINITION. The boot timeline (R470–R472): what the end of each phase leaves. With H1 in charge the configuration flash is out of reach
(R488), so phases 1 to 5 do not end.
-/
namespace Sys2Proof.Machine

def State.phase (s : State) : Nat := s.fld Reg.BOOT_STAT 7 4

/-! Phase 2: the vendor root key (R475). -/

def State.rootMatches (s : State) : Bool := shake512 s.vendorKey == Config.rootDigest

/-- A failure behind RECOVERY: the first one is the cause (R472, R496). -/
def State.bootFails (s : State) (code : Nat) : State :=
  { s with boot := { s.boot with cause := if s.boot.cause = 0 then code else s.boot.cause } }.raise code 0

def State.checkRoot (s : State) : State :=
  if s.rootMatches then s.setFld Reg.SEC_STAT 0 0 1 else s.bootFails 0xA001

/-! Phase 3: the configuration flash. -/

/-- Admit the certificates; each one left over raises 0xA005 (R478). -/
def State.admitCerts (s : State) : State :=
  let a := s.admitAll 41 []
  let s := { s with boot := { s.boot with admitted := a } }
  let n := s.certCount - a.length
  let s := (s.setFld Reg.SEC_CERTS 7 0 a.length).setFld Reg.SEC_CERTS 15 8 n
  (List.range n).foldl (fun (t : State) _ => t.raise 0xA005 0) s

/-- The owner root key (R475). -/
def State.readOwner (s : State) : State := s.setFld Reg.SEC_STAT 3 3 (one s.ownerEnrolled)

/-- MAC addresses of the ports (R483). -/
def State.setMacs (s : State) (base : Nat) : State :=
  (List.range 8).foldl (fun (t : State) p =>
    let m := (base + 8 * p) % 2 ^ 48
    (t.setReg (Reg.at Reg.PORT_MAC_LO p) (m % 2 ^ 32)).setFld (Reg.at Reg.PORT_MAC_HI p) 15 0 (m / 2 ^ 32)) s

/-- The points of a HEALTH entry; with X not strictly ascending it stands for the defaults and a record notes it (R483). -/
def State.healthEntry (s : State) (n : Nat) : State :=
  let e := s.flash (cfgAt (0x2C0 + 32 * n)) 32
  let x := (List.range 8).map fun i => fieldAt e (2 * i) 2
  if e.all (· == 0#8) then s
  else if (List.range 7).all fun i => decide (x.getD i 0 < x.getD (i + 1) 0) then
    s.onHlt fun h =>
      { h with curveX := (List.range 8).foldl (fun (m : Map Nat) i => Map.set 0 m (8 * n + i) (x.getD i 0)) h.curveX
               curveY := (List.range 8).foldl (fun (m : Map Nat) i => Map.set 0 m (8 * n + i) (fieldAt e (16 + i) 1)) h.curveY
               window := Map.set 0 h.window n (fieldAt e 24 2) }
  else s.record 10 0 0 0 0

/-- The configuration record in use (R483). The curves of the health monitor are kept by a warm reset (R10, R469), so the record's load
after a cold one. -/
def State.useConfig (s : State) : State :=
  let seq := s.flashNat (cfgAt 8) 4
  let s := { s with boot := { s.boot with
    lanes := Map.tab 0 128 (fun i => s.flashNat (cfgAt (0x40 + i)) 1)
    eq := Map.tab 0 512 (fun i => s.flashNat (cfgAt (0xC0 + i)) 1)
    regdefs := (List.range (s.flashNat (cfgAt 6) 2)).map fun j => (s.flashNat (cfgAt (0x4C0 + 8 * j)) 4, s.flashNat (cfgAt (0x4C4 + 8 * j)) 4)
    measure := Map.set [] s.boot.measure 3 (shake512 (s.flash (cfgAt 0) 0x1000))
    versions := Map.set 0 s.boot.versions 3 seq } }
  let s := ((s.setReg Reg.BOOT_CFG_SEQ seq).setFld Reg.SEC_STAT 1 1 1).setMacs (s.flashNat (cfgAt 0x18) 6)
  if s.boot.regdefDue then (List.range 16).foldl State.healthEntry s else s

/-- The defaults (R484). -/
def State.configDefaults (s : State) : State :=
  let s := { s with boot := { s.boot with lanes := Map.tab 0 128 (fun i => i % 16 / 2), eq := [], regdefs := [] } }
  let s := ((s.setReg Reg.BOOT_CFG_SEQ 0).setMacs 0).raise 0xA003 0
  (List.range 8).foldl (fun (t : State) p => t.setFld (Reg.at Reg.PORT_CTL p) 0 0 0) s

/-- Fill H0's verified image cache from the image set (R422, R481). -/
def State.readImages (s : State) : State :=
  match s.imageSet with
  | some l => l.foldl (fun (t : State) i => t.setCached 0 i.1 false i.2) s
  | none => s.bootFails 0xA002

/-- The counters (R489): one more boot, and the bytes written to the snapshot flash as last stored (R395). -/
def State.readCounters (s : State) : State :=
  let n := s.counter 1 + 1
  let stored := s.counter 2 * gbyte
  let s := { s with boot := { s.boot with recover := s.counter 3 == 1 }
                    res := { s.res with wearTotal := if s.boot.regdefDue then stored else s.res.wearTotal } }
  let s := s.setReg Reg.RES_WEAR_TOTAL (s.res.wearTotal / gbyte)
  (s.appendCounter 1 n).setReg64 Reg.BOOT_COUNT_LO (n % 2 ^ 64)

/-- Measurements 1 and 2 (R492). -/
def State.measureKeys (s : State) : State :=
  let m := Map.set [] s.boot.measure 1 (shake512 (s.flash Area.keystore (0x1000 + 5376 * s.certCount)))
  let m := if s.ownerEnrolled then Map.set [] m 2 (shake512 s.ownerKey) else m
  { s with boot := { s.boot with measure := m } }

/-- Enter RECOVERY (event 0x05), where RECOVER = 0 is written (R489). -/
def State.toRecovery (s : State) : State :=
  let was := s.boot.recover
  let s := s.transition 0x05 .recovery
  if was then { s with boot := { s.boot with recover := false } }.appendCounter 3 0 else s

/-- Phase 3 reads every area. -/
def State.readFlash (s : State) : State :=
  let s := s.admitCerts.readOwner
  let s := if s.configOk then s.useConfig else s.configDefaults
  s.readImages.readCounters.measureKeys

/-! Phase 4: the identity (R490, R491). -/

/-- The identity key, if every check of R490 holds. -/
def State.identityKey (s : State) : Option (List Byte) :=
  match s.boot.pufKey with
  | none => none
  | some k =>
    let pub := Config.mldsaPublic (identitySeed k)
    let c := s.flash identityAt 5376
    let m := s.flash manufacturingAt 5376
    let issuer := match s.admits s.boot.admitted m with
      | some (_, owner) => !owner && bit (certUsage m) 4
      | none => false
    if certKey c == pub && certSubject c == keyRef pub && bit (certUsage c) 5 && issuer && certIssuer c == certSubject m && certSigned c (certKey m)
    then some pub else none

def State.formIdentity (s : State) : State :=
  match s.identityKey with
  | some pub =>
    ({ s with boot := { s.boot with idKey := some pub } }.setFld Reg.SEC_STAT 2 2 1).setReg64 Reg.SEC_ID_REF_LO (keyRef pub)
  | none => s.raise 0xA004 0

/-! Phase 5: PWR and SCH on H0, H1's cache and standby cores. -/

def State.startHubs (s : State) : State :=
  let s := (List.range 4).foldl (fun (t : State) k => t.setCached 1 k false (t.cached 0 k false).bytes) s
  let s := [1, 2].foldl (fun (t : State) p => t.setProc p { t.proc p with st := .running }) s
  let s := [5, 6].foldl (fun (t : State) p => t.setProc p { t.proc p with st := .standby }) s
  (List.range 4).foldl (fun (t : State) k => t.setReg (Reg.SEC_VER_SEC + 4 * k) (imageVersion (t.cached 0 k false).bytes)) s

/-! Phase 7: bridge lanes (R21). -/

/-- The spares in use for the 64 lanes of a link about a lane. -/
def State.sparesOf (s : State) (link lane : Nat) : List Nat :=
  (s.boot.bridge.filter fun e => e.1 == link && e.2.1 / 64 == lane / 64).map (·.2.2)

/-- Put a spare in a lane's place; a repeated entry has no further effect (R487). -/
def State.useSpare (s : State) (link lane spare : Nat) : State :=
  if s.boot.bridge.any fun e => e.1 == link && e.2.1 == lane then s
  else { s with boot := { s.boot with bridge := s.boot.bridge ++ [(link, lane, spare)] } }

/-- The repairs of the table (R21, R486). -/
def State.tableLanes (s : State) : State :=
  s.repairs.foldl (fun (t : State) e =>
    let (kind, _, a, b, _) := e
    if kind = 1 then t.useSpare (a / 4096) (a % 4096) b else t) s

/-- The spare for a lane found failed: the one tried first where it is free, else the other of the two of its 64 lanes (R21). -/
def State.freeSpare (s : State) (link lane first : Nat) : Option Nat :=
  [first, 0, 1].find? fun i => decide (i < 2) && !(s.sparesOf link lane).contains i

/-- Lanes found failed get a spare, and the repair goes to the table. The entry's DIE is not stated for a lane, and is a free value. With both
spares used nothing is left to apply. -/
def State.repairLanes (s : State) (l : List (Nat × Nat × Nat)) : State :=
  l.foldl (fun (t : State) e =>
    let link := e.1 % 16
    let lane := e.2.1 % 4096
    if t.boot.bridge.any fun x => x.1 == link && x.2.1 == lane then t
    else match t.freeSpare link lane e.2.2 with
      | some i =>
        let (v, t) := t.free
        (t.useSpare link lane i).queueRepair (t.repairEntry 1 (v.toNat % 256) (link * 4096 + lane) i 0)
      | none => t) s.tableLanes

/-! Phase 8: control cores, tile stores, channels. -/

def State.startCtls (s : State) : State :=
  (List.range 48).foldl (fun (t : State) c => t.setProc (0x10 + c) { t.proc (0x10 + c) with st := .running }) s

/-- One entry of the repair table takes effect (R487). -/
def State.applyRepair (s : State) (e : Nat × Nat × Nat × Nat × Nat) : State :=
  let (kind, _, a, b, c) := e
  let key := b / 256 * 48 + b % 256
  if kind = 2 then s.onCore a fun k => if (Map.get 0 k.spares key) = 0 then { k with spares := Map.set 0 k.spares key (c + 1) } else k
  else if kind = 3 then s.onCore a fun k => { k with badRegions := if k.badRegions.contains key then k.badRegions else k.badRegions ++ [key] }
  else if kind = 4 then s.onDie (a / 256) fun d => d.setChan (a % 256) { d.chan (a % 256) with state := 1 }
  else s

/-- Every region of a core is tested; one left unrepaired makes the core unavailable (R470). -/
def State.bootTest (s : State) (bad : List Nat) (g : Nat) : State :=
  let s := s.count (Reg.at Reg.TS_TEST_CNT g) 1536
  let s := bad.foldl (fun (t : State) k => t.repairRegion g k) s
  if (s.core g).badRegions.isEmpty then s else s.onCore g fun c => { c with available := false }

/-- A channel that fails its checks is mapped out with 0x4304 (R265). -/
def State.bootMapOut (s : State) (g : Nat) : State :=
  let d := g / 256
  let c := g % 256
  if ((s.die d).chan c).state = 1 then s
  else
    let s := s.onDie d fun x => x.setChan c { x.chan c with state := 1 }
    (s.queueRepair (s.repairEntry 4 d g 0 0)).raise 0x4304 d g

/-- A margin scan at the default range of 32 steps (R268). A channel in `out`, which the repair table lists or whose training failed, is not
scanned; one that a scan maps out still gets its other scans. -/
def State.bootScan (out : List Nat) (s : State) (e : Fin 1024 × Fin 4 × Nat × Nat) : State :=
  let (g, kind, low, high) := e
  let lo := Nat.min low 32
  let hi := Nat.min high 32
  if out.contains g.val then s
  else
    let s := s.marginResult (g / 256) (g % 256) kind lo hi
    if marginPass kind lo hi then s else s.bootMapOut g

/-- The channels in no service. -/
def State.outOfService (s : State) : List Nat := (List.range 1024).filter fun g => ((s.die (g / 256)).chan (g % 256)).state != 0

def State.bootStores (s : State) (r : PhaseEnd) : State :=
  let s := s.repairs.foldl State.applyRepair s.startCtls
  let s := (List.range 384).foldl (fun (t : State) g =>
    t.bootTest ((r.badRegions.filter fun e => e.1.val == g).map fun e => e.2.1.val * 48 + e.2.2.val) g) s
  let s := r.untrained.foldl (fun (t : State) g => t.bootMapOut g) s
  let s := r.scans.foldl (State.bootScan s.outOfService) s
  (List.range 4).foldl State.buildInterleave s

/-! Phase 9 and READY. -/

/-- Does an offset lie in a register window (R455)? -/
def inWindow (off : Nat) : Bool :=
  decide (off < 0xC000 ∨ 0x10000 ≤ off ∧ off < 0x12000 ∨ 0x20000 ≤ off ∧ off < 0x28000 ∨ 0x40000 ≤ off ∧ off < 0xB0000 ∨
    0x100000 ≤ off ∧ off < 0x280000)

/-- A REGDEF (R485): skipped in the HOST and MBX windows and outside the register windows. -/
def State.regdefWrite (s : State) (d : Nat × Nat) : State :=
  if d.1 < 0x2000 ∨ !inWindow d.1 then s.event Reg.BOOT_STAT 16 else s.hostWrite d.1 d.2 true

/-- READY is entered (event 0x04); after a cold reset each REGDEF is written in its first cycle. -/
def State.enterReady (s : State) (t : Nat) : State :=
  let s := (s.setFld Reg.BOOT_STAT 7 4 0xF).setFld Reg.BOOT_STAT 0 0 1
  let s := { s with boot := { s.boot with endTimes := s.boot.endTimes ++ [t] } }
  let s := s.transition 0x04 .ready
  let s := if s.boot.regdefDue then s.boot.regdefs.foldl State.regdefWrite s else s
  { s with boot := { s.boot with regdefDue := false } }

/-! The phases. -/

/-- What phase `n` leaves when it ends. -/
def State.phaseWork (s : State) (n : Nat) (r : PhaseEnd) : State :=
  if n = 1 then
    ({ s with time := { s.time with pm := 0, skew := [] }, boot := { s.boot with pufKey := r.puf.map fun k => slice k 0 32 } }.setFld
      (Reg.at Reg.TIME_DPLL_STAT 1) 2 0 4).dpllObey
  else if n = 2 then s.checkRoot
  else if n = 3 then s.readFlash
  else if n = 4 then s.formIdentity
  else if n = 5 then s.startHubs
  else if n = 6 then { s with pwr := { s.pwr with dieRails := true } }
  else if n = 7 then s.repairLanes r.lanes
  else if n = 8 then s.bootStores r
  else s

/-- The next phase starts, RECOVERY is entered at the end of phase 3 (R472), READY at the end of phase 9. -/
def State.phaseNext (s : State) (n t : Nat) : State :=
  if s.mod ≠ .boot then s
  else if n = 3 ∧ (s.boot.cause ≠ 0 ∨ s.boot.recover) then s.toRecovery
  else if n < 9 then s.setFld Reg.BOOT_STAT 7 4 (n + 1)
  else s.enterReady t

/-- The end of the phase in progress. Phase 3, which writes COUNTERS, does not end under the flash guard (R508). -/
def State.phaseEnd (s : State) (r : PhaseEnd) : State :=
  let n := s.phase
  if s.mod ≠ .boot ∨ (s.fw.h1Charge ∧ n ≤ 5) ∨ (s.pwr.guard ∧ n = 3) then s
  else
    let t := Nat.min 0xFFFF ((s.now - s.boot.bootAt) / ms 1)
    let s := { s with boot := { s.boot with endTimes := s.boot.endTimes ++ [t] } }.emit (.uart 1 n)
    (s.phaseWork n r).phaseNext n t

def execBootPhaseEnd (r : PhaseEnd) (s : State) : Ans := .next (s.phaseEnd r)

/-- A phase passes its limit (R472). -/
def execBootOverrun (s : State) : Ans := .next (if s.mod = .boot then s.raise 0xA006 0 else s)

end Sys2Proof.Machine
end

