-- ==== Sys2Proof/Machine/Recovery.lean ====
section
/-!
DEFINITION. RECOVERY (R495–R498): the recovery post box is inbound slot 0, which the boot ROM collects by itself.
-/
namespace Sys2Proof.Machine

/-- An inbound slot becomes COLLECTED with its POSTMARK (R459). -/
def State.collectSlot (s : State) (n : Nat) : State :=
  let s := (s.setSlotState true n 2).slotFill true n 0x18 (leBytes 8 s.pm)
  { s with host := { s.host with posted := s.host.posted.filter (· != n) } }.count Reg.MBX_COLLECT_CNT

/-- The ROM collects a posted letter and runs it (R495). One of no recovery type is answered with STATUS 4. -/
def State.recoveryLetter (s : State) (ty : Nat) (body : State → State) : State :=
  let t := s.slotGet true 0 4 1
  if s.mod ≠ .recovery ∨ s.slotState true 0 ≠ 1 then s
  else if t < 0x41 ∨ 0x45 < t then (s.collectSlot 0).answer 0 4
  else if t = ty then body (s.collectSlot 0)
  else s

/-! Areas (R496): 1 KEYSTORE, 2 OWNER, 3 CONFIG, 4 IMAGE_SET. -/

def recoveryArea (a : Nat) : Nat := if a = 1 then Area.keystore else if a = 2 then Area.owner else if a = 3 then Area.config else Area.imageSet

/-- Does an area check (R497)? The keystore: its root key and every certificate (R475, R477, R478); the record: R483; the image set: R480,
the last two against the keystore as it stands. -/
def State.areaOk (s : State) (a : Nat) : Bool :=
  let s := { s with boot := { s.boot with admitted := s.admitAll 41 [] } }
  if a = 1 then
    s.rootMatches && s.flashNat Area.keystore 4 == 0x4B535452 && s.flashNat (Area.keystore + 4) 2 == 1 &&
    decide (s.flashNat (Area.keystore + 6) 2 ≤ 40) && s.boot.admitted.length == s.certCount
  else if a = 2 then s.ownerEnrolled
  else if a = 3 then s.configOk
  else s.imageSet.isSome

/-- Is every byte of an area erased? -/
def State.areaErased (s : State) (a : Nat) : Bool :=
  s.boot.cfgFlash.all fun e => decide (e.1 < recoveryArea a) || decide (recoveryArea a + areaSize (recoveryArea a) ≤ e.1)

/-- The state byte of INFO: 0 valid, 1 erased, 2 invalid, 3 written and not committed. -/
def State.areaState (s : State) (a : Nat) : Nat :=
  if s.boot.erased.contains a ∧ s.boot.written.any (·.1 == a) then 3
  else if s.areaErased a then 1
  else if s.areaOk a then 0 else 2

/-! The letters. -/

def execInfo (s : State) : Ans :=
  .next (s.recoveryLetter 0x41 fun s =>
    s.answer 0 0 0 (leBytes 4 Config.romVersion.toNat ++ [1, 2, 3, 4].flatMap (fun a => leBytes 1 (s.areaState a)) ++ leBytes 8 s.boot.cause ++
      s.serial ++ leBytes 8 (s.reg64 Reg.BOOT_COUNT_LO) ++ List.replicate 24 0#8 ++ slice Config.rootDigest 0 64))

/-- ERASE; it waits under the flash guard (R508). -/
def execErase (s : State) : Ans :=
  .next (if s.pwr.guard then s else s.recoveryLetter 0x42 fun s =>
    let a := s.pay 0 0 1
    if a ≠ 1 ∧ a ≠ 3 ∧ a ≠ 4 then s.answer 0 5
    else
      let s := s.flashErase (recoveryArea a) (areaSize (recoveryArea a))
      ({ s with boot := { s.boot with erased := a :: s.boot.erased.filter (· != a), written := s.boot.written.filter (·.1 != a) } }).answer 0 0)

/-- The conditions of R497 on a WRITE. -/
def State.writeAllowed (s : State) (a off len : Nat) : Bool :=
  s.boot.erased.contains a && off % 256 == 0 && len % 256 == 0 && decide (256 ≤ len) && decide (len ≤ 0x100000) &&
  decide (off + len ≤ areaSize (recoveryArea a)) &&
  s.boot.written.all fun w => w.1 != a || decide (w.2.1 + w.2.2 ≤ off) || decide (off + len ≤ w.2.1)

/-- WRITE: `data` is what the host's memory holds, `cells` what the flash then holds where it does not take the bytes as they are. -/
def execRecoveryWrite (data cells : Option (List Byte)) (s : State) : Ans :=
  .next (if s.pwr.guard then s else s.recoveryLetter 0x43 fun s =>
    let a := s.pay 0 0 1
    let off := s.pay 0 4 4
    let len := s.pay 0 0x10 4
    if !s.writeAllowed a off len then s.refuseWith 0 0xA008
    else s.hostRead 0 len data fun l s =>
      let got := slice (cells.getD l) 0 len
      let s := s.flashWrite (recoveryArea a + off) got
      let s := { s with boot := { s.boot with written := (a, off, len) :: s.boot.written } }
      if got == l then s.answer 0 0 else (s.answer 0 9 0xA009).raise 0xA009 0)

/-- COMMIT: the area takes no WRITE until its next ERASE. -/
def execCommit (s : State) : Ans :=
  .next (s.recoveryLetter 0x44 fun s =>
    let a := s.pay 0 0 1
    if a ≠ 1 ∧ a ≠ 3 ∧ a ≠ 4 then s.answer 0 5
    else
      let s := { s with boot := { s.boot with erased := s.boot.erased.filter (· != a) } }
      if s.areaOk a then s.answer 0 0 else (s.answer 0 9 0xA009).raise 0xA009 0)

/-- Does an enrolment block stand (R498)? -/
def State.enrolOk (s : State) (b : List Byte) : Bool :=
  fieldAt b 0 4 == 0x454E524C && fieldAt b 8 8 == s.reg64 Reg.BOOT_COUNT_LO && slice b 0x10 16 == s.serial &&
  (fieldAt b 0x20 1 % 2 == 0 || (slice b 0x40 1952).all (· == 0#8)) &&
  (!s.ownerEnrolled || sigOver s.ownerKey (slice b 0 0x800) (slice b 0x800 3309))

/-- ENROLL: the OWNER area is replaced, or emptied with REMOVE. -/
def execEnroll (data : Option (List Byte)) (s : State) : Ans :=
  .next (if s.pwr.guard then s else s.recoveryLetter 0x45 fun s =>
    s.hostRead 0 5376 data fun b s =>
      if !s.enrolOk b then s.refuseWith 0 0xA008
      else
        let s := s.flashErase Area.owner (areaSize Area.owner)
        let s := if fieldAt b 0x20 1 % 2 = 1 then s else (s.flashWrite Area.owner (leBytes 4 1)).flashWrite (Area.owner + 0x40) (slice b 0x40 1952)
        s.answer 0 0)

end Sys2Proof.Machine
end

