-- ==== Sys2Proof/Machine/Frame.lean ====
section
/-!
DEFINITION. Time as it passes (R35) and the frame boundary (R38): copy check, releases, stops and resumes, collection of letters, risk.
-/
namespace Sys2Proof.Machine

/-- Cycles with an odd postmark among the next `n`: those the half brake takes (R507). -/
def oddCycles (pm n : Nat) : Nat := (pm + n + 1) / 2 - (pm + 1) / 2

/-- The counts of a core's cycles (R60, R142): under the brake and in HELD nothing of it runs; a stall leaves some units running. -/
def Core.cycles (stop : Bool) (n lost : Nat) (c : Core) : Core :=
  if stop then { c with stallCycles := c.stallCycles + (if c.issuing ∨ c.stall ≠ 0 then n else 0) }
  else if c.stall ≠ 0 then { c with run := c.run + (n - lost), stallCycles := c.stallCycles + n }
  else { c with run := c.run + (n - lost), cyc := c.cyc + (n - lost), stallCycles := c.stallCycles + (if c.issuing then lost else 0) }

/-- `n` arithmetic cycles pass for all but the cores: the postmark, schedule time while RUNNING (R297), the cycles under a brake and the
input energy. -/
def State.timePasses (s : State) (n : Nat) : State :=
  let t := { s with now := s.now + n
                    time := { s.time with pm := (s.time.pm + n) % 2 ^ 64, sched := if s.mod = .running then s.time.sched + n else s.time.sched } }
  let t := if s.brake = 0 then t else t.count64 Reg.PWR_BRAKE_LO n
  let spans := t.now / ms 1 - s.now / ms 1
  if spans = 0 then t else t.count64 Reg.PWR_ENERGY_LO (spans * s.fld Reg.PWR_POWER 15 0)

/-- `n` arithmetic cycles pass, with the cores' counts. -/
def State.elapse (s : State) (n : Nat) : State :=
  let stop := s.fullBrake || s.mod == .held
  let lost := if s.pwr.half then oddCycles s.pm n else 0
  let t := s.timePasses n
  ({ t with cores := Map.vals {} (fun (c : Core) => c.cycles stop n lost) t.cores }).reduce n

/-! The copies of the postmark (R36): 0–3 the compute dies, 4–5 the hubs. -/

/-- A copy slips by `n` cycles. A slip of the hub in charge sets every other copy off. -/
def State.slip (s : State) (e : Fin 6 × Nat) : State :=
  let add := fun (m : Map Nat) (k n : Nat) => Map.set 0 m k ((Map.get 0 m k + n) % 2 ^ 64)
  let m := s.time.skew
  let back := 2 ^ 64 - e.2 % 2 ^ 64
  { s with time := { s.time with skew :=
      if e.1.val = 4 + s.hub then ((List.range 6).filter (· != 4 + s.hub)).foldl (fun (m : Map Nat) k => add m k back) m else add m e.1 e.2 } }

/-- DESIGN CHOICE (log 101): each copy's frame number is taken in the cycle in which the master of the hub in charge wraps, so a copy behind by a
cycle differs, and one ahead by less than a frame does not. -/
def State.copyFrame (s : State) (k : Nat) : Nat := (s.pm + Map.get 0 s.time.skew k) % 2 ^ 64 / 65536

/-- The copies that are checked: the dies, and the standby hub while both hubs are alive. -/
def State.checkedCopies (s : State) : List Nat :=
  [0, 1, 2, 3] ++ if s.fw.haW && s.fw.haE && !s.fw.h1Charge then [5] else []

def State.copiesAgree (s : State) : Bool :=
  s.checkedCopies.all fun k => s.copyFrame k == s.frame

/-! Collection (R459, R460). -/

/-- Collect an inbound letter: one of an unknown type, of a feature not granted, or longer than a slot is answered at once; control letters
queue up (R461). -/
def State.collectLetter (s : State) (n : Nat) : State :=
  if s.slotState true n ≠ 1 then s
  else
    let s := s.collectSlot n
    let ty := s.slotGet true n 4 1
    match featureOf ty with
    | none => (s.answer n 4).raise 0xB201 0
    | some f =>
      if !s.granted f then (s.answer n 3).raise 0xB202 0
      else if 2016 < s.slotGet true n 6 2 then s.answer n 5
      else if isControl ty then { s with host := { s.host with control := s.host.control ++ [n] } }
      else s

def State.collect (s : State) : State :=
  if s.schUp && s.endpointUp && s.mod != .recovery then
    (List.range 16).foldl State.collectOutbound ((List.range 16).foldl State.collectLetter s)
  else s

/-! The boundary. -/

/-- Is the health monitor due (R38, R397)? It starts in phase 9 of BOOT. -/
def State.riskEvaluation (s : State) : State :=
  let s := s.riskDue
  let on := s.mod == .ready || s.mod == .running || s.mod == .held || s.mod == .parked || s.mod == .fenced
  if on && s.frame % 1024 == 0 then { s with hlt := { s.hlt with due := true } } else s

/-- What happens in cycle 0x0000 of a frame, in the order of R38. At F_res the held releases move before any release (R364). -/
def State.atBoundary (s : State) : State :=
  let s := s.applyTimes
  let s := if s.copiesAgree then s else s.raise 0x7003 s.hub
  let s := s.holdResume.releaseDue.settle
  s.holdStop.collect.riskEvaluation

/-- FRAME_BOUNDARY: the rest of the frame passes, `slips` being what copies of the postmark slipped by meanwhile. -/
def execFrameBoundary (slips : List (Fin 6 × Nat)) (s : State) : Ans :=
  .next (if s.powered then s.together fun s => (slips.foldl State.slip (s.elapse (65536 - s.pm % 65536))).atBoundary else s)

end Sys2Proof.Machine
end

