-- ==== Sys2Proof/Machine/Sideband.lean ====
section
/-!
DEFINITION. The sideband (R523–R527): the test access port, MCTP and PLDM requests and Mirvodor's own messages. An answer is written as
its message type, the message's own header and its data; the framing around it, and the codes that the spec leaves to DSP0236, DSP0237,
DSP0240 and DSP0248, are PRESUMED from those standards (log 8).
-/
namespace Sys2Proof.Machine

/-! Who answers (R526): the power core of the hub in charge; while it restarts, requests are answered busy. -/

def State.pwrCore (s : State) : Proc := s.proc (4 * s.hub + 1)

/-- Is a request answered at all? In STANDBY the sideband management runs alone and answers (R3). -/
def State.sidebandUp (s : State) : Bool :=
  s.mod == .standby || match s.pwrCore.st with
  | .running => true
  | .restarting => true
  | .heldStopped => true
  | _ => false

def State.sidebandBusy (s : State) : Bool := s.mod != .standby && s.pwrCore.st != .running

def State.say (s : State) (l : List Byte) : State := s.emit (.sideband l)

/-! Mirvodor's messages (R527): type 0x7F, the enterprise number, the command, the status, then the data. -/

def State.vendorAnswer (s : State) (cmd status : Nat) (l : List Byte) : State :=
  s.say (leBytes 1 0x7F ++ (leBytes 4 (s.reg Reg.PWR_IANA)).reverse ++ leBytes 1 cmd ++ leBytes 1 status ++ l)

/-- A command of R527; status 1 while the power core restarts. -/
def State.vendor (s : State) (cmd : Nat) (body : State → State × List Byte) : State :=
  if !s.sidebandUp then s
  else if s.sidebandBusy then s.vendorAnswer cmd 1 []
  else let (t, l) := body s; t.vendorAnswer cmd 0 l

def execGetState (s : State) : Ans :=
  .next (s.vendor 1 fun s => (s, leBytes 4 s.fwState ++ leBytes 4 (s.view Reg.HLT_SCORE)))

/-- The fault queue of the hub in charge. -/
def State.faultQueue (s : State) : List DRec := if s.fw.h1Charge then s.fw.faultQ1 else s.fw.faultQ0

def execGetFaults (seq : Nat) (s : State) : Ans :=
  .next (s.vendor 2 fun s =>
    let l := (s.faultQueue.filter fun r => decide (seq ≤ r.seq)).take 4
    ({ s with fw := { s.fw with faultSeen := l.foldl (fun m r => Nat.max m r.seq) s.fw.faultSeen } }, l.flatMap DRec.bytes))

/-- SMB_ALERT_N is asserted: the queue holds a record above the highest SEQ returned. -/
def State.alert (s : State) : Bool := s.faultQueue.any fun r => decide (s.fw.faultSeen < r.seq)

/-- PARK writes `RES.CTL.PARK_REQ`. -/
def execPark (s : State) : Ans := .next (s.vendor 3 fun s => (s.parkReq, []))

/-! MCTP control messages (type 0x00): command, completion code, data. -/

def State.mctp (s : State) (cmd : Nat) (body : State → State × Nat × List Byte) : State :=
  if !s.sidebandUp then s
  else if s.sidebandBusy then s.say (leBytes 1 0 ++ leBytes 1 cmd ++ leBytes 1 4)
  else let (t, code, l) := body s; t.say (leBytes 1 0 ++ leBytes 1 cmd ++ leBytes 1 code ++ l)

/-- Set Endpoint ID; 0x00 and 0xFF are no endpoint IDs. -/
def execSetEndpointId (eid : BitVec 8) (s : State) : Ans :=
  .next (s.mctp 1 fun s =>
    if eid = 0 ∨ eid = 0xFF then (s, 2, [])
    else ({ s with pwr := { s.pwr with eid := eid.toNat } }, 0, leBytes 1 0 ++ [eid] ++ leBytes 1 0))

def execGetEndpointId (s : State) : Ans := .next (s.mctp 2 fun s => (s, 0, leBytes 1 s.pwr.eid ++ leBytes 2 0))

/-- The versions of a message type: one entry for those supported. -/
def execGetMctpVersionSupport (ty : BitVec 8) (s : State) : Ans :=
  .next (s.mctp 4 fun s =>
    if ty = 0 ∨ ty = 1 ∨ ty = 0x7F ∨ ty = 0xFF then (s, 0, leBytes 1 1 ++ slice (Config.pldmData 0x0400 ty.toNat) 0 4) else (s, 0x80, []))

/-- PLDM and Mirvodor's type. -/
def execGetMessageTypeSupport (s : State) : Ans := .next (s.mctp 5 fun s => (s, 0, leBytes 1 2 ++ [0x01#8, 0x7F#8]))

/-! PLDM (type 0x01): PLDM type, command, completion code, data. -/

def State.pldm (s : State) (ty cmd : Nat) (body : State → State × Nat × List Byte) : State :=
  let head := leBytes 1 1 ++ leBytes 1 ty ++ leBytes 1 cmd
  if !s.sidebandUp then s
  else if s.sidebandBusy then s.say (head ++ leBytes 1 4)
  else let (t, code, l) := body s; t.say (head ++ leBytes 1 code ++ l)

def execGetTid (s : State) : Ans := .next (s.pldm 0 2 fun s => (s, 0, leBytes 1 (s.fld Reg.PWR_SMBUS 15 8)))

/-- SetTID writes `PWR.SMBUS.TID`. 0x00 and 0xFF are no terminus IDs. -/
def execSetTid (tid : BitVec 8) (s : State) : Ans :=
  .next (s.pldm 0 1 fun s => if tid = 0 ∨ tid = 0xFF then (s, 2, []) else (s.setFld Reg.PWR_SMBUS 15 8 tid.toNat, 0, []))

def execGetPldmVersion (ty : BitVec 8) (s : State) : Ans :=
  .next (s.pldm 0 3 fun s => if ty = 0 ∨ ty = 2 then (s, 0, Config.pldmData 3 ty.toNat) else (s, 0x83, []))

/-- Types 0 (base) and 2 (monitoring and control). -/
def execGetPldmTypes (s : State) : Ans := .next (s.pldm 0 4 fun s => (s, 0, leBytes 8 5))

/-- The commands of a type, as a bit for each. -/
def execGetPldmCommands (ty : BitVec 8) (s : State) : Ans :=
  .next (s.pldm 0 5 fun s =>
    if ty = 0 then (s, 0, leBytes 32 0x3E)
    else if ty = 2 then (s, 0, leBytes 32 (2 ^ 0x11 + 2 ^ 0x21 + 2 ^ 0x50 + 2 ^ 0x51))
    else (s, 0x83, []))

/-- The numeric sensors of R526. -/
def State.sensor (s : State) (id : Nat) : Option Nat :=
  if id = 1 then some (s.fld Reg.PWR_INPUT 31 16)
  else if id = 2 then some (s.fld Reg.PWR_INPUT 15 0)
  else if id = 3 then some (s.fld Reg.PWR_POWER 15 0)
  else if id = 4 then some (s.fld Reg.THM_HOT 31 20)
  else if id = 5 then some (s.fld Reg.THM_HOT 19 8)
  else if 16 ≤ id ∧ id ≤ 31 then some (Map.get 0 s.pwr.stackTemp (id - 16))
  else none

/-- GetSensorReading: a 16-bit reading of an enabled sensor without events. Its three state bytes are the standard's. -/
def execGetSensorReading (id : BitVec 16) (s : State) : Ans :=
  .next (s.pldm 2 0x11 fun s =>
    match s.sensor id.toNat with
    | some v => (s, 0, leBytes 3 2 ++ slice (Config.pldmData 0x11 id.toNat) 0 3 ++ leBytes 2 v)
    | none => (s, 0x80, []))

/-- GetStateSensorReadings: sensor 40 is the module state. -/
def execGetStateSensorReadings (id : BitVec 16) (s : State) : Ans :=
  .next (s.pldm 2 0x21 fun s =>
    if id = 40 then (s, 0, leBytes 1 1 ++ leBytes 1 0 ++ leBytes 1 s.mod.code ++ leBytes 1 s.fw.prev.code ++ leBytes 1 s.mod.code) else (s, 0x80, []))

def execGetPdrRepositoryInfo (s : State) : Ans := .next (s.pldm 2 0x50 fun s => (s, 0, Config.pldmData 0x50 0))
def execGetPdr (handle : BitVec 32) (s : State) : Ans := .next (s.pldm 2 0x51 fun s => (s, 0, Config.pldmData 0x51 handle.toNat))

/-! The test access port (R524). It works from STANDBY onward (R520). -/

def allPins : List Pin :=
  [.perstN, .smbScl, .smbSda, .smbAlertN, .smbAddr0, .smbAddr1, .smbAddr2, .ppsIn, .ppsOut, .resetN, .presentN, .pwrGood, .tck, .tms, .tdi,
   .trstN, .tdo, .uartTx, .uartRx]

def State.tap (s : State) (ir : Nat) (bits : List Bool) : State := { s with pwr := { s.pwr with tapIr := ir } }.emit (.tdo bits)

/-- The one-bit bypass register delays what is shifted by a bit. -/
def bypassed (bits : List Bool) : List Bool := if bits.isEmpty then [] else false :: bits.dropLast

def execBypass (bits : List Bool) (s : State) : Ans := .next (if s.mod = .off then s else s.tap 0 (bypassed bits))

/-- IDCODE, bit 0 first. -/
def State.idcode (s : State) : Nat := pack [(28, s.fld Reg.HOST_ID 15 12), (12, 0x0740), (0, 1)]
def execIdcode (s : State) : Ans := .next (if s.mod = .off then s else s.tap 1 ((List.range 32).map (bit s.idcode)))

/-- The level of a pin as the boundary register captures it: what the module drives, or what the board does. -/
def State.pinLevel (s : State) (levels : List (Pin × Bool)) (p : Pin) : Bool :=
  let ext := ((levels.find? fun e => e.1 == p).map (·.2)).getD false
  match p with
  | .smbAlertN => !s.alert
  | .ppsOut => s.powered && s.ppsLevel
  | .presentN => false
  | .pwrGood => s.pwrGood
  | _ => ext

/-- Capture every pin, shift the captured levels out and the next ones in. -/
def State.boundaryScan (s : State) (ir : Nat) (levels : List (Pin × Bool)) (bits : List Bool) : State :=
  let cap := allPins.map fun p => (p, s.pinLevel levels p)
  { s with pwr := { s.pwr with tapSample := cap, tapPreload := allPins.zip bits } }.tap ir (cap.map fun e : Pin × Bool => e.2)

def execSamplePreload (levels : List (Pin × Bool)) (bits : List Bool) (s : State) : Ans :=
  .next (if s.mod = .off then s else s.boundaryScan 2 levels bits)

/-- EXTEST: in STANDBY the pins are driven from the preloaded stage until another instruction; elsewhere it acts as BYPASS. -/
def execExtest (levels : List (Pin × Bool)) (bits : List Bool) (s : State) : Ans :=
  .next (if s.mod = .off then s else if s.mod = .standby then s.boundaryScan 3 levels bits else s.tap 0 (bypassed bits))

/-- The level EXTEST drives on a pin. -/
def State.driven (s : State) (p : Pin) : Option Bool :=
  if s.pwr.tapIr = 3 ∧ s.mod = .standby then (s.pwr.tapPreload.find? fun e => e.1 == p).map (·.2) else none

end Sys2Proof.Machine
end

