-- ==== Sys2Proof/Machine/Dispatch.lean ====
section
/-!
DEFINITION. What each command does: one arm per constructor of `Instr`.
-/
namespace Sys2Proof.Machine

def exec (i : Instr) (s : State) : Host.Outcome State Fault Refusal :=
  match i with
  | .rload core arr desc xa => Sys2Proof.Machine.execRload core arr desc xa s
  | .stream core arr desc xa xn swap group start => Sys2Proof.Machine.execStream core arr desc xa xn swap group start s
  | .twin core desc xa xn swap group start => Sys2Proof.Machine.execTwin core desc xa xn swap group start s
  | .gopenClear core arr desc group => Sys2Proof.Machine.execGopenClear core arr desc group s
  | .gclose core arr desc xa group => Sys2Proof.Machine.execGclose core arr desc xa group s
  | .gcloseComplete core group => Sys2Proof.Machine.execGcloseComplete core group s
  | .gcloseKeep core arr group => Sys2Proof.Machine.execGcloseKeep core arr group s
  | .vld core fmt v addr xa t aux => Sys2Proof.Machine.execVld core fmt v addr xa t aux s
  | .vst core fmt v addr xa aux => Sys2Proof.Machine.execVst core fmt v addr xa aux s
  | .tmov core fmt addr xa xc t => Sys2Proof.Machine.execTmov core fmt addr xa xc t s
  | .tfill core fmt addr xa => Sys2Proof.Machine.execTfill core fmt addr xa s
  | .gopenLoad core fmt group addr xa count first => Sys2Proof.Machine.execGopenLoad core fmt group addr xa count first s
  | .cpost core courier xa desc => Sys2Proof.Machine.execCpost core courier xa desc s
  | .vadd core ty vd va vb => Sys2Proof.Machine.execVadd core ty vd va vb s
  | .vsub core ty vd va vb => Sys2Proof.Machine.execVsub core ty vd va vb s
  | .vmul core ty vd va vb => Sys2Proof.Machine.execVmul core ty vd va vb s
  | .vfma core ty vd va vb vc => Sys2Proof.Machine.execVfma core ty vd va vb vc s
  | .vmin core ty vd va vb => Sys2Proof.Machine.execVmin core ty vd va vb s
  | .vmax core ty vd va vb => Sys2Proof.Machine.execVmax core ty vd va vb s
  | .vcmplt core ty vd va vb => Sys2Proof.Machine.execVcmplt core ty vd va vb s
  | .vcmpeq core ty vd va vb => Sys2Proof.Machine.execVcmpeq core ty vd va vb s
  | .vsel core ty vd va vb vc => Sys2Proof.Machine.execVsel core ty vd va vb vc s
  | .vand core ty vd va vb => Sys2Proof.Machine.execVand core ty vd va vb s
  | .vor core ty vd va vb => Sys2Proof.Machine.execVor core ty vd va vb s
  | .vxor core ty vd va vb => Sys2Proof.Machine.execVxor core ty vd va vb s
  | .vbcast core ty vd xs => Sys2Proof.Machine.execVbcast core ty vd xs s
  | .vcvt core ty vd va vb sr tensor xs upper => Sys2Proof.Machine.execVcvt core ty vd va vb sr tensor xs upper s
  | .vcvts core ty va sr tensor xs fmt => Sys2Proof.Machine.execVcvts core ty va sr tensor xs fmt s
  | .vexp core ty vd va => Sys2Proof.Machine.execVexp core ty vd va s
  | .vrcp core ty vd va => Sys2Proof.Machine.execVrcp core ty vd va s
  | .vrsqrt core ty vd va => Sys2Proof.Machine.execVrsqrt core ty vd va s
  | .vlog core ty vd va => Sys2Proof.Machine.execVlog core ty vd va s
  | .vrsum core ty vd va => Sys2Proof.Machine.execVrsum core ty vd va s
  | .vrmax core ty vd va => Sys2Proof.Machine.execVrmax core ty vd va s
  | .vtopk core ty xs k l => Sys2Proof.Machine.execVtopk core ty xs k l s
  | .add core t xd xs1 xs2 => Sys2Proof.Machine.execAdd core t xd xs1 xs2 s
  | .addi core t xd xs1 imm => Sys2Proof.Machine.execAddi core t xd xs1 imm s
  | .sub core t xd xs1 xs2 => Sys2Proof.Machine.execSub core t xd xs1 xs2 s
  | .and core t xd xs1 xs2 => Sys2Proof.Machine.execAnd core t xd xs1 xs2 s
  | .or core t xd xs1 xs2 => Sys2Proof.Machine.execOr core t xd xs1 xs2 s
  | .xor core t xd xs1 xs2 => Sys2Proof.Machine.execXor core t xd xs1 xs2 s
  | .shli core t xd xs1 imm => Sys2Proof.Machine.execShli core t xd xs1 imm s
  | .shri core t xd xs1 imm => Sys2Proof.Machine.execShri core t xd xs1 imm s
  | .srai core t xd xs1 imm => Sys2Proof.Machine.execSrai core t xd xs1 imm s
  | .shlor core t xd xs1 imm => Sys2Proof.Machine.execShlor core t xd xs1 imm s
  | .mul core t xd xs1 xs2 => Sys2Proof.Machine.execMul core t xd xs1 xs2 s
  | .divu core t xd xs1 xs2 => Sys2Proof.Machine.execDivu core t xd xs1 xs2 s
  | .min core t xd xs1 xs2 => Sys2Proof.Machine.execMin core t xd xs1 xs2 s
  | .max core t xd xs1 xs2 => Sys2Proof.Machine.execMax core t xd xs1 xs2 s
  | .slt core t xd xs1 xs2 => Sys2Proof.Machine.execSlt core t xd xs1 xs2 s
  | .ld core t xd xs1 imm => Sys2Proof.Machine.execLd core t xd xs1 imm s
  | .st core t xs1 xs2 imm => Sys2Proof.Machine.execSt core t xs1 xs2 imm s
  | .lw core t xd xs1 imm => Sys2Proof.Machine.execLw core t xd xs1 imm s
  | .sw core t xs1 xs2 imm => Sys2Proof.Machine.execSw core t xs1 xs2 imm s
  | .rdpm core t xd => Sys2Proof.Machine.execRdpm core t xd s
  | .geth core t xd imm => Sys2Proof.Machine.execGeth core t xd imm s
  | .puth core t xs1 imm => Sys2Proof.Machine.execPuth core t xs1 imm s
  | .beq core t xs1 xs2 imm => Sys2Proof.Machine.execBeq core t xs1 xs2 imm s
  | .bne core t xs1 xs2 imm => Sys2Proof.Machine.execBne core t xs1 xs2 imm s
  | .blt core t xs1 xs2 imm => Sys2Proof.Machine.execBlt core t xs1 xs2 imm s
  | .thalt core t => Sys2Proof.Machine.execThalt core t s
  | .loop core count len => Sys2Proof.Machine.execLoop core count len s
  | .seg core => Sys2Proof.Machine.execSeg core s
  | .expect core space entry => Sys2Proof.Machine.execExpect core space entry s
  | .tstart core thread word => Sys2Proof.Machine.execTstart core thread word s
  | .stepend core => Sys2Proof.Machine.execStepend core s
  | .halt core => Sys2Proof.Machine.execHalt core s
  | .coreStallEnd core => Sys2Proof.Machine.execCoreStallEnd core s
  | .claimRelease core claim => Sys2Proof.Machine.execClaimRelease core claim s
  | .copy cluster courier mail => Sys2Proof.Machine.execCopy cluster courier mail s
  | .bank cluster => Sys2Proof.Machine.execBank cluster s
  | .bankRetain core bank => Sys2Proof.Machine.execBankRetain core bank s
  | .wakeComplete core bank => Sys2Proof.Machine.execWakeComplete core bank s
  | .tsUnscheduledWake core bank byCore => Sys2Proof.Machine.execTsUnscheduledWake core bank byCore s
  | .tsUncorrectable core unit => Sys2Proof.Machine.execTsUncorrectable core unit s
  | .alloc die pool caller result => Sys2Proof.Machine.execAlloc die pool caller result s
  | .share die pool caller addr last => Sys2Proof.Machine.execShare die pool caller addr last s
  | .drop die pool caller addr => Sys2Proof.Machine.execDrop die pool caller addr s
  | .release die pool caller addr => Sys2Proof.Machine.execRelease die pool caller addr s
  | .admission die desc => Sys2Proof.Machine.execAdmission die desc s
  | .slotAssignment die => Sys2Proof.Machine.execSlotAssignment die s
  | .send die desc => Sys2Proof.Machine.execSend die desc s
  | .land die desc => Sys2Proof.Machine.execLand die desc s
  | .landRelease die region pf => Sys2Proof.Machine.execLandRelease die region pf s
  | .scatter die desc => Sys2Proof.Machine.execScatter die desc s
  | .matchKeys desc => Sys2Proof.Machine.execMatchKeys desc s
  | .write via => Sys2Proof.Machine.execWrite via s
  | .fadd32 via => Sys2Proof.Machine.execFadd32 via s
  | .iadd32 via => Sys2Proof.Machine.execIadd32 via s
  | .iadd64 via => Sys2Proof.Machine.execIadd64 via s
  | .fmin32 via => Sys2Proof.Machine.execFmin32 via s
  | .fmax32 via => Sys2Proof.Machine.execFmax32 via s
  | .bmin via => Sys2Proof.Machine.execBmin via s
  | .bmax via => Sys2Proof.Machine.execBmax via s
  | .imin32 via => Sys2Proof.Machine.execImin32 via s
  | .imax32 via => Sys2Proof.Machine.execImax32 via s
  | .imin64 via => Sys2Proof.Machine.execImin64 via s
  | .imax64 via => Sys2Proof.Machine.execImax64 via s
  | .cas64 via => Sys2Proof.Machine.execCas64 via s
  | .exact via => Sys2Proof.Machine.execExact via s
  | .load port p => Sys2Proof.Machine.execLoad port p s
  | .bondUncorrectable channel unit => Sys2Proof.Machine.execBondUncorrectable channel unit s
  | .channelInterfaceFailure channel => Sys2Proof.Machine.execChannelInterfaceFailure channel s
  | .response port p => Sys2Proof.Machine.execResponse port p s
  | .mailbag port p => Sys2Proof.Machine.execMailbag port p s
  | .handover port p => Sys2Proof.Machine.execHandover port p s
  | .count port p => Sys2Proof.Machine.execCount port p s
  | .report port p => Sys2Proof.Machine.execReport port p s
  | .hold port p => Sys2Proof.Machine.execHold port p s
  | .resume port p => Sys2Proof.Machine.execResume port p s
  | .probe port p => Sys2Proof.Machine.execProbe port p s
  | .probeReply port p => Sys2Proof.Machine.execProbeReply port p s
  | .risk port p => Sys2Proof.Machine.execRisk port p s
  | .ack port p => Sys2Proof.Machine.execAck port p s
  | .credit port p => Sys2Proof.Machine.execCredit port p s
  | .pfcFrame port priorities xoff => Sys2Proof.Machine.execPfcFrame port priorities xoff s
  | .neighbourSolicitation port sub => Sys2Proof.Machine.execNeighbourSolicitation port sub s
  | .arpRequest port sub => Sys2Proof.Machine.execArpRequest port sub s
  | .ackTimer port src => Sys2Proof.Machine.execAckTimer port src s
  | .creditTimer port src => Sys2Proof.Machine.execCreditTimer port src s
  | .retransmit port dst seq => Sys2Proof.Machine.execRetransmit port dst seq s
  | .postUnreachable port dst => Sys2Proof.Machine.execPostUnreachable port dst s
  | .deadLetter die entry => Sys2Proof.Machine.execDeadLetter die entry s
  | .transmitWindow port => Sys2Proof.Machine.execTransmitWindow port s
  | .class1Slot port => Sys2Proof.Machine.execClass1Slot port s
  | .portBringup port => Sys2Proof.Machine.execPortBringup port s
  | .portBringupStepDone port => Sys2Proof.Machine.execPortBringupStepDone port s
  | .portBringupFailed port => Sys2Proof.Machine.execPortBringupFailed port s
  | .portRetry port => Sys2Proof.Machine.execPortRetry port s
  | .portLinkLost port => Sys2Proof.Machine.execPortLinkLost port s
  | .portDownLong port => Sys2Proof.Machine.execPortDownLong port s
  | .portFecUncorrected port n => Sys2Proof.Machine.execPortFecUncorrected port n s
  | .discardedFrame port frame => Sys2Proof.Machine.execDiscardedFrame port frame s
  | .stepReport => Sys2Proof.Machine.execStepReport s
  | .stepDecision => Sys2Proof.Machine.execStepDecision s
  | .decisionApply => Sys2Proof.Machine.execDecisionApply s
  | .boundaryBlockCapture => Sys2Proof.Machine.execBoundaryBlockCapture s
  | .inputSwitchClose => Sys2Proof.Machine.execInputSwitchClose s
  | .inputValid strap => Sys2Proof.Machine.execInputValid strap s
  | .supplyWarning => Sys2Proof.Machine.execSupplyWarning s
  | .flashGuard => Sys2Proof.Machine.execFlashGuard s
  | .warningClear => Sys2Proof.Machine.execWarningClear s
  | .supplyReset => Sys2Proof.Machine.execSupplyReset s
  | .overVoltage => Sys2Proof.Machine.execOverVoltage s
  | .currentLimit => Sys2Proof.Machine.execCurrentLimit s
  | .currentLimitClear => Sys2Proof.Machine.execCurrentLimitClear s
  | .shortCircuit => Sys2Proof.Machine.execShortCircuit s
  | .tripLatchClear => Sys2Proof.Machine.execTripLatchClear s
  | .supplyPark => Sys2Proof.Machine.execSupplyPark s
  | .resetNLow => Sys2Proof.Machine.execResetNLow s
  | .resetNRelease => Sys2Proof.Machine.execResetNRelease s
  | .railFault => Sys2Proof.Machine.execRailFault s
  | .junctionWarning die temp => Sys2Proof.Machine.execJunctionWarning die temp s
  | .stackWarning stack temp => Sys2Proof.Machine.execStackWarning stack temp s
  | .temperatureWarningClear => Sys2Proof.Machine.execTemperatureWarningClear s
  | .junctionLimit die temp => Sys2Proof.Machine.execJunctionLimit die temp s
  | .stackLimit stack temp => Sys2Proof.Machine.execStackLimit stack temp s
  | .thermalTrip => Sys2Proof.Machine.execThermalTrip s
  | .sensorFault place sensor => Sys2Proof.Machine.execSensorFault place sensor s
  | .refreshDoubled stack => Sys2Proof.Machine.execRefreshDoubled stack s
  | .refreshNormal stack => Sys2Proof.Machine.execRefreshNormal stack s
  | .refreshWindow channel corrected => Sys2Proof.Machine.execRefreshWindow channel corrected s
  | .marginScan die value => Sys2Proof.Machine.execMarginScan die value s
  | .marginScanDone die low high => Sys2Proof.Machine.execMarginScanDone die low high s
  | .spineUncorrectable place => Sys2Proof.Machine.execSpineUncorrectable place s
  | .spineLaneLost => Sys2Proof.Machine.execSpineLaneLost s
  | .hubLinkDown => Sys2Proof.Machine.execHubLinkDown s
  | .ppsOutPulse => Sys2Proof.Machine.execPpsOutPulse s
  | .ppsInEdge ps => Sys2Proof.Machine.execPpsInEdge ps s
  | .ptpSync ps => Sys2Proof.Machine.execPtpSync ps s
  | .esmc port ql => Sys2Proof.Machine.execEsmc port ql s
  | .refLost ref => Sys2Proof.Machine.execRefLost ref s
  | .referencePresent ref => Sys2Proof.Machine.execReferencePresent ref s
  | .dpllLock => Sys2Proof.Machine.execDpllLock s
  | .revert => Sys2Proof.Machine.execRevert s
  | .holdoverAcquire => Sys2Proof.Machine.execHoldoverAcquire s
  | .synthUnlock => Sys2Proof.Machine.execSynthUnlock s
  | .halfAliveDead hub => Sys2Proof.Machine.execHalfAliveDead hub s
  | .halfAliveAlive hub => Sys2Proof.Machine.execHalfAliveAlive hub s
  | .frameBoundary slips => Sys2Proof.Machine.execFrameBoundary slips s
  | .healthEvaluation sample => Sys2Proof.Machine.execHealthEvaluation sample s
  | .mirrorComplete => Sys2Proof.Machine.execMirrorComplete s
  | .snapshotComplete => Sys2Proof.Machine.execSnapshotComplete s
  | .wear => Sys2Proof.Machine.execWear s
  | .snapFlashUncorrectable slot => Sys2Proof.Machine.execSnapFlashUncorrectable slot s
  | .bootPhaseEnd result => Sys2Proof.Machine.execBootPhaseEnd result s
  | .bootOverrun => Sys2Proof.Machine.execBootOverrun s
  | .watchdogExpiry proc => Sys2Proof.Machine.execWatchdogExpiry proc s
  | .privateMemoryUncorrectable proc => Sys2Proof.Machine.execPrivateMemoryUncorrectable proc s
  | .protectionViolation proc restartable => Sys2Proof.Machine.execProtectionViolation proc restartable s
  | .restartComplete proc discards => Sys2Proof.Machine.execRestartComplete proc discards s
  | .restartOverrun proc => Sys2Proof.Machine.execRestartOverrun proc s
  | .fwRestart value => Sys2Proof.Machine.execFwRestart value s
  | .leaseWord => Sys2Proof.Machine.execLeaseWord s
  | .leaseWordReceive => Sys2Proof.Machine.execLeaseWordReceive s
  | .leaseAckReceive => Sys2Proof.Machine.execLeaseAckReceive s
  | .leaseExpiry => Sys2Proof.Machine.execLeaseExpiry s
  | .bootLeaseTimeout => Sys2Proof.Machine.execBootLeaseTimeout s
  | .leaseUnanswered => Sys2Proof.Machine.execLeaseUnanswered s
  | .hostAbsent => Sys2Proof.Machine.execHostAbsent s
  | .heartbeatBump => Sys2Proof.Machine.execHeartbeatBump s
  | .log core slot => Sys2Proof.Machine.execLog core slot s
  | .trace core slot => Sys2Proof.Machine.execTrace core slot s
  | .testWindow core slot bad => Sys2Proof.Machine.execTestWindow core slot bad s
  | .testAbort core byCore => Sys2Proof.Machine.execTestAbort core byCore s
  | .backgroundTest core bank region fails => Sys2Proof.Machine.execBackgroundTest core bank region fails s
  | .repairAppend => Sys2Proof.Machine.execRepairAppend s
  | .negotiate slot => Sys2Proof.Machine.execNegotiate slot s
  | .recoverReq slot => Sys2Proof.Machine.execRecoverReq slot s
  | .update slot data => Sys2Proof.Machine.execUpdate slot data s
  | .imageLoad slot => Sys2Proof.Machine.execImageLoad slot s
  | .join slot => Sys2Proof.Machine.execJoin slot s
  | .postmarkLoad shift => Sys2Proof.Machine.execPostmarkLoad shift s
  | .probeTransmit => Sys2Proof.Machine.execProbeTransmit s
  | .joinStepDone => Sys2Proof.Machine.execJoinStepDone s
  | .joinTimeout => Sys2Proof.Machine.execJoinTimeout s
  | .run slot => Sys2Proof.Machine.execRun slot s
  | .imageRunStart => Sys2Proof.Machine.execImageRunStart s
  | .microbatch slot data => Sys2Proof.Machine.execMicrobatch slot data s
  | .liveWordWrite slot core => Sys2Proof.Machine.execLiveWordWrite slot core s
  | .restore slot partner => Sys2Proof.Machine.execRestore slot partner s
  | .restart => Sys2Proof.Machine.execRestart s
  | .releaseLetter slot => Sys2Proof.Machine.execReleaseLetter slot s
  | .drainBuffers slot => Sys2Proof.Machine.execDrainBuffers slot s
  | .drainPart ok => Sys2Proof.Machine.execDrainPart ok s
  | .drainPartAnswer slot => Sys2Proof.Machine.execDrainPartAnswer slot s
  | .fill slot data => Sys2Proof.Machine.execFill slot data s
  | .attest slot ok => Sys2Proof.Machine.execAttest slot ok s
  | .slotStateWrite outbound slot value => Sys2Proof.Machine.execSlotStateWrite outbound slot value s
  | .sequenceClear offset value => Sys2Proof.Machine.execSequenceClear offset value s
  | .snapSel value => Sys2Proof.Machine.execSnapSel value s
  | .snapCapture => Sys2Proof.Machine.execSnapCapture s
  | .registerWrite offset value be => Sys2Proof.Machine.execRegisterWrite offset value be s
  | .bar2Write offset data => Sys2Proof.Machine.execBar2Write offset data s
  | .endpointReset => Sys2Proof.Machine.execEndpointReset s
  | .aerUncorrectable => Sys2Proof.Machine.execAerUncorrectable s
  | .holdReq => Sys2Proof.Machine.execHoldReq s
  | .resumeReq => Sys2Proof.Machine.execResumeReq s
  | .parkReq => Sys2Proof.Machine.execParkReq s
  | .holdLimit => Sys2Proof.Machine.execHoldLimit s
  | .resumeReady => Sys2Proof.Machine.execResumeReady s
  | .parkEntry limit => Sys2Proof.Machine.execParkEntry limit s
  | .info => Sys2Proof.Machine.execInfo s
  | .erase => Sys2Proof.Machine.execErase s
  | .recoveryWrite data cells => Sys2Proof.Machine.execRecoveryWrite data cells s
  | .commit => Sys2Proof.Machine.execCommit s
  | .enroll data => Sys2Proof.Machine.execEnroll data s
  | .getState => Sys2Proof.Machine.execGetState s
  | .getFaults seq => Sys2Proof.Machine.execGetFaults seq s
  | .park => Sys2Proof.Machine.execPark s
  | .setEndpointId eid => Sys2Proof.Machine.execSetEndpointId eid s
  | .getEndpointId => Sys2Proof.Machine.execGetEndpointId s
  | .getMctpVersionSupport ty => Sys2Proof.Machine.execGetMctpVersionSupport ty s
  | .getMessageTypeSupport => Sys2Proof.Machine.execGetMessageTypeSupport s
  | .getTid => Sys2Proof.Machine.execGetTid s
  | .setTid tid => Sys2Proof.Machine.execSetTid tid s
  | .getPldmVersion ty => Sys2Proof.Machine.execGetPldmVersion ty s
  | .getPldmTypes => Sys2Proof.Machine.execGetPldmTypes s
  | .getPldmCommands ty => Sys2Proof.Machine.execGetPldmCommands ty s
  | .getSensorReading id => Sys2Proof.Machine.execGetSensorReading id s
  | .getStateSensorReadings id => Sys2Proof.Machine.execGetStateSensorReadings id s
  | .getPdrRepositoryInfo => Sys2Proof.Machine.execGetPdrRepositoryInfo s
  | .getPdr handle => Sys2Proof.Machine.execGetPdr handle s
  | .bypass shift => Sys2Proof.Machine.execBypass shift s
  | .idcode => Sys2Proof.Machine.execIdcode s
  | .samplePreload levels shift => Sys2Proof.Machine.execSamplePreload levels shift s
  | .extest levels shift => Sys2Proof.Machine.execExtest levels shift s

end Sys2Proof.Machine
end

