-- ==== Sys2Proof/Machine/Pipe.lean ====
section
/-!
DEFINITION. What a core has under way from cycle to cycle (R57–R60, R115, R230): writes landing, result rows added, conversions and closes
ending, conflicts on the banks' core ports, and the errors that arise by themselves (R75, R76, R113, R143).
-/
namespace Sys2Proof.Machine

/-! Writes (R115). -/

/-- Insert a write behind those due before it and those due with it that were issued before it. -/
def insertFlight (f : Flight) : List Flight → List Flight
  | [] => [f]
  | g :: r => if f.due ≤ g.due then f :: g :: r else g :: insertFlight f r

/-- The writes due, in the order they land. -/
def Core.dueFlights (c : Core) : List Flight := (c.flights.filter fun f => decide (f.due ≤ c.count f.runs)).foldr insertFlight []

/-- A write of the core's stream lands; one into scalar data memory may be a service request (R419). -/
def Core.landOne (c : Core) (w : Write) : Core :=
  match w with
  | .sdm a n _ => (c.land w).request a n
  | _ => c.land w

/-- The writes that are due land. Answers those of tile moves into the accumulator store. -/
def State.landDue (s : State) (g : Nat) : State × List Write :=
  let c := s.core g
  let l := c.dueFlights
  if l.isEmpty then (s, [])
  else
    let c := { c with flights := c.flights.filter fun f => decide (c.count f.runs < f.due) }
    ((s.setCore g ((l.map (·.write)).foldl Core.landOne c)).serveUnknown g,
     l.filterMap fun f => match f.move, f.write with | true, .bytes true a d p => some (.bytes true a d p) | _, _ => none)

/-! Result rows (R57–R59). -/

/-- Insert a row behind those due before it, and array B's behind array A's of the same cycle (R58). -/
def insertAdd (f : AddRow) : List AddRow → List AddRow
  | [] => [f]
  | g :: r =>
    if f.due < g.due ∨ (f.due = g.due ∧ (f.arr = .a ∨ g.arr = .b)) then f :: g :: r else g :: insertAdd f r

/-- The rows due are added. A stalled core's rows wait, but those of an array that runs on (R60). -/
def Core.addDue (c : Core) (stalled : Bool) : Core × List Ev :=
  let due := fun (f : AddRow) => (f.runs || !stalled) && decide (f.due ≤ c.count f.runs)
  let l := (c.adds.filter due).foldr insertAdd []
  l.foldl (fun (x : Core × List Ev) f =>
    let (d, evs) := x.1.addAt f.arr f.row (fun n => f.words.getD n 0) f.poison
    (d, x.2 ++ evs)) ({ c with adds := c.adds.filter fun f => !due f }, [])

/-! What ends by itself. -/

/-- Closes whose last row is written (R69), conversions that ended, resident loads as far as they are. -/
def Core.ends (c : Core) : Core :=
  let c := (List.range 8).foldl (fun (c : Core) g => if (c.group g).ends ≤ c.run then c.gcloseComplete g else c) c
  let c := { c with convs := c.convs.filter fun k => decide (c.run < k.ends) }
  ([.a, .b] : List Arr).foldl (fun (c : Core) arr => if (c.loading arr).any fun l => decide (l.start + 128 ≤ c.cyc) then c.settleLoad arr else c) c

/-! Ports of the banks (R230). -/

/-- The banks that an access under way reaches in this cycle. -/
def PortUse.now (c : Core) (stalled : Bool) (u : PortUse) : List Nat :=
  let t := c.count u.runs
  if (u.runs || !stalled) && decide (u.start ≤ t) then u.banks.getD (t - u.start) [] else []

/-- Accesses of this cycle beyond the one that the busiest port of a bank serves: reads and writes have a port each (R229). -/
def Core.conflicts (c : Core) (stalled : Bool) : Nat :=
  let on := fun (w : Bool) => (c.ports.filter fun u => u.write == w).flatMap (PortUse.now c stalled)
  let most := fun (l : List Nat) => (List.range 32).foldl (fun m b => Nat.max m (l.count b)) 0
  Nat.max (most (on false)) (most (on true)) - 1

/-! A cycle's end. -/

/-- A row is being issued (R54). -/
def Core.issuesNow (c : Core) (stalled : Bool) (l : List Rows) : Bool :=
  l.any fun r => (r.runs || !stalled) && decide (r.start ≤ c.count r.runs) && decide (c.count r.runs < r.start + r.count)

/-- The counts at the end of a cycle outside the brake and HELD: live rows issued (R78), port conflicts to come (R230), the cycles themselves
(R60, R142). What is over is dropped. -/
def Core.tickOver (c : Core) (stalled : Bool) : Core :=
  let c := { c with
    busyA := c.busyA + (if c.issuesNow stalled c.issueA then 1 else 0)
    busyB := c.busyB + (if c.issuesNow stalled c.issueB then 1 else 0)
    conflict := c.conflict + c.conflicts stalled
    run := c.run + 1, cyc := if stalled then c.cyc else c.cyc + 1, stallCycles := if stalled then c.stallCycles + 1 else c.stallCycles }
  { c with
    issueA := c.issueA.filter fun r => decide (c.count r.runs < r.start + r.count)
    issueB := c.issueB.filter fun r => decide (c.count r.runs < r.start + r.count)
    ports := c.ports.filter fun u => decide (c.count u.runs < u.start + u.banks.length) }

/-- The end of a cycle: rows are added, then a tile move of this cycle into the same row stands (R59), then the counts. -/
def State.endCycle (s : State) (g : Nat) (moved : List Write) : State :=
  let stalled := (s.core g).stall != 0
  let (c, evs) := (s.core g).addDue stalled
  (s.setCore g ((c.lands moved).tickOver stalled)).tells g evs

/-! Errors that arise by themselves. -/

/-- A parity failure in a cell of a resident register, found when the set is next used (R75). -/
def Core.badCell (c : Core) (arr : Arr) (back : Bool) (at' : Nat × Nat) : Core :=
  let f := fun (s : ResSet) => { s with parity := some at' }
  match arr, back with
  | .a, false => { c with frontA := f c.frontA }
  | .a, true => { c with backA := f c.backA }
  | .b, false => { c with frontB := f c.frontB }
  | .b, true => { c with backB := f c.backB }

def Core.badTwin (c : Core) (second : Bool) (at' : Nat × Nat) : Core :=
  if second then { c with twin1 := { c.twin1 with parity := some at' } } else { c with twin0 := { c.twin0 with parity := some at' } }

/-- An uncorrectable error of a stamp history entry (R113): STAMP takes INIT, the history is cleared. -/
def State.badHistory (s : State) (d tensor : Nat) : State :=
  (s.onDie d fun x =>
    let e := Map.get {} x.stamps tensor
    { x with stamps := Map.set {} x.stamps tensor { e with stamp := (s.scalePolicy e.policy).init, hist := [], head := 0, fill := 0 } }).raise 0x1206 d

/-- An error arises (R75, R76, R107, R113, R143, R254). -/
def State.upset (s : State) : Upset → State
  | .cell g arr back lane col => s.onCore g fun c => c.badCell arr back (lane.val, col.val)
  | .twin g second lane col => s.onCore g fun c => c.badTwin second (lane.val, col.val)
  | .accCorrected g => (s.event (Reg.at Reg.ARR_STAT g) 14).count (Reg.at Reg.ARR_CORR_CNT g)
  | .accDouble g tile row =>
    let t := s.onCore g fun c => { c with accPoison := Map.set false c.accPoison (tile.val * 128 + row.val) true }
    (t.setReg (Reg.at Reg.ARR_ERR_LOC g) (2 * 2 ^ 30 + tile.val * 2 ^ 18 + row.val * 2 ^ 11 + 1)).raise 0x1102 g
  | .vregCorrected g => (s.event (Reg.at Reg.VEC_STAT g) 16).count (Reg.at Reg.VEC_CORR_CNT g)
  | .vregDouble g k => (s.onCore g fun c => { c with vPoison := Map.set false c.vPoison k.val true }).raise 0x1304 g
  | .sdmDouble g w => s.onCore g fun c => { c with sdmBad := w.val :: c.sdmBad }
  | .tsCorrected g => (s.event (Reg.at Reg.TS_STAT g) 15).count (Reg.at Reg.TS_CORR_CNT g)
  | .history d tensor => s.badHistory d tensor

end Sys2Proof.Machine
end

