-- ==== Sys2Proof/Machine/Tick.lean ====
section
/-!
DEFINITION. What one arithmetic cycle does with no command waiting (R35, R38, R114–R138): time passes, a boundary acts, claims that are due
are released, running cores issue a bundle each and threads 1–3 take their turns.
-/
namespace Sys2Proof.Machine

/-! Bundles. -/

/-- The bundle a core is at: 32 bytes of the half in execution (R117). -/
def Core.fetch (c : Core) (g : Fin 384) : Bundle :=
  bundle g (leNat ((List.range 32).map fun i => Map.get 0#8 c.istore (131072 * c.half + 32 * c.index + i)))

/-- The instructions of a bundle in the order of the slots of R114. Their writes are under way after it, so each reads its operands as they
were before it (R115). -/
def Bundle.ordered (x : Bundle) : List Instr := x.slots.filterMap Slot.get?

/-- The state in which the first instruction that stalls leaves the core: the whole bundle waits (R120). -/
def State.bundleStall (s : State) (g : Nat) (l : List Instr) : Option State :=
  l.findSome? fun i =>
    let t := nextOr s (exec i s)
    if (t.core g).stall = 0 then none else some { t with waiting := s.waiting }

/-- Issue a bundle, and go on to the next one. -/
def State.issueBundle (s : State) (g : Fin 384) : State :=
  let l := ((s.core g).fetch g).ordered
  match s.bundleStall g l with
  | some t => t
  | none =>
    let t := { l.foldl (fun t i => nextOr t (exec i t)) { s with inBundle := true } with inBundle := false }
    if (t.core g).issuing then t.onCore g Core.advance else t

/-- What a core does with a cycle: it serves an access that a port conflict holds back (R230); a stall ends when what it waited for is
there; an unreleased or unfilled half stalls it (R117); else it issues. -/
def State.coreIssue (s : State) (g : Fin 384) : State :=
  if (s.core g).conflict ≠ 0 then
    (s.onCore g fun c => { c with stall := 8, conflict := c.conflict - 1 }).count (Reg.at Reg.TS_CONFLICT_CNT g)
  else
    let s := if (s.core g).stall = 0 then s else s.stallEnd g
    let c := s.core g
    if c.stall ≠ 0 ∨ !c.issuing then s
    else if c.claimed (4, c.half, 1) ∨ !Map.get false c.filled c.half then s.stallCore g 7
    else s.issueBundle g

/-- The brake or the hold that stops every core in this cycle, by its cause (R506, R507, R361). -/
def State.stopCause (s : State) : Option Nat :=
  if s.fullBrake then some 5 else if s.mod = .held then some 6 else if s.pwr.half ∧ s.pm % 2 = 1 then some 5 else none

/-- One cycle of a core (R60, R114–R120). -/
def State.coreCycle (s : State) (g : Fin 384) : State :=
  if !s.live then s
  else match s.stopCause with
  | some cause => s.onCore g fun c => if c.issuing ∨ c.stall ≠ 0 then { c with stall := cause, stallCycles := c.stallCycles + 1 } else c
  | none =>
    let (s, moved) := s.landDue g
    ((s.onCore g Core.ends).coreIssue g).endCycle g moved

/-! Threads 1–3 (R134). -/

/-- The thread whose turn it is. -/
def State.turn (s : State) : Fin 4 := ⟨(s.now + 3 - s.time.runAt % 3) % 3 + 1, by omega⟩

/-- One cycle of a thread's hold after a DIVU or a TSTART. -/
def Core.threadHold (c : Core) (t : Nat) : Core :=
  if (c.thread t).busy = 0 then c else c.setThread t { c.thread t with busy := (c.thread t).busy - 1 }

/-- A program word: 64 bits, the encoding in bits 39:0 (R135). -/
def Core.program (c : Core) (g : Fin 384) (t : Fin 4) : Slot := scalarSlot g t (c.sdmRead (0x1E000 + 8 * (c.thread t).pc) 8 % 2 ^ 40)

/-- A thread's turn. One that left the program area made an access outside its areas, and halts. -/
def State.threadTurn (s : State) (g : Fin 384) (t : Fin 4) : State :=
  let c := s.core g
  if !(c.thread t).running ∨ (c.thread t).busy ≠ 0 then s
  else if 1024 ≤ (c.thread t).pc then (s.onCore g fun c => c.thalt t).raise 0x1303 g
  else match c.program g t with
    | .instr i => nextOr s (exec i s)
    | _ => s.onCore g fun c => c.setThread t { c.thread t with pc := (c.thread t).pc + 1 }

/-! What ends by itself after a fixed number of cycles. -/

/-- Wakes go on; a bank that waits to be retained is retained once it is free (R232). -/
def Core.bankCycle (c : Core) : Core :=
  let c := (c.retainWait.filter c.bankFree).foldl Core.retain c
  let w := Map.vals 0 (· + 1) c.waking
  (w.filter fun e => decide (720 < e.2)).foldl (fun c e => c.woken e.1) { c with waking := w.filter fun e => decide (e.2 ≤ 720) }

/-- Banks, and a background test that has run its 336 cycles (R236). -/
def State.coreEnds (s : State) (g : Nat) : State :=
  let s := s.onCore g Core.bankCycle
  match (s.core g).testing with
  | some (_, _, _, began) => if s.now < began + 336 then s else s.finishTest g
  | none => s

/-- Threads 1–3 do not run in HELD (R361), nor while no job runs. -/
def State.threadsRun (s : State) : Bool := s.mod == .running

/-- One cycle of core `g`: the holds of its threads count down before anything issues (R134, R137). -/
def State.oneCore (s : State) (g : Nat) : State :=
  if h : g < 384 then
    let s := s.coreEnds g
    let s := if s.threadsRun then s.onCore g fun c => [1, 2, 3].foldl Core.threadHold c else s
    let s := s.coreCycle ⟨g, h⟩
    if s.threadsRun then s.threadTurn ⟨g, h⟩ s.turn else s
  else s

/-- Slot assignment of each die whose round is complete (R208). -/
def State.assignDies (s : State) : State := [0, 1, 2, 3].foldl (fun t d => nextOr t (execSlotAssignment d t)) s

/-- A cycle with the postmark running. -/
def State.cycle (s : State) : State :=
  let s := s.timePasses 1
  let s := (Config.upset s.now).foldl State.upset s
  let s := if s.pm % 65536 = 0 then s.atBoundary.runStart.restartRun else s.releaseDue
  let s := (s.reduce 1).settle.assignDies.watchPools
  (s.cores.map (·.1)).foldl State.oneCore s

/-- One arithmetic cycle, whose faults are taken together (R8). Where the module has no power but its standby supply, only time passes. -/
def State.tick (s : State) : State := if s.powered then s.together State.cycle else { s with now := s.now + 1 }

end Sys2Proof.Machine
end

