-- ==== Sys2Proof/Machine/Encode.lean ====
section
/-!
DEFINITION. The encoders of the slots and of a bundle (R114, R122, R125, R126, R131, R132, R136, R137): the word that spells an instruction
in its slot, with every bit that the instruction does not use at 0.
-/
namespace Sys2Proof.Machine

/-- The word of an array slot (R122). -/
def encodeArray (arr : Arr) : Instr → Option Nat
  | .rload _ slot d xa => if slot = arr then some (1 * 2 ^ 36 + d.val * 2 ^ 28 + xa.val * 2 ^ 23) else none
  | .stream _ slot d xa xn swap grp start =>
    if slot = arr then
      some (2 * 2 ^ 36 + d.val * 2 ^ 28 + xa.val * 2 ^ 23 + xn.val * 2 ^ 18 + swap.toNat * 2 ^ 17 + grp.val * 2 ^ 14 + start.val * 2 ^ 2)
    else none
  | .twin _ d xa xn swap grp start =>
    if arr = .a then
      some (3 * 2 ^ 36 + d.val * 2 ^ 28 + xa.val * 2 ^ 23 + xn.val * 2 ^ 18 + swap.toNat * 2 ^ 17 + grp.val * 2 ^ 14 + start.val * 2 ^ 2)
    else none
  | .gopenClear _ slot d grp => if slot = arr then some (4 * 2 ^ 36 + d.val * 2 ^ 28 + grp.val * 2 ^ 14) else none
  | .gclose _ slot d xa grp => if slot = arr then some (5 * 2 ^ 36 + d.val * 2 ^ 28 + xa.val * 2 ^ 23 + grp.val * 2 ^ 14) else none
  | .gcloseKeep _ slot grp => if slot = arr then some (6 * 2 ^ 36 + grp.val * 2 ^ 14) else none
  | _ => none

/-- TYPE of R125. -/
def typeField : VTy → Nat
  | .f32 => 0 | .bf16 => 1 | .int32 => 2

/-- OP, TYPE, VD, VA, VB and VC of a vector word. -/
def vectorWord (op : Nat) (ty : VTy) (vd va vb vc : Nat) : Nat :=
  op * 2 ^ 56 + typeField ty * 2 ^ 54 + vd * 2 ^ 49 + va * 2 ^ 44 + vb * 2 ^ 39 + vc * 2 ^ 34

/-- The word of the vector slot (R125, R126). -/
def encodeVector : Instr → Option Nat
  | .vadd _ ty vd va vb => some (vectorWord 0x01 ty vd va vb 0)
  | .vsub _ ty vd va vb => some (vectorWord 0x02 ty vd va vb 0)
  | .vmul _ ty vd va vb => some (vectorWord 0x03 ty vd va vb 0)
  | .vfma _ ty vd va vb vc => some (vectorWord 0x04 ty vd va vb vc)
  | .vmin _ ty vd va vb => some (vectorWord 0x05 ty vd va vb 0)
  | .vmax _ ty vd va vb => some (vectorWord 0x06 ty vd va vb 0)
  | .vcmplt _ ty vd va vb => some (vectorWord 0x07 ty vd va vb 0)
  | .vcmpeq _ ty vd va vb => some (vectorWord 0x08 ty vd va vb 0)
  | .vsel _ ty vd va vb vc => some (vectorWord 0x09 ty vd va vb vc)
  | .vand _ ty vd va vb => some (vectorWord 0x0A ty vd va vb 0)
  | .vor _ ty vd va vb => some (vectorWord 0x0B ty vd va vb 0)
  | .vxor _ ty vd va vb => some (vectorWord 0x0C ty vd va vb 0)
  | .vbcast _ ty vd xs => some (vectorWord 0x0D ty vd 0 0 0 + xs.val * 2 ^ 11)
  | .vcvt _ ty vd va vb sr tensor xs upper =>
    some (vectorWord 0x0E ty vd va vb 0 + sr.toNat * 2 ^ 28 + tensor.val * 2 ^ 16 + xs.val * 2 ^ 11 + upper.toNat)
  | .vcvts _ ty va sr tensor xs fmt =>
    some (vectorWord 0x0F ty 0 va 0 0 + sr.toNat * 2 ^ 28 + tensor.val * 2 ^ 16 + xs.val * 2 ^ 11 + fmt.val)
  | .vexp _ ty vd va => some (vectorWord 0x10 ty vd va 0 0)
  | .vrcp _ ty vd va => some (vectorWord 0x11 ty vd va 0 0)
  | .vrsqrt _ ty vd va => some (vectorWord 0x12 ty vd va 0 0)
  | .vlog _ ty vd va => some (vectorWord 0x13 ty vd va 0 0)
  | .vrsum _ ty vd va => some (vectorWord 0x14 ty vd va 0 0)
  | .vrmax _ ty vd va => some (vectorWord 0x15 ty vd va 0 0)
  | .vtopk _ ty xs k l => some (vectorWord 0x16 ty 0 0 0 0 + xs.val * 2 ^ 11 + k.val * 2 ^ 7 + l.val)
  | _ => none

/-- OP, FMT, V, ADDR and XA of a move word. -/
def moveWord (op fmt v addr xa : Nat) : Nat := op * 2 ^ 44 + fmt * 2 ^ 40 + v * 2 ^ 35 + addr * 2 ^ 20 + xa * 2 ^ 15

/-- The word of the tile-move slot (R131, R132). -/
def encodeMove : Instr → Option Nat
  | .vld _ fmt v addr xa tr aux => some (moveWord 1 fmt v addr xa + tr.toNat * 2 ^ 9 + aux.val)
  | .vst _ fmt v addr xa aux => some (moveWord 2 fmt v addr xa + aux.val)
  | .tmov _ fmt addr xa xc tr => some (moveWord 3 fmt 0 addr xa + xc.val * 2 ^ 10 + tr.toNat * 2 ^ 9)
  | .tfill _ fmt addr xa => some (moveWord 4 fmt 0 addr xa)
  | .gopenLoad _ fmt grp addr xa count first => some (moveWord 5 fmt grp addr xa + count.val * 2 ^ 10 + first.val)
  | .cpost _ k xa d => some (moveWord 6 0 k 0 xa + d.val)
  | _ => none

/-- OP, XD, XS1 and XS2 of a scalar word, and one with an immediate in place of XS2. -/
def scalarWord (op xd a b : Nat) : Nat := op * 2 ^ 34 + xd * 2 ^ 29 + a * 2 ^ 24 + b * 2 ^ 19
def scalarImm (op xd a : Nat) (imm : BitVec 19) : Nat := scalarWord op xd a 0 + imm.toNat

/-- The word of a scalar instruction (R136), in thread 0's slot or in the program of a thread. -/
def encodeScalar (t : Fin 4) : Instr → Option Nat
  | .add _ t' xd a b => if t' = t then some (scalarWord 0x01 xd a b) else none
  | .addi _ t' xd a imm => if t' = t then some (scalarImm 0x02 xd a imm) else none
  | .sub _ t' xd a b => if t' = t then some (scalarWord 0x03 xd a b) else none
  | .and _ t' xd a b => if t' = t then some (scalarWord 0x04 xd a b) else none
  | .or _ t' xd a b => if t' = t then some (scalarWord 0x05 xd a b) else none
  | .xor _ t' xd a b => if t' = t then some (scalarWord 0x06 xd a b) else none
  | .shli _ t' xd a imm => if t' = t then some (scalarImm 0x07 xd a imm) else none
  | .shri _ t' xd a imm => if t' = t then some (scalarImm 0x08 xd a imm) else none
  | .srai _ t' xd a imm => if t' = t then some (scalarImm 0x09 xd a imm) else none
  | .shlor _ t' xd a imm => if t' = t then some (scalarImm 0x0A xd a imm) else none
  | .mul _ t' xd a b => if t' = t then some (scalarWord 0x0B xd a b) else none
  | .divu _ t' xd a b => if t' = t then some (scalarWord 0x0C xd a b) else none
  | .min _ t' xd a b => if t' = t then some (scalarWord 0x0D xd a b) else none
  | .max _ t' xd a b => if t' = t then some (scalarWord 0x0E xd a b) else none
  | .slt _ t' xd a b => if t' = t then some (scalarWord 0x0F xd a b) else none
  | .ld _ t' xd a imm => if t' = t then some (scalarImm 0x10 xd a imm) else none
  | .st _ t' a b imm => if t' = t then some (scalarWord 0x11 0 a b + imm.toNat) else none
  | .lw _ t' xd a imm => if t' = t then some (scalarImm 0x12 xd a imm) else none
  | .sw _ t' a b imm => if t' = t then some (scalarWord 0x13 0 a b + imm.toNat) else none
  | .rdpm _ t' xd => if t' = t then some (scalarWord 0x14 xd 0 0) else none
  | .geth _ t' xd imm => if t' = t then some (scalarImm 0x15 xd 0 imm) else none
  | .puth _ t' a imm => if t' = t then some (scalarImm 0x16 0 a imm) else none
  | .beq _ t' a b imm => if t' = t then some (scalarWord 0x17 0 a b + imm.toNat) else none
  | .bne _ t' a b imm => if t' = t then some (scalarWord 0x18 0 a b + imm.toNat) else none
  | .blt _ t' a b imm => if t' = t then some (scalarWord 0x19 0 a b + imm.toNat) else none
  | .thalt _ t' => if t' = t then some (scalarWord 0x1A 0 0 0) else none
  | _ => none

/-- The word of the sync slot (R137). -/
def encodeSync : Instr → Option Nat
  | .loop _ count len => some (1 * 2 ^ 20 + count.val * 2 ^ 8 + len.val)
  | .seg _ => some (2 * 2 ^ 20)
  | .expect _ space entry => some (3 * 2 ^ 20 + space.val * 2 ^ 18 + entry.val * 2 ^ 8)
  | .tstart _ thread word => some (4 * 2 ^ 20 + thread.val * 2 ^ 18 + word.val)
  | .stepend _ => some (5 * 2 ^ 20)
  | .halt _ => some (6 * 2 ^ 20)
  | _ => none

end Sys2Proof.Machine
end

