-- ==== Sys2Proof/Safety.lean ====
section
/-!
DEFINITION. What counts as a safe run: no step stops, and the module never leaves FENCED but by a reset or the loss of its input (R5).
-/
namespace Sys2Proof.Machine

/-- Does an answer go on? -/
def Goes : Host.Outcome State Fault Refusal → Prop
  | .next _ => True
  | .fault _ => False
  | .refused _ => False

/-- `k` steps that all go on. -/
def RunsFor : Nat → State → Prop
  | 0, _ => True
  | k + 1, s => ∃ t, step s = .next t ∧ RunsFor k t

/-- The command that step `s` takes, where one waits. -/
abbrev State.front (s : State) : Option Instr := s.pending.head?

/-- From FENCED or RECOVERY a step stays, or it is the release of RESET_N after a low (event 13 of R437), or the loss of the input
(event 3). -/
def LeavesShut (s t : State) : Prop :=
  t.mod = s.mod
  ∨ (t.mod = .boot ∧ s.front = some .resetNRelease ∧ s.pwr.resetLow = true)
  ∨ (t.mod = .off ∧ (s.front = some .supplyReset ∨ s.front = some .overVoltage ∨ s.front = some .shortCircuit ∨ s.front = some .thermalTrip))

/-- Core `g` carries out a command for its thread `t` at once: the module is RUNNING without the full brake (R3, R60), the stream of thread 0
is in no stall (R116, R120), and no bundle of the core's own stream is being issued. -/
abbrev State.Issues (s : State) (g t : Nat) : Prop :=
  s.fullBrake = false ∧ s.mod = .running ∧ (t = 0 → (s.core g).stall = 0) ∧ s.inBundle = false

/-- Nothing waits that a change of the state could let go on: no packet at a port (R328, R355), no job at a Sorting Office (R198), no LAND
(R220). -/
abbrev State.Calm (s : State) : Prop :=
  (∀ p : Fin 8, (s.port p).waiting = []) ∧
  ∀ d : Fin 4, (s.die d).admQ = [] ∧ (s.die d).parQ = [] ∧ ∀ l ∈ (s.die d).landings, l.land = none

/-- R135: may thread `t` read `n` bytes at `a` of the scalar data memory? The general area, and a thread's own 8 KiB window. -/
abbrev MayReadSdm (t a n : Nat) : Prop :=
  a + n ≤ 0x18000 ∨ (t ≠ 0 ∧ 0x18000 + 0x2000 * (t - 1) ≤ a ∧ a + n ≤ 0x18000 + 0x2000 * t)

/-- R135: may it write them? Thread 0 the general area, a thread 1–3 its own window. -/
abbrev MayWriteSdm (t a n : Nat) : Prop :=
  (t = 0 ∧ a + n ≤ 0x18000) ∨ (t ≠ 0 ∧ 0x18000 + 0x2000 * (t - 1) ≤ a ∧ a + n ≤ 0x18000 + 0x2000 * t)

/-- `d` is core `c` with register `vd` of type `ty` written: lane i holds the low bits of `f i`, a row is poisoned where it is in any
operand register of `rs` (R107, R124), and nothing else changes. -/
def WritesLanes (c d : Core) (ty : VTy) (vd : Nat) (rs : List Nat) (f : Nat → Nat) : Prop :=
  (∀ i < ty.lanes, d.vlane ty vd i = f i % 2 ^ ty.width)
  ∧ (∀ k < 32, d.vp vd k = rs.any fun r => (rowGranules ty k).any fun j => c.vp r j)
  ∧ (∀ r ≠ vd, ∀ w < 2048, d.vw r w = c.vw r w)
  ∧ (∀ r ≠ vd, ∀ k < 32, d.vp r k = c.vp r k)
  ∧ d = { c with vreg := d.vreg, vPoison := d.vPoison }

/-- Nothing holds up an instruction that uses `u`: no unreleased unit (R120), no sleeping bank (R233), no region under test (R236), no
occupied unit (R138). -/
abbrev Core.Clear (c : Core) (u : Uses) : Prop :=
  c.blocked u = none ∧ (u.reads ++ u.writes).findSome? c.asleep = none ∧ (u.reads ++ u.writes).any c.testHit = false
  ∧ u.units.any (fun x => c.busyUnit x) = false

end Sys2Proof.Machine
end

