-- ==== Sys2Proof/WellFormed.lean ====
section
/-!
DEFINITION. The forms of core instructions that no core issues, since the image check refuses them (R62, R83, R129, R130, R132, R136, R137,
R354). Every other command is well formed with every operand its types allow.
-/
namespace Sys2Proof

/-- An immediate that names a hand-off register (R136). -/
def handOff (imm : BitVec 19) : Bool := decide (imm.toNat < 12)

/-- Formats of array operands (R83). -/
def operandCode (fmt : Nat) : Bool := decide (fmt ≤ 6) || decide (10 ≤ fmt)

/-- The checks that need nothing but the instruction. -/
def Instr.wellFormed : Instr → Bool
  | .vst _ fmt _ _ _ _ => fmt.val == 0 || fmt.val == 1 || fmt.val == 7
  | .tfill _ fmt _ _ => operandCode fmt.val
  | .gopenLoad _ fmt _ _ _ _ _ => fmt.val == 0 || fmt.val == 1 || fmt.val == 7 || fmt.val == 8
  | .vcvts _ ty va _ _ _ fmt => fmt.val != 9 && ((ty == .f32 && va.val % 8 == 0) || (ty == .bf16 && va.val % 4 == 0))
  | .vtopk _ ty _ _ _ => ty != .int32
  | .geth _ t _ imm => t.val == 0 && handOff imm
  | .puth _ t _ _ => t.val != 0
  | .beq _ t _ _ _ => t.val != 0
  | .bne _ t _ _ _ => t.val != 0
  | .blt _ t _ _ _ => t.val != 0
  | .thalt _ t => t.val != 0
  | .tstart _ thread _ => thread.val != 0
  | .expect _ space _ => space.val != 3
  | _ => true

end Sys2Proof
end

