-- ==== Sys2Proof/Certificates/Slice0/Obligations.lean ====
section
/-!
DEFINITION. The statements for the provers.
-/
open Sys2Proof Sys2Proof.Machine

/-! Scalar instructions (R134–R136). -/

/-- R136: the result of each arithmetic row, written to xd of its thread, on every operand; nothing outside the core changes.
`Obligations.ScalarResult` says what writing a result changes of the core.
R134, R136, R138: the unsigned quotient, all ones for a divisor of 0. Thread 0's division waits for the divider to be free and
raises 0x1301 while it is not; a thread 1–3 is held for 20 cycles instead. -/
def Obligations.ScalarArithmetic : Prop :=
  (∀ (g : Fin 384) (t : Fin 4) (xd a b : Fin 32) (imm : BitVec 19) (s : State), s.Issues g t →
    let c := s.core g
    let wrote := fun (v : W64) => Host.Outcome.next (s.setCore g (c.scalar t xd v))
    exec (.add g t xd a b) s = wrote (c.rt t a + c.rt t b)
    ∧ exec (.addi g t xd a imm) s = wrote (c.rt t a + imm.signExtend 64)
    ∧ exec (.sub g t xd a b) s = wrote (c.rt t a - c.rt t b)
    ∧ exec (.and g t xd a b) s = wrote (c.rt t a &&& c.rt t b)
    ∧ exec (.or g t xd a b) s = wrote (c.rt t a ||| c.rt t b)
    ∧ exec (.xor g t xd a b) s = wrote (c.rt t a ^^^ c.rt t b)
    ∧ exec (.shli g t xd a imm) s = wrote (c.rt t a <<< (imm.extractLsb' 0 6).toNat)
    ∧ exec (.shri g t xd a imm) s = wrote (c.rt t a >>> (imm.extractLsb' 0 6).toNat)
    ∧ exec (.srai g t xd a imm) s = wrote ((c.rt t a).sshiftRight (imm.extractLsb' 0 6).toNat)
    ∧ exec (.shlor g t xd a imm) s = wrote (c.rt t a <<< 19 ||| imm.zeroExtend 64)
    ∧ exec (.mul g t xd a b) s = wrote (BitVec.ofNat 64 ((c.rt t a).toNat * (c.rt t b).toNat))
    ∧ exec (.min g t xd a b) s = wrote (BitVec.ofInt 64 (min (c.rt t a).toInt (c.rt t b).toInt))
    ∧ exec (.max g t xd a b) s = wrote (BitVec.ofInt 64 (max (c.rt t a).toInt (c.rt t b).toInt))
    ∧ exec (.slt g t xd a b) s = wrote (if (c.rt t a).toInt < (c.rt t b).toInt then 1#64 else 0#64)
    ∧ exec (.rdpm g t xd) s = wrote (BitVec.ofNat 64 s.time.pm))
  ∧ (∀ (g : Fin 384) (t : Fin 4) (xd a b : Fin 32) (s : State), s.Issues g t →
    let c := s.core g
    let q := if c.rt t b = 0#64 then 0xFFFFFFFFFFFFFFFF#64 else BitVec.ofNat 64 ((c.rt t a).toNat / (c.rt t b).toNat)
    let d := c.scalar t xd q
    (t.val ≠ 0 → exec (.divu g t xd a b) s = .next (s.setCore g (d.setThread t { d.thread t with busy := 20 })))
    ∧ (t.val = 0 → c.busyUnit .divider = false →
        exec (.divu g t xd a b) s = .next (s.setCore g d))
    ∧ (t.val = 0 → c.busyUnit .divider = true → exec (.divu g t xd a b) s = .next ((s.setCore g c).raise 0x1301 g)))
/-- R134, R136: a result goes to xd of the executing thread, x0 discards it and always reads 0, no other register of any thread changes;
a thread 1–3 goes on at its next program word and keeps the rest of its state; the core keeps everything else. -/
def Obligations.ScalarResult : Prop :=
  ∀ (t : Fin 4) (xd r : Fin 32) (v : W64) (c : Core),
    let d := c.scalar t xd v
    (d.rt t r = if r.val = 0 then 0#64 else if r = xd then v else c.rt t r)
    ∧ (∀ u : Fin 4, u ≠ t → d.rt u r = c.rt u r)
    ∧ (∀ u : Fin 4, u.val ≠ 0 → u ≠ t → d.thread u = c.thread u)
    ∧ (t.val ≠ 0 → d.thread t = { c.thread t with x := (d.thread t).x, pc := (c.thread t).pc + 1, stalled := false })
    ∧ d = { c with x := d.x, th := d.th }
    ∧ (t.val = 0 → d.th = c.th)
    ∧ (t.val ≠ 0 → d.x = c.x)

/-- R135, R136, R143: a load that its thread may make, of released words, writes xd with the little-endian bytes at xs1 + imm, LW
zero-extended, or writes 0 and raises 0x1305 where a word of it has a double-bit error; nothing else changes.
R135, R136, R107: a store that its thread may make, of released words and beside the service slots, writes the low bytes of xs2 at
xs1 + imm, little-endian, and changes no other byte and no poison; its thread goes on, and the core keeps everything else.
R135: an access outside the areas allowed to a thread raises 0x1303 and is not executed, and a thread 1–3 halts. -/
def Obligations.ScalarMemory : Prop :=
  (∀ (g : Fin 384) (t : Fin 4) (xd b : Fin 32) (imm : BitVec 19) (s : State), s.Issues g t →
    let c := s.core g
    let a := (c.rt t b + imm.signExtend 64).toNat
    let le := fun (n : Nat) => BitVec.ofNat 64 (leNat ((List.range n).map fun i => c.sdmByte (a + i)))
    let loads := fun (n : Nat) (out : Ans) => MayReadSdm t a n → c.blocked { reads := [sdmUnits a n] } = none →
      let bad := ∃ w ∈ c.sdmBad, a / 8 ≤ w ∧ w < (a + n + 7) / 8
      (¬ bad → out = .next (s.setCore g (c.scalar t xd (le n))))
      ∧ (bad → out = .next ((s.setCore g (c.scalar t xd 0#64)).raise 0x1305 g))
    loads 8 (exec (.ld g t xd b imm) s) ∧ loads 4 (exec (.lw g t xd b imm) s))
  ∧ (∀ (g : Fin 384) (t : Fin 4) (b v : Fin 32) (imm : BitVec 19) (s : State), s.Issues g t →
    let c := s.core g
    let a := (c.rt t b + imm.signExtend 64).toNat
    let stores := fun (n : Nat) (out : Ans) =>
      ∃ d : Core, out = .next (s.setCore g (d.nextWord t))
        ∧ (∀ k, d.sdmByte k = if a ≤ k ∧ k < a + n then byteAt (leBytes n (c.rt t v).toNat) (k - a) else c.sdmByte k)
        ∧ (∀ u, Map.get false d.sdmPoison u = Map.get false c.sdmPoison u)
        ∧ d = { c with sdm := d.sdm, sdmPoison := d.sdmPoison, sdmBad := d.sdmBad }
    (t.val = 0 → c.services = []) →
    (MayWriteSdm t a 8 → c.blocked { reads := [sdmUnits a 8] } = none → c.blocked { writes := [sdmUnits a 8] } = none →
        serviceIn a 8 = none → stores 8 (exec (.st g t b v imm) s))
    ∧ (MayWriteSdm t a 4 → c.blocked { reads := [sdmUnits a 4] } = none → c.blocked { writes := [sdmUnits a 4] } = none →
        serviceIn a 4 = none → stores 4 (exec (.sw g t b v imm) s)))
  ∧ (∀ (g : Fin 384) (t : Fin 4) (xd b v : Fin 32) (imm : BitVec 19) (s : State), s.Issues g t →
    let c := s.core g
    let a := (c.rt t b + imm.signExtend 64).toNat
    let d := if t.val = 0 then c else c.setThread t { c.thread t with running := false }
    let refused := Host.Outcome.next ((s.setCore g d).raise 0x1303 g)
    (¬ MayReadSdm t a 8 → exec (.ld g t xd b imm) s = refused)
    ∧ (¬ MayReadSdm t a 4 → exec (.lw g t xd b imm) s = refused)
    ∧ (¬ MayWriteSdm t a 8 → exec (.st g t b v imm) s = refused)
    ∧ (¬ MayWriteSdm t a 4 → exec (.sw g t b v imm) s = refused))
/-- R134–R136: GETH of a full hand-off register takes it into xd and clears its full bit, and waits on an empty one; PUTH writes a
register of its thread's four and sets its full bit, which ends the claim TSTART made on it. A taken branch of a thread 1–3 goes on
`imm` words from its own word, an untaken one at the next word; THALT halts its thread. A target outside the program area is the
model's word 1,024 (log 76), and BLT compares signed numbers (log 88). -/
def Obligations.ThreadControl : Prop :=
  (∀ (g : Fin 384) (xd : Fin 32) (imm : BitVec 19) (s : State), s.Issues g 0 → imm.toNat < 12 →
    let c := s.core g
    (Map.get false c.handFull imm.toNat = true →
      exec (.geth g 0 xd imm) s = .next (s.setCore g
        (({ c with handFull := Map.set false c.handFull imm.toNat false } : Core).scalar 0 xd (Map.get 0#64 c.hand imm.toNat))))
    ∧ (Map.get false c.handFull imm.toNat = false →
      exec (.geth g 0 xd imm) s = .next (((s.setCore g c).stallCore g 3).wait g (.geth g 0 xd imm))))
  ∧ (∀ (g : Fin 384) (t : Fin 4) (a : Fin 32) (imm : BitVec 19) (s : State), s.Issues g t → t.val ≠ 0 →
    let c := s.core g
    let h := 4 * (t.val - 1) + (imm.extractLsb' 0 2).toNat
    exec (.puth g t a imm) s = .next (s.setCore g
      (({ c with hand := Map.set 0#64 c.hand h (c.rt t a), handFull := Map.set false c.handFull h true
                 claims := c.claims.filter fun (k : Claim) => !(k.space == 3 && k.first == h) } : Core).nextWord t)))
  ∧ (∀ (g : Fin 384) (t : Fin 4) (a b : Fin 32) (imm : BitVec 19) (s : State), s.Issues g t → t.val ≠ 0 →
      let c := s.core g
      let p : Int := ((c.thread t).pc : Int) + imm.toInt
      let q := if 0 ≤ p ∧ p < 1024 then p.toNat else 1024
      let at' := fun (taken : Bool) => Host.Outcome.next (s.setCore g
        (c.setThread t { c.thread t with pc := if taken then q else (c.thread t).pc + 1, stalled := false }))
      exec (.beq g t a b imm) s = at' (decide (c.rt t a = c.rt t b))
      ∧ exec (.bne g t a b imm) s = at' (decide (c.rt t a ≠ c.rt t b))
      ∧ exec (.blt g t a b imm) s = at' (decide ((c.rt t a).toInt < (c.rt t b).toInt))
      ∧ exec (.thalt g t) s = .next (s.setCore g (c.setThread t { c.thread t with running := false, stalled := false })))

/-! Sync slot (R118, R137, R144, R145, R354) and the end of a stall (R120). -/

/-- R117, R118, R137, R144, R145: LOOP opens a loop of the bundles that follow, SEG sends the stream to the other half, TSTART clears its
thread's full bits, claims its hand-off registers and starts it, STEPEND marks the core's share as complete and claims the decision
words, or stalls the core while the one before it still waits, and HALT stops issue. Operands are the encoded ones: COUNT − 1, LEN − 1. -/
def Obligations.SyncSlot : Prop :=
  (∀ (g : Fin 384) (count : Fin 4096) (len : Fin 256) (s : State), s.Issues g 0 →
    let c := s.core g
    let out := fun (d : Core) => Host.Outcome.next (s.setCore g d)
    (c.loops.length < 4 →
      exec (.loop g count len) s = out { c with loops := { first := c.index + 1, len := len.val + 1, left := count.val } :: c.loops })
    ∧ (c.loops = [] → exec (.seg g) s = out { c with segNext := true })
    ∧ exec (.halt g) s = out { c with halted := true, issuing := false }
    ∧ (c.stepEnd = false → exec (.stepend g) s = out { c with
        stepEnd := true, stepAt := 2 ^ 32 + s.posts, nextClaim := c.nextClaim + 1
        claims := c.claims ++ [{ ident := c.nextClaim, src := 4, space := 2, first := 0x17FF0 / 8, units := 2 }] })
    ∧ (c.stepEnd = true → exec (.stepend g) s = .next (((s.setCore g c).stallCore g 3).wait g (.stepend g))))
  ∧ (∀ (g : Fin 384) (t : Fin 4) (word : Fin 1024) (s : State), s.Issues g 0 → t.val ≠ 0 →
    ∃ d : Core, exec (.tstart g t word) s = .next (s.setCore g d)
      ∧ d.thread t = { (s.core g).thread t with pc := word, running := true, busy := 2, stalled := false }
      ∧ (∀ i : Nat, Map.get false d.handFull i = if i / 4 = t.val - 1 then false else Map.get false (s.core g).handFull i)
      ∧ (∀ k ∈ d.claims, k ∈ (s.core g).claims ∨ (k.space = 3 ∧ k.first / 4 = t.val - 1 ∧ k.units = 1))
      ∧ (∀ u : Nat, u ≠ t.val → d.thread u = (s.core g).thread u)
      ∧ d = { s.core g with th := d.th, handFull := d.handFull, claims := d.claims, nextClaim := d.nextClaim })

/-- R354, R357, R120: an EXPECT of a valid entry with uses left claims the use's destination, an address and unit range that follow from the entry and
the number of uses taken, and counts the use; where the uses are spent the claim is never released and 0x7307 is raised.
CLAIM_RELEASE removes a claim that is complete and due, and changes nothing otherwise. With no packet and no job of a
Sorting Office waiting, nothing else follows. CORE_STALL_END lets a core go on outside the full brake and HELD, and what waited issues
again. -/
def Obligations.ReleaseUses : Prop :=
  ∀ (g : Fin 384) (space : Fin 4) (entry : Fin 1024) (ident : Nat) (s : State),
    let c := s.core g
    let r := c.relEnt entry
    let n := c.usesOf entry
    (s.Issues g 0 → space.val < 3 → r.valid = true → r.space = space.val →
      s.Calm →
      let a := r.dest + n * r.dstride
      let u := spaceUnits r.space a r.bytes
      let k : Claim := { ident := c.nextClaim, src := 0, space := r.space, first := u.2.1, units := u.2.2, entry := entry, addr := a
                         bytes := r.bytes, rel := s.releaseOf r n, async := r.async }
      (n < r.uses → exec (.expect g space entry) s = .next (s.setCore g
        { c with uses := Map.set 0 c.uses entry (n + 1), claims := c.claims ++ [k], nextClaim := c.nextClaim + 1 }))
      ∧ (let z := r.dest + r.uses * r.dstride
         let y := spaceUnits r.space z r.bytes
         r.uses ≤ n → exec (.expect g space entry) s = .next ((((s.setCore g { c with
          claims := c.claims ++ [{ ident := c.nextClaim, src := 0, space := r.space, first := y.2.1, units := y.2.2, entry := entry
                                   addr := z, bytes := r.bytes, never := true }]
          nextClaim := c.nextClaim + 1 }).raise 0x7307 0)).settle)))
    ∧ ((∀ k ∈ c.claims, k.ident = ident → s.claimDue k = false) → exec (.claimRelease g ident) s = .next s)
    ∧ (∀ k ∈ c.claims, k.ident = ident → s.claimDue k = true →
        s.Calm →
        exec (.claimRelease g ident) s = .next (s.setCore g { c with claims := c.claims.filter fun k => k.ident != ident }))
    ∧ (s.fullBrake = true ∨ s.mod = .held → exec (.coreStallEnd g) s = .next s)
    ∧ (s.fullBrake = false → s.mod ≠ .held →
        let go := { s.setCore g { c with stall := 0 } with waiting := Map.set [] s.waiting g [] }
        (Map.get [] s.waiting g = [] → exec (.coreStallEnd g) s = .next go)
        ∧ (∀ i u, Map.get [] s.waiting g = [i] → reissue i go = .next u → exec (.coreStallEnd g) s = .next u))
    ∧ (∀ (t : Fin 4) (xd x y : Fin 32), reissue (.add g t xd x y) s = exec (.add g t xd x y) s)

/-! Vector instructions (R124–R130). -/

/-- R126, R89, R107: the two-operand operations on every lane of every type. INT32 wraps and compares signed; FP32 and BF16 are the exact
result, rounded once to FP32 and for BF16 once more; comparisons give all ones or zero. Nothing but the destination changes.
R126: VFMA rounds the exact a × b + c once (INT32 wraps), VSEL picks by the bits of c, VBCAST writes the low bits of a scalar
register into every lane and reads no vector register.
R127: the special functions, rounded once to the register type, where the special-function unit is free. An INT32 lane has no stated
result: there each lane takes a free value (log 3). The model's counter of free values advances; nothing else but the destination
changes. Where the unit is occupied 0x1301 is raised and nothing is written (R138). -/
def Obligations.VectorLanewise : Prop :=
  (∀ (g : Fin 384) (ty : VTy) (vd va vb : Fin 32) (s : State), s.Issues g 0 → (s.core g).Clear (vecUses vd) →
    let c := s.core g
    let writes := fun (out : Ans) (f : Nat → Nat → Nat) =>
      ∃ d : Core, out = .next (s.setCore g d) ∧ WritesLanes c d ty vd [va, vb] fun i => f (c.vlane ty va i) (c.vlane ty vb i)
    let real := fun (f : FV → FV → FV) (n : Nat → Nat → Nat) (x y : Nat) =>
      match ty with
      | .f32 => rne32 (f (FFmt.f32.decode x) (FFmt.f32.decode y))
      | .bf16 => FFmt.bf16.encode .rne (FFmt.f32.decode (rne32 (f (FFmt.bf16.decode x) (FFmt.bf16.decode y))))
      | .int32 => n x y
    let test := fun (f : FV → FV → Bool) (n : Int → Int → Bool) (x y : Nat) =>
      if (match ty with
        | .f32 => f (FFmt.f32.decode x) (FFmt.f32.decode y)
        | .bf16 => f (FFmt.bf16.decode x) (FFmt.bf16.decode y)
        | .int32 => n (BitVec.ofNat 32 x).toInt (BitVec.ofNat 32 y).toInt) then 2 ^ ty.width - 1 else 0
    writes (exec (.vadd g ty vd va vb) s) (real FV.add fun x y => x + y)
    ∧ writes (exec (.vsub g ty vd va vb) s) (real (fun x y => x.add y.neg) fun x y => (BitVec.ofNat 32 x - BitVec.ofNat 32 y).toNat)
    ∧ writes (exec (.vmul g ty vd va vb) s) (real FV.mul fun x y => x * y)
    ∧ writes (exec (.vmin g ty vd va vb) s)
        (real FV.min2 fun x y => if (BitVec.ofNat 32 x).toInt ≤ (BitVec.ofNat 32 y).toInt then x else y)
    ∧ writes (exec (.vmax g ty vd va vb) s)
        (real FV.max2 fun x y => if (BitVec.ofNat 32 x).toInt ≤ (BitVec.ofNat 32 y).toInt then y else x)
    ∧ writes (exec (.vcmplt g ty vd va vb) s) (test FV.lt fun x y => decide (x < y))
    ∧ writes (exec (.vcmpeq g ty vd va vb) s) (test FV.eqv fun x y => decide (x = y))
    ∧ writes (exec (.vand g ty vd va vb) s) Nat.land
    ∧ writes (exec (.vor g ty vd va vb) s) Nat.lor
    ∧ writes (exec (.vxor g ty vd va vb) s) Nat.xor)
  ∧ (∀ (g : Fin 384) (ty : VTy) (vd va vb vc xs : Fin 32) (s : State), s.Issues g 0 → (s.core g).Clear (vecUses vd) →
    let c := s.core g
    (∃ d : Core, exec (.vfma g ty vd va vb vc) s = .next (s.setCore g d) ∧ WritesLanes c d ty vd [va, vb, vc] fun i =>
      let x := c.vlane ty va i
      let y := c.vlane ty vb i
      let z := c.vlane ty vc i
      match ty with
      | .f32 => rne32 (((FFmt.f32.decode x).mul (FFmt.f32.decode y)).add (FFmt.f32.decode z))
      | .bf16 => FFmt.bf16.encode .rne
          (FFmt.f32.decode (rne32 (((FFmt.bf16.decode x).mul (FFmt.bf16.decode y)).add (FFmt.bf16.decode z))))
      | .int32 => x * y + z)
    ∧ (∃ d : Core, exec (.vsel g ty vd va vb vc) s = .next (s.setCore g d) ∧ WritesLanes c d ty vd [va, vb, vc] fun i =>
      if c.vlane ty vc i ≠ 0 then c.vlane ty va i else c.vlane ty vb i)
    ∧ (∃ d : Core, exec (.vbcast g ty vd xs) s = .next (s.setCore g d) ∧ WritesLanes c d ty vd [] fun _ => (c.rx xs).toNat))
  ∧ (∀ (g : Fin 384) (ty : VTy) (vd va : Fin 32) (s : State), s.Issues g 0 → (s.core g).Clear (vecUses vd) →
    let c := s.core g
    let lane := fun (f : FV → FV) (i : Nat) =>
      match ty with
      | .f32 => rne32 (f (FFmt.f32.decode (c.vlane ty va i)))
      | .bf16 => FFmt.bf16.encode .rne (f (FFmt.bf16.decode (c.vlane ty va i)))
      | .int32 => (Config.freeValue (s.freeIx + i)).toNat
    let does := fun (out : Ans) (f : FV → FV) =>
      (c.busyUnit .special = false →
        ∃ d : Core, out = .next { s.setCore g d with freeIx := s.freeIx + 2048 } ∧ WritesLanes c d ty vd [va] (lane f))
      ∧ (c.busyUnit .special = true → out = .next { (s.setCore g c).raise 0x1301 g with freeIx := ((s.setCore g c).raise 0x1301 g).freeIx + 2048 })
    does (exec (.vexp g ty vd va) s) sfExp ∧ does (exec (.vrcp g ty vd va) s) sfRcp
    ∧ does (exec (.vrsqrt g ty vd va) s) sfRsqrt ∧ does (exec (.vlog g ty vd va) s) sfLog)
/-- R128: VRSUM adds the 128 values of a row in the pairwise tree of seven levels, with an FP32 addition at each node (BF16 rounds the sum
once more; INT32 wraps), and VRMAX takes the row's maximum; every lane of the row holds the result. -/
def Obligations.VectorRows : Prop :=
  ∀ (g : Fin 384) (ty : VTy) (vd va : Fin 32) (s : State), s.Issues g 0 → (s.core g).Clear (vecUses vd) →
    let c := s.core g
    let row := fun (i : Nat) => (List.range 128).map fun j => c.vlane ty va (i / 128 * 128 + j)
    let level := fun (l : List Nat) => (List.range (l.length / 2)).map fun i => addF32 (l.getD (2 * i) 0) (l.getD (2 * i + 1) 0)
    let tree := fun (l : List Nat) => (level (level (level (level (level (level (level l))))))).headD 0
    (∃ d : Core, exec (.vrsum g ty vd va) s = .next (s.setCore g d) ∧ WritesLanes c d ty vd [va] fun i =>
      match ty with
      | .f32 => tree (row i)
      | .bf16 => FFmt.bf16.encode .rne (FFmt.f32.decode (tree ((row i).map fun x => rne32 (FFmt.bf16.decode x))))
      | .int32 => (row i).sum)
    ∧ (∃ d : Core, exec (.vrmax g ty vd va) s = .next (s.setCore g d) ∧ WritesLanes c d ty vd [va] fun i =>
      (row i).tail.foldl (laneMax ty) (laneMax ty ((row i).headD 0) ((row i).headD 0)))

/-- R89, R90, R129: VCVT to BF16 rounds VA into the low and VB into the high half, with RNE, or with SR under a VALID tensor id (a GRAD
tensor always) once no decision is awaited (R164); VCVT to FP32 widens half of VA exactly. INT32 has no stated result and takes free
values (log 3). Poison goes with its row. SR under an id that is not VALID poisons everything and raises 0x1203 (R99).
R91, R104–R108, R119, R129: a VCVTS that fits, finds its destination released and its converter free, and is under no decision that
it must await, converts the tile the eight (four) registers hold under the tensor's id, writes it at x[XS+3], marks or clears the tile's
dirty mark, keeps the core's scalar words as they are then beside it (R152), and updates the tensor's history and no other. What it met is told to the module: further passes, an exhausted overflow, an
id that is not VALID, values dropped by the sparse form, and 0x1204 for a gradient tile that is dirty. While a decision is awaited a
conversion that uses a stamp or draws noise stalls (R164), and a destination beyond the tile store raises 0x1302. -/
def Obligations.VectorConversions : Prop :=
  (∀ (g : Fin 384) (vd va vb xs : Fin 32) (sr upper : Bool) (tensor : Fin 4096) (s : State),
    s.Issues g 0 → (s.core g).Clear (vecUses vd) →
    let c := s.core g
    let x := Map.get {} (s.die (g.val / 96)).stamps tensor
    let useSr := sr || (x.valid && x.grad)
    let noise := c.noise (s.env g) tensor xs
    let next := fun (d : Core) => Host.Outcome.next { s.setCore g d with freeIx := s.freeIx + 2048 }
    let src := fun (i : Nat) => if i < 2048 then c.vlane .f32 va i else c.vlane .f32 vb (i - 2048)
    let half := if upper then 2048 else 0
    let keeps := fun (d : Core) =>
      (∀ r : Nat, r ≠ vd → ∀ w < 2048, d.vw r w = c.vw r w) ∧ (∀ r : Nat, r ≠ vd → ∀ k < 32, d.vp r k = c.vp r k)
      ∧ d = { c with vreg := d.vreg, vPoison := d.vPoison }
    ((useSr = true → (s.env g).updating = false) → (sr = true → x.valid = true) →
      ∃ d : Core, exec (.vcvt g .f32 vd va vb sr tensor xs upper) s = next d ∧ keeps d
        ∧ (∀ i < 4096, d.vlane .bf16 vd i =
            FFmt.bf16.encode (if useSr then .sr (noise.at (i / 128) (i % 128)) else .rne) (FFmt.f32.decode (src i)) % 2 ^ 16)
        ∧ (∀ k < 32, d.vp vd k = if k < 16 then c.vp va (2 * k) || c.vp va (2 * k + 1) else c.vp vb (2 * k - 32) || c.vp vb (2 * k - 31)))
    ∧ (∃ d : Core, exec (.vcvt g .bf16 vd va vb sr tensor xs upper) s = next d ∧ keeps d
        ∧ (∀ i < 2048, d.vlane .f32 vd i = rne32 (FFmt.bf16.decode (c.vlane .bf16 va (half + i))) % 2 ^ 32)
        ∧ (∀ k < 32, d.vp vd k = c.vp va (half / 128 + k / 2)))
    ∧ (∃ d : Core, exec (.vcvt g .int32 vd va vb sr tensor xs upper) s = next d ∧ keeps d
        ∧ (∀ i < 2048, d.vlane .int32 vd i = (Config.freeValue (s.freeIx + i)).toNat % 2 ^ 32))
    ∧ (sr = true → x.valid = false → (s.env g).updating = false →
      ∃ d : Core, exec (.vcvt g .f32 vd va vb sr tensor xs upper) s = .next (((s.setCore g d).raise 0x1203 (faultInst 0x1203 g)).freeSkip 2048)
        ∧ keeps d ∧ ∀ k < 32, d.vp vd k = true))
  ∧ (∀ (g : Fin 384) (ty : VTy) (va xs : Fin 32) (sr : Bool) (tensor : Fin 4096) (fmt : Fin 16) (t : FmtInfo) (s : State), s.Issues g 0 →
    s.fmt fmt = some t → fmt.val ≠ 9 → (ty = .f32 ∧ va.val % 8 = 0) ∨ (ty = .bf16 ∧ va.val % 4 = 0) →
    let c := s.core g
    let i := Instr.vcvts g ty va sr tensor xs fmt
    let a := (c.rx ((xs.val + 3) % 32)).toNat
    let size := tileSize t (Map.get 0 (s.die (g.val / 96)).policy tensor)
    let stamps := (s.die (g.val / 96)).stamps
    let x := Map.get {} stamps tensor
    let (tile, x', ev) := convertOne t x sr (c.noise (s.env g) tensor xs) (c.vecTileIn ty va)
    let dirty := t.hasScale && x.valid && x.grad && (tile.unconvertible || tile.exhausted)
    let (d, ev') := c.putTile t fmt tensor (Map.get 0 (s.die (g.val / 96)).policy tensor) false a tile
    let draws := t.hasScale || sr || (x.valid && x.grad)
    (a + size ≤ 12288 * 512 → (draws = true → (s.env g).updating = false) → c.Clear { units := [.vcvts], writes := [granules a size] } →
      exec i s = .next (s.takeCore g i
        { core := { d with dirtyTiles := Map.set false d.dirtyTiles (a / 512) dirty, tileSdm := Map.set [] d.tileSdm (a / 512) c.sdm }
          stamps := Map.set {} stamps tensor x', evs := ev ++ ev' ++ if dirty then [.fault 0x1204] else [] }))
    ∧ (a + size ≤ 12288 * 512 → draws = true → (s.env g).updating = true → exec i s = .next (((s.setCore g c).stallCore g 11).wait g i))
    ∧ (12288 * 512 < a + size → exec i s = .next ((s.setCore g c).raise 0x1302 (faultInst 0x1302 g))))
/-- R130: the k best columns of a row, in rank order: a NaN ranks below every number, equal values (±0 among them) rank the lower column
first, every column ranks once, and what is left out ranks below what is taken. -/
def Obligations.TopkRanking : Prop :=
  ∀ (v : Nat → FV) (k n : Nat), k ≤ n →
    let above := fun (i j : Nat) => (v i ≠ .nan ∧ v j = .nan) ∨ (v i = .nan ∧ v j = .nan ∧ i < j)
      ∨ (v i ≠ .nan ∧ v j ≠ .nan ∧ (FV.lt (v j) (v i) = true ∨ (FV.lt (v i) (v j) = false ∧ FV.lt (v j) (v i) = false ∧ i < j)))
    (topK v k n).length = k ∧ (topK v k n).Nodup ∧ (∀ i ∈ topK v k n, i < n) ∧ (topK v k n).Pairwise above
    ∧ ∀ i < n, i ∉ topK v k n → ∀ j ∈ topK v k n, above j i

/-- R130, R138: a VTOPK whose arrays lie in the tile store, released and with its unit free, writes for every row t and rank r the value
as FP32 at value address + 4 (r P + t) and its column as 16 bits at index address + 2 (r P + t), where the planes and the two outputs do
not overlap; no byte outside the two outputs changes. A NaN in any row raises 0x1306. -/
def Obligations.VectorTopk : Prop :=
  ∀ (g : Fin 384) (ty : VTy) (xs : Fin 32) (k : Fin 16) (l : Fin 128) (s : State), s.Issues g 0 → ty ≠ .int32 →
    let c := s.core g
    let x := fun (i : Nat) => (c.rx ((xs.val + i) % 32)).toNat
    let n := 32 * (l.val + 1)
    let m := x 3
    let w := if ty = .bf16 then 2 else 4
    let ext := if m = 0 then 0 else k.val * x 4 + m
    let value := fun (t i : Nat) => laneVal ty (leNat ((List.range w).map fun b => c.tileByte false (x 0 + (t * n + i) * w + b)))
    let nan := ∃ t < m, ∃ i < n, value t i = .nan
    x 0 + m * n * w ≤ 12288 * 512 → x 1 + 4 * ext ≤ 12288 * 512 → x 2 + 2 * ext ≤ 12288 * 512 → (k.val = 0 ∨ m ≤ x 4) →
    (x 1 + 4 * ext ≤ x 2 ∨ x 2 + 2 * ext ≤ x 1) →
    c.Clear { units := [.topk], reads := [granules (x 0) (m * n * w)], writes := [granules (x 1) (4 * ext), granules (x 2) (2 * ext)] } →
    ∃ d : Core,
      (¬ nan → exec (.vtopk g ty xs k l) s = .next (s.setCore g d))
      ∧ (nan → exec (.vtopk g ty xs k l) s = .next ((s.setCore g d).raise 0x1306 (faultInst 0x1306 g)))
      ∧ (∀ t < m, ∀ r < k.val + 1,
          let i := (topK (value t) (k.val + 1) n).getD r 0
          leNat ((List.range 4).map fun b => d.tileByte false (x 1 + 4 * (r * x 4 + t) + b)) = rne32 (value t i) % 2 ^ 32
          ∧ leNat ((List.range 2).map fun b => d.tileByte false (x 2 + 2 * (r * x 4 + t) + b)) = i % 2 ^ 16)
      ∧ (∀ a : Nat, ¬ (x 1 ≤ a ∧ a < x 1 + 4 * ext) → ¬ (x 2 ≤ a ∧ a < x 2 + 2 * ext) → d.tileByte false a = c.tileByte false a)
      ∧ d = { c with ts := d.ts, tsPoison := d.tsPoison, carried := d.carried }

/-! Tile-move slot (R131–R133, R54, R62, R65, R88). -/

/-- R131–R133, R88, R109: VLD of a band that lies in its space, released and awake, with the path free, loads it from row AUX, or
with T from column AUX: BF16 elements as they are and G16 rounded to BF16 into 4,096 lanes, FP32 as they are and every other format
widened exactly into 2,048. Positions past the tile's edge have no stated contents and take free values (log 3). An effective address
outside the space raises 0x1302 and poisons the whole register, and so does a band that runs past the end of it (log 91). -/
def Obligations.VectorLoad : Prop :=
  ∀ (g : Fin 384) (fmt : Fin 16) (v xa : Fin 32) (addr : Fin 32768) (tr : Bool) (aux : Fin 512) (t : FmtInfo) (s : State),
    s.Issues g 0 → s.fmt fmt = some t →
    let c := s.core g
    let out := exec (.vld g fmt v addr xa tr aux) s
    let elem := fun (d : DTile) (i j : Nat) =>
      let code := d.code.getD (i * 128 + j) 0
      let value := t.value code (d.scale.getD (i * 4 + j / 32) 127)
      if fmt.val = 0 ∨ fmt.val = 7 then code else if fmt.val = 8 then FFmt.bf16.encode .rne value else rne32 value
    (∀ acc a, effAddr addr (c.rx xa) = some (acc, a) →
      let band := c.bandBytes (s.env g) t acc a tr aux (if fmt.val = 0 ∨ fmt.val = 8 then 32 else 16)
      let tile := c.readMarked (s.env g) t fmt acc a
      (∀ b ∈ band, b.1 + b.2 ≤ spaceBytes acc) →
      c.Clear { units := [.tileMove], reads := band.map (fun b => tileUnits acc b.1 b.2), writes := [(5, v, 1)] } →
      ∃ (d : Core) (evs : List Ev),
        out = .next ((s.takeCore g (.vld g fmt v addr xa tr aux) { core := d, stamps := (s.die (g.val / 96)).stamps, evs := evs }).freeSkip 4096)
        ∧ (evs = corruptEvs 0 g a tile ∨ evs = corruptEvs 0 g a tile ++ [.dirty 0])
        ∧ (∀ i < if fmt.val = 0 ∨ fmt.val = 8 then 4096 else 2048, aux.val + i / 128 < 128 →
            d.vlane (if fmt.val = 0 ∨ fmt.val = 8 then .bf16 else .f32) v i
              = (if tr then elem tile (i % 128) (aux.val + i / 128) else elem tile (aux.val + i / 128) (i % 128))
                % 2 ^ (if fmt.val = 0 ∨ fmt.val = 8 then 16 else 32))
        ∧ (∀ r : Nat, r ≠ v → ∀ w < 2048, d.vw r w = c.vw r w) ∧ (∀ r : Nat, r ≠ v → ∀ k < 32, d.vp r k = c.vp r k)
        ∧ d = { c with vreg := d.vreg, vPoison := d.vPoison })
    ∧ (effAddr addr (c.rx xa) = none
        ∨ (∃ acc a, effAddr addr (c.rx xa) = some (acc, a) ∧ ∃ b ∈ c.bandBytes (s.env g) t acc a tr aux (if fmt.val = 0 ∨ fmt.val = 8 then 32 else 16),
            spaceBytes acc < b.1 + b.2) →
      ∃ d : Core, out = .next (((s.setCore g d).raise 0x1302 (faultInst 0x1302 g)).freeSkip 4096) ∧ (∀ k < 32, d.vp v k = true)
        ∧ (∀ r : Nat, r ≠ v → ∀ k < 32, d.vp r k = c.vp r k) ∧ d = { c with vPoison := d.vPoison })

/-- R132: VST stores V as 8 KiB of raw bits from row AUX of the tile, where those bytes lie in the space, released and awake, with the
path free; no other byte of the space changes. A non-finite or poisoned value of the optimizer makes the step dirty (R109, log 9). -/
def Obligations.VectorStore : Prop :=
  ∀ (g : Fin 384) (fmt : Fin 16) (v xa : Fin 32) (addr : Fin 32768) (aux : Fin 512) (s : State) (acc : Bool) (base : Nat),
    s.Issues g 0 → fmt.val = 0 ∨ fmt.val = 1 ∨ fmt.val = 7 →
    let c := s.core g
    effAddr addr (c.rx xa) = some (acc, base) →
    let a := base + aux.val * 128 * (if fmt.val = 7 then 4 else 2)
    a + 8192 ≤ spaceBytes acc → c.Clear { units := [.tileMove], writes := [tileUnits acc a 8192] } →
    ∃ d : Core,
      (exec (.vst g fmt v addr xa aux) s = .next (s.setCore g d) ∨ exec (.vst g fmt v addr xa aux) s = .next ((s.setCore g d).dirty 0))
      ∧ (∀ k : Nat, d.tileByte acc k =
          if a ≤ k ∧ k < a + 8192 then BitVec.ofNat 8 (c.vw v ((k - a) / 4) / 256 ^ ((k - a) % 4)) else c.tileByte acc k)
      ∧ (∀ k : Nat, d.tileByte (!acc) k = c.tileByte (!acc) k)
      ∧ d = { c with ts := d.ts, tsPoison := d.tsPoison, acc := d.acc, accPoison := d.accPoison, carried := d.carried }

/-- R131, R132, R180: TMOV without T copies a tile's bytes to the place x[XC] names, header included where it is compressed; with T, which
an unscaled format alone takes, element (i, j) becomes element (j, i), and a compressed tile is decoded (a corrupt one is reported).
Source and destination lie in their spaces, released and awake, with the path free. No byte outside the destination changes. An address
outside its space raises 0x1302; the form of x[XC] is the model's choice (log 92). -/
def Obligations.TileMove : Prop :=
  ∀ (g : Fin 384) (fmt : Fin 16) (addr : Fin 32768) (xa xc : Fin 32) (tr : Bool) (t : FmtInfo) (s : State),
    s.Issues g 0 → s.fmt fmt = some t → (tr = true → t.hasScale = false) →
    let c := s.core g
    let out := exec (.tmov g fmt addr xa xc tr) s
    (∀ sacc src dacc dst, effAddr addr (c.rx xa) = some (sacc, src) → regAddr (c.rx xc) = some (dacc, dst) →
      let size := c.markedSize (s.env g) t sacc src
      let out' := if tr then t.tileBytes else size
      let tile := c.readMarked (s.env g) t fmt sacc src
      src + size ≤ spaceBytes sacc → dst + out' ≤ spaceBytes dacc →
      c.Clear { units := [.tileMove], reads := [tileUnits sacc src size], writes := [tileUnits dacc dst out'] } →
      ∃ d : Core,
        (tr = false → out = .next (s.setCore g d) ∧ ∀ k < size, d.tileByte dacc (dst + k) = c.tileByte sacc (src + k))
        ∧ (tr = true →
            out = .next (s.takeCore g (.tmov g fmt addr xa xc tr) { core := d, stamps := (s.die (g.val / 96)).stamps, evs := corruptEvs 0 g src tile })
            ∧ ∀ i < 128, ∀ j < 128, ∀ b < t.width / 8,
                d.tileByte dacc (dst + (i * 128 + j) * (t.width / 8) + b) = BitVec.ofNat 8 (tile.code.getD (j * 128 + i) 0 / 256 ^ b))
        ∧ (∀ k : Nat, ¬ (dst ≤ k ∧ k < dst + out') → d.tileByte dacc k = c.tileByte dacc k)
        ∧ (∀ k : Nat, d.tileByte (!dacc) k = c.tileByte (!dacc) k)
        ∧ d = { c with ts := d.ts, tsPoison := d.tsPoison, acc := d.acc, accPoison := d.accPoison, carried := d.carried })
    ∧ ((effAddr addr (c.rx xa) = none ∨ regAddr (c.rx xc) = none) →
        out = .next ((s.setCore g c).raise 0x1302 (faultInst 0x1302 g)))

/-! Arrays (R44–R58, R64–R74, R122, R123). -/

/-- R50, R51, R122: an RLOAD whose tiles lie in their space, released and awake, on a free array, fills the back resident set: element
(k, n) is element (k mod 128, n) of tile k div 128, or (n, k mod 128) where ORIENT is ROW, with its block scale; a structured load fills
the set and its remainder register. The front set and everything else of the core stay. An address outside the space raises 0x1302. -/
def Obligations.ResidentLoad : Prop :=
  ∀ (g : Fin 384) (arr : Arr) (desc : Fin 256) (xa : Fin 32) (t : FmtInfo) (s : State), s.Issues g 0 →
    let c := s.core g
    let x := c.descAt desc
    s.fmt x.fmt = some t → (x.fmt ≤ 6 ∨ 10 ≤ x.fmt) →
    let p := Map.get 0 (s.die (g.val / 96)).policy x.tensor
    let depth := x.g t
    let out := exec (.rload g arr desc xa) s
    let structured := structuredLoad x p
    (∀ a, effAddr x.src (c.rx xa) = some a →
      let as := tileAddrs a x.stride (if structured then 2 * depth else depth)
      let tile := fun (j : Nat) => c.readTile t x.fmt p a.1 (as.getD j 0)
      tilesFit a.1 as (tileSize t p) = true →
      c.Clear { units := [residentOf arr], arrays := [arr], reads := as.map fun o => tileUnits a.1 o (tileSize t p) } →
      ∃ (back rem : ResSet) (d : Core) (evs : List Ev),
        out = .next (s.takeCore g (.rload g arr desc xa) { core := d, stamps := (s.die (g.val / 96)).stamps, evs := evs })
        ∧ evs = (as.map fun o => corruptEvs 0 g o (c.readTile t x.fmt p a.1 o)).flatten
        ∧ d = (match arr with | .a => { c with backA := back, backRemA := rem } | .b => { c with backB := back, backRemB := rem })
        ∧ (structured = false → rem = {} ∧ back.fmt = x.fmt ∧ back.g = depth ∧ back.filled = true ∧ back.structured = false ∧ back.remainder = false
            ∧ ∀ k < 128 * depth, ∀ n < 128,
                let i := if x.row then n else k % 128
                let j := if x.row then k % 128 else n
                Map.get 0 back.code (k * 128 + n) = (tile (k / 128)).code.getD (i * 128 + j) 0
                ∧ Map.get 127 back.scale (k * 128 + n) = (tile (k / 128)).scale.getD (i * 4 + j / 32) 127)
        ∧ (structured = true →
            let tiles := (as.map fun o => c.readTile t x.fmt p a.1 o).toArray
            back = structSet t x.fmt depth tiles false ∧ rem = structSet t x.fmt depth tiles true))
    ∧ (effAddr x.src (c.rx xa) = none → out = .next ((s.setCore g c).raise 0x1302 (faultInst 0x1302 g)))

/-- R45–R48, R54–R58, R71, R99: a STREAM of min(x[XN], M_max) rows against a dense set of its width class, every row over an open group:
result row START + r gains, in each of its 128 columns, the FP32 value that the 128 lanes build one after another, each lane's products
summed exactly and added with one rounding, and the accumulator takes it with one FP32 addition. The row's poison gains the
streamed row's and the set's, and every row's is set where a cell of the set fails its parity check, which raises 0x1101 (R75). Every
other accumulator stays. A count above M_max raises 0x1106. -/
def Obligations.StreamRows : Prop :=
  ∀ (g : Fin 384) (arr : Arr) (desc : Fin 256) (xa xn : Fin 32) (swap : Bool) (grp : Fin 8) (start : Fin 4096) (t tw : FmtInfo)
    (a : Bool × Nat) (s : State), s.Issues g 0 →
    let c := s.core g
    let x := c.descAt desc
    let p := Map.get 0 (s.die (g.val / 96)).policy x.tensor
    let depth := x.g t
    let m := Nat.min (c.rx xn).toNat x.mmax
    let set := (c.swap arr swap).front arr
    let as := tileAddrs a x.stride (depth * ((m + 127) / 128))
    let first := (c.group grp).first
    let source := as.map fun o => tileUnits a.1 o (tileSize t p)
    s.fmt x.fmt = some t → (x.fmt ≤ 6 ∨ 10 ≤ x.fmt) → s.fmt set.fmt = some tw → set.structured = false → set.remainder = false →
    set.g = depth → set.clash = false → effAddr x.src (c.rx xa) = some a → tilesFit a.1 as (tileSize t p) = true →
    c.Clear { units := [inputOf arr], arrays := [arr], reads := source
              adds := if m = 0 then [] else [(1, first + start.val / 128, (start.val + m - 1) / 128 + 1 - start.val / 128)] } →
    (∀ r < m, first + (start.val + r) / 128 < 32 ∧ (c.openOver (first + (start.val + r) / 128)).isSome = true) →
    let tile := fun (r k : Nat) => c.readTile t x.fmt p a.1 (as.getD (r / 128 * depth + k / 128) 0)
    let streamed := fun (r k : Nat) => if x.colMode then tileVal (tile r k) t (k % 128) (r % 128) else tileVal (tile r k) t (r % 128) (k % 128)
    let result := fun (r n : Nat) => (List.range 128).foldl (fun acc lane =>
      rne32 ((FFmt.f32.decode acc).add (cellSum (streamed r) (fun k => set.val tw k n) lane depth))) 0
    let poisoned := fun (r : Nat) => set.poison || set.parity.isSome || (List.range depth).any fun i =>
      if x.colMode then (tile r (128 * i)).poison.any id else (tile r (128 * i)).poison.getD (r % 128) false
    ∃ (d : Core) (evs : List Ev),
      exec (.stream g arr desc xa xn swap grp start) s = .next (s.takeCore g (.stream g arr desc xa xn swap grp start)
        { core := d, stamps := (s.die (g.val / 96)).stamps, evs := evs })
      ∧ (0x1106 ∈ faultsOf evs ↔ x.mmax < (c.rx xn).toNat)
      ∧ (0x1101 ∈ faultsOf evs ↔ m ≠ 0 ∧ set.parity.isSome = true)
      ∧ (∀ r < m, ∀ n < 128, d.accGet (first + (start.val + r) / 128) ((start.val + r) % 128) n
          = addF32 (c.accGet (first + (start.val + r) / 128) ((start.val + r) % 128) n) (result r n) % 2 ^ 32)
      ∧ (∀ r < m, Map.get false d.accPoison (first * 128 + start.val + r) = (Map.get false c.accPoison (first * 128 + start.val + r) || poisoned r))
      ∧ (∀ q n : Nat, n < 128 → ¬ (first * 128 + start ≤ q ∧ q < first * 128 + start.val + m) →
          Map.get 0#32 d.acc (q * 128 + n) = Map.get 0#32 c.acc (q * 128 + n) ∧ Map.get false d.accPoison q = Map.get false c.accPoison q)
      ∧ d.front arr = set ∧ d.ts = c.ts ∧ d.x = c.x ∧ d.vreg = c.vreg ∧ d.sdm = c.sdm

/-- R64, R65, R67, R71, R75: a TWIN whose address lies in its space, with both arrays and the tiles of both groups free, streams the rows of
the twin block through array A into its group and the block's columns through array B into the descriptor's, both swapped first where it says
so, the buffer filled last becoming the one that is read. The class is that of the widest operand. A block or a set of 4-bit elements is
refused with 0x1105: nothing changes but the poison of the rows it would have added. M_live bounds array A's rows (log 90). An address outside
its space raises 0x1302. -/
def Obligations.TwinPass : Prop :=
  ∀ (g : Fin 384) (desc : Fin 256) (xa xn : Fin 32) (swap : Bool) (grp : Fin 8) (start : Fin 4096) (ty ta tb : FmtInfo) (depth : Nat)
    (s : State), s.Issues g 0 →
    let i := Instr.twin g desc xa xn swap grp start
    let c := s.core g
    let x := c.descAt desc
    let c1 := ({ c with twinCur := if c.twinFresh then !c.twinCur else c.twinCur, twinFresh := false }.swap .a swap).swap .b swap
    let block := if c1.twinCur then c1.twin1 else c1.twin0
    let operands := [(block.filled, ty), (c1.frontA.filled, ta), (c1.frontB.filled, tb)]
    let k := 128 * depth
    let m := Nat.min (c.rx xn).toNat k
    let value := fun (i j : Nat) => ty.value (Map.get 0 block.code (i * block.k + j)) (Map.get 127 block.scale (i * block.k + j))
    let bad := fun (z : ResSet) => z.poison || block.parity.isSome || z.parity.isSome
    let rowsA := (List.range m).map fun r => (start.val + r, resultRow ta c1.frontA depth (value r), Map.get false block.poison r || bad c1.frontA)
    let rowsB := (List.range k).map fun r => (x.startB + r, resultRow tb c1.frontB depth (fun i => value i r),
      (List.range k).any (fun i => Map.get false block.poison i) || bad c1.frontB)
    let a := Core.addRows .a grp rowsA c1
    let b := Core.addRows .b x.groupB rowsB a.1
    (effAddr x.src (c.rx xa) ≠ none → s.fmt block.fmt = some ty → s.fmt c1.frontA.fmt = some ta → s.fmt c1.frontB.fmt = some tb →
      (∀ o ∈ operands, o.1 = true → depth ≤ o.2.g) → (∃ o ∈ operands, o.1 = true ∧ o.2.g = depth) →
      ((∀ o ∈ operands, o.1 = true → o.2.width ≠ 4) →
        c.Clear { units := [.inputA, .inputB, .twinPass], arrays := [.a, .b]
                  adds := [(1, (c.group grp).first + start.val / 128, (start.val + k - 1) / 128 + 1 - start.val / 128),
                           (1, (c.group x.groupB).first + x.startB / 128, (x.startB + k - 1) / 128 + 1 - x.startB / 128)] } →
        exec i s = .next (s.takeCore g i
          { core := { b.1 with busyA := b.1.busyA + m, busyB := b.1.busyB + k }, stamps := (s.die (g.val / 96)).stamps
            evs := (if k < (c.rx xn).toNat then [.fault 0x1106] else []) ++ parityEvs 3 block.parity ++ parityEvs 0 c1.frontA.parity
              ++ parityEvs 1 c1.frontB.parity ++ a.2 ++ b.2 }))
      ∧ ((∃ o ∈ operands, o.1 = true ∧ o.2.width = 4) →
        ∃ d : Core, exec i s = .next ((s.setCore g d).raise 0x1105 (faultInst 0x1105 g))
          ∧ d = { c with accPoison := d.accPoison }
          ∧ ∀ q : Nat, Map.get false d.accPoison q = (Map.get false c.accPoison q
              || decide (q / 128 < 32 ∧ ((c.group grp).first * 128 + start ≤ q ∧ q < (c.group grp).first * 128 + start.val + m
                ∨ (c.group x.groupB).first * 128 + x.startB ≤ q ∧ q < (c.group x.groupB).first * 128 + x.startB + k)))))
    ∧ (effAddr x.src (c.rx xa) = none → exec i s = .next ((s.setCore g c).raise 0x1302 (faultInst 0x1302 g)))

/-! Groups (R61, R62, R69–R74) and twin fills (R65). -/

/-- R61, R62, R69, R70, R72: GOPEN.CLEAR of a CLOSED group over tiles that exist and that no other group holds opens it with every
accumulator +0.0 and no poison; GCLOSE.KEEP of an OPEN group closes it and keeps its tiles; the last write of a close makes a CLOSING
group CLOSED and frees its destination. A GOPEN or GCLOSE of a group in another state raises 0x1103 and changes no tile.
R62, R65, R88: GOPEN.LOAD opens a CLOSED group with FP32 values, each element of its tiles widened (a BF16, FP16 or G16 element) and
a row poisoned with its tile's row or a G16 element that has no value; TFILL fills the buffer no pass reads, of 16-bit elements from one
tile and of 8-bit and 6-bit ones from a two by two block of tiles. Their tiles lie in their space, released and awake, the units free. -/
def Obligations.GroupOpenings : Prop :=
  (∀ (g : Fin 384) (arr : Arr) (desc : Fin 256) (xa : Fin 32) (grp : Fin 8) (s : State),
    let c := s.core g
    let x := c.descAt desc
    let refused := Host.Outcome.next ((s.setCore g c).raise 0x1103 (faultInst 0x1103 g))
    let meets := fun (h : Nat) => h < 8 ∧ h ≠ grp.val ∧ (c.group h).st ≠ .closed
      ∧ (c.group h).first < x.first + x.count ∧ x.first < (c.group h).first + (c.group h).count
    (s.Issues g 0 → (c.group grp).st = .closed → x.first + x.count ≤ 32 → (∀ h, ¬ meets h) → c.Clear { arrays := [arr], writes := [(1, x.first, x.count)] } →
      ∃ d : Core, exec (.gopenClear g arr desc grp) s = .next (s.setCore g d)
        ∧ d.group grp = { st := .opened, first := x.first, count := x.count }
        ∧ (∀ k : Nat, Map.get 0#32 d.acc k = if x.first ≤ k / 16384 ∧ k / 16384 < x.first + x.count then 0#32 else Map.get 0#32 c.acc k)
        ∧ (∀ q : Nat, Map.get false d.accPoison q = if x.first ≤ q / 128 ∧ q / 128 < x.first + x.count then false else Map.get false c.accPoison q)
        ∧ (∀ h : Nat, h ≠ grp → d.group h = c.group h)
        ∧ d = { c with acc := d.acc, accPoison := d.accPoison, groups := d.groups })
    ∧ (s.Issues g 0 → (c.group grp).st ≠ .closed ∨ 32 < x.first + x.count ∨ (∃ h, meets h) → exec (.gopenClear g arr desc grp) s = refused)
    ∧ (s.Issues g 0 → (c.group grp).st = .opened → c.Clear { arrays := [arr] } →
      ∃ d : Core, exec (.gcloseKeep g arr grp) s = .next (s.setCore g d) ∧ d.group grp = { c.group grp with st := .closed }
        ∧ (∀ h : Nat, h ≠ grp → d.group h = c.group h) ∧ d = { c with groups := d.groups })
    ∧ (s.Issues g 0 → (c.group grp).st ≠ .opened → exec (.gcloseKeep g arr grp) s = refused)
    ∧ (s.Issues g 0 → ∀ t, s.fmt x.dfmt = some t → x.dfmt ≠ 9 → (c.group grp).st ≠ .opened → exec (.gclose g arr desc xa grp) s = refused)
    ∧ ((c.group grp).st = .closing → s.Calm →
      ∃ d : Core, exec (.gcloseComplete g grp) s = .next (s.setCore g d) ∧ d.group grp = { c.group grp with st := .closed, dest := [], ends := 0 }
        ∧ (∀ h : Nat, h ≠ grp → d.group h = c.group h) ∧ d = { c with groups := d.groups }))
  ∧ ((∀ (g : Fin 384) (fmt : Fin 16) (grp : Fin 8) (addr : Fin 32768) (xa count first : Fin 32) (t : FmtInfo) (a : Bool × Nat) (s : State),
    s.Issues g 0 → s.fmt fmt = some t → fmt.val = 0 ∨ fmt.val = 1 ∨ fmt.val = 7 ∨ fmt.val = 8 →
    let c := s.core g
    let n := count.val + 1
    let as := c.stackAddrs (s.env g) t a.1 a.2 n
    let tile := fun (k : Nat) => c.readMarked (s.env g) t fmt a.1 (as.getD k 0)
    c.openBad grp first n = false → effAddr addr (c.rx xa) = some a → c.stackFits (s.env g) t a.1 as = true →
    c.Clear { units := [.tileMove], reads := c.stackUnits (s.env g) t a.1 as, writes := [(1, first.val, n)] } →
    ∃ (d : Core) (evs : List Ev),
      exec (.gopenLoad g fmt grp addr xa count first) s = .next (s.takeCore g (.gopenLoad g fmt grp addr xa count first)
        { core := d, stamps := (s.die (g.val / 96)).stamps, evs := evs })
      ∧ evs = (as.map fun o => corruptEvs 0 g o (c.readMarked (s.env g) t fmt a.1 o)).flatten
      ∧ d.group grp = { st := .opened, first := first, count := n }
      ∧ (∀ k < n, ∀ i < 128, ∀ j < 128, d.accGet (first.val + k) i j = rne32 (tileVal (tile k) t i j) % 2 ^ 32)
      ∧ (∀ k < n, ∀ i < 128, Map.get false d.accPoison ((first.val + k) * 128 + i) = ((tile k).poison.getD i false
          || t.g16 && (List.range 128).any fun j => (tile k).code.getD (i * 128 + j) 0 == 0x8000))
      ∧ (∀ q : Nat, ¬ (first.val ≤ q / 16384 ∧ q / 16384 < first.val + n) → Map.get 0#32 d.acc q = Map.get 0#32 c.acc q)
      ∧ d = { c with acc := d.acc, accPoison := d.accPoison, groups := d.groups })
  ∧ (∀ (g : Fin 384) (fmt : Fin 16) (addr : Fin 32768) (xa : Fin 32) (t : FmtInfo) (a : Bool × Nat) (s : State),
    s.Issues g 0 → s.fmt fmt = some t → fmt.val ≤ 6 ∨ 10 ≤ fmt.val → t.width ≠ 4 →
    let c := s.core g
    let depth := t.g
    let as := c.stackAddrs (s.env g) t a.1 a.2 (depth * depth)
    let tile := fun (i j : Nat) => c.readMarked (s.env g) t fmt a.1 (as.getD (i / 128 * depth + j / 128) 0)
    effAddr addr (c.rx xa) = some a → c.stackFits (s.env g) t a.1 as = true →
    c.Clear { units := [.twinFill], reads := c.stackUnits (s.env g) t a.1 as } →
    ∃ (b : TwinBuf) (evs : List Ev),
      exec (.tfill g fmt addr xa) s = .next (s.takeCore g (.tfill g fmt addr xa)
        { core := if c.twinCur then { c with twin0 := b, twinFresh := true } else { c with twin1 := b, twinFresh := true }
          stamps := (s.die (g.val / 96)).stamps, evs := evs })
      ∧ evs = (as.map fun o => corruptEvs 0 g o (c.readMarked (s.env g) t fmt a.1 o)).flatten
      ∧ b.fmt = fmt.val ∧ b.k = 128 * depth ∧ b.filled = true
      ∧ ∀ i < 128 * depth, ∀ j < 128 * depth,
          Map.get 0 b.code (i * (128 * depth) + j) = (tile i j).code.getD (i % 128 * 128 + j % 128) 0
          ∧ Map.get 127 b.scale (i * (128 * depth) + j) = (tile i j).scale.getD (i % 128 * 4 + j % 128 / 32) 127))
/-- R61, R72–R74, R98, R103–R108: a GCLOSE of an OPEN group whose destination lies in its space, released and awake, on a free converter
and under no awaited decision, converts the group's tiles in ascending order under the descriptor's tensor, writes them, makes the group
CLOSING over the destination, and updates that tensor's history alone; a dirty gradient tile raises 0x1204 once. While a decision is
awaited it stalls. -/
def Obligations.GroupClose : Prop :=
  ∀ (g : Fin 384) (arr : Arr) (desc : Fin 256) (xa : Fin 32) (grp : Fin 8) (t : FmtInfo) (a : Bool × Nat) (s : State), s.Issues g 0 →
    let c := s.core g
    let x := c.descAt desc
    let p := Map.get 0 (s.die (g.val / 96)).policy x.tensor
    let n := (c.group grp).count
    let as := tileAddrs a x.stride n
    let size := tileSize t p
    let dest := as.map fun o => tileUnits a.1 o size
    let stamps := (s.die (g.val / 96)).stamps
    let h := Map.get {} stamps x.tensor
    let i := Instr.gclose g arr desc xa grp
    let tiles := (List.range n).map fun i => ((c.group grp).first + i, as.getD i 0)
    let z := c.closePlan t x p (c.noise (s.env g) x.tensor x.xb) a.1 tiles h
    s.fmt x.dfmt = some t → x.dfmt ≠ 9 → (c.group grp).st = .opened → effAddr x.dst (c.rx xa) = some a → tilesFit a.1 as size = true →
    (((t.hasScale || x.sr || (h.valid && h.grad)) = true → (s.env g).updating = false) →
      c.Clear { units := [converterOf arr], arrays := [arr], reads := [(1, (c.group grp).first, n)], writes := dest } →
      exec i s = .next (s.takeCore g i
        { core := (c.lands (z.writes.map (·.write))).setGroup grp
            { c.group grp with st := .closing, dest := dest, ends := c.run + 128 * z.passes.length + 6 }
          stamps := Map.set {} stamps x.tensor z.stamp
          evs := z.evs ++ if z.dirty then [.fault 0x1204] else [] }))
    ∧ ((t.hasScale || x.sr || (h.valid && h.grad)) = true → (s.env g).updating = true → exec i s = .next (((s.setCore g c).stallCore g 11).wait g i))

/-- R132, R119, R193, R199, R243, R244, R353: a CPOST of a descriptor whose sides lie in their spaces, whose destination no claim holds and
whose courier has room, queues the descriptor with its offset and takes the claims of its destinations, and of its sources against writers; a
COPY to or from space 4 with a release entry takes that entry's next use as well, and 0x7307 is raised where none is left (R357). A BANK is
queued apart. A full queue stalls the core with cause 9, a claimed destination with the cause of its space, and a side beyond its space raises
0x1302. -/
def Obligations.CourierPost : Prop :=
  ∀ (g : Fin 384) (k : Fin 4) (xa : Fin 32) (desc : Fin 512) (s : State), s.Issues g 0 →
    let c := s.core g
    let cl := s.cluster (g.val / 8)
    let v := Map.get 0 cl.desc desc
    let x := (c.rx xa).toNat
    let d := (cdesc v).withOff x
    let i := Instr.cpost g k xa desc
    let fits := sideFits d.srcSpace d.src d.rows d.rowLen d.srcPitch && (d.allocDst || sideFits d.dstSpace d.dst d.rows d.rowLen d.dstPitch)
    let claimed := s.claimPost g v x
    let queued := fun (t : State) (rel : Nat) => Host.Outcome.next (t.setCluster (g.val / 8) (cl.setQueue k (cl.queue k ++
      [{ desc := desc, off := x, core := g, ident := 2 ^ 32 + s.posts, rel := rel }])))
    (d.kind ≠ 3 → (d.kind = 0 → fits = true) → (cl.queue k).length < 32 → s.postBlocked g v x = none →
      (d.kind ≠ 0 ∨ d.remote = false ∨ d.release = 0xFFFF → exec i s = queued claimed 0)
      ∧ (d.kind = 0 → d.remote = true → d.release ≠ 0xFFFF →
        (∀ t n rel, claimed.takeUse g d.release = (t, some (n, rel)) → exec i s = queued t rel)
        ∧ (∀ t, claimed.takeUse g d.release = (t, none) → exec i s = .next (t.raise 0x7307 0))))
    ∧ (d.kind = 3 → exec i s = .next (s.setCluster (g.val / 8)
        { cl with banks := cl.banks ++ [{ desc := desc, off := x, core := g, ident := 0 }] }))
    ∧ (d.kind = 0 → fits = false → exec i s = .next (s.raise 0x1302 g))
    ∧ (d.kind ≠ 3 → (d.kind = 0 → fits = true) → 32 ≤ (cl.queue k).length → exec i s = .next ((s.stallCore g 9).wait g i))
    ∧ (d.kind ≠ 3 → (d.kind = 0 → fits = true) → (cl.queue k).length < 32 → ∀ cause, s.postBlocked g v x = some cause →
        exec i s = .next ((s.stallCore g cause).wait g i))

/-! Couriers, banks and pools (ch. 8). -/

/-- R119, R241, R243, R244: the COPY at the head of a courier's queue from one tile store to another, dense rows of a dense tensor, with
its source released and its destination held by nobody else, all banks awake, moves rows 0 to LIVE − 1 byte for byte and no other byte
of a tile store, leaves the queue and ends the claims of its post. Rows lie apart, and apart from the source. (The sparse maps list each core
and die once.) While the module is HELD no copy starts (R245). -/
def Obligations.CourierCopy : Prop :=
  ∀ (cl : Fin 48) (k : Fin 4) (q : QEnt) (rest : List QEnt) (s : State), Map.rising s.cores = true → Map.rising s.dies = true → s.Calm →
    (s.cluster cl).queue k = q :: rest →
    let d := (cdesc (Map.get 0 (s.cluster cl).desc q.desc)).withOff q.off
    let n := s.liveRows q.core d
    let from' := fun (i b : Nat) => d.src + i * d.srcPitch + b
    let to' := fun (i b : Nat) => d.dst + i * d.dstPitch + b
    let out := exec (.copy cl k none) s
    d.kind = 0 →
    (s.mod ≠ .held → d.srcSpace = 0 → d.dstSpace = 0 → d.transpose = false → d.allocDst = false → d.releaseSrc = false →
      polForm (Map.get 0 (s.die (cl.val / 12)).policy d.tensor) = 0 → s.srcReady q.core q.ident d n = true → s.dstReady q.ident d n = true →
      s.banksReady d n = (s, true) → d.rowLen ≤ d.dstPitch →
      (d.srcCore = d.dstCore → ∀ i < n, ∀ j < n, ∀ b < d.rowLen, ∀ e < d.rowLen, to' i b ≠ from' j e) →
      ∃ t : State, out = .next t
        ∧ (∀ i < n, ∀ b < d.rowLen, (t.core d.dstCore).tileByte false (to' i b) = (s.core d.srcCore).tileByte false (from' i b))
        ∧ (∀ h a : Nat, (h = d.dstCore → ∀ i < n, ∀ b < d.rowLen, a ≠ to' i b) →
            (t.core h).tileByte false a = (s.core h).tileByte false a)
        ∧ (t.cluster cl).queue k = rest
        ∧ (q.ident ≠ 0 → ∀ h : Nat, ∀ x ∈ (t.core h).claims, x.ident ≠ q.ident)
        ∧ t.regs = s.regs ∧ t.bond = s.bond ∧ t.fw = s.fw ∧ t.out = s.out)
    ∧ (s.mod = .held → out = .next s)

/-- R119, R232, R233: BANK gives every bank of its mask its state: a bank to be RETAINED waits while it is claimed or an access is under
way, a sleeping one that is to be usable begins its wake or goes on with it, and takes the state when the wake is complete, and a test in a bank
that leaves IDLE ends; BANK_RETAIN retains a bank that waited and is free; a completed wake gives the bank the state its wake was for, ACTIVE
where an access woke it; an access to a sleeping bank wakes it or goes on with its wake, ends ACTIVE, counts it and raises 0x4104 once a wake,
and freezes the core that made it with cause 4; a double-bit error poisons its 64-byte unit, records the place and raises 0x4101.
R235–R239, R419: a running control core tests a region of an IDLE bank, keeping the region's bytes; a test that an access cuts off leaves the
region as it was, counts as an unscheduled wake, and freezes a core that waits with cause 4; a test window that finds no IDLE bank in its
mask answers that no region was tested. Nothing happens where there is no test, no request, or no control core. -/
def Obligations.Banks : Prop :=
  (∀ (cl : Fin 48) (s : State),
    let posted := (s.cluster cl).banks
    (∀ q rest, posted = q :: rest →
      let d := (cdesc (Map.get 0 (s.cluster cl).desc q.desc)).withOff q.off
      let c := s.core d.dstCore
      let st := d.dst % 4
      let sleeps := fun (b : Nat) => c.bank b = .retained ∨ c.bank b = .waking
      ∃ e : Core, exec (.bank cl) s = .next ((s.setCluster cl { s.cluster cl with banks := rest }).setCore d.dstCore e)
        ∧ (∀ b < 32, bit d.src b = true →
            (st = 2 → c.bankFree b = true → e.bank b = .retained ∧ b ∉ e.retainWait)
            ∧ (st = 2 → c.bankFree b = false → e.bank b = c.bank b ∧ b ∈ e.retainWait)
            ∧ (st ≠ 2 → b ∉ e.retainWait ∧ (sleeps b → e.bank b = .waking ∧ Map.get 0 e.bankGoal b = st)
                ∧ (¬ sleeps b → e.bank b = if st = 1 then .idle else .active)))
        ∧ (∀ b : Nat, bit d.src b = false ∨ 32 ≤ b → e.bank b = c.bank b)
        ∧ (∀ x, c.testing = some x → e.testing = if x.1 / 48 < 32 ∧ bit d.src (x.1 / 48) = true ∧ c.bank (x.1 / 48) = .idle ∧ st ≠ 1 then none else some x)
        ∧ (c.testing = none → e.testing = none)
        ∧ e = { c with banks := e.banks, waking := e.waking, retainWait := e.retainWait, bankGoal := e.bankGoal, wakeTold := e.wakeTold, testing := e.testing })
    ∧ (posted = [] → exec (.bank cl) s = .next s))
  ∧ (∀ (g : Fin 384) (b : Fin 32) (byCore : Bool) (s : State),
    let c := s.core g
    let d := if c.bank b = .retained then { c with banks := Map.set .active c.banks b .waking, waking := Map.set 0 c.waking b 1 } else c
    let access := Instr.tsUnscheduledWake g b byCore
    let stall := if byCore then 4 else c.stall
    (b.val ∈ c.retainWait → c.bankFree b = true → exec (.bankRetain g b) s = .next (s.setCore g
        { c with banks := Map.set .active c.banks b .retained, retainWait := c.retainWait.filter (· != b.val), waking := c.waking.filter fun w => w.1 != b.val
                 bankGoal := Map.set 0 c.bankGoal b 0, wakeTold := c.wakeTold.filter (· != b.val) }))
    ∧ (b.val ∉ c.retainWait ∨ c.bankFree b = false → exec (.bankRetain g b) s = .next s)
    ∧ (c.bank b = .waking → s.Calm → exec (.wakeComplete g b) s = .next (s.setCore g
        { c with banks := Map.set .active c.banks b (if Map.get 0 c.bankGoal b = 1 then .idle else .active)
                 waking := c.waking.filter fun w => w.1 != b.val, bankGoal := Map.set 0 c.bankGoal b 0, wakeTold := c.wakeTold.filter (· != b.val) }))
    ∧ (c.bank b ≠ .waking → exec (.wakeComplete g b) s = .next s)
    ∧ (c.bank b = .retained ∨ c.bank b = .waking → b.val ∉ c.wakeTold →
        exec access s = .next (((s.setCore g { d with bankGoal := Map.set 0 d.bankGoal b 0, wakeTold := b.val :: d.wakeTold, stall := stall }).count
          (Reg.at Reg.TS_WAKE_CNT g)).raise 0x4104 g))
    ∧ (c.bank b = .retained ∨ c.bank b = .waking → b.val ∈ c.wakeTold →
        exec access s = .next (s.setCore g { d with bankGoal := Map.set 0 d.bankGoal b 0, stall := stall }))
    ∧ (c.bank b = .active ∨ c.bank b = .idle → exec access s = .next s))
  ∧ (∀ (g : Fin 384) (unit : Fin 98304) (s : State),
    let c := s.core g
    exec (.tsUncorrectable g unit) s = .next (((((s.setCore g { c with tsPoison := Map.set false c.tsPoison unit true }).setReg (Reg.at Reg.TS_ERR_LOC g)
      (unit.val / 3072 * 2 ^ 27 + unit.val % 3072 / 64 * 2 ^ 21 + unit.val % 64 * 2 ^ 15 + 1)).tally 1)).raise 0x4101 g))
  ∧ (∀ (g : Fin 384) (b : Fin 32) (region : Fin 48) (fails byCore : Bool) (slot : Fin 4) (s : State),
    let c := s.core g
    let key := b.val * 48 + region.val
    (s.ctlUp g = true → c.bank b = .idle → c.testing = none → exec (.backgroundTest g b region fails) s = .next (s.setCore g
        { c with testing := some (key, (List.range 4096).map fun i => c.tileByte false (4096 * key + i), fails, s.now) }))
    ∧ (s.ctlUp g = false ∨ c.bank b ≠ .idle → exec (.backgroundTest g b region fails) s = .next s)
    ∧ (∀ x, c.testing = some x → exec (.testAbort g byCore) s = .next (((s.setCore g
        { c with testing := none, stall := if byCore then 4 else c.stall }).count (Reg.at Reg.TS_WAKE_CNT g)).raise 0x4104 g))
    ∧ (c.testing = none → exec (.testAbort g byCore) s = .next s)
    ∧ (∀ v, c.service slot = some v → v.kind = 3 → s.ctlUp g = true → c.testing = none → (∀ b < 32, c.bank b ≠ .idle) →
        exec (.testWindow g slot []) s = .next (s.setCore g { c.serve slot 0 with tested := 0 }))
    ∧ (c.service slot = none → exec (.testWindow g slot []) s = .next s))
/-- R247–R250: ALLOC takes the buffer at HEAD where its link word checks, gives it to the caller and writes its address into the caller's
scalar word; an empty pool lets the caller wait, a quarantined one refuses with 0x5005, a bad link word quarantines the pool with 0x5004
and leaves HEAD and FREE. SHARE, DROP and RELEASE check the address first (0x5001); SHARE needs the holder, RELEASE the holder or the last
owner (0x5002), a free buffer refuses a RELEASE (0x5003), and DROP has no effect. A core whose POOL descriptor heads a courier's queue acts
through it: its fields are the operands, and the operation ends the post (the descriptor's buffer and last owner: log 94). -/
def Obligations.Pools : Prop :=
  ∀ (d0 : Fin 4) (p0 : Fin 64) (caller a0 last0 : Nat) (res0 : Option (Fin 384 × Nat)) (s : State),
    let post := s.poolPost caller
    let of := fun (own : Nat) (f : CDesc → Nat) => match post with
      | some z => f z.2
      | none => own
    let d := of d0 fun _ => caller / 96
    let p := of p0 fun z => z.pool % 64
    let a := of a0 fun z => z.src % 2 ^ 38
    let last := of last0 fun z => z.dst % 65536
    let res := match post with
      | some z => if z.2.result = 0xFFFF then none else some (z.2.dstCore, z.2.result)
      | none => res0.map fun r => (r.1.val, r.2)
    let ident := match post with
      | some z => z.1.ident
      | none => 0
    let ends := fun (t : State) => Host.Outcome.next ((t.popPost ident).releaseIdent ident)
    let v := s.pool d p
    let alloc := exec (.alloc d0 p0 caller res0) s
    let share := exec (.share d0 p0 caller a0 last0) s
    let drop := exec (.drop d0 p0 caller a0) s
    let release := exec (.release d0 p0 caller a0) s
    let word := s.poolWord d v v.head
    let links := word / 2 ^ 48 = crc16 (leBytes 1 p ++ leBytes 6 v.head ++ leBytes 6 (word % 2 ^ 48))
    let owner := s.owner v a
    let names := v.valid = true ∧ v.base ≤ a ∧ a < v.base + v.count * (256 * 2 ^ v.cls) ∧ (a - v.base) % (256 * 2 ^ v.cls) = 0
    (v.valid = true → v.quarantined = false → v.free ≠ 0 → links →
      alloc = ends (((s.setPool d p { v with head := word % 2 ^ 48, free := v.free - 1 }).setOwner v v.head 1 caller).allocResult res v.head))
    ∧ (v.valid = true → v.quarantined = false → v.free ≠ 0 → ¬ links →
      alloc = ends ((s.setPool d p { v with quarantined := true }).poolRefuse d v.head 0x5004))
    ∧ (v.valid = true → v.quarantined = true → alloc = ends (s.poolRefuse d v.head 0x5005))
    ∧ (v.valid = true → v.quarantined = false → v.free = 0 →
      alloc = .next ((s.setPool d p { v with waiting := v.waiting ++ [{ caller := caller, ident := ident, res := res }] }).count (Reg.at Reg.PGN_EMPTY_CNT d)))
    ∧ (v.valid = false → alloc = ends s)
    ∧ (names → owner = 2 ^ 30 + caller → share = ends (s.setOwner v a 2 last))
    ∧ (names → owner ≠ 2 ^ 30 + caller → share = ends (s.poolRefuse d a 0x5002))
    ∧ (names → drop = ends s)
    ∧ (names → v.quarantined = false → owner / 2 ^ 30 ≠ 0 → owner % 65536 = caller → v.waiting = [] →
      release = ends (((s.setPoolWord d v a (v.head + crc16 (leBytes 1 p ++ leBytes 6 a ++ leBytes 6 v.head) * 2 ^ 48)).setPool d p
        { v with head := a, free := v.free + 1 }).setOwner v a 0 0))
    ∧ (names → v.quarantined = false → owner / 2 ^ 30 = 0 → release = ends (s.poolRefuse d a 0x5003))
    ∧ (names → v.quarantined = false → owner / 2 ^ 30 ≠ 0 → owner % 65536 ≠ caller → release = ends (s.poolRefuse d a 0x5002))
    ∧ (names → v.quarantined = true → release = ends s)
    ∧ (¬ names → share = ends (s.poolRefuse d a 0x5001) ∧ drop = ends (s.poolRefuse d a 0x5001) ∧ release = ends (s.poolRefuse d a 0x5001))

/-! The Sorting Office and the matching unit (ch. 6, 7). -/

/-- R209, whole: the starts follow from the counts position by position and rank by rank, each (position, rank) is admitted up to the
capacity left, every counted choice takes the next slot of its position's run and is admitted below the capacity, and the send index
numbers a position's admitted choices 0 to A − 1 in ascending expert, then ascending slot. The counts of the own position are those of
its choice list, which stands in token order. -/
def Obligations.SlotLayout : Prop :=
  ∀ (t : Slots) (me : Nat) (l : List Choice), me < t.g →
    (∀ c ∈ l, c.admitted = false ∧ (c.counted = true → c.rank < t.k ∧ c.expert < t.e)) →
    (∀ r e : Nat, t.cnt me r e = (l.filter fun c => c.counted && c.rank == r && c.expert == e).length) →
    let out := t.assign me l
    let sent := fun (i : Nat) (n : Nat) => ∃ c : Choice, out[i]? = some c ∧ c.admitted = true ∧ t.sendIndex me c.rank c.expert c.slot = n
    (∀ e, t.start 0 0 e = 0)
    ∧ (∀ q r e, t.start (q + 1) r e = t.start q r e + t.cnt q r e)
    ∧ (∀ r e, t.start 0 (r + 1) e = t.start t.g r e)
    ∧ (∀ q r e, t.adm q r e = Nat.min (t.cnt q r e) (t.cap - t.start q r e))
    ∧ (∀ e, t.admitted e = Nat.min (t.start 0 t.k e) t.cap)
    ∧ out.length = l.length
    ∧ (∀ (i : Nat) (c : Choice), l[i]? = some c → c.counted = false → out[i]? = some c)
    ∧ (∀ (i : Nat) (c : Choice), l[i]? = some c → c.counted = true →
        let s := t.start me c.rank c.expert + ((l.take i).filter fun x => x.counted && x.rank == c.rank && x.expert == c.expert).length
        out[i]? = some { c with slot := s, admitted := decide (s < t.cap), cap := decide (t.cap ≤ s) })
    ∧ (∀ i n, sent i n → n < t.total me)
    ∧ (∀ n < t.total me, ∃ i, sent i n ∧ ∀ j, sent j n → j = i)
    ∧ (∀ (i j : Nat) (c d : Choice), out[i]? = some c → out[j]? = some d → c.admitted = true → d.admitted = true →
        (c.expert < d.expert ∨ (c.expert = d.expert ∧ c.slot < d.slot)) →
        t.sendIndex me c.rank c.expert c.slot < t.sendIndex me d.rank d.expert d.slot)

/-- R222, whole: every admitted slot of an expert has exactly one owner, a position and a rank whose run of admitted slots holds it, and
the return finds that pair and the send index which that position gave the choice. -/
def Obligations.SlotOwner : Prop :=
  ∀ (t : Slots) (e s : Nat), e < t.e → s < t.admitted e →
    let owns := fun (q r : Nat) => q < t.g ∧ r < t.k ∧ t.start q r e ≤ s ∧ s < t.start q r e + t.adm q r e
    ∃ q r, owns q r ∧ (∀ q' r', owns q' r' → q' = q ∧ r' = r) ∧ t.ownerOf e s = some (q, r)
      ∧ t.sendIndex q r e s = t.sendbase q e + ((List.range r).map fun r2 => t.adm q r2 e).sum + (s - t.start q r e)
      ∧ t.sendIndex q r e s < t.total q

/-- R204: the flags of a token's list of choices. A choice of E or more is RANGE unless it is PAD; one whose expert a lower rank of the
token chose is DUPLICATE; a choice is counted unless it is PAD, POISON, RANGE or DUPLICATE, and none of a token with a POISON or RANGE
choice is. Nothing else of a choice changes. -/
def Obligations.ChoiceFlags : Prop :=
  ∀ (experts : Nat) (l : List Choice),
    let out := flagToken experts l
    let range := fun (c : Choice) => !c.pad && decide (experts ≤ c.expert)
    let dead := l.any fun c => c.poison || range c
    out.length = l.length ∧ ∀ (i : Nat) (c : Choice), l[i]? = some c →
      let dup := !c.pad && (l.take i).any fun x => x.expert == c.expert
      out[i]? = some { c with range := range c, duplicate := dup, counted := !(c.pad || c.poison || range c || dup || dead) }

/-- R198–R200, R204, R208, R211, R217, R220, R223, R233: an operation whose descriptor heads its courier's queue, that waits behind nothing, whose
data is released and whose banks are awake runs at once and leaves that queue; while the module is HELD it goes to its engine's queue and runs
nothing; one that heads no queue changes nothing. SLOT_ASSIGNMENT assigns the waiting round where its postmark is due, every part is there and
its banks are awake, and LAND_RELEASE releases a counter that is complete and due, late where its count was completed after its postmark; with
neither they change nothing. -/
def Obligations.OfficeEngines : Prop :=
  ∀ (d : Fin 4) (s : State),
    let engine := fun (adm par : List SortJob) (t : State) => t.onDie d fun x => { x with admQ := adm, parQ := par }
    let die := s.die d
    let starts := fun (ident : Nat) (j : SortJob) =>
      s.mod ≠ .held ∧ s.headsQueue ident 1 = true ∧ die.admQ = [] ∧ die.parQ = [] ∧ (s.popPost ident).jobReady d j = true
        ∧ ((s.popPost ident).reachAll ((s.popPost ident).jobRngs d j)).2 = true
    (∀ (a : AdmitDesc), starts a.ident (.admission a) →
      let t := (engine [] [] (s.popPost a.ident)).startAdmit d a
      (t.die d).parQ = [] → exec (.admission d a) s = .next t.settle)
    ∧ (∀ (a : ScatterDesc), starts a.ident (.scatter a) →
      let t := (engine [] [] (s.popPost a.ident)).runScatter d a
      (t.die d).parQ = [] → exec (.scatter d a) s = .next t.settle)
    ∧ (∀ (a : SendDesc), starts a.ident (.send a) → exec (.send d a) s = .next ((engine [] [] (s.popPost a.ident)).runSend d a).settle)
    ∧ (∀ (a : LandDesc), starts a.ident (.land a) → exec (.land d a) s = .next ((engine [] [] (s.popPost a.ident)).runLand d a).settle)
    ∧ (∀ (a : AdmitDesc) (b : SendDesc) (c : ScatterDesc) (e : LandDesc),
      (s.mod = .held → s.headsQueue a.ident 1 = true →
        ∃ t : State, exec (.admission d a) s = .next t.settle ∧ (t.die d).admQ = die.admQ ++ [.admission a])
      ∧ (s.mod = .held → s.headsQueue b.ident 1 = true → ∃ t : State, exec (.send d b) s = .next t.settle ∧ (t.die d).parQ = die.parQ ++ [.send b])
      ∧ (s.headsQueue a.ident 1 = false → exec (.admission d a) s = .next s)
      ∧ (s.headsQueue b.ident 1 = false → exec (.send d b) s = .next s)
      ∧ (s.headsQueue c.ident 1 = false → exec (.scatter d c) s = .next s)
      ∧ (s.headsQueue e.ident 1 = false → exec (.land d e) s = .next s))
    ∧ (∀ r rest, die.rounds = r :: rest → s.assignDue d r = true → s.reachAll (admitOuts r.desc d (s.layer d r.desc.layer)) = (s, true) →
      exec (.slotAssignment d) s = .next ((s.assignRound d r).runOffice d).settle)
    ∧ (∀ r rest, die.rounds = r :: rest → s.assignDue d r = false → exec (.slotAssignment d) s = .next s)
    ∧ (die.rounds = [] → exec (.slotAssignment d) s = .next s)
    ∧ ∀ region pf : Nat,
      (die.landing region pf = none → exec (.landRelease d region pf) s = .next s)
      ∧ (∀ c place ident, die.landing region pf = some c → c.land = some (c.bytes, place, ident) → s.relDue c.pf = true →
          let t := (s.onDie d fun y => { y with landings := y.landings.filter fun z => !(z.region == c.region && z.pf == c.pf) }).releaseIdent ident
          (c.last ≤ c.pf → exec (.landRelease d region pf) s = .next (t.runOffice d).settle)
          ∧ (c.pf < c.last → exec (.landRelease d region pf) s = .next ((t.late c.pf).runOffice d).settle))

/-- R191–R194, R233: a MATCH that is not first on its index memory or whose operands are not all released changes nothing; one that is, whose
operands are and whose banks are awake, is taken off its courier's queue and run, and what waited goes on. It pairs every position of B with the
first position of A, in each chunk of 4,096 keys of A, that holds its key, each pair once, chunk by chunk and in ascending position of B. -/
def Obligations.MatchPairs : Prop :=
  (∀ (m : MatchDesc) (s : State), s.matchReady m = false → exec (.matchKeys m) s = .next s)
  ∧ (∀ (m : MatchDesc) (s : State), s.matchReady m = true →
      s.reachAll (s.sortIns (m.core / 96) (.pairs m) ++ s.sortOuts (m.core / 96) (.pairs m)) = (s, true) →
      exec (.matchKeys m) s = .next ((s.popPost m.ident).runMatch m).settle)
  ∧ ∀ (ka kb : List Nat),
    let out := (matchPairs ka kb).1
    let first := fun (i j : Nat) => ∃ k, ka[i]? = some k ∧ kb[j]? = some k ∧ ∀ i' < i, i' / 4096 = i / 4096 → ka[i']? ≠ some k
    (∀ i j, (i, j) ∈ out ↔ first i j)
    ∧ out.Nodup
    ∧ out.Pairwise (fun x y => x.1 / 4096 < y.1 / 4096 ∨ (x.1 / 4096 = y.1 / 4096 ∧ x.2 < y.2))

/-! Bonded memory, its homes and the requester (ch. 9, 11). -/

/-- R256, R257, R263: bytes written within one die's capacity read back at each channel in service, every other byte of every die reads
as before, and the memory keeps its canonical form. The premise on the interleave is what `buildInterleave` leaves (the next clause) and
holds at reset. A lost channel drops its share of the write. -/
def Obligations.BondedMemory : Prop :=
  (∀ (s : State) (a poison : Nat) (l : List Byte) (op : Bool), a < 2 ^ 40 → a % 2 ^ 38 + l.length ≤ s.capacity (a / 2 ^ 38 % 4) →
    (∀ d : Fin 4, (s.die d).order.Nodup ∧ ∀ c ∈ (s.die d).order, c < 256) →
    let t := s.writeBond a l poison op
    (∀ b < 2 ^ 40, t.bondByte b =
      if a ≤ b ∧ b < a + l.length ∧ (s.phys b).any (fun k => !s.lostKey k) = true then byteAt l (b - a) else s.bondByte b)
    ∧ (Map.wf 0#8 s.bond = true → Map.wf 0#8 t.bond = true)
    ∧ (Map.wf false s.bondPoison = true → Map.wf false t.bondPoison = true)
    ∧ t = { s with bond := t.bond, bondPoison := t.bondPoison })
  ∧ (∀ (s : State) (d : Nat), let o := ((s.buildInterleave d).die d).order
      o.Nodup ∧ ∀ c, c ∈ o ↔ c < 256 ∧ ((s.die d).chan c).state ≠ 1 ∧ ((s.die d).chan c).state ≠ 2)
  ∧ Map.wf 0#8 State.reset.bond = true
  ∧ ∀ d : Fin 4, (State.reset.die d).order.Nodup ∧ ∀ c ∈ (State.reset.die d).order, c < 256

/-- R258, R270–R272, R325, R340: an operation that a courier of this module brings to bonded memory it may write, within the capacity, on one
aligned element, with room in the queue of its reduction unit, joins that queue, replaces the element by the result of its row and counts the
access; a WRITE puts its bytes, an EXACT its stamped rows, and a WRITE at a store of a core that no one reads and whose banks are awake puts its
bytes there. An operand that is no whole number of aligned elements is dropped with 0x4303. Where its bytes are claimed against writers, the
queue is full or the module is HELD (R245), nothing changes (log 87). -/
def Obligations.HomeOperations : Prop :=
  ∀ (pl : Place) (data : List Byte) (poison : Nat) (s : State),
    let via := Via.courier pl data poison
    let a := pl.addr
    let n := data.length
    let x := leNat data
    let old := leNat ((List.range n).map fun i => s.bondByte (a + i))
    let old8 := leNat ((List.range 8).map fun i => s.bondByte (a + i))
    let bad := if bit poison 0 then 1 else 0
    let became := fun (v : Nat) => Host.Outcome.next ((((s.queueOp a n).writeBond a (leBytes n v) bad true).hotCount a n).settle)
    let min' := fun (w p q : Nat) => if signed w p ≤ signed w q then p else q
    let max' := fun (w p q : Nat) => if signed w p ≤ signed w q then q else p
    let bf := FFmt.bf16.decode
    (s.mod ≠ .held → pl.space = 3 → s.bondWritable a n = true → s.pastEnd a n = false →
      exec (.write via) s = .next (((s.writeBond a data poison).hotCount a n).settle)
      ∧ (n = 4 → a % 4 = 0 → s.queueRoom a n = true →
          exec (.fadd32 via) s = became (addF32 old x)
          ∧ exec (.iadd32 via) s = became ((old + x) % 2 ^ 32)
          ∧ exec (.fmin32 via) s = became (FFmt.f32.encode .rne ((f32 old).min2 (f32 x)))
          ∧ exec (.fmax32 via) s = became (FFmt.f32.encode .rne ((f32 old).max2 (f32 x)))
          ∧ exec (.imin32 via) s = became (min' 32 old x)
          ∧ exec (.imax32 via) s = became (max' 32 old x))
      ∧ (n = 8 → a % 8 = 0 → s.queueRoom a n = true →
          exec (.iadd64 via) s = became ((old + x) % 2 ^ 64)
          ∧ exec (.imin64 via) s = became (min' 64 old x)
          ∧ exec (.imax64 via) s = became (max' 64 old x))
      ∧ (n = 2 → a % 2 = 0 → s.queueRoom a n = true →
          exec (.bmin via) s = became (FFmt.bf16.encode .rne ((bf old).min2 (bf x)))
          ∧ exec (.bmax via) s = became (FFmt.bf16.encode .rne ((bf old).max2 (bf x)))))
    ∧ (s.mod ≠ .held → pl.space = 3 → s.bondWritable a 8 = true → s.pastEnd a 8 = false → n = 16 → a % 8 = 0 → s.queueRoom a 8 = true →
        exec (.cas64 via) s = .next ((((s.queueOp a 8).writeBond a (leBytes 8 (if old8 = leNat (data.take 8) then leNat (data.drop 8) else old8))
            bad true).hotCount a 8).settle))
    ∧ (s.mod ≠ .held → pl.space = 3 → s.bondWritable a (n / 260 * 1024) = true → s.queueRoom a (n / 260 * 1024) = true →
        (n % 260 = 0 → a % 1024 = 0 → s.pastEnd a (n / 260 * 1024) = false →
          exec (.exact via) s = .next ((((s.queueOp a (n / 260 * 1024)).exactOp a data poison).hotCount a (n / 260 * 1024)).settle))
        ∧ (n % 260 ≠ 0 ∨ a % 1024 ≠ 0 → exec (.exact via) s = .next (s.rangeFault a).settle))
    ∧ (s.mod ≠ .held → pl.space = 3 → s.bondWritable a n = true → s.queueRoom a n = true → n % 4 ≠ 0 ∨ a % 4 ≠ 0 →
        exec (.fadd32 via) s = .next (s.rangeFault a).settle ∧ exec (.iadd32 via) s = .next (s.rangeFault a).settle)
    ∧ (s.mod ≠ .held → pl.space ≠ 3 → (s.core pl.unit).writersHeld (spaceUnits pl.space a n) = false →
        s.reachBanks pl.unit pl.space a n = (s, true) →
        exec (.write via) s = .next ((s.setCore pl.unit ((s.core pl.unit).writeSpace pl.space a data poison)).settle))
    ∧ (s.mod = .held ∨ (pl.space = 3 ∧ s.bondWritable a n = false) → exec (.write via) s = .next s.settle ∧ exec (.fadd32 via) s = .next s.settle)
    ∧ (pl.space = 3 → s.queueRoom a n = false → exec (.fadd32 via) s = .next s.settle)

/-- R277–R279: a chain of exact contributions (stamp, element) on an exact element under the scale A either ends INVALID or holds the
exact sum of the start and every element × 2^(stamp − A); with every stamp in A … A + 24, no element INVALID and a sum of magnitudes that
stays within 63 bits, any two orders of the same contributions leave the same element. -/
def Obligations.ExactAccumulation : Prop :=
  ∀ (A : Int) (m : Nat), m < 2 ^ 64 →
    let run := fun (l : List (Int × Nat)) => l.foldl (fun v c => (exactElem A c.1 c.2 v).1) m
    let term := fun (c : Int × Nat) => signed 16 c.2 * 2 ^ (c.1 - A).toNat
    (∀ l : List (Int × Nat), run l = invalid64 ∨ signed 64 (run l) = signed 64 m + (l.map term).sum)
    ∧ (∀ l k : List (Int × Nat), run l = invalid64 → run (l ++ k) = invalid64)
    ∧ (∀ l k : List (Int × Nat), m ≠ invalid64 → (∀ c ∈ l, A ≤ c.1 ∧ c.1 ≤ A + 24 ∧ c.2 < 65536 ∧ c.2 ≠ 0x8000) →
        (signed 64 m).natAbs + (l.map fun c => (term c).natAbs).sum < 2 ^ 63 → l.Perm k →
        run l = run k ∧ run l ≠ invalid64)

/-- R263, R266, R267, R535: an uncorrectable error of a unit in service poisons it, records its address, counts and raises 0x4301; the
fourth distinct unit within 1 s maps its channel out. A failed channel interface maps its channel out in RUNNING, HELD, PARKED and FENCED: its
bytes are lost, 0x4302 is raised, the channel is in state 2 and no longer shown in service (R283); a parked module goes on to READY. A channel
already out changes nothing, and no channel is mapped out before READY or in OFF. -/
def Obligations.BondChannels : Prop :=
  ∀ (g : Fin 1024) (s : State),
    let d := g.val / 256
    let c := (s.die d).chan (g.val % 256)
    (c.state = 1 ∨ c.state = 2 →
      exec (.channelInterfaceFailure g) s = .next s ∧ ∀ u : Fin 16777216, exec (.bondUncorrectable g u) s = .next s)
    ∧ (c.state ≠ 1 → c.state ≠ 2 → s.mod = .running ∨ s.mod = .held ∨ s.mod = .parked ∨ s.mod = .fenced →
      ∃ t : State, exec (.channelInterfaceFailure g) s =
          .next (if (t.raise 0x4302 d g).parkedYet then (t.raise 0x4302 d g).leaveParked else t.raise 0x4302 d g)
        ∧ (t.die d).chan (g.val % 256) = { c with state := 2, rdu := {} }
        ∧ (∀ k : Nat, Map.get 0#8 t.bond k = if k / 2 ^ 30 = g.val then 0#8 else Map.get 0#8 s.bond k)
        ∧ (∀ r : Nat, (∀ k < 8, r ≠ Reg.at (Reg.BOND_INSVC0 + 4 * k) d) → t.reg r = s.reg r)
        ∧ (∀ k < 8, ∀ j < 32, (t.reg (Reg.at (Reg.BOND_INSVC0 + 4 * k) d)).testBit j = true ↔
            32 * k + j ≠ g.val % 256 ∧ ((s.die d).chan (32 * k + j)).state ≠ 1 ∧ ((s.die d).chan (32 * k + j)).state ≠ 2)
        ∧ t.cores = s.cores ∧ t.image = s.image)
    ∧ (s.mod = .off ∨ s.mod = .standby ∨ s.mod = .boot ∨ s.mod = .recovery → exec (.channelInterfaceFailure g) s = .next s)
    ∧ (c.state ≠ 1 → c.state ≠ 2 → (s.die d).order.contains (g.val % 256) = true → ∀ u : Fin 16777216, ∀ a,
      s.unitAddr g (u.val * 64) = some a →
      let recent := c.units.filter (fun x => decide (s.now < x.2 + 600000000) && x.1 != u.val) ++ [(u.val, s.now)]
      let p := { s with bondPoison := Map.set false s.bondPoison (g.val * 2 ^ 24 + u.val) true }
      let q := (p.setReg (Reg.at Reg.BOND_ERR_ADDR_LO d) (a % 2 ^ 32)).setReg (Reg.at Reg.BOND_ERR_ADDR_HI d) (a / 2 ^ 32)
      let r := q.onDie d fun x => x.setChan (g.val % 256) { c with uncorr := Nat.min 0xFFFFFFFF (c.uncorr + 1), units := recent }
      let e := (r.tally 1).raise 0x4301 d g
      (recent.length < 4 → exec (.bondUncorrectable g u) s = .next e)
      ∧ (4 ≤ recent.length → exec (.bondUncorrectable g u) s = .next (e.mapOut g)))

/-- R288, R296, R302, R304, R328, R334, R335: what becomes of a received packet of any TYPE: nothing where the port is down or carries no
fabric traffic; dropped with its fault for a bad header (0x6201) or another destination or job (0x6203); a SEQ too far ahead counted
alone, one seen before counted and acknowledged; and one that passes every check is accepted, acknowledged in its turn and handed to its
consumer. -/
def Obligations.ReceivedPackets : Prop :=
  ∀ (p : Fin 8) (k0 : Packet) (s : State),
    let ret := if k0.ty = 3 then 3 else 1
    let via := Via.packet p k0
    let rows : List (Instr × Packet) :=
      [(.response p k0, { k0 with ty := 4 }), (.mailbag p k0, { k0 with ty := 2 }), (.handover p k0, { k0 with ty := 5 }),
       (.count p k0, { k0 with ty := 6 }), (.report p k0, { k0 with ty := 7 }), (.hold p k0, { k0 with ty := 8 }),
       (.resume p k0, { k0 with ty := 9 }), (.probe p k0, { k0 with ty := 10 }), (.probeReply p k0, { k0 with ty := 11 }),
       (.risk p k0, { k0 with ty := 12 }), (.ack p k0, { k0 with ty := 13 }), (.credit p k0, { k0 with ty := 14 }),
       (.load p k0, { k0 with ty := 3, op := 0x10 }), (.write via, { k0 with ty := 1, op := 0 }),
       (.fadd32 via, { k0 with ty := ret, op := 1 }), (.iadd32 via, { k0 with ty := ret, op := 2 }), (.iadd64 via, { k0 with ty := ret, op := 3 }),
       (.fmin32 via, { k0 with ty := ret, op := 4 }), (.fmax32 via, { k0 with ty := ret, op := 5 }), (.bmin via, { k0 with ty := 1, op := 6 }),
       (.bmax via, { k0 with ty := 1, op := 7 }), (.imin32 via, { k0 with ty := ret, op := 8 }), (.imax32 via, { k0 with ty := ret, op := 9 }),
       (.imin64 via, { k0 with ty := ret, op := 10 }), (.imax64 via, { k0 with ty := ret, op := 11 }), (.cas64 via, { k0 with ty := 3, op := 12 }),
       (.exact via, { k0 with ty := 1, op := 13 })]
    ∀ r ∈ rows,
      let k := r.2
      let t := s.count64 (Reg.at Reg.PORT_RX_LO p)
      let isUp := s.fabric = true ∧ (s.port p).link = 2
      (¬ isUp → exec r.1 s = .next s.settle)
      ∧ (isUp → headerOk k = false → exec r.1 s = .next ((t.dropFrame p Reg.POST_BAD_CNT 0x6201).settle))
      ∧ (isUp → headerOk k = true → t.mine k = false → exec r.1 s = .next ((t.dropFrame p Reg.POST_BAD_CNT 0x6203).settle))
      ∧ (isUp → headerOk k = true → t.mine k = true →
          (13 ≤ k.ty → exec r.1 s = .next ((t.consume p k).settle))
          ∧ (k.ty ≤ 12 →
              ((t.port p).seqTest k.src k.seq = .ahead → exec r.1 s = .next ((t.count Reg.POST_DUP_CNT).settle))
              ∧ ((t.port p).seqTest k.src k.seq = .seen → k.ty ≠ 3 ∨ k.retry = false →
                  exec r.1 s = .next (((t.count Reg.POST_DUP_CNT).sendAck p k.src).settle))
              ∧ ((t.port p).seqTest k.src k.seq = .full → exec r.1 s = .next ((t.raise 0x6204 p).settle))
              ∧ ((t.port p).seqTest k.src k.seq = .fresh → t.rxFull p k = false → ∀ v w : State,
                  (if k.cls = 3 then t.takeBuffer p k else (t, true)) = (v, true) → v.takeReceipt p k = (w, true) →
                  let u := w.onPort p fun q => q.acceptSeq w.now k.src k.seq
                  exec r.1 s = .next (((if 32 ≤ ((u.port p).rxEnt k.src).since then u.sendAck p k.src else u).consume p k).settle))
              ∧ ((t.port p).seqTest k.src k.seq = .fresh → t.rxFull p k = true →
                  exec r.1 s = .next (((t.count Reg.RMT_RX_DROP_CNT).raise 0x6306 0).settle))))

/-- R302, R304, R305, R308: the sequence test and what an ACK or a CREDIT does to its transmit entry. A SEQ within 1,024 of CUM that is
not yet accepted is fresh and, accepted, is seen from then on; CUM then names the first SEQ not accepted. An ACK frees exactly the frames
below CUM or named in its MAP; a GRANT never goes back. -/
def Obligations.Sequencing : Prop :=
  (∀ (pt : Port) (now src seq : Nat), (pt.rxEnt src).used = true → seq < 2 ^ 32 → (pt.rxEnt src).cum < 2 ^ 32 →
    (∀ x ∈ (pt.rxEnt src).ahead, x < 2 ^ 32 ∧ (x + 2 ^ 32 - (pt.rxEnt src).cum) % 2 ^ 32 < 1024) → (pt.rxEnt src).cum ∉ (pt.rxEnt src).ahead →
    (pt.rxEnt src).ahead.Nodup → pt.seqTest src seq = .fresh →
    let q := pt.acceptSeq now src seq
    q.seqTest src seq = .seen
    ∧ (q.rxEnt src).cum ∉ (q.rxEnt src).ahead
    ∧ (∀ x ∈ (pt.rxEnt src).ahead, q.seqTest src x = .seen)
    ∧ (q.rxEnt src).since = (pt.rxEnt src).since + 1
    ∧ (∀ other, other ≠ src → q.rxEnt other = pt.rxEnt other))
  ∧ (∀ (cum map seq : Nat), cum < 2 ^ 32 → seq < 2 ^ 32 →
      (covers cum map seq = true ↔ (∃ k, 1 ≤ k ∧ k < 2 ^ 31 ∧ (seq + k) % 2 ^ 32 = cum) ∨ ∃ j < 64, map.testBit j = true ∧ seq = (cum + 1 + j) % 2 ^ 32))
  ∧ (∀ (s : State) (p : Fin 8) (src : Nat) (pay : List Byte), s.fabric = false ∨ (s.port p).link ≠ 2 →
      let e := (s.port p).txEnt src
      s.applyAck p src pay = s.onPort p (fun t => t.setTx src { e with
        unacked := e.unacked.filter fun x => !covers (fieldAt pay 0 4) (fieldAt pay 4 8) x.pkt.seq, unreachable := false })
      ∧ s.applyCredit p src pay = s.onPort p (fun t => t.setTx src { e with
        grant := if (fieldAt pay 0 4 + 2 ^ 32 - e.grant) % 2 ^ 32 < 2 ^ 31 then fieldAt pay 0 4 else e.grant }))

/-! Ports and the post transport (ch. 10). -/

/-- R286, R288, R289, R296, R309: frames. On an UP sub-port of a module with fabric traffic a frame is counted as received; one that its bytes
drop (`State.inspect`) is counted by its cause, and one that they make a packet, an ARP request or a solicitation is taken in as such. A frame
too short or too long or with an uncorrectable codeword is dropped at check 1. A PFC frame pauses or resumes class 3 where PFC3 is set, and its
other priorities are counted as an event. Neighbour solicitations and ARP requests of an UP sub-port are answered with its own MAC and address,
ARP in an IPv4 module alone. A port that is down, or without fabric traffic, changes nothing.
R298–R300, R304–R306, R308, R392: a port's own events. An ACK or CREDIT that is due is formed with the entry's present CUM, MAP and GRANT; a frame
not covered by an ACK is sent again with RETRY and its own CHECK on the sub-port in turn, charged and counted, one of class 6 in a window with
room but in a hold (log 105); a destination that the last allowed retransmission did not reach is marked once, raises 0x6205 and, where it
is the partner, loses the mirror; a window opens with its allowance less what the last one overdrew; a class-1 slot begins with nothing sent.
(`drain` sends what the port may now send.) -/
def Obligations.PortEvents : Prop :=
  (∀ (p : Fin 8) (f : RxFrame) (s : State),
    let k := s.rxSub p f.lane
    let t := s.count64 (Reg.at Reg.PORT_RX_LO p)
    let runs := s.fabric = true ∧ (s.port p).link = 2 ∧ bit (s.port p).subUp k = true
    let n := f.bytes.length
    let out := exec (.discardedFrame p f) s
    (¬ runs → out = .next s)
    ∧ (runs →
        (f.fecBad = true ∨ n < 64 ∨ 9216 < n → out = .next (t.count (Reg.at Reg.PORT_RX_BAD_CNT p)))
        ∧ (s.inspect p k f = .drop .fcs → out = .next (t.count (Reg.at Reg.PORT_RX_BAD_CNT p)))
        ∧ (s.inspect p k f = .drop .address ∨ s.inspect p k f = .drop .header → out = .next ((t.count Reg.POST_BAD_CNT).frameFault p 0x6201))
        ∧ (s.inspect p k f = .drop .crc → out = .next ((t.count Reg.POST_CRC_CNT).frameFault p 0x6202))
        ∧ (s.inspect p k f = .drop .foreign → out = .next ((t.count Reg.POST_BAD_CNT).frameFault p 0x6203))
        ∧ (s.inspect p k f = .drop .icmp → out = .next (t.count Reg.POST_BAD_CNT))
        ∧ (s.inspect p k f = .drop .silent → out = .next t)
        ∧ (∀ q, s.inspect p k f = .packet q → out = .next (s.arrive p q))
        ∧ (s.inspect p k f = .arp → out = .next { t with out := .arp p k (t.mac p k) (t.ip4 t.node p k) :: t.out })
        ∧ (s.inspect p k f = .solicit → out = .next { t with out := .neighbour p k true (t.mac p k) (t.ip6 t.node p k) :: t.out }))
    ∧ (∀ code, let q := s.port p
        s.frameFault p code = if Map.get 0 q.faultFrame code = s.frame + 1 then s
          else (s.setPort p { q with faultFrame := Map.set 0 q.faultFrame code (s.frame + 1) }).raise code p))
  ∧ (∀ (p : Fin 8) (pri : BitVec 8) (xoff : Bool) (sub : Fin 4) (s : State),
    let isUp := s.fabric = true ∧ (s.port p).link = 2
    let mac := (s.reg (Reg.at Reg.PORT_MAC_LO p) + 2 ^ 32 * s.fld (Reg.at Reg.PORT_MAC_HI p) 15 0 + sub) % 2 ^ 48
    let ip6 := (s.reg64 Reg.POST_PREFIX_LO) * 2 ^ 64 + s.node % 65536 * 65536 + p * 16 + sub
    let ip4 := (s.reg Reg.POST_V4_BASE + s.node * 32 + p * 4 + sub) % 2 ^ 32
    (¬ isUp → exec (.pfcFrame p pri xoff) s = .next s)
    ∧ (isUp → pri = 0x08#8 → s.fld (Reg.at Reg.PORT_CTL p) 9 9 = 1 →
        exec (.pfcFrame p pri xoff) s = .next (((s.count (Reg.at Reg.PORT_PFC_RX_CNT p)).onPort p fun q => { q with paused3 := xoff }).drain p))
    ∧ (isUp → pri = 0x08#8 → s.fld (Reg.at Reg.PORT_CTL p) 9 9 = 0 → exec (.pfcFrame p pri xoff) s = .next (s.count (Reg.at Reg.PORT_PFC_RX_CNT p)))
    ∧ (isUp → pri = 0#8 → exec (.pfcFrame p pri xoff) s = .next s)
    ∧ (isUp → pri.getLsbD 3 = false → pri ≠ 0#8 →
        exec (.pfcFrame p pri xoff) s = .next ((s.count (Reg.at Reg.PORT_PFC_OTHER_CNT p)).event (Reg.at Reg.PORT_STAT p) 17))
    ∧ (s.portsOn = true → (s.port p).subUp.testBit sub = true →
        exec (.neighbourSolicitation p sub) s = .next { s with out := .neighbour p sub true mac ip6 :: s.out }
        ∧ exec (.arpRequest p sub) s = .next (if s.fld Reg.POST_CTL 0 0 = 1 then { s with out := .arp p sub mac ip4 :: s.out } else s))
    ∧ ((s.port p).subUp.testBit sub = false →
        exec (.neighbourSolicitation p sub) s = .next s ∧ exec (.arpRequest p sub) s = .next s))
  ∧ (∀ (p : Fin 8) (n : Fin 65536) (s : State),
    let q := s.port p
    let rx := q.rxEnt n
    let tx := q.txEnt n
    let put := fun (e : RxEnt) => s.setPort p (q.setRx n e)
    (s.fabric = true → 0 < rx.since →
      exec (.ackTimer p n) s = .next ((put { rx with since := 0, firstAt := none }).handOver p
        { cls := 7, ty := 13, job := s.job, dst := n, payload := leBytes 4 rx.cum ++ leBytes 8 rx.map' ++ leBytes 4 0 }).1)
    ∧ (s.fabric = true → rx.riseAt.isSome = true →
      exec (.creditTimer p n) s = .next ((put { rx with granted := rx.grant, riseAt := none }).handOver p
        { cls := 7, ty := 14, job := s.job, dst := n, payload := leBytes 4 rx.grant ++ leBytes 4 0 }).1)
    ∧ (s.fabric = false ∨ rx.since = 0 → exec (.ackTimer p n) s = .next s)
    ∧ (s.fabric = false ∨ rx.riseAt = none → exec (.creditTimer p n) s = .next s)
    ∧ (∀ seq x, s.unackedOf p n seq = some x → s.fabric = true → q.link = 2 →
        let w := wireBytes s.v4 x.pkt
        (x.pkt.cls ≠ 6 ∨ s.mod = .held ∨ s.mod = .parked ∨ (q.txTable ≠ [] ∧ (w : Int) ≤ q.remainder) →
          ∃ t : State, exec (.retransmit p n seq) s = .next (t.sendFrame p q.nextUp { x.pkt with retry := true } x.check)
            ∧ (((t.port p).txEnt n).unacked = tx.unacked.map fun y => if y.pkt.seq = seq then { y with tries := y.tries + 1 } else y)
            ∧ (∀ o : Nat, o ≠ n.val → (t.port p).txEnt o = q.txEnt o)
            ∧ (t.port p).nextSub = (q.nextUp + 1) % 4
            ∧ (t.port p).remainder = (if 6 ≤ x.pkt.cls ∧ q.txTable ≠ [] then q.remainder - w else q.remainder)
            ∧ t.reg Reg.POST_RETX_CNT = Nat.min (s.reg Reg.POST_RETX_CNT + 1) 0xFFFFFFFF
            ∧ t.out = s.out ∧ t.cores = s.cores ∧ t.bond = s.bond)
        ∧ (x.pkt.cls = 6 → s.mod ≠ .held → s.mod ≠ .parked → q.txTable = [] ∨ q.remainder < (w : Int) → exec (.retransmit p n seq) s = .next s))
    ∧ (∀ seq, s.unackedOf p n seq = none → exec (.retransmit p n seq) s = .next s)
    ∧ (s.fabric = true → tx.unreachable = false → (tx.unacked.any fun x => decide (s.retryMax ≤ x.tries)) = true →
        let t := (s.setPort p (q.setTx n { tx with unreachable := true })).raise 0x6205 p
        exec (.postUnreachable p n) s = .next (if t.partner = some n.val then t.loseMirror else t))
    ∧ (tx.unreachable = true ∨ (tx.unacked.any fun x => decide (s.retryMax ≤ x.tries)) = false → exec (.postUnreachable p n) s = .next s)
    ∧ (∀ e, q.txTable[(q.window + 1) % Nat.max 1 q.txTable.length]? = some e → s.mod = .running →
        exec (.transmitWindow p) s = .next ((s.setPort p { q with
          window := (q.window + 1) % Nat.max 1 q.txTable.length, remainder := e.2 + min q.remainder 0 }).drain p))
    ∧ (s.mod ≠ .running → exec (.transmitWindow p) s = .next s)
    ∧ (s.fabric = true → exec (.class1Slot p) s = .next ((s.setPort p { q with slotSent := 0 }).drain p)))
/-- R286, R313–R316, R318: the link of a port: bring-up begins on an enabled port that is disabled, passes its five steps in order, and
ends UP with the sub-ports of its MODE, an ESMC message and one unsolicited advertisement a sub-port, and sends what waited; a step past its limit
fails the port with 0x6103, or, after a loss, starts the sequence again; a failed port tries again; a lost link goes DOWN, is counted and raises
0x6101, and 0x6102 once where it stays lost; uncorrectable codewords of an UP port are counted and raise 0x6104. Before BOOT, and after the
ports have stopped, no step is taken. -/
def Obligations.PortLinks : Prop :=
  ∀ (p : Fin 8) (n : Nat) (s : State),
    let q := s.port p
    let put := fun (x : Port) => s.setPort p x
    let subs := s.subPorts p
    (s.portsOn = true →
      (s.portEnabled p = true → q.link = 0 → exec (.portBringup p) s = .next (put { q with link := 1, step := 1, subUp := 0, retrain := false }))
      ∧ (s.portEnabled p = false ∨ q.link ≠ 0 → exec (.portBringup p) s = .next s)
      ∧ (1 ≤ q.step → q.step < 5 → exec (.portBringupStepDone p) s = .next (put { q with step := q.step + 1 }))
      ∧ (q.step = 5 → exec (.portBringupStepDone p) s = .next (({
          put { q with link := 2, step := 0, retrain := false, lost := false, subUp := 2 ^ subs - 1, nextSub := 0 } with
            out := ((List.range subs).map fun k => Out.neighbour p k false (s.mac p k) (s.ip6 s.node p k)).reverse
              ++ Out.esmc p (if s.activeRef = 8 + p.val then 15 else s.quality) :: s.out } : State).drain p))
      ∧ (q.link = 4 → exec (.portRetry p) s = .next (put { q with link := 1, step := 1, subUp := 0, retrain := false }))
      ∧ (q.link ≠ 4 → exec (.portRetry p) s = .next s)
      ∧ (q.link = 2 → exec (.portLinkLost p) s = .next
          ((((put { q with link := 3, step := 3, subUp := 0, retrain := true, lost := true }).count (Reg.at Reg.PORT_FLAP_CNT p)).tally 3).raise 0x6101 p)))
    ∧ (s.portsOn = false → exec (.portBringup p) s = .next s ∧ exec (.portBringupStepDone p) s = .next s ∧ exec (.portRetry p) s = .next s
        ∧ exec (.portLinkLost p) s = .next s)
    ∧ (q.step = 0 → exec (.portBringupStepDone p) s = .next s ∧ exec (.portBringupFailed p) s = .next s)
    ∧ (q.step ≠ 0 → q.retrain = true → exec (.portBringupFailed p) s = .next (put { q with step := 1, retrain := false }))
    ∧ (q.step ≠ 0 → q.retrain = false →
        exec (.portBringupFailed p) s = .next ((put { q with link := 4, step := 0, subUp := 0 }).raise 0x6103 p))
    ∧ (q.link ≠ 2 → exec (.portLinkLost p) s = .next s ∧ exec (.portFecUncorrected p n) s = .next s)
    ∧ (q.lost = true → exec (.portDownLong p) s = .next ((put { q with lost := false }).raise 0x6102 p))
    ∧ (q.lost = false → exec (.portDownLong p) s = .next s)
    ∧ (q.link = 2 → n ≠ 0 → exec (.portFecUncorrected p n) s = .next ((s.count (Reg.at Reg.PORT_FEC_UNCORR_CNT p) n).raise 0x6104 p))
    ∧ (subs = 1 ∨ subs = 2 ∨ subs = 4)

/-- R333, R336, R337: a request unanswered past its limit is a dead letter, counted once, but in HELD: a LOAD's destination takes the dead-letter
value in every unit, poisoned, and raises 0x6302, once its banks are awake (R233); a returning operation's result word takes the lost word
and raises 0x6303; the entry is free again. An entry that is not in use changes nothing. -/
def Obligations.DeadLetters : Prop :=
  ∀ (d : Fin 4) (e : Fin 4096) (s : State),
    let t := s.tag d e
    let r := destRng t.dest
    let ends := fun (u : State) => (((u.count Reg.RMT_DEAD_CNT).freeTag d e t)).raise 0x6302 0
    let lands := s.landLoad t.dest (noData t.dest.size) 1
    (t.used = false ∨ s.mod = .held → exec (.deadLetter d e) s = .next s)
    ∧ (t.used = true → s.mod ≠ .held → t.dest.load = true →
        (t.dest.whole = false → s.reachAll [r] = (s, true) → exec (.deadLetter d e) s = .next (ends (s.putRng r
          ((List.range r.2.2.2).map fun i => if (r.2.2.1 + i) % 2 = 0 then 0xBD#8 else 0x7F#8) (2 ^ ((r.2.2.2 + 63) / 64) - 1))))
        ∧ (lands.2 = true → exec (.deadLetter d e) s = .next (ends lands.1))
        ∧ (lands.2 = false → exec (.deadLetter d e) s = .next lands.1))
    ∧ (t.used = true → s.mod ≠ .held → t.dest.load = false → exec (.deadLetter d e) s = .next
        (((((s.count Reg.RMT_DEAD_CNT).onCore t.dest.core fun c => c.sdmWrite t.dest.addr 8 0x7FBD7FBD7FBD7FBD).freeTag d e t)).raise 0x6303 0))
    ∧ (∀ u : State, (u.freeTag d e t).tag d e = {})
    ∧ (∀ (u : State) (g a n : Nat), a + n ≤ 6291456 → ∀ i < n,
        ((u.putDead (0, g, a, n)).core g).tileByte false (a + i) = if (a + i) % 2 = 0 then 0xBD#8 else 0x7F#8)

/-! The supply, temperatures, refresh and the spine (ch. 2, 9, 13, 17). -/

/-- R503–R508, R411, R412, R520–R522: the input, its switch, the brakes and the resets by pin. -/
def Obligations.Supply : Prop :=
  ∀ (strap : Fin 8) (s : State),
    let w := s.pwr
    let p := fun (x : Pwr) => { s with pwr := x }
    (s.mod = .off → w.latched = false → exec .inputSwitchClose s = .next (p { w with switch := true, ramping := true }))
    ∧ (w.latched = true → exec .inputSwitchClose s = .next s)
    ∧ (s.mod = .off → w.switch = true → w.ramping = true →
        exec (.inputValid strap) s = .next ((({ s with
          fw := { s.fw with mod := .standby, prev := .off, event := 0x01 }, pwr := { w with ramping := false, smbAddr := strap } } : State).record
            2 0xFF 0 0 0x01).emit (.uart 2 0x01)))
    ∧ (s.mod ≠ .off → exec (.inputValid strap) s = .next s)
    ∧ (s.mod = .off → exec .supplyReset s = .next s
        ∧ exec .overVoltage s = .next (p { w with switch := false, ramping := false })
        ∧ exec .shortCircuit s = .next (p { w with switch := false, ramping := false, latched := true })
        ∧ exec .thermalTrip s = .next (p { w with switch := false, ramping := false, latched := true }))
    ∧ (s.mod ≠ .off → exec .supplyReset s = .next s.goOff
        ∧ exec .overVoltage s = .next (p { w with switch := false, ramping := false }).goOff
        ∧ exec .shortCircuit s = .next (p { w with switch := false, ramping := false, latched := true }).goOff
        ∧ exec .thermalTrip s = .next (p { w with switch := false, ramping := false, latched := true }).goOff)
    ∧ exec .tripLatchClear s = .next (p { w with latched := false })
    ∧ (s.mod ≠ .off → w.warn = false → exec .supplyWarning s = .next
        ((((p { w with warn := true, warnAt := s.now, supplyParked := false }).count Reg.PWR_WARN_CNT).tally 9).raise 0x9101 0))
    ∧ (s.mod = .off ∨ w.warn = true → exec .supplyWarning s = .next s)
    ∧ exec .flashGuard s = .next (if w.warn then p { w with guard := true } else s)
    ∧ exec .warningClear s = .next (p { w with warn := false, guard := false, supplyParked := false })
    ∧ (w.warn = true → w.supplyParked = false → exec .supplyPark s = .next ((p { w with supplyParked := true }).raise 0x9201 0))
    ∧ (w.warn = false ∨ w.supplyParked = true → exec .supplyPark s = .next s)
    ∧ (s.mod ≠ .off → w.half = false → exec .currentLimit s = .next (((p { w with half := true }).count Reg.PWR_LIMIT_CNT).raise 0x9102 0))
    ∧ exec .currentLimitClear s = .next (p { w with half := false })
    ∧ (s.mod = .off ∨ s.mod = .standby ∨ s.mod = .fenced ∨ s.mod = .recovery → exec .resetNLow s = .next (p { w with resetLow := true }))
    ∧ (s.mod = .boot ∨ s.mod = .ready ∨ s.mod = .running ∨ s.mod = .held ∨ s.mod = .parked →
        exec .resetNLow s = .next ((p { w with resetLow := true }).raise 0x9103 0))
    ∧ (s.mod = .standby → exec .resetNRelease s = .next ((p { w with resetLow := false }).enterBoot 0x02))
    ∧ (s.mod = .fenced ∨ s.mod = .recovery → w.resetLow = true → exec .resetNRelease s = .next ((p { w with resetLow := false }).enterBoot 0x0D))
    ∧ (s.mod ≠ .standby → w.resetLow = false → exec .resetNRelease s = .next (p { w with resetLow := false }))
    ∧ (s.powered = true → exec .railFault s = .next (({ s with
        pwr := { w with railsGood := false, dieRails := false }, cores := [], clusters := [], dies := [], waiting := [], tags := [] }).raise 0x9104 0))
    ∧ (s.powered = false → exec .railFault s = .next s)
    ∧ s.goOff.mod = .off

/-- R514–R518, R530: temperatures. A reading goes to THM.HOT and, where it is higher, to THM.PEAK; a warning not yet in force sets its
bit, is counted and raises 0x9301 or 0x9302; a limit sets the full brake until reset and raises 0x9303 or 0x9304; a sensor fault sets its
bit once, raises 0x9305, and doubles the refresh of a stack left without sensors.
R20, R21, R42, R262, R264, R268, R269, R523: refresh rates, the scrub's count, margin scans, the spine's faults and the pulse. -/
def Obligations.Temperatures : Prop :=
  (∀ (d : Fin 6) (k : Fin 16) (temp : Nat) (s : State), s.powered = true →
    let w := s.pwr
    let die := ({ s with pwr := { w with dieTemp := Map.set 0 w.dieTemp d temp } } : State).heat
    let stack := ({ s with pwr := { w with stackTemp := Map.set 0 w.stackTemp k temp } } : State).heat
    let warn := fun (t : State) (b code : Nat) =>
      ((({ t with pwr := { t.pwr with tempWarn := true } } : State).setFld Reg.THM_STAT b b 1).count Reg.THM_WARN_CNT).raise code 0
    let limit := fun (t : State) (code : Nat) => ({ t with pwr := { t.pwr with tempBrake := true } } : State).raise code 0
    (die.fld Reg.THM_STAT 0 0 = 0 → exec (.junctionWarning d temp) s = .next (warn die 0 0x9301))
    ∧ (die.fld Reg.THM_STAT 0 0 = 1 → exec (.junctionWarning d temp) s = .next die)
    ∧ (stack.fld Reg.THM_STAT 1 1 = 0 → exec (.stackWarning k temp) s = .next (warn stack 1 0x9302))
    ∧ (stack.fld Reg.THM_STAT 1 1 = 1 → exec (.stackWarning k temp) s = .next stack)
    ∧ exec (.junctionLimit d temp) s = .next (limit die 0x9303)
    ∧ exec (.stackLimit k temp) s = .next (limit stack 0x9304)
    ∧ exec .temperatureWarningClear s = .next (({ s with pwr := { w with tempWarn := false } } : State).setFld Reg.THM_STAT 1 0 0)
    ∧ (∀ (place : Fin 22) (sensor : Fin 13), (place.val, sensor.val) ∉ w.deadSensors →
        sensor.val < (if place.val < 4 then 13 else if place.val < 6 then 4 else 2) →
        let b := if place.val < 6 then 16 + place.val else place.val - 6
        let t := (({ s with pwr := { w with deadSensors := w.deadSensors ++ [(place.val, sensor.val)] } } : State).setFld Reg.THM_FAILED b b 1).raise 0x9305 0
        (place.val < 6 → exec (.sensorFault place sensor) s = .next t)
        ∧ (6 ≤ place.val → t.stackBlind (place.val - 6) = false → exec (.sensorFault place sensor) s = .next t)
        ∧ (6 ≤ place.val → t.stackBlind (place.val - 6) = true → exec (.sensorFault place sensor) s = .next (t.refreshDouble (place.val - 6))))
    ∧ (∀ (place : Fin 22) (sensor : Fin 13), (place.val, sensor.val) ∈ w.deadSensors → exec (.sensorFault place sensor) s = .next s))
  ∧ (∀ (k : Fin 16) (g : Fin 1024) (d : Fin 4) (v : BitVec 32) (pl : Place) (s : State), s.powered = true →
    let bit' := k.val % 4
    let refresh := Reg.at Reg.BOND_REFRESH (k.val / 4)
    (s.fld refresh bit' bit' = 0 → exec (.refreshDoubled k) s = .next ((s.setFld refresh bit' bit' 1).raise 0x4305 (k.val / 4)))
    ∧ (s.fld refresh bit' bit' = 1 → exec (.refreshDoubled k) s = .next s)
    ∧ (s.stackBlind k = false → exec (.refreshNormal k) s = .next (s.setFld refresh bit' bit' 0))
    ∧ (s.stackBlind k = true → exec (.refreshNormal k) s = .next s)
    ∧ exec (.refreshWindow g false) s = .next s
    ∧ (let x := s.die (g.val / 256)
       let c := x.chan (g.val % 256)
       exec (.refreshWindow g true) s = .next (((s.setDie (g.val / 256)
        (x.setChan (g.val % 256) { c with corr := Nat.min 0xFFFFFFFF (c.corr + 1) })).event (Reg.at Reg.BOND_STAT (g.val / 256)) 14).tally 0))
    ∧ (let kept := s.setReg (Reg.at Reg.BOND_MARGIN_CTL d) (Nat.land v.toNat 0x3F03)
       (v.getLsbD 31 = false → exec (.marginScan d v) s = .next kept)
       ∧ (v.getLsbD 31 = true → s.mod ≠ .ready → exec (.marginScan d v) s = .next (kept.event (Reg.at Reg.BOND_STAT d) 20))
       ∧ (v.getLsbD 31 = true → s.mod = .ready → (s.die d).margin = none →
          let c := kept.fld (Reg.at Reg.BOND_CH_SEL d) 7 0
          let t := kept.discardImage.setFld (Reg.at Reg.BOND_MARGIN_RES d) 31 31 0
          exec (.marginScan d v) s = .next ((t.setDie d { t.die d with
            margin := some (c, bits v.toNat 1 0, Nat.max 1 (bits v.toNat 13 8)) }).scanFill ((d.val * 256 + c) * 2 ^ 30))))
    ∧ (∀ c kind range low high : Nat, (s.die d).margin = some (c, kind, range) →
        let l := Nat.min low range
        let h := Nat.min high range
        let least := if kind < 2 then 10 else 12
        exec (.marginScanDone d low high) s = .next (((s.setDie d { s.die d with margin := none }).setReg (Reg.at Reg.BOND_MARGIN_RES d)
          (2 ^ 31 + (if least ≤ l ∧ least ≤ h then 2 ^ 30 else 0) + kind * 2 ^ 28 + c * 2 ^ 16 + l * 2 ^ 8 + h)).record 8 0xFF 0 0 (d.val * 256 + c)))
    ∧ ((s.die d).margin = none → exec (.marginScanDone d 0 0) s = .next s)
    ∧ exec (.spineUncorrectable pl) s = .next (((s.poisonFlit pl).tally 1).raise 0x6001 0)
    ∧ (pl.space ≠ 4 → pl.space ≠ 5 → s.poisonFlit pl = s.poisonPlace pl 8)
    ∧ (pl.space = 4 → ∀ (l : List Packet) (k : Packet), (s.port (pl.unit % 8)).q3 = l ++ [k] → pl.unit / 8 = 3 → pl.addr < k.payload.length →
        ((s.poisonFlit pl).port (pl.unit % 8)).q3 = l ++ [{ k with pmap := some (Nat.lor (k.pmap.getD 0) (2 ^ (pl.addr / 64))) }])
    ∧ (pl.space = 5 → ∀ j, s.res.snap = some j →
        ∃ j', (s.poisonFlit pl).res.snap = some j' ∧ Map.get false j'.set.poison (pl.addr / 64) = true)
    ∧ exec .spineLaneLost s = .next (if s.mod = .running then s.raise 0x6002 0 else s)
    ∧ exec .hubLinkDown s = .next (if s.fw.haW && s.fw.haE then s.raise 0x6003 0 else s)
    ∧ exec .ppsOutPulse s = .next (if s.time.pm % 600000000 = 0 then { s with out := .pps :: s.out } else s))
/-! Clock, frames and health (ch. 1, 13). -/

/-- R22, R29–R34, R312, R313: the references and the DPLL of the hub in charge. STATE is 0 FREE_RUN, 1 ACQUIRE, 2 LOCKED,
3 HOLDOVER, 4 TRACK. -/
def Obligations.Clocking : Prop :=
  ∀ (r : Fin 16) (port : Fin 8) (ql : Fin 16) (ps : Int) (s : State),
    let stat := Reg.at Reg.TIME_DPLL_STAT s.hub
    let present := s.time.present
    let steady := fun (x : Nat) => x ∈ present ∧ Map.get 0 s.time.presentAt x + 600000000 ≤ s.now
    let measured := fun (s : State) => s.phaseMeasured ps
    exec (.ppsInEdge ps) s = .next (if s.phaseSrc = 2 then measured s else s)
    ∧ ((s.proc (4 * s.hub + 2)).st = .running → exec (.ptpSync ps) s = .next (if s.phaseSrc = 1 then measured s else s))
    ∧ ((s.proc (4 * s.hub + 2)).st ≠ .running → exec (.ptpSync ps) s = .next s)
    ∧ (let t := s.setReg (Reg.at Reg.TIME_PHASE_ERR s.hub) (unsigned 32 ps)
       (ps.natAbs ≤ 4000 → s.phaseMeasured ps = { t with time := { s.time with phaseBad := 0, phaseGood := s.time.phaseGood + 1 } })
       ∧ (4000 < ps.natAbs → s.time.phaseBad ≠ 7 →
          s.phaseMeasured ps = { t with time := { s.time with phaseBad := s.time.phaseBad + 1, phaseGood := 0 } })
       ∧ (4000 < ps.natAbs → s.time.phaseBad = 7 →
          s.phaseMeasured ps = ({ t with time := { s.time with phaseBad := 8, phaseGood := 0 } } : State).raise 0x7004 s.hub))
    ∧ (ql.val ≠ 15 ∨ 8 + port.val ∉ present →
        let t : State := { s with time := { s.time with esmc := Map.set 0 s.time.esmc port ql } }
        (s.activeRef ≠ 8 + port.val → exec (.esmc port ql) s = .next t)
        ∧ (s.activeRef = 8 + port.val → exec (.esmc port ql) s = .next t.sendEsmcs))
    ∧ (8 + port.val ∈ present → exec (.esmc port 15) s =
        .next (({ s with time := { s.time with esmc := Map.set 0 s.time.esmc port 15 } } : State).refLost (8 + port.val)))
    ∧ (r.val ∉ present → exec (.refLost r) s = .next s)
    ∧ (r.val ∈ present → s.activeRef ≠ r.val → r.val ∉ s.refPrio →
        exec (.refLost r) s = .next { s with time := { s.time with present := present.filter (· != r.val) } })
    ∧ (r.val ∈ present → exec (.refLost r) s = .next (s.refLost r.val))
    ∧ (r.val ∉ present → s.dpll ≠ 0 → exec (.referencePresent r) s = .next { s with time := { s.time with
        present := present ++ [r.val], presentAt := Map.set 0 s.time.presentAt r.val s.now } })
    ∧ (r.val ∈ present → s.dpllMode ≠ 1 ∨ s.dpll ≠ 0 → exec (.referencePresent r) s = .next s)
    ∧ (s.dpll = 1 → s.dpllMode = 1 → exec .dpllLock s = .next (s.setFld stat 2 0 2))
    ∧ (s.dpll = 1 → s.dpllMode = 2 → exec .dpllLock s = .next (((s.setFld stat 2 0 2).setFld stat 2 0 3).event stat 18))
    ∧ (s.dpll = 1 → s.dpllMode = 0 → exec .dpllLock s = .next ((s.setFld stat 2 0 2).setFld stat 2 0 0))
    ∧ (s.dpll ≠ 1 → exec .dpllLock s = .next s)
    ∧ (s.dpll = 2 → s.fld (Reg.at Reg.TIME_DPLL_CTL s.hub) 2 2 = 1 → (∃ x ∈ s.refPrio.takeWhile (· != s.activeRef), steady x) →
        exec .revert s = .next ((s.setFld stat 2 0 3).event stat 18))
    ∧ (s.dpll ≠ 2 ∨ (∀ x ∈ s.refPrio.takeWhile (· != s.activeRef), ¬ steady x) → exec .revert s = .next s)
    ∧ (s.dpll = 3 → s.dpllMode = 1 → ∀ (hi lo : List Nat) (b : Nat), s.refPrio = hi ++ b :: lo → steady b → (∀ x ∈ hi, ¬ steady x) →
        let t := ({ s with time := { s.time with lossSwitch := false } } : State)
        let u := (t.setFld stat 2 0 1).setFld stat 11 8 b
        (s.activeRef = b → exec .holdoverAcquire s = .next u)
        ∧ (s.activeRef ≠ b → s.time.lossSwitch = false → exec .holdoverAcquire s = .next (u.event stat 17).sendEsmcs)
        ∧ (s.activeRef ≠ b → s.time.lossSwitch = true → exec .holdoverAcquire s = .next ((u.event stat 17).sendEsmcs.raise 0x7001 s.hub)))
    ∧ (s.dpll = 3 → (∀ x ∈ s.refPrio, ¬ steady x) → exec .holdoverAcquire s = .next s)
    ∧ (s.dpll ≠ 3 → exec .holdoverAcquire s = .next s)
    ∧ exec .synthUnlock s = .next (s.raise 0x7005 s.hub)
    ∧ exec (.halfAliveDead 1) s = .next { s with fw := { s.fw with haW := false } }
    ∧ exec (.halfAliveDead 0) s = .next { s with fw := { s.fw with haE := false } }
    ∧ exec (.halfAliveAlive 1) s = .next { s with fw := { s.fw with haW := true } }
    ∧ exec (.halfAliveAlive 0) s = .next { s with fw := { s.fw with haE := true } }

/-! Frames, the health monitor and the step boundary (ch. 1, 5, 13). -/

/-- R35, R36, R38, R297, R364, R397: FRAME_BOUNDARY lets the rest of the frame pass and then acts in the order of R38: writes to TIME, the
check of the postmark's copies (0x7003), a resume, releases and what they let go on, a stop, collection, risk. Time passes alone where
the module has no power. A HEALTH_EVALUATION that is due takes the sample, evaluates the sixteen inputs, and sets the score, their sum
up to 255, or 0 where the monitor is off; its due mark and the period's counts are cleared; a RISK letter that is due goes out. -/
def Obligations.Frames : Prop :=
  (∀ (slips : List (Fin 6 × Nat)) (s : State), s.powered = true →
    let t := slips.foldl State.slip (s.elapse (65536 - s.time.pm % 65536))
    let boundary' := fun (x : State) =>
      let u := (slips.foldl State.slip (x.elapse (65536 - x.time.pm % 65536))).applyTimes
      let v := if u.copiesAgree then u else u.raise 0x7003 u.hub
      v.holdResume.releaseDue.settle.holdStop.collect.riskEvaluation
    (s.gather = none → ∃ x, x = boundary' { s with gather := some [] } ∧
      exec (.frameBoundary slips) s = .next (({ x with gather := none } : State).raiseNow (x.gather.getD [])))
    ∧ t.time.pm = (s.time.pm / 65536 * 65536 + 65536) % 2 ^ 64 ∧ t.now = s.now + (65536 - s.time.pm % 65536)
    ∧ t.time.sched = (if s.mod = .running then s.time.sched + (65536 - s.time.pm % 65536) else s.time.sched))
  ∧ (∀ (slips : List (Fin 6 × Nat)) (s : State), s.powered = false → exec (.frameBoundary slips) s = .next s)
  ∧ (∀ (m : Sample) (s : State), s.hlt.due = false → exec (.healthEvaluation m) s = .next s)
  ∧ (∀ (m : Sample) (s : State), s.hlt.due = true →
    let t := (List.range 16).foldl (State.evalInput m) (s.sampled m).wearCheck
    let sum := ((List.range 16).map fun i => Map.get 0 t.hlt.points i).sum
    let u := { t with hlt := { t.hlt with due := false, tally := [], sinceLetter := t.hlt.sinceLetter + 1 } }
    let v := u.setScore (if u.fld Reg.HLT_CTL 0 0 = 1 then Nat.min 255 sum else 0)
    ((v.dom.joined && v.fabric && v.riskLetterDue) = false → exec (.healthEvaluation m) s = .next v)
    ∧ ((v.dom.joined && v.fabric && v.riskLetterDue) = true →
        exec (.healthEvaluation m) s = .next ((v.sendRisk false 0 0).1.seqFull (v.sendRisk false 0 0).2)))

/-- R398: the risk points of a value on a curve with strictly ascending X: the first and last point's beyond the ends, each point's at its
own X, and between two points on the line through them, cut toward the lower point's. -/
def Obligations.RiskCurve : Prop :=
  ∀ (x y : Nat → Nat), (∀ i j, i < j → j < 8 → x i < x j) →
    (∀ v ≤ x 0, curve x y v = y 0) ∧ (∀ v, x 7 ≤ v → curve x y v = y 7) ∧ (∀ i < 8, curve x y (x i) = y i)
    ∧ ∀ (i v : Nat), i < 7 → x i ≤ v → v ≤ x (i + 1) →
        (y i ≤ y (i + 1) → curve x y v = y i + (v - x i) * (y (i + 1) - y i) / (x (i + 1) - x i))
        ∧ (y (i + 1) ≤ y i → curve x y v = y i - (v - x i) * (y i - y (i + 1)) / (x (i + 1) - x i))

/-- R160–R165, R96, R109, R383, R385, R391, R400: the step boundary. A module whose cores, mailbags and bookkeeping are complete forms its
report, clean or with its first cause, once, and sends it for D; after D, with every member's report visible, the decision is COMMIT only
if every report is clean; applying it advances the step, counts a COMMIT, writes the decision words, clears the mailbag counts and the
gradient sums, and raises 0x1205 at each die for a SKIP; the boundary block is captured once the stamps are updated. -/
def Obligations.StepBoundary : Prop :=
  ∀ s : State,
    let ready := s.mod = .running ∧ s.stepSt.own = none ∧ s.stepSt.discarded = false ∧ s.res.parking = none ∧
      s.stepEnds = true ∧ s.bagsComplete = true ∧ s.stepSt.bookkeeping = true ∧ s.schUp = true
    let d := s.decisionPm
    let r : Report := { node := s.node, clean := !s.isDirty, cause := if s.isDirty then s.stepSt.dirtyCause else 0 }
    let sent := ({ s with stepSt := { s.stepSt with own := some (r, s.pm), reports := s.stepSt.reports ++ [r] } } : State).letters 7 d (reportPayload s.step40 r)
    (ready → sent.pm ≤ d → exec .stepReport s = .next sent)
    ∧ (ready → d < sent.pm → exec .stepReport s = .next ((sent.holdCause 0x17301).1.seqFull (sent.holdCause 0x17301).2))
    ∧ (¬ ready → exec .stepReport s = .next s)
    ∧ (s.live = true → d < s.pm → s.stepSt.own ≠ none → s.allReports = true → s.stepSt.decision = none → s.stepSt.discarded = false →
        (s.mod = .running ∨ d ≤ s.dom.fstop) →
        ∃ t : State, exec .stepDecision s = .next { t with stepSt := { s.stepSt with decision := some (s.stepSt.reports.all fun r => r.clean) } }
          ∧ t = { s.riskDue with regs := t.regs })
    ∧ (s.live = false ∨ s.allReports = false ∨ s.pm ≤ d → exec .stepDecision s = .next s)
    ∧ (s.live = false ∨ s.stepSt.decision = none → exec .decisionApply s = .next s)
    ∧ (∀ commit, s.stepSt.decision = some commit → s.live = true → exec .decisionApply s = .next (s.applyDecision commit))
    ∧ (∀ (b commits : Nat) (commit : Bool), b < 2 ^ 40 → commits < 2 ^ 64 →
        let t := s.decideStep b commits commit
        t.step40 = (b + 1) % 2 ^ 40 ∧ t.commits = commits ∧ t.stepSt = {}
        ∧ (∀ g < 384, (t.core g).sdmRead 0x17FF0 8 = b * 2 ^ 24 + (if commit then 1 else 2) ∧ (t.core g).sdmRead 0x17FF8 8 = commits
            ∧ (t.core g).uses = [] ∧ (∀ k ∈ (t.core g).claims, k.src ≠ 4) ∧ (t.core g).ts = (s.core g).ts ∧ (t.core g).x = (s.core g).x)
        ∧ (∀ d < 4, (t.die d).gsum = 0#64)
        ∧ t.bond = s.bond ∧ t.ports = s.ports ∧ t.fw = s.fw)
    ∧ (s.fld Reg.FMT_STAT 1 1 = 0 → exec .boundaryBlockCapture s = .next s)
    ∧ (s.fld Reg.FMT_STAT 1 1 = 1 → s.res.mirrorDue = false → s.res.snapDue = false →
        exec .boundaryBlockCapture s = .next (((List.range 4).foldl (fun (t : State) d => t.setFld (Reg.at Reg.FMT_STAT d) 1 1 0) s).writeBlock s.step40))

/-! Module states, faults, holds and parks (ch. 0, 12–14). -/

/-- R3, R5, R437: the module changes state by the transitions of the table alone, each of which records the state before and the event;
FENCED is entered from every state but OFF, RECOVERY and itself, and is left for BOOT, or for OFF with the loss of the input. A notice
changes no state, a stop enters FENCED, unjoined, with the fault as its cause, and every fault leaves its record in the daybook and the
fault queue (R7, R8, R438, R527). -/
def Obligations.ModuleStates : Prop :=
  (∀ (a b : Mod) (ev : Nat), legal a ev b = true ↔
    (a, ev, b) ∈ [(Mod.off, 1, Mod.standby), (.standby, 2, .boot), (.boot, 4, .ready), (.boot, 5, .recovery), (.ready, 6, .running),
      (.running, 7, .held), (.held, 8, .running), (.running, 9, .parked), (.held, 9, .parked), (.parked, 10, .running), (.parked, 11, .ready),
      (.fenced, 13, .boot), (.recovery, 13, .boot)] ∨ (ev = 3 ∧ b = .off) ∨ (ev = 12 ∧ b = .fenced ∧ a ≠ .off ∧ a ≠ .fenced ∧ a ≠ .recovery))
  ∧ (∀ (s : State) (ev : Nat) (b : Mod), s.rival = none → legal s.mod ev b = true →
      (s.transition ev b).mod = b ∧ (s.transition ev b).fw.prev = s.mod ∧ (s.transition ev b).fw.event = ev
      ∧ (s.transition ev b).cores = s.cores ∧ (s.transition ev b).bond = s.bond)
  ∧ (∀ (s : State) (ev : Nat) (b : Mod), s.rival = none → legal s.mod ev b = false → s.transition ev b = s)
  ∧ (∀ (s : State) (ev : Nat) (a b : Mod), s.rival = some a → legal a ev b = true → b ≠ s.mod →
      let order : List Mod := [.off, .fenced, .recovery, .standby, .boot, .parked, .held, .ready, .running]
      (order.idxOf b < order.idxOf s.mod → s.mod ≠ .fenced → s.mod ≠ .recovery →
        (s.transition ev b).mod = b ∧ (s.transition ev b).fw.prev = a ∧ (s.transition ev b).fw.event = ev)
      ∧ (order.idxOf s.mod < order.idxOf b → s.transition ev b = s.record 2 0xFF 0 0 ev))
  ∧ (∀ (s : State) (code inst ident : Nat), faultSev code = .notice → (s.raise code inst ident).mod = s.mod
      ∧ (s.raise code inst ident).cores = s.cores ∧ (s.raise code inst ident).dom = s.dom)
  ∧ (∀ (s : State) (code inst ident : Nat), faultSev code = .stop → s.gather = none → s.rival = none →
      s.mod ≠ .off → s.mod ≠ .fenced → s.mod ≠ .recovery →
      (s.raise code inst ident).mod = .fenced ∧ (s.raise code inst ident).boot.stopFault = code ∧ (s.raise code inst ident).dom.joined = false)
  ∧ (∀ (s : State) (code inst ident : Nat) (l : List (Nat × Nat × Nat)), s.gather = some l →
      s.raise code inst ident = { s with gather := some (l ++ [(code, inst, ident)]) })
  ∧ (∀ (s : State) (f g : Nat × Nat × Nat), s.gather = none → f.1 < g.1 → faultSev f.1 = .stop → faultSev g.1 ≠ .stop →
      s.raiseNow [g, f] = (((s.recordFault f.1 f.2.1 f.2.2).recordFault g.1 g.2.1 g.2.2).act f.1 .stop).1)
  ∧ (∀ (s : State) (code inst ident : Nat), s.fw.h1Charge = false →
      ∃ r ∈ (s.recordFault code inst ident).fw.faultQ0, r.fault = code ∧ r.kind = 1 ∧ r.seq = s.fw.daySeq + 1 ∧ r.postmark = s.pm
        ∧ r.state = s.mod.code ∧ (s.recordFault code inst ident).dayAt (s.fw.daySeq % 16384) = some r)

/-- R5, R437: FENCED and RECOVERY are left by a reset alone, the release of RESET_N after a low, which enters BOOT, or for OFF where the
module loses its input (event 3): no other command, no cycle of the clock and no fault leaves either state. -/
def Obligations.ShutStays : Prop :=
  ∀ s t : State, step s = .next t → s.mod = .fenced ∨ s.mod = .recovery → LeavesShut s t

/-- R358–R366, R402, R403, R406, R350: holds, resumes, parks and runs asked for. A host's hold is a cause; HOLD_LIMIT raises 0x7304 in a
held module with no resume agreed; a ready member announces its resume once; a park is asked for as fault 0x7407; PARKED is entered from
HELD with a settled cut once every member's PARK letter is there, or at the limit; an armed run starts at its postmark in READY, joined
and with an image; a restart runs at its postmark from a restored boundary, or raises 0x7406. -/
def Obligations.HoldsAndParks : Prop :=
  ∀ s : State,
    let asked := ({ s with dom := { s.dom with hostHold := true } } : State).holdCause 0
    (s.live = true → exec .holdReq s = .next (asked.1.seqFull asked.2))
    ∧ (s.live = false → exec .holdReq s = .next s)
    ∧ exec .resumeReq s = .next { s with dom := { s.dom with hostHold := false } }
    ∧ exec .parkReq s = .next (if s.powered && s.mod != .recovery then s.raise 0x7407 0 else s)
    ∧ (∀ h, s.dom.hold = some h →
        exec .holdLimit s = .next (if s.mod = .held ∧ h.res = none then s.raise 0x7304 0 else s)
        ∧ (s.selfReady = true → h.ready = false →
            let rise := boundary (s.frame + 2)
            let own := s.dom.members.findIdx (· == s.node)
            exec .resumeReady s = .next ((({ s with dom := { s.dom with hold := some { h with
              ready := true, ats := Map.set 0 h.ats own (rise + 1) } } } : State).letters 9 0 (resumePayload rise (h.seq % 65536) s.node)).agree))
        ∧ (s.selfReady = false ∨ h.ready = true → exec .resumeReady s = .next s))
    ∧ (s.dom.hold = none → exec .holdLimit s = .next s ∧ exec .resumeReady s = .next s)
    ∧ (∀ limit cause cut, s.res.parking = some (cause, some cut) → s.mod = .held → limit = true ∨ s.allParked = true →
        exec (.parkEntry limit) s = .next (s.enterParked cut)
        ∧ (s.channelLost = true → (s.enterParked cut).mod = .ready)
        ∧ (s.channelLost = false → (s.enterParked cut).mod = .parked ∧ (∀ g, ((s.enterParked cut).core g).issuing = false)
          ∧ (s.enterParked cut).reg64 Reg.RES_CUT_LO % 2 ^ 40 = cut % 2 ^ 40 ∧ (s.enterParked cut).res.parking = none))
    ∧ (∀ limit, s.res.parking = none ∨ s.mod ≠ .held → exec (.parkEntry limit) s = .next s)
    ∧ (∀ slot start, s.host.runArmed = some (slot, start) →
        (start = s.pm → s.mod = .ready → s.dom.joined = true → s.image.loaded = true →
          exec .imageRunStart s = .next ((({ s with host := { s.host with runArmed := none } } : State).beginRun 6 0).answer slot 0))
        ∧ (start ≠ s.pm ∨ s.mod ≠ .ready → exec .imageRunStart s = .next s))
    ∧ (s.host.runArmed = none → exec .imageRunStart s = .next s)
    ∧ (∀ p, s.res.restart = some p →
        let done := ({ s with res := { s.res with restart := none } } : State)
        (p = s.pm → s.mod = .ready → s.rival ≠ some .parked → s.fld Reg.RES_STAT 4 4 = 1 → s.image.loaded = true →
          exec .restart s = .next (done.clearTables.beginRun 6 ((s.step40 - s.image.baseStep) * s.image.period)))
        ∧ (p = s.pm → s.mod = .parked → s.pwr.warn = false ∨ s.pwr.supplyParked = false → s.channelLost = false → s.fld Reg.RES_STAT 4 4 = 1 → s.image.loaded = true →
          exec .restart s = .next (done.clearTables.beginRun 10 ((s.step40 - s.image.baseStep) * s.image.period)))
        ∧ (p = s.pm → (s.mod = .ready ∧ s.rival ≠ some .parked) ∨ s.mod = .parked → s.fld Reg.RES_STAT 4 4 = 0 ∨ s.image.loaded = false →
          exec .restart s = .next (done.raise 0x7406 0))
        ∧ (p = s.pm → s.mod = .parked → s.channelLost = true ∨ (s.pwr.warn = true ∧ s.pwr.supplyParked = true) →
          exec .restart s = .next (done.raise 0x7406 0))
        ∧ (p = s.pm → s.mod = .ready → s.rival = some .parked → exec .restart s = .next (done.transition 10 .running))
        ∧ (p ≠ s.pm ∨ (s.mod ≠ .ready ∧ s.mod ≠ .parked) → exec .restart s = .next s))
    ∧ (s.res.restart = none → exec .restart s = .next s)

/-- R388, R393–R396, R462, R486–R488, R508: mirrors, snapshots, wear, drains and the repair table. A mirror whose packets are all
acknowledged, and a snapshot, complete: the claims on what they read end, the set stands with its header, and a record already formed
follows. A flash error marks the slot's set bad and retires a block. A drain part goes into the next buffer at an EMPTY outbound slot;
SEC appends the repair entry at the head of its queue at the end of the table. Under the flash guard nothing is programmed. -/
def Obligations.StateSets : Prop :=
  ∀ s : State,
    (s.res.mirror = none → exec .mirrorComplete s = .next s)
    ∧ (∀ j dst, s.res.mirror = some j → s.partner = some dst → j.sent.all (s.acked dst) = true → j.record = none →
        exec .mirrorComplete s = .next ((((((({ s with res := { s.res with mirror := none, partner := j.set } } : State).sendPart j.set 0 0x1000 0).1).dropHolds 0).setFld
          Reg.RES_STAT 0 0 0).count Reg.RES_MIRROR_CNT)))
    ∧ (∀ j dst, s.res.mirror = some j → s.partner = some dst → j.sent.all (s.acked dst) = false → exec .mirrorComplete s = .next s)
    ∧ (s.pwr.guard = true ∨ s.res.snap = none → exec .snapshotComplete s = .next s)
    ∧ (∀ j, s.pwr.guard = false → s.res.snap = some j → j.record = none →
        let t := ((({ s with res := { s.res with snap := none } } : State).dropHolds 1).setFld Reg.RES_STAT 1 1 0).count Reg.RES_SNAP_CNT
        let u := (t.setFlashSlot j.slot { j.set with bad := (t.flashSlot j.slot).bad }).flashWrote j.set.cost
        exec .snapshotComplete s = .next (u.appendCounter 2 (u.res.wearTotal / 1000000000)))
    ∧ exec .wear s = .next s.wearCheck
    ∧ (∀ slot : Fin 4, exec (.snapFlashUncorrectable slot) s = .next ((({ s with res := { s.res with
          slots := Map.set {} s.res.slots slot { s.flashSlot slot with bad := true }, grownBad := s.res.grownBad + 1 } } : State).tally 15).raise 0x4501 0))
    ∧ (s.boot.repairQueue = [] → exec .repairAppend s = .next s)
    ∧ (∀ e rest, s.boot.repairQueue = e :: rest →
        let t := ({ s with boot := { s.boot with repairQueue := rest } } : State)
        (s.secUp = false ∨ s.pwr.guard = true → exec .repairAppend s = .next s)
        ∧ (s.secUp = true → s.pwr.guard = false → s.fw.h1Charge = false → s.repairEnd < 32768 →
            exec .repairAppend s = .next (t.flashWrite (Area.repair + 16 * s.repairEnd) e))
        ∧ (s.secUp = true → s.pwr.guard = false → s.fw.h1Charge = true ∨ 32768 ≤ s.repairEnd → exec .repairAppend s = .next (t.raise 0xA007 0)))
    ∧ (∀ ok, s.mayDrain = false → exec (.drainPart ok) s = .next s)
    ∧ (∀ n addr len rest slot, s.mayDrain = true → s.drainSet = some n → s.host.drainBufs = (addr, len) :: rest → s.emptyOutbound = some slot →
        (s.flashSlot n).drainOff < (s.flashSlot n).size →
        exec (.drainPart true) s = .next (s.drainTo n slot addr len)
        ∧ exec (.drainPart false) s = .next (({ s with host := { s.host with drainBufs := rest, drainCount := s.host.drainCount + 1 } } : State).raise 0xB304 0))
    ∧ (∀ slot : Fin 16, s.schUp = false ∨ s.slotState false slot ≠ 3 → exec (.drainPartAnswer slot) s = .next s)
    ∧ (∀ slot : Fin 16, s.schUp = true → s.slotState false slot = 3 →
        exec (.drainPartAnswer slot) s = .next ((s.drainAnswer slot).setSlotState false slot 0))

/-! Start-up, firmware processors and the host's presence (ch. 14, 16). -/

/-- R470–R472, R488: the end of a phase of BOOT is counted in the phase's record and the console, does the phase's work and starts the
next phase; a phase past its limit raises 0xA006 in BOOT alone. Outside BOOT nothing changes, phases 1 to 5 do not end with H1 in
charge, nor phase 3 under the flash guard (R508). After phase 9 the module is READY. -/
def Obligations.BootPhases : Prop :=
  ∀ (r : PhaseEnd) (s : State),
    let n := s.fld Reg.BOOT_STAT 7 4
    let t := Nat.min 0xFFFF ((s.now - s.boot.bootAt) / 600000)
    let ended : State := { s with boot := { s.boot with endTimes := s.boot.endTimes ++ [t] }, out := .uart 1 n :: s.out }
    (s.mod ≠ .boot ∨ (s.fw.h1Charge = true ∧ n ≤ 5) ∨ (s.pwr.guard = true ∧ n = 3) → exec (.bootPhaseEnd r) s = .next s)
    ∧ (s.mod = .boot → s.fw.h1Charge = false → n = 1 → ∃ u : State, exec (.bootPhaseEnd r) s = .next u
        ∧ u.time.pm = 0 ∧ u.boot.pufKey = r.puf.map (fun k => slice k 0 32) ∧ u.fld Reg.BOOT_STAT 7 4 = 2 ∧ u.mod = .boot)
    ∧ (s.mod = .boot → n = 6 → exec (.bootPhaseEnd r) s = .next
        (({ ended with pwr := { s.pwr with dieRails := true } } : State).setFld Reg.BOOT_STAT 7 4 7))
    ∧ (s.mod = .boot → 1 ≤ n → n ≤ 9 → s.fw.h1Charge = false → s.pwr.guard = false ∨ n ≠ 3 → exec (.bootPhaseEnd r) s = .next ((ended.phaseWork n r).phaseNext n t))
    ∧ (∀ u : State, u.rival = none → u.mod = .boot → u.boot.regdefs = [] →
        (u.phaseNext 9 t).mod = .ready ∧ (u.phaseNext 9 t).fld Reg.BOOT_STAT 0 0 = 1)
    ∧ (∀ u : State, u.rival = none → u.mod = .boot → u.boot.cause ≠ 0 → (u.phaseNext 3 t).mod = .recovery)
    ∧ exec .bootOverrun s = .next (if s.mod = .boot then s.raise 0xA006 0 else s)

/-- R419–R427, R438–R440: restarts of firmware processors and the services of control cores. A watchdog, an uncorrectable error and a
violation restart a processor that is up, with their causes 1, 3 and 2; a violation in a restartable compartment restarts that alone and
raises 0x8007; a fifth restart within 60 s, or a copy that mismatches, leaves it held stopped with 0x8006 or 0x800C; a finished restart
takes up its role, and an update that waits for it goes on. LOG and an enabled TRACE write a record and answer their service slot. -/
def Obligations.Processors : Prop :=
  ∀ (p : Fin 256) (kind : Nat) (s : State), kindOf p = some kind →
    let r := s.proc p
    let put := fun (x : Proc) => s.setProc p x
    let recent := r.begun.filter fun t => decide (s.now < t + 36000000000)
    let begins := fun (cause : Nat) =>
      let ok := s.copyChecks p kind (cause == 4)
      (((put { r with st := if ok then .restarting else .heldStopped, restarts := Nat.min 255 (r.restarts + 1), cause := cause, begun := s.now :: recent
                      overrun := false, comp := none }).record 3 p 0 0 cause).tally 10).raiseAll
        ((restartNotice kind, 0) :: if ok then [] else [(0x800C, 0)])
    let tooMany := (put { r with st := .heldStopped }).raise 0x8006 0
    let answers := fun (cause : Nat) => Host.Outcome.next (if 4 ≤ recent.length then tooMany else begins cause)
    (s.up p = true → exec (.watchdogExpiry p) s = answers 1 ∧ exec (.privateMemoryUncorrectable p) s = answers 3
      ∧ exec (.protectionViolation p false) s = answers 2)
    ∧ (s.up p = true → r.comp = none → exec (.protectionViolation p true) s = .next ((put { r with comp := some s.now }).raise 0x8007 0))
    ∧ (s.up p = true → ∀ at', r.comp = some at' → s.now < at' + 600000 → exec (.protectionViolation p true) s = answers 2)
    ∧ (s.up p = false → exec (.watchdogExpiry p) s = .next s ∧ exec (.privateMemoryUncorrectable p) s = .next s
      ∧ (∀ b, exec (.protectionViolation p b) s = .next s))
    ∧ (∀ v : BitVec 32, v.getLsbD 31 = true → v.toNat % 256 = p.val → s.mod ≠ .fenced → s.mod ≠ .recovery → s.up p = true →
        exec (.fwRestart v) s = answers 5)
    ∧ (∀ v : BitVec 32, v.getLsbD 31 = false ∨ s.mod = .fenced ∨ s.mod = .recovery → exec (.fwRestart v) s = .next s)
    ∧ (r.st = .restarting → r.overrun = false → exec (.restartOverrun p) s = .next ((put { r with overrun := true }).raise 0x8005 0))
    ∧ (r.st ≠ .restarting ∨ r.overrun = true → exec (.restartOverrun p) s = .next s)
    ∧ (r.st ≠ .restarting → ∀ n, exec (.restartComplete p n) s = .next s)
    ∧ (r.st = .restarting → kind ≠ 3 → s.copyChecks p kind (r.cause == 4) = true →
        let t := put { r with
          st := if p.val < 8 ∧ p.val / 4 ≠ s.hub then .standby else .running
          lastMs := Nat.min 0xFFF ((s.now - r.begun.headD s.now) / 600000), overrun := false }
        exec (.restartComplete p 0) s = .next (if r.cause = 4 || t.updateAwaits p then t.updateNext (some p.val) else t))
    ∧ (r.st = .restarting → s.copyChecks p kind (r.cause == 4) = false → ∀ n,
        exec (.restartComplete p n) s = .next ((put { r with st := .heldStopped }).raise 0x800C 0))
    ∧ (∀ (g : Fin 384) (n : Fin 4),
        let c := s.core g
        let served := fun (t : State) (v : Nat) => t.onCore g fun c => c.serve n v
        (c.service n = none → exec (.log g n) s = .next s ∧ exec (.trace g n) s = .next s)
        ∧ (∀ v, c.service n = some v → s.ctlUp g = true →
          (v.kind = 1 → exec (.log g n) s = .next (served (s.record 5 (0x10 + g.val / 8) 0 0 0 (s.fillPayload 5 v.arg)) 0))
          ∧ (v.kind = 2 →
              let id := fieldAt v.arg 0 2 % 4096
              (s.traceOn id = true → exec (.trace g n) s = .next
                (served (s.record 4 (0x10 + g.val / 8) 0 0 id (s.fillPayload 4 (slice v.arg 8 8))) 1))
              ∧ (s.traceOn id = false → exec (.trace g n) s = .next (served s 0)))))

/-- R429–R436, R464, R465: the lease between the hubs and the presence of the host. A lease word carries the next number and the state of
H0's scheduler core; its receipt is acknowledged and resets H1's timer, or is refused with 0x800A by an H1 in charge; a lease out of date
makes H1 take charge where HA_W is dead, and raises 0x8008 where it is alive; an unanswered H0 raises 0x8008 or 0x800B. An absent host is
recorded, raises 0xB101 and has its outbound letters withdrawn; the first heartbeat after that clears it and leaves the safe set. -/
def Obligations.LeaseAndHost : Prop :=
  ∀ s : State,
    let f := s.fw
    let put := fun (x : Fw) => { s with fw := x }
    (s.powered = true → exec .leaseWord s = .next (put { f with leaseSeq := f.leaseSeq + 1, leaseSent := some (f.leaseSeq + 1, s.schCode) }))
    ∧ (f.leaseSent = none → exec .leaseWordReceive s = .next s)
    ∧ (∀ seq sch, f.leaseSent = some (seq, sch) →
        (f.h1Charge = true → exec .leaseWordReceive s = .next ((put { f with leaseSent := none }).raise 0x800A 0))
        ∧ (f.h1Charge = false → exec .leaseWordReceive s = .next (put { f with
            leaseSent := none, maxGap := Nat.max f.maxGap (Nat.min 255 ((s.now - f.lastWord) / 600000)), lastWord := s.now, h0SchLast := sch
            expired := false, leaseAck := some seq })))
    ∧ (∀ seq, f.leaseAck = some seq → exec .leaseAckReceive s = .next (put { f with leaseAck := none, unanswered := false }))
    ∧ (f.leaseAck = none → exec .leaseAckReceive s = .next s)
    ∧ (f.h1Charge = true ∨ s.powered = false → exec .leaseExpiry s = .next s ∧ exec .leaseUnanswered s = .next s ∧ exec .bootLeaseTimeout s = .next s)
    ∧ (f.h1Charge = false → s.powered = true →
        exec .leaseExpiry s = .next (if f.haW then (put { f with expired := true }).raise 0x8008 0 else (put { f with expired := true }).takeover)
        ∧ exec .leaseUnanswered s = .next ((put { f with unanswered := true }).raise (if f.haE then 0x8008 else 0x800B) 0)
        ∧ (s.mod = .boot → f.lastWord ≤ s.boot.bootAt → exec .bootLeaseTimeout s = exec .leaseExpiry s)
        ∧ (s.mod ≠ .boot → exec .bootLeaseTimeout s = .next s))
    ∧ (∃ t : State, s.takeover = (t.raiseAll ((0x8009, 0) :: if t.bestRef = none then [(0x7002, 1)] else [])).dpllObey
        ∧ t.fw.h1Charge = true ∧ t.fw.day = [] ∧ t.fld (Reg.at Reg.TIME_DPLL_STAT 1) 2 0 = 3
        ∧ t.time.pm = (s.time.pm + Map.get 0 s.time.skew 5) % 2 ^ 64 ∧ Map.get 0 t.time.skew 5 = 0 ∧ t.cores = s.cores ∧ t.bond = s.bond)
    ∧ (f.hostTimer = true → f.absent = false → f.h1Charge = false →
        exec .hostAbsent s = .next ((((put { f with absent := true, hostParkDue := true }).record 6 0xFF 0 0 0).raise 0xB101 0).withdrawOutbound))
    ∧ (f.hostTimer = false ∨ f.absent = true ∨ f.h1Charge = true → exec .hostAbsent s = .next s)
    ∧ (f.absent = false → exec .heartbeatBump s = .next (put { f with hostTimer := true }))
    ∧ (f.absent = true → exec .heartbeatBump s = .next
        (((put { f with hostTimer := true, absent := false, hostParkDue := false }).record 6 0xFF 0 0 0).safeSet))
    ∧ (∀ k < 8, s.safeSet.reg (Reg.HOST_FEAT_GRANT0 + 4 * k) = if k = 0 then 7 else 0)

/-! Joining, letters, the host's registers (ch. 12, 15). -/

/-- R346–R348, R463: a second loads its postmark once in step 3 of a join; probe n goes to the other members in turn, 64 rounds of them;
each join step ends on its condition and the last one joins the module; a step past its limit leaves it unjoined with 0x7306. A live word
is written for the claim that waits for it, once for each core. -/
def Obligations.JoinSteps : Prop :=
  ∀ s : State,
    let dom := fun (d : Dom) => { s with dom := d }
    (∀ k, s.mod = .ready → s.dom.joinStep = 3 → s.dom.pmLoaded = false →
      exec (.postmarkLoad k) s = .next { s with
        time := { s.time with pm := 600000000 * k % 2 ^ 64, skew := [], phaseGood := 0, phaseBad := 0 }, dom := { s.dom with pmLoaded := true } })
    ∧ (∀ k, s.mod ≠ .ready ∨ s.dom.joinStep ≠ 3 ∨ s.dom.pmLoaded = true → exec (.postmarkLoad k) s = .next s)
    ∧ (s.mod = .ready → s.dom.joinStep = 4 → s.dom.probesSent < 64 * s.others.length →
        let k := s.dom.probesSent
        exec .probeTransmit s = .next (({ s with freeIx := s.freeIx + 1, dom := { s.dom with probesSent := k + 1 } } : State).letter 10
          (s.others.getD (k % s.others.length) 0) 0
          (probePayload (k / s.others.length) (s.fld Reg.DOM_POSITION 24 16) s.pm 0 0 ((Config.freeValue s.freeIx).toNat % 1667) 0 0)))
    ∧ (s.mod ≠ .ready ∨ s.dom.joinStep ≠ 4 → exec .probeTransmit s = .next s)
    ∧ (s.mod = .ready → s.dom.joinStep = 2 → s.dpll = 2 → s.activeRef = s.dom.syncE →
        ∃ t : State, exec .joinStepDone s = .next { t with dom := { s.dom with joinStep := 3, pmLoaded := false } } ∧ t = { s with time := t.time })
    ∧ (s.mod = .ready → s.dom.joinStep = 3 → s.dom.pmLoaded = true → 8 ≤ s.time.phaseGood →
        exec .joinStepDone s = .next (dom { s.dom with joinStep := 4, probesSent := 0, lat := [] }))
    ∧ (s.mod = .ready → s.dom.joinStep = 4 →
        (∀ i < s.dom.members.length, s.dom.members.getD i 0 = s.node ∨ 48 ≤ probesAnswered (s.latency i)) →
        exec .joinStepDone s = .next s.joinedNow ∧ s.joinedNow.dom.joined = true ∧ s.joinedNow.dom.joinStep = 0)
    ∧ (s.mod ≠ .ready ∨ s.dom.joinStep < 2 → exec .joinStepDone s = .next s)
    ∧ (2 ≤ s.dom.joinStep → s.dom.joinSlot = none → exec .joinTimeout s = .next
        (((dom { s.dom with joinStep := 0, joined := false, joinSlot := none }).setFld Reg.DOM_IDENT 9 0 0).raise 0x7306 0))
    ∧ (∀ n, 2 ≤ s.dom.joinStep → s.dom.joinSlot = some n → exec .joinTimeout s = .next
        ((((dom { s.dom with joinStep := 0, joined := false, joinSlot := none }).setFld Reg.DOM_IDENT 9 0 0).answer n 1 0x7306).raise 0x7306 0))
    ∧ (s.dom.joinStep < 2 → exec .joinTimeout s = .next s)
    ∧ (∀ (slot : Fin 16) (g : Fin 384),
        (s.host.micro = [] → exec (.liveWordWrite slot g) s = .next s)
        ∧ (∀ m b k, s.host.micro = [m] → m.slot = slot.val → g.val ∈ m.cores → s.bucketOf m.pass = some b → s.liveClaim g m b = some k →
            s.live = true → s.schUp = true →
            exec (.liveWordWrite slot g) s = .next
              ((((s.onCore g fun c => c.writeSpace 2 b.liveAddr (leBytes 8 m.word) 0).countLanded g k 8).liveWritten g m).settle)))

/-- R460–R463, R404, R406, R437, R489: host letters. A letter that is not COLLECTED in its slot, is of another type, waits behind another
control letter, or finds no scheduler core running changes nothing; one not accepted in the module's state is answered with STATUS 6. Then
each does what its row says, and is answered. -/
def Obligations.HostLetters : Prop :=
  ∀ (slot : Fin 16) (data : Option (List Byte)) (s : State),
    let pay := fun (o n : Nat) => s.pay slot o n
    let rows : List (Instr × Nat) :=
      [(.negotiate slot, 1), (.recoverReq slot, 2), (.update slot data, 3), (.imageLoad slot, 4), (.join slot, 5), (.run slot, 6),
       (.microbatch slot data, 7), (.restore slot data, 8), (.releaseLetter slot, 9), (.drainBuffers slot, 10), (.fill slot data, 11),
       (.attest slot true, 12)]
    let here := fun (ty : Nat) => s.slotState true slot = 2 ∧ s.slotGet true slot 4 1 = ty ∧ s.schUp = true
      ∧ (isControl ty = true → s.host.control.head? = some slot.val)
    let goes := fun (ty : Nat) => here ty ∧ accepts ty s.mod = true
    (∀ r ∈ rows, (¬ here r.2 → exec r.1 s = .next s) ∧ (here r.2 → accepts r.2 s.mod = false → r.2 ≠ 9 ∨ s.parkedYet = false → exec r.1 s = .next (s.answer slot 6)))
    ∧ (goes 1 → ∃ t : State, ∃ l : List Byte, exec (.negotiate slot) s = .next (t.answer slot (if pay 0 2 = s.fld Reg.HOST_IF_VERSION 31 16 then 0 else 8) 0 l)
        ∧ (∀ k < 8, t.reg (Reg.HOST_FEAT_WANT0 + 4 * k) = pay (0x20 + 4 * k) 4
            ∧ (k ≠ 0 → t.reg (Reg.HOST_FEAT_GRANT0 + 4 * k) =
                if pay 0 2 = s.fld Reg.HOST_IF_VERSION 31 16 then Nat.land (s.reg (Reg.HOST_FEAT_OFFER0 + 4 * k)) (pay (0x20 + 4 * k) 4) else 0))
        ∧ t.host = { s.host with drainCount := 0 } ∧ t.cores = s.cores ∧ t.bond = s.bond)
    ∧ (goes 2 → s.secUp = true → s.pwr.guard = false →
        exec (.recoverReq slot) s = .next ((({ s with boot := { s.boot with recover := true } } : State).appendCounter 3 1).answer slot 0))
    ∧ (goes 3 → ∀ k, s.fw.update = some (slot.val, k) → exec (.update slot data) s = .next s)
    ∧ (goes 3 → (∃ u, s.fw.update = some u ∧ u.1 ≠ slot.val) ∨ (s.fw.update = none ∧ s.secUp = false) → exec (.update slot data) s = .next ((s.answer slot 1 0x800D).raise 0x800D 0))
    ∧ (goes 3 → s.fw.update = none → s.secUp = true → ∀ l, data = some l → l.length = pay 4 4 → imageFields (pay 0 1) l = true →
        s.imageSigned l = true →
        let t := (List.range 2).foldl (fun (t : State) h => t.setCached h (pay 0 1) true l) s
        exec (.update slot data) s = .next (({ t with fw := { t.fw with update := some (slot.val, pay 0 1) } } : State).updateNext none))
    ∧ (goes 4 → s.inService (pay 0 8) (pay 8 8) = false → exec (.imageLoad slot) s = .next (s.answer slot 5))
    ∧ (goes 4 → s.inService (pay 0 8) (pay 8 8) = true → s.secUp = true →
        exec (.imageLoad slot) s = .next (match s.loadImage (pay 0 8) (pay 8 8) with
          | .ok t => t.answer slot 0
          | .error (code, inst) => (s.answer slot 1 code).raise code inst))
    ∧ (goes 5 → s.dom.joinStep = 0 → 0x20 + 2 * pay 2 2 ≤ s.slotGet true slot 6 2 → s.slotGet true slot 6 2 ≤ 2016 →
        exec (.join slot) s = .next (if s.joinRecordOk slot then s.beginJoin slot else (s.answer slot 1 0x7305).raise 0x7305 0))
    ∧ (goes 6 → s.dom.joined = true → s.image.loaded = true → pay 0 8 % 65536 = 0 → s.pm < pay 0 8 →
        exec (.run slot) s = .next { s with host := { s.host with runArmed := some (slot.val, pay 0 8) } })
    ∧ (goes 6 → s.dom.joined = false ∨ s.image.loaded = false → exec (.run slot) s = .next (s.answer slot 6))
    ∧ (goes 6 → s.dom.joined = true → s.image.loaded = true → pay 0 8 % 65536 = 0 → pay 0 8 ≤ s.pm →
        exec (.run slot) s = .next ((s.answer slot 1 0x730A).raise 0x730A 0))
    ∧ (goes 7 → (s.host.micro.any fun m => m.slot == slot.val) = false → pay 0 8 % 2 ^ 40 = s.step40 → s.inService (pay 0x28 8) (pay 0x20 8) = true →
        ∀ b l, s.bucketOf (pay 8 2) = some b → pay 0xC 4 ≤ b.tokens → pay 0x10 4 ≤ b.seqMax → data = some l → l.length = pay 0x20 8 →
        let t := s.writeBond (pay 0x28 8) l 0
        exec (.microbatch slot data) s = .next (if (s.liveCores b).isEmpty then t.answer slot 0 else { t with host := { t.host with
          micro := t.host.micro ++ [{ slot := slot.val, step := pay 0 8 % 2 ^ 40, pass := pay 8 2, word := pay 0xC 4 + pay 0xA 2 * 2 ^ 32
                                      cores := s.liveCores b }] } }))
    ∧ (goes 8 → s.mod = .parked → pay 8 1 = 0 → pay 0x10 8 % 65536 = 0 → s.reg64 Reg.RES_CUT_LO % 2 ^ 40 = pay 0 8 → s.res.cutMapOut = false → s.channelLost = false →
        s.res.tornRestore = false → bit (pay 0xA 1) 0 = false →
        exec (.restore slot data) s = .next ((s.beginRestore (pay 0x10 8)).restored slot (pay 0 8) none))
    ∧ (goes 8 → s.mod = .parked → 2 < pay 8 1 ∨ pay 0x10 8 % 65536 ≠ 0 → exec (.restore slot data) s = .next (s.answer slot 5))
    ∧ (goes 9 → (s.pwr.warn && s.pwr.supplyParked) = false → exec (.releaseLetter slot) s = .next (s.leaveParked.answer slot 0))
    ∧ (goes 10 → exec (.drainBuffers slot) s = .next (if s.bufsOk slot (pay 0 2) then
        ({ s with host := { s.host with drainBufs := s.host.drainBufs ++ s.bufEntries slot (pay 0 2) } } : State).answer slot 0 else s.answer slot 5))
    ∧ (goes 11 → s.pwr.guard = false → s.fw.absent = false → bit (pay 0 1) 0 = true → pay 8 8 = 0 → s.bufsOk slot (pay 2 2) = true →
        ∀ k l, s.chooseSlot = some k → data = some l → l.length = ((s.bufEntries slot (pay 2 2)).map fun e => e.2).sum →
        l.length ≤ 2 * slotBytes →
        exec (.fill slot data) s = .next (s.fillPart slot k 0 (bit (pay 0 1) 1) l))
    ∧ (goes 12 → s.secUp = true → 14877 ≤ pay 0x28 4 → ∀ key, s.boot.pufKey = some key → s.fld Reg.SEC_STAT 2 2 = 1 →
        let body := s.reportBody (s.slotBytes true slot 0x20 32)
        let sig := Config.mldsaSign (identitySeed key) (shake512 body) (Config.random s.freeIx)
        exec (.attest slot true) s = .next (({ s with
          freeIx := s.freeIx + 1, out := .hostWrite (pay 0x20 8) (body ++ slice sig 0 3309) :: s.out } : State).answer slot 0 0 (leBytes 4 14877)))

/-- R10, R11, R451: registers. A field written by its accessor reads back and leaves the register's other bits and every other register;
a status event sets its bit and takes the next number; a sequence clear clears exactly the bits it names whose latest event is not newer
than its number, nothing where its number lies more than 127 behind; and counters do not wrap. -/
def Obligations.Registers : Prop :=
  (∀ (s : State) (o hi lo x : Nat), lo ≤ hi → hi < 32 → x < 2 ^ (hi + 1 - lo) →
    (s.setFld o hi lo x).fld o hi lo = x
    ∧ (∀ h l, h < lo ∨ hi < l → h < 32 → (s.setFld o hi lo x).fld o h l = s.fld o h l)
    ∧ ∀ p ≠ o, (s.setFld o hi lo x).reg p = s.reg p)
  ∧ (∀ (s : State) (o n : Nat), (s.count o n).reg o = Nat.min (s.reg o + n) 0xFFFFFFFF ∧ ∀ p ≠ o, (s.count o n).reg p = s.reg p)
  ∧ (∀ (s : State) (o b : Nat), b < 24 →
      let t := s.event o b
      t.fld o 31 24 = (s.fld o 31 24 + 1) % 256 ∧ t.fld o b b = 1 ∧ (∀ j < 24, j ≠ b → t.fld o j j = s.fld o j j)
      ∧ Map.get 0 t.seqOf (o * 32 + b) = t.fld o 31 24 ∧ ∀ p ≠ o, t.reg p = s.reg p)
  ∧ (∀ (s : State) (off : BitVec 26) (v : BitVec 32) (d : RegDef), Reg.find? off.toNat = some d → d.sqc ≠ 0 → s.endpointUp = true →
      s.blockUp off.toNat = true →
      let w := v.toNat / 2 ^ 24
      let q := s.fld off.toNat 31 24
      ((q + 256 - w) % 256 ≤ 127 →
        ∃ t : State, exec (.sequenceClear off v) s = .next (t.dropErrLocs off.toNat)
          ∧ (∀ j < 24, t.fld off.toNat j j =
              if d.sqc.testBit j = true ∧ v.getLsbD j = true ∧ (w + 256 - Map.get 0 s.seqOf (off.toNat * 32 + j) % 256) % 256 ≤ 127 then 0
              else s.fld off.toNat j j)
          ∧ t.fld off.toNat 31 24 = q ∧ t = { s with regs := t.regs } ∧ (∀ p ≠ off.toNat, t.reg p = s.reg p))
      ∧ (127 < (q + 256 - w) % 256 → exec (.sequenceClear off v) s = .next s))
  ∧ (∀ (s : State) (off : BitVec 26) (v : BitVec 32), Reg.find? off.toNat = none → exec (.sequenceClear off v) s = .next s)

/-- R443–R453, R457, R458, R465, R468: what the host does beside letters. A slot's STATE goes from EMPTY to POSTED and from ANSWERED to
EMPTY in an inbound slot, from POSTED to COLLECTED and to ANSWERED in an outbound one; any other write is refused, with 0xB203 once a
frame. A snap selection drops VALID and its capture fills the words with VALID and a new GEN. A partial write of a register is dropped
and noted. The memory window takes writes in READY and PARKED where it is granted and enabled, and refuses others with 0xB302 once a frame. -/
def Obligations.HostInterface : Prop :=
  ∀ s : State, s.endpointUp = true → s.mod ≠ .recovery →
    let refused := if s.host.slotWriteFrame = some s.frame then s.event Reg.MBX_STAT 16
      else ({ s with host := { s.host with slotWriteFrame := some s.frame } } : State).raise 0xB203 0
    (∀ (slot : Fin 16) (v : BitVec 32),
      let k := v.toNat % 4
      let inb := s.slotState true slot
      let outb := s.slotState false slot
      (inb = 0 → k = 1 → ∃ t : State, exec (.slotStateWrite false slot v) s = .next t ∧ t.slotState true slot = 1
        ∧ t.host.posted = s.host.posted ++ [slot.val] ∧ t.regs = s.regs ∧ t.cores = s.cores)
      ∧ (inb = 3 → k = 0 → ∃ t : State, exec (.slotStateWrite false slot v) s = .next t ∧ t.slotState true slot = 0
        ∧ t.host.posted = s.host.posted ∧ t.regs = s.regs ∧ t.cores = s.cores)
      ∧ (outb = 1 → k = 2 → ∃ t : State, exec (.slotStateWrite true slot v) s = .next t ∧ t.slotState false slot = 2 ∧ t.regs = s.regs)
      ∧ (outb = 2 → k = 3 → ∃ t : State, exec (.slotStateWrite true slot v) s = .next t ∧ t.slotState false slot = 3 ∧ t.regs = s.regs)
      ∧ (¬ (inb = 0 ∧ k = 1) → ¬ (inb = 3 ∧ k = 0) → exec (.slotStateWrite false slot v) s = .next refused)
      ∧ (¬ (outb = 1 ∧ k = 2) → ¬ (outb = 2 ∧ k = 3) → exec (.slotStateWrite true slot v) s = .next refused))
    ∧ (∀ v : BitVec 32, ∃ t : State, exec (.snapSel v) s = .next t ∧ t.host.snapPending = some (v.toNat % 65536, s.pm)
        ∧ t.fld Reg.HOST_SNAP_STAT 31 31 = 0 ∧ t.fld Reg.HOST_SNAP_STAT 15 0 = v.toNat % 65536 ∧ t = { s with regs := t.regs, host := t.host })
    ∧ (s.host.snapPending = none → exec .snapCapture s = .next s)
    ∧ (∀ sel pm l, s.host.snapPending = some (sel, pm) → s.capture sel pm = some l → (∀ x ∈ l, x < 2 ^ 32) →
        ∃ t : State, exec .snapCapture s = .next t ∧ (∀ k < 8, t.reg (Reg.HOST_SNAP_D0 + 4 * k) = l.getD k 0)
          ∧ t.fld Reg.HOST_SNAP_STAT 31 30 = 2 ∧ t.fld Reg.HOST_SNAP_STAT 23 16 = (s.fld Reg.HOST_SNAP_STAT 23 16 + 1) % 256
          ∧ t.host.snapPending = none)
    ∧ (∀ (off : BitVec 26) (v : BitVec 32) (d : RegDef), off.toNat % 4 = 0 → off.toNat < 0x300000 → Reg.find? off.toNat = some d →
        (∀ be : BitVec 4, be ≠ 0xF#4 → exec (.registerWrite off v be) s = .next (s.event Reg.HOST_STAT 17))
        ∧ (s.blockUp off.toNat = true → exec (.registerWrite off v 0xF#4) s = .next (s.regWrite off.toNat v.toNat d))
        ∧ (s.blockUp off.toNat = false → exec (.registerWrite off v 0xF#4) s = .next s))
    ∧ (∀ (o : BitVec 36) (data : List Byte),
        let open' := (s.mod = .ready ∨ s.mod = .parked) ∧ s.granted 10 = true ∧ s.fld Reg.HOST_WIN_CTL 31 31 = 1
        (open' → exec (.bar2Write o data) s = .next (s.writeBond (s.winAddr o.toNat) data 0))
        ∧ (¬ open' → let t := s.event Reg.HOST_STAT 20
            exec (.bar2Write o data) s = .next (if t.host.winRefusedFrame = some t.frame then t
              else ({ t with host := { t.host with winRefusedFrame := some t.frame } } : State).raise 0xB302 0)))
    ∧ (s.host.posted = [] → exec .endpointReset s = .next
        (((({ (((s.setReg Reg.HOST_WIN_CTL 0).setReg64 Reg.HOST_WIN_BASE_LO 0).safeSet) with
          host := { s.host with posted := [], msixTable := [] } } : State).withdrawOutbound.count Reg.HOST_RESET_CNT)).raise 0xB301 0))
    ∧ exec .aerUncorrectable s = .next (s.raise 0xB303 0)

/-- R495–R498, R508: recovery letters. Outside RECOVERY, or with nothing posted in slot 0, they change nothing; there the letter of the
row's type is collected and answered. An ERASE erases its area and opens it for WRITEs; a WRITE that is allowed programs its bytes, and
compares them; a COMMIT closes the area and tells whether it checks; an ENROLL replaces the OWNER area. The flash guard holds back those
that program. -/
def Obligations.RecoveryLetters : Prop :=
  ∀ (data cells : Option (List Byte)) (s : State),
    let rows : List (Instr × Nat) := [(.info, 0x41), (.erase, 0x42), (.recoveryWrite data cells, 0x43), (.commit, 0x44), (.enroll data, 0x45)]
    let t := s.collectSlot 0
    let goes := fun (ty : Nat) => s.mod = .recovery ∧ s.slotState true 0 = 1 ∧ s.slotGet true 0 4 1 = ty ∧ s.pwr.guard = false
    let a := t.pay 0 0 1
    let area := recoveryArea a
    (∀ r ∈ rows, s.mod ≠ .recovery ∨ s.slotState true 0 ≠ 1 → exec r.1 s = .next s)
    ∧ (s.pwr.guard = true → exec .erase s = .next s ∧ exec (.recoveryWrite data cells) s = .next s ∧ exec (.enroll data) s = .next s)
    ∧ (∀ r ∈ rows, goes 0x40 → exec r.1 s = .next (t.answer 0 4))
    ∧ (goes 0x41 → ∃ l : List Byte, exec .info s = .next (t.answer 0 0 0 l) ∧ (l.drop 4).take 4 = [1, 2, 3, 4].map fun k => BitVec.ofNat 8 (t.areaState k))
    ∧ (goes 0x42 → a = 1 ∨ a = 3 ∨ a = 4 →
        ∃ u : State, exec .erase s = .next (u.answer 0 0)
          ∧ (∀ i, area ≤ i → i < area + areaSize area → u.flashByte i = 0xFF#8)
          ∧ (∀ i, i < area ∨ area + areaSize area ≤ i → u.flashByte i = s.flashByte i)
          ∧ a ∈ u.boot.erased ∧ (∀ w ∈ u.boot.written, w.1 ≠ a) ∧ u.regs = t.regs ∧ u.host = t.host)
    ∧ (goes 0x42 → a ≠ 1 → a ≠ 3 → a ≠ 4 → exec .erase s = .next (t.answer 0 5))
    ∧ (goes 0x43 → t.writeAllowed a (t.pay 0 4 4) (t.pay 0 0x10 4) = false →
        exec (.recoveryWrite data cells) s = .next ((t.answer 0 1 0xA008).raise 0xA008 0))
    ∧ (goes 0x43 → t.writeAllowed a (t.pay 0 4 4) (t.pay 0 0x10 4) = true → ∀ l, data = some l → l.length = t.pay 0 0x10 4 → cells = none →
        let p := area + t.pay 0 4 4
        ∃ u : State, exec (.recoveryWrite data cells) s = .next (u.answer 0 0)
          ∧ (∀ i, u.flashByte i = if p ≤ i ∧ i < p + l.length then byteAt l (i - p) else s.flashByte i)
          ∧ u.boot.written = (a, t.pay 0 4 4, l.length) :: s.boot.written ∧ u.regs = t.regs)
    ∧ (goes 0x44 → a = 1 ∨ a = 3 ∨ a = 4 →
        let u := { t with boot := { t.boot with erased := t.boot.erased.filter (· != a) } }
        exec .commit s = .next (if u.areaOk a then u.answer 0 0 else (u.answer 0 9 0xA009).raise 0xA009 0))
    ∧ (goes 0x45 → ∀ b, data = some b → b.length = 5376 →
        (t.enrolOk b = false → exec (.enroll data) s = .next ((t.answer 0 1 0xA008).raise 0xA008 0))
        ∧ (t.enrolOk b = true → fieldAt b 0x20 1 % 2 = 1 →
            exec (.enroll data) s = .next ((t.flashErase Area.owner (areaSize Area.owner)).answer 0 0))
        ∧ (t.enrolOk b = true → fieldAt b 0x20 1 % 2 = 0 →
            exec (.enroll data) s = .next (((((t.flashErase Area.owner (areaSize Area.owner)).flashWrite Area.owner (leBytes 4 1)).flashWrite
              (Area.owner + 0x40) (slice b 0x40 1952))).answer 0 0)))

/-! The sideband and the test access port (ch. 17). -/

/-- R523–R527: with the power core of the hub in charge running, each request is answered once, and with the state it asks for; Park asks
for a park, the two IDs are set where they are valid, and fault records are given from a number on, four at most. While that core restarts
a request is answered busy and has no effect; with none at all nothing is answered; in STANDBY the sideband management answers by itself
(R3). (The codes of the standards are the model's, log 8.)
R520, R524: the test access port, from STANDBY onward. BYPASS delays what is shifted by one bit; IDCODE shifts its 32 bits, bit 0
first; SAMPLE/PRELOAD captures every pin and loads the stage; EXTEST does so in STANDBY and then drives the preloaded levels, and acts as
BYPASS elsewhere. -/
def Obligations.Sideband : Prop :=
  (∀ (b : BitVec 8) (h : BitVec 16) (w : BitVec 32) (seq : Nat) (s : State),
    let say := fun (t : State) (l : List Byte) => Host.Outcome.next { t with out := .sideband l :: t.out }
    let vendor := fun (cmd status : Nat) (l : List Byte) => leBytes 1 0x7F ++ (leBytes 4 (s.reg Reg.PWR_IANA)).reverse ++ leBytes 1 cmd ++ leBytes 1 status ++ l
    let mctp := fun (cmd code : Nat) (l : List Byte) => leBytes 1 0 ++ leBytes 1 cmd ++ leBytes 1 code ++ l
    let pldm := fun (ty cmd code : Nat) (l : List Byte) => leBytes 1 1 ++ leBytes 1 ty ++ leBytes 1 cmd ++ leBytes 1 code ++ l
    let rows : List (Instr × List Byte) :=
      [(.getState, vendor 1 1 []), (.getFaults seq, vendor 2 1 []), (.park, vendor 3 1 []), (.setEndpointId b, mctp 1 4 []), (.getEndpointId, mctp 2 4 []),
       (.getMctpVersionSupport b, mctp 4 4 []), (.getMessageTypeSupport, mctp 5 4 []), (.setTid b, pldm 0 1 4 []), (.getTid, pldm 0 2 4 []),
       (.getPldmVersion b, pldm 0 3 4 []), (.getPldmTypes, pldm 0 4 4 []), (.getPldmCommands b, pldm 0 5 4 []), (.getSensorReading h, pldm 2 0x11 4 []),
       (.getStateSensorReadings h, pldm 2 0x21 4 []), (.getPdrRepositoryInfo, pldm 2 0x50 4 []), (.getPdr w, pldm 2 0x51 4 [])]
    let given := ((s.faultQueue.filter fun r => decide (seq ≤ r.seq)).take 4)
    (∀ r ∈ rows, (s.sidebandUp = false → exec r.1 s = .next s)
      ∧ (s.sidebandUp = true → s.mod ≠ .standby → s.pwrCore.st ≠ .running → exec r.1 s = say s r.2))
    ∧ (s.pwrCore.st = .running ∨ s.mod = .standby →
        exec .getState s = say s (vendor 1 0 (leBytes 4 s.fwState ++ leBytes 4 (s.view Reg.HLT_SCORE)))
        ∧ exec (.getFaults seq) s = say { s with fw := { s.fw with faultSeen := given.foldl (fun m r => Nat.max m r.seq) s.fw.faultSeen } }
            (vendor 2 0 (given.flatMap DRec.bytes))
        ∧ (∃ t : State, t = s.parkReq ∧ exec .park s = say t (leBytes 1 0x7F ++ (leBytes 4 (t.reg Reg.PWR_IANA)).reverse ++ leBytes 1 3 ++ leBytes 1 0 ++ []))
        ∧ (b ≠ 0#8 → b ≠ 0xFF#8 → exec (.setEndpointId b) s = say { s with pwr := { s.pwr with eid := b.toNat } } (mctp 1 0 [0#8, b, 0#8])
            ∧ exec (.setTid b) s = say (s.setFld Reg.PWR_SMBUS 15 8 b.toNat) (pldm 0 1 0 []))
        ∧ (b = 0#8 ∨ b = 0xFF#8 → exec (.setEndpointId b) s = say s (mctp 1 2 []) ∧ exec (.setTid b) s = say s (pldm 0 1 2 []))
        ∧ exec .getEndpointId s = say s (mctp 2 0 (leBytes 1 s.pwr.eid ++ leBytes 2 0))
        ∧ (b = 0#8 ∨ b = 1#8 ∨ b = 0x7F#8 ∨ b = 0xFF#8 → ∃ l : List Byte, l.length = 4 ∧ exec (.getMctpVersionSupport b) s = say s (mctp 4 0 (1#8 :: l)))
        ∧ exec .getMessageTypeSupport s = say s (mctp 5 0 [2#8, 0x01#8, 0x7F#8])
        ∧ exec .getTid s = say s (pldm 0 2 0 (leBytes 1 (s.fld Reg.PWR_SMBUS 15 8)))
        ∧ exec (.getPldmVersion 2#8) s = say s (pldm 0 3 0 (Config.pldmData 3 2))
        ∧ exec .getPldmTypes s = say s (pldm 0 4 0 (leBytes 8 5))
        ∧ exec (.getPldmCommands 0#8) s = say s (pldm 0 5 0 (leBytes 32 0x3E))
        ∧ (∀ v, s.sensor h.toNat = some v →
            ∃ l : List Byte, l.length = 6 ∧ exec (.getSensorReading h) s = say s (pldm 2 0x11 0 (l ++ leBytes 2 v)))
        ∧ (s.sensor h.toNat = none → exec (.getSensorReading h) s = say s (pldm 2 0x11 0x80 []))
        ∧ exec (.getStateSensorReadings 40#16) s = say s (pldm 2 0x21 0
            (leBytes 1 1 ++ leBytes 1 0 ++ leBytes 1 s.mod.code ++ leBytes 1 s.fw.prev.code ++ leBytes 1 s.mod.code))
        ∧ exec .getPdrRepositoryInfo s = say s (pldm 2 0x50 0 (Config.pldmData 0x50 0))
        ∧ exec (.getPdr w) s = say s (pldm 2 0x51 0 (Config.pldmData 0x51 w.toNat))))
  ∧ (∀ (l : List (Pin × Bool)) (shift : List Bool) (s : State),
    let out := fun (t : State) (ir : Nat) (v : List Bool) => Host.Outcome.next { t with pwr := { t.pwr with tapIr := ir }, out := .tdo v :: t.out }
    let cap := allPins.map fun p => (p, s.pinLevel l p)
    let scanned : State := { s with pwr := { s.pwr with tapSample := cap, tapPreload := allPins.zip shift } }
    (s.mod = .off → exec (.bypass shift) s = .next s ∧ exec .idcode s = .next s ∧ exec (.samplePreload l shift) s = .next s
      ∧ exec (.extest l shift) s = .next s)
    ∧ (s.mod ≠ .off →
        exec (.bypass shift) s = out s 0 (bypassed shift)
        ∧ exec .idcode s = out s 1 ((List.range 32).map fun i => s.idcode.testBit i)
        ∧ exec (.samplePreload l shift) s = out scanned 2 (cap.map fun e => e.2)
        ∧ (s.mod = .standby → exec (.extest l shift) s = out scanned 3 (cap.map fun e => e.2))
        ∧ (s.mod ≠ .standby → exec (.extest l shift) s = out s 0 (bypassed shift)))
    ∧ ((bypassed shift).length = shift.length ∧ ∀ i : Nat, i + 1 < shift.length → (bypassed shift)[i + 1]? = shift[i]?))
/-! The whole block. -/

/-- A step takes the command at the front of the queue and answers what that command answers on the state with the rest of the queue. -/
def Obligations.StepTakesFront : Prop :=
  ∀ (c : Instr) (r : List Instr) (s : State), s.pending = c :: r → step s = exec c { s with pending := r }

/-- Every command of every kind goes on, but for the forms of core instructions that the image check refuses (R62, R83, R118, R129–R132,
R136, R137, R354): those, and no others, are refused as ill-formed, by name. -/
def Obligations.CommandsGoOn : Prop :=
  ∀ (i : Instr) (s : State),
    let none' := fun (code : Nat) => s.fmt code = none
    let stops : Prop := i.wellFormed = false ∨ match i with
      | .rload g _ d _ => none' ((s.core g).descAt d).fmt ∨ operandCode ((s.core g).descAt d).fmt = false
      | .stream g _ d _ _ _ _ _ => none' ((s.core g).descAt d).fmt ∨ operandCode ((s.core g).descAt d).fmt = false
      | .gclose g _ d _ _ => none' ((s.core g).descAt d).dfmt ∨ ((s.core g).descAt d).dfmt = 9
      | .vld _ fmt _ _ _ _ _ => none' fmt
      | .tmov _ fmt _ _ _ tr => none' fmt ∨ (tr = true ∧ ∃ t, s.fmt fmt = some t ∧ t.hasScale = true)
      | .tfill _ fmt _ _ => none' fmt
      | .gopenLoad _ fmt _ _ _ _ _ => none' fmt
      | .vcvts _ _ _ _ _ _ fmt => none' fmt
      | .loop g _ _ => 4 ≤ (s.core g).loops.length
      | .seg g => (s.core g).loops ≠ []
      | .expect g space entry => ((s.core g).relEnt entry).valid = false ∨ ((s.core g).relEnt entry).space ≠ space.val
      | _ => False
    (stops → ∃ name, exec i s = .refused (.illFormed name)) ∧ (¬ stops → ∃ t, exec i s = .next t)

/-- R114, R122, R125, R126, R131, R132, R136, R137: every instruction that a slot can hold decodes from its word in that slot with every
operand, the word fits the slot, and a bundle of six words yields the six slots; beside a TWIN array slot B must be a NOP. -/
def Obligations.SlotEncodings : Prop :=
  (∀ (i : Instr) (w : Nat),
    (∀ arr, encodeArray arr i = some w → w < 2 ^ 40 ∧ ∃ g, arraySlot g arr w = .instr i)
    ∧ (encodeVector i = some w → w < 2 ^ 64 ∧ ∃ g, vectorSlot g w = .instr i)
    ∧ (encodeMove i = some w → w < 2 ^ 48 ∧ ∃ g, moveSlot g w = .instr i)
    ∧ (∀ t, encodeScalar t i = some w → w < 2 ^ 40 ∧ ∃ g, scalarSlot g t w = .instr i)
    ∧ (encodeSync i = some w → w < 2 ^ 24 ∧ ∃ g, syncSlot g w = .instr i))
  ∧ (∀ (g : Fin 384) (a b v m c y : Nat), a < 2 ^ 40 → b < 2 ^ 40 → v < 2 ^ 64 → m < 2 ^ 48 → c < 2 ^ 40 → y < 2 ^ 24 →
      let x := bundle g (a * 2 ^ 216 + b * 2 ^ 176 + v * 2 ^ 112 + m * 2 ^ 64 + c * 2 ^ 24 + y)
      x.a = arraySlot g .a a ∧ x.vec = vectorSlot g v ∧ x.move = moveSlot g m ∧ x.scal = scalarSlot g 0 c ∧ x.sync = syncSlot g y
      ∧ ((∀ d xa xn sw gr st, x.a ≠ .instr (.twin g d xa xn sw gr st)) → x.b = arraySlot g .b b)
      ∧ (∀ d xa xn sw gr st, x.a = .instr (.twin g d xa xn sw gr st) → x.b = if arraySlot g .b b = .nop then .nop else .bad))

/-- R440, R469, R470: right after reset the module is in phase 1 of BOOT, entered from STANDBY with event 2, with postmark 0, no command
waiting, SEC running on H0 and standing by on H1 and no other processor up, nothing joined, loaded or held, and every port down. -/
def Obligations.ResetState : Prop :=
  let s := State.reset
  s.mod = .boot ∧ s.fw.prev = .standby ∧ s.fw.event = 2 ∧ s.pending = [] ∧ s.time.pm = 0
  ∧ (s.proc 0).st = .running ∧ (s.proc 4).st = .standby ∧ (∀ p < 64, p ≠ 0 → p ≠ 4 → (s.proc p).st = .stopped)
  ∧ s.dom.joined = false ∧ s.dom.hold = none ∧ s.image.loaded = false ∧ s.stepSt.decision = none
  ∧ (∀ p : Fin 8, (s.port p).link = 0) ∧ (∀ g : Fin 384, (s.core g).issuing = false) ∧ s.fw.h1Charge = false
end

