-- ==== Sys2Proof/Laws/MapOps.lean ====
section
/-!
SUPPORT. The laws of sparse maps: reading after a write, that every operation keeps the canonical form, and that equal contents in
canonical form are equal data.
-/
namespace Sys2Proof

variable {α : Type}

/-- Keys strictly rising, as a pairwise fact. -/
def Map.Sorted (m : Map α) : Prop := m.Pairwise fun a b => a.1 < b.1

theorem Map.rising_iff (m : Map α) : Map.rising m = true ↔ Map.Sorted m := by
  induction m with
  | nil => simp [Map.rising, Map.Sorted]
  | cons a r ih =>
    cases r with
    | nil => simp [Map.rising, Map.Sorted]
    | cons b r =>
      simp only [Map.rising, Bool.and_eq_true, decide_eq_true_eq, ih, Map.Sorted, List.pairwise_cons, List.mem_cons,
        forall_eq_or_imp]
      constructor
      · rintro ⟨h, hb, hr⟩
        exact ⟨⟨h, fun x hx => lt_trans h (hb x hx)⟩, hb, hr⟩
      · rintro ⟨⟨h, _⟩, hb, hr⟩
        exact ⟨h, hb, hr⟩

theorem Map.wf_iff [DecidableEq α] (d : α) (m : Map α) : Map.wf d m = true ↔ Map.Sorted m ∧ ∀ e ∈ m, e.2 ≠ d := by
  simp [Map.wf, Map.rising_iff]

@[simp] theorem Map.get_nil (d : α) (k : Nat) : Map.get d [] k = d := rfl

/-- A key that no entry has reads as the default. -/
theorem Map.get_absent (d : α) (m : Map α) (k : Nat) (h : ∀ e ∈ m, e.1 ≠ k) : Map.get d m k = d := by
  induction m with
  | nil => rfl
  | cons a r ih =>
    have := h a (by simp)
    simp only [Map.get, this, if_false]
    exact ih fun e he => h e (by simp [he])

theorem Map.get_append (d : α) (l r : Map α) (k : Nat) :
    Map.get d (l ++ r) k = if l.any (fun e => e.1 == k) then Map.get d l k else Map.get d r k := by
  induction l with
  | nil => simp
  | cons a l ih =>
    by_cases h : a.1 = k
    · simp [Map.get, h]
    · have : (a.1 == k) = false := by simpa using h
      simp only [List.cons_append, Map.get, if_neg h, ih, List.any_cons, this, Bool.false_or]

/-- A filter that looks at keys alone. -/
theorem Map.get_filter (d : α) (m : Map α) (p : Nat → Bool) (k : Nat) :
    Map.get d (m.filter fun e => p e.1) k = if p k then Map.get d m k else d := by
  induction m with
  | nil => simp
  | cons a r ih =>
    by_cases hp : p a.1 <;> by_cases hk : a.1 = k
    · subst hk; simp [Map.get, hp]
    · simp [Map.get, hp, hk, ih]
    · subst hk; simp [hp, ih]
    · simp [Map.get, hp, hk, ih]

theorem Map.mem_block [DecidableEq α] {d : α} {b n : Nat} {f : Nat → α} {e : Nat × α} (h : e ∈ Map.block d b f n) :
    b ≤ e.1 ∧ e.1 < b + n ∧ e.2 ≠ d ∧ e.2 = f (e.1 - b) := by
  induction n with
  | zero => simp [Map.block] at h
  | succ n ih =>
    simp only [Map.block, List.mem_append] at h
    rcases h with h | h
    · obtain ⟨h1, h2, h3⟩ := ih h
      exact ⟨h1, by omega, h3⟩
    · split at h
      · simp at h
      · simp only [List.mem_singleton] at h
        subst h
        refine ⟨by simp, by simp, ‹_›, by simp⟩

theorem Map.get_block [DecidableEq α] (d : α) (b : Nat) (f : Nat → α) (n k : Nat) :
    Map.get d (Map.block d b f n) k = if b ≤ k ∧ k < b + n then f (k - b) else d := by
  induction n with
  | zero =>
    have : ¬ (b ≤ k ∧ k < b + 0) := by omega
    simp only [Map.block, Map.get_nil, if_neg this]
  | succ n ih =>
    have absent : k = b + n → (Map.block d b f n).any (fun e => e.1 == k) = false := by
      intro hk
      simp only [List.any_eq_false, beq_iff_eq]
      intro e he h
      have := Map.mem_block he
      omega
    rw [Map.block, Map.get_append]
    by_cases hk : k = b + n
    · subst hk
      rw [if_neg (by rw [absent rfl]; exact Bool.false_ne_true),
        if_pos (⟨by omega, by omega⟩ : b ≤ b + n ∧ b + n < b + (n + 1)), Nat.add_sub_cancel_left]
      by_cases hf : f n = d
      · rw [if_pos hf, hf]; rfl
      · rw [if_neg hf]; simp [Map.get]
    · by_cases hany : (Map.block d b f n).any (fun e => e.1 == k) = true
      · rw [if_pos hany, ih]
        exact if_congr (by omega) rfl rfl
      · rw [if_neg hany]
        have hd : Map.get d (Map.block d b f n) k = d := by
          apply Map.get_absent
          intro e he h
          apply hany
          simp only [List.any_eq_true, beq_iff_eq]
          exact ⟨e, he, h⟩
        rw [hd] at ih
        have hrest : Map.get d (if f n = d then [] else [(b + n, f n)]) k = d := by
          split
          · rfl
          · apply Map.get_absent; simp; omega
        rw [hrest]
        exact ih.trans (if_congr (by omega) rfl rfl)

/-- Reading after a write of a block of keys. -/
theorem Map.get_fill [DecidableEq α] (d : α) (m : Map α) (b n : Nat) (f : Nat → α) (k : Nat) :
    Map.get d (Map.fill d m b n f) k = if b ≤ k ∧ k < b + n then f (k - b) else Map.get d m k := by
  have hlow := Map.get_filter d m (fun x => decide (x < b)) k
  have hhigh := Map.get_filter d m (fun x => decide (b + n ≤ x)) k
  have hblock := Map.get_block d b f n k
  rw [Map.fill, Map.get_append, Map.get_append]
  by_cases h1 : k < b
  · have hb : (Map.block d b f n).any (fun e => e.1 == k) = false := by
      simp only [List.any_eq_false, beq_iff_eq]
      intro e he h; have := Map.mem_block he; omega
    rw [if_neg (by omega : ¬ (b ≤ k ∧ k < b + n))]
    split
    · rw [hlow]; simp [h1]
    · next hn =>
      have : Map.get d m k = d := by
        have := Map.get_absent d (m.filter fun e => decide (e.1 < b)) k (by
          intro e he h; apply hn; simp only [List.any_eq_true, beq_iff_eq]; exact ⟨e, he, h⟩)
        rw [hlow] at this; simpa [h1] using this
      simp only [hb, Bool.false_eq_true, if_false]
      rw [hhigh, this]; split <;> rfl
  · have hl : (m.filter fun e => decide (e.1 < b)).any (fun e => e.1 == k) = false := by
      simp only [List.any_eq_false, beq_iff_eq, List.mem_filter, decide_eq_true_eq]
      rintro e ⟨_, h⟩ h'; omega
    simp only [hl, Bool.false_eq_true, if_false]
    by_cases h2 : k < b + n
    · rw [if_pos (by omega : b ≤ k ∧ k < b + n)]
      split
      · rw [hblock, if_pos (by omega)]
      · next hn =>
        have : Map.get d (Map.block d b f n) k = d := Map.get_absent d _ k (by
          intro e he h; apply hn; simp only [List.any_eq_true, beq_iff_eq]; exact ⟨e, he, h⟩)
        rw [hblock, if_pos (by omega)] at this
        rw [hhigh, this]
        have : ¬ (b + n ≤ k) := by omega
        simp [this]
    · rw [if_neg (by omega : ¬ (b ≤ k ∧ k < b + n))]
      have hb : (Map.block d b f n).any (fun e => e.1 == k) = false := by
        simp only [List.any_eq_false, beq_iff_eq]
        intro e he h; have := Map.mem_block he; omega
      simp only [hb, Bool.false_eq_true, if_false]
      rw [hhigh]
      have : b + n ≤ k := by omega
      simp [this]

/-- Reading after a write of one key. -/
theorem Map.get_set [DecidableEq α] (d : α) (m : Map α) (k : Nat) (v : α) (j : Nat) :
    Map.get d (Map.set d m k v) j = if j = k then v else Map.get d m j := by
  rw [Map.set, Map.get_fill]
  exact if_congr (by omega) rfl rfl

@[simp] theorem Map.get_set_same [DecidableEq α] (d : α) (m : Map α) (k : Nat) (v : α) : Map.get d (Map.set d m k v) k = v := by
  simp [Map.get_set]

theorem Map.get_set_ne [DecidableEq α] (d : α) (m : Map α) (k : Nat) (v : α) (j : Nat) (h : j ≠ k) :
    Map.get d (Map.set d m k v) j = Map.get d m j := by
  simp [Map.get_set, h]

theorem Map.block_wf [DecidableEq α] (d : α) (b : Nat) (f : Nat → α) (n : Nat) : Map.wf d (Map.block d b f n) = true := by
  rw [Map.wf_iff]
  refine ⟨?_, fun e he => (Map.mem_block he).2.2.1⟩
  induction n with
  | zero => simp [Map.block, Map.Sorted]
  | succ n ih =>
    rw [Map.block, Map.Sorted, List.pairwise_append]
    refine ⟨ih, ?_, ?_⟩
    · split <;> simp
    · intro x hx y hy
      have := Map.mem_block hx
      split at hy
      · simp at hy
      · simp only [List.mem_singleton] at hy; subst hy; simpa using this.2.1

/-- A write keeps the canonical form. -/
theorem Map.fill_wf [DecidableEq α] (d : α) (m : Map α) (b n : Nat) (f : Nat → α) (h : Map.wf d m = true) :
    Map.wf d (Map.fill d m b n f) = true := by
  rw [Map.wf_iff] at h ⊢
  obtain ⟨hs, hd⟩ := h
  have hblock := (Map.wf_iff d (Map.block d b f n)).1 (Map.block_wf d b f n)
  constructor
  · rw [Map.fill, Map.Sorted, List.pairwise_append, List.pairwise_append]
    refine ⟨hs.filter _, ⟨hblock.1, hs.filter _, ?_⟩, ?_⟩
    · intro x hx y hy
      have := Map.mem_block hx
      simp only [List.mem_filter, decide_eq_true_eq] at hy
      omega
    · intro x hx y hy
      simp only [List.mem_filter, decide_eq_true_eq] at hx
      simp only [List.mem_append, List.mem_filter, decide_eq_true_eq] at hy
      rcases hy with hy | hy
      · have := Map.mem_block hy; omega
      · omega
  · intro e he
    simp only [Map.fill, List.mem_append, List.mem_filter] at he
    rcases he with he | he | he
    · exact hd e he.1
    · exact hblock.2 e he
    · exact hd e he.1

theorem Map.set_wf [DecidableEq α] (d : α) (m : Map α) (k : Nat) (v : α) (h : Map.wf d m = true) : Map.wf d (Map.set d m k v) = true :=
  Map.fill_wf d m k 1 _ h

/-- A change of every listed value keeps the canonical form. -/
theorem Map.vals_wf [DecidableEq α] (d : α) (f : α → α) (m : Map α) (h : Map.wf d m = true) : Map.wf d (Map.vals d f m) = true := by
  rw [Map.wf_iff] at h ⊢
  refine ⟨List.Pairwise.filter _ ?_, ?_⟩
  · rw [List.pairwise_map]; exact h.1
  · intro e he; simpa using (List.mem_filter.1 he).2

/-- A filter keeps the canonical form. -/
theorem Map.filter_wf [DecidableEq α] (d : α) (m : Map α) (p : Nat × α → Bool) (h : Map.wf d m = true) : Map.wf d (m.filter p) = true := by
  rw [Map.wf_iff] at h ⊢
  exact ⟨h.1.filter _, fun e he => h.2 e (List.mem_filter.1 he).1⟩

theorem Map.get_mem (d : α) (m : Map α) (h : Map.Sorted m) (e : Nat × α) (he : e ∈ m) : Map.get d m e.1 = e.2 := by
  induction m with
  | nil => simp at he
  | cons a r ih =>
    rw [Map.Sorted, List.pairwise_cons] at h
    rcases List.mem_cons.1 he with rfl | he
    · simp [Map.get]
    · have := h.1 e he
      rw [Map.get, if_neg (by omega)]
      exact ih h.2 he

/-- Equal contents in canonical form are equal data. -/
theorem Map.ext_wf [DecidableEq α] (d : α) (m n : Map α) (hm : Map.wf d m = true) (hn : Map.wf d n = true)
    (h : ∀ k, Map.get d m k = Map.get d n k) : m = n := by
  rw [Map.wf_iff] at hm hn
  have key : ∀ a b : Map α, Map.Sorted a → Map.Sorted b → (∀ e ∈ a, e.2 ≠ d) → (∀ k, Map.get d a k = Map.get d b k) → ∀ e ∈ a, e ∈ b := by
    intro a b ha hb hd hab e he
    by_contra hne
    have hv : Map.get d a e.1 = e.2 := Map.get_mem d a ha e he
    by_cases hk : ∃ e' ∈ b, e'.1 = e.1
    · obtain ⟨e', he', hk⟩ := hk
      have := Map.get_mem d b hb e' he'
      rw [hk, ← hab, hv] at this
      exact hne (by rw [show e = e' from Prod.ext hk.symm this]; exact he')
    · push Not at hk
      have := Map.get_absent d b e.1 hk
      rw [← hab, hv] at this
      exact hd e he this
  have hsub := key m n hm.1 hn.1 hm.2 h
  have hsup := key n m hn.1 hm.1 hn.2 fun k => (h k).symm
  have perm : m.Perm n := by
    rw [List.perm_ext_iff_of_nodup]
    · exact fun e => ⟨hsub e, hsup e⟩
    · exact hm.1.imp fun hlt heq => by rw [heq] at hlt; exact lt_irrefl _ hlt
    · exact hn.1.imp fun hlt heq => by rw [heq] at hlt; exact lt_irrefl _ hlt
  exact List.Perm.eq_of_pairwise (le := fun a b : Nat × α => a.1 < b.1) (fun a b _ _ h1 h2 => absurd h2 (Nat.lt_asymm h1)) hm.1 hn.1 perm

/-- The later of two writes of a key stands alone. -/
theorem Map.set_set [DecidableEq α] (d : α) (m : Map α) (k : Nat) (v w : α) : Map.set d (Map.set d m k v) k w = Map.set d m k w := by
  have low : (Map.fill d m k 1 fun _ => v).filter (fun e => decide (e.1 < k)) = m.filter fun e => decide (e.1 < k) := by
    simp only [Map.fill, List.filter_append, List.filter_filter, Bool.and_self]
    have h1 : (Map.block d k (fun _ => v) 1).filter (fun e => decide (e.1 < k)) = [] := by
      rw [List.filter_eq_nil_iff]; intro e he; have := Map.mem_block he; simp; omega
    have h2 : m.filter (fun e => decide (e.1 < k) && decide (k + 1 ≤ e.1)) = [] := by
      rw [List.filter_eq_nil_iff]; intro e _; simp; omega
    rw [h1, h2]; simp only [List.nil_append, List.append_nil]
  have high : (Map.fill d m k 1 fun _ => v).filter (fun e => decide (k + 1 ≤ e.1)) = m.filter fun e => decide (k + 1 ≤ e.1) := by
    simp only [Map.fill, List.filter_append, List.filter_filter, Bool.and_self]
    have h1 : (Map.block d k (fun _ => v) 1).filter (fun e => decide (k + 1 ≤ e.1)) = [] := by
      rw [List.filter_eq_nil_iff]; intro e he; have := Map.mem_block he; simp; omega
    have h2 : m.filter (fun e => decide (k + 1 ≤ e.1) && decide (e.1 < k)) = [] := by
      rw [List.filter_eq_nil_iff]; intro e _; simp; omega
    rw [h1, h2]; simp only [List.nil_append, List.append_nil]
  simp only [Map.set]
  rw [Map.fill, low, high, Map.fill]

end Sys2Proof
end

