-- ==== Sys2Proof/Laws/State.lean ====
section
/-!
SUPPORT. What each named update of the state leaves alone: one lemma per field and update, so that no proof unfolds a record update.
-/
namespace Sys2Proof.Machine

variable (s : State)

@[simp] theorem State.setReg_pending (off v : Nat) : (s.setReg off v).pending = s.pending := rfl
@[simp] theorem State.setReg_now (off v : Nat) : (s.setReg off v).now = s.now := rfl
@[simp] theorem State.setReg_freeIx (off v : Nat) : (s.setReg off v).freeIx = s.freeIx := rfl
@[simp] theorem State.setReg_seqOf (off v : Nat) : (s.setReg off v).seqOf = s.seqOf := rfl
@[simp] theorem State.setReg_bond (off v : Nat) : (s.setReg off v).bond = s.bond := rfl
@[simp] theorem State.setReg_bondPoison (off v : Nat) : (s.setReg off v).bondPoison = s.bondPoison := rfl
@[simp] theorem State.setReg_bondMarks (off v : Nat) : (s.setReg off v).bondMarks = s.bondMarks := rfl
@[simp] theorem State.setReg_cores (off v : Nat) : (s.setReg off v).cores = s.cores := rfl
@[simp] theorem State.setReg_clusters (off v : Nat) : (s.setReg off v).clusters = s.clusters := rfl
@[simp] theorem State.setReg_dies (off v : Nat) : (s.setReg off v).dies = s.dies := rfl
@[simp] theorem State.setReg_ports (off v : Nat) : (s.setReg off v).ports = s.ports := rfl
@[simp] theorem State.setReg_regions (off v : Nat) : (s.setReg off v).regions = s.regions := rfl
@[simp] theorem State.setReg_tags (off v : Nat) : (s.setReg off v).tags = s.tags := rfl
@[simp] theorem State.setReg_waiting (off v : Nat) : (s.setReg off v).waiting = s.waiting := rfl
@[simp] theorem State.setReg_inBundle (off v : Nat) : (s.setReg off v).inBundle = s.inBundle := rfl
@[simp] theorem State.setReg_gather (off v : Nat) : (s.setReg off v).gather = s.gather := rfl
@[simp] theorem State.setReg_posts (off v : Nat) : (s.setReg off v).posts = s.posts := rfl
@[simp] theorem State.setReg_counts (off v : Nat) : (s.setReg off v).counts = s.counts := rfl
@[simp] theorem State.setReg_image (off v : Nat) : (s.setReg off v).image = s.image := rfl
@[simp] theorem State.setReg_stepSt (off v : Nat) : (s.setReg off v).stepSt = s.stepSt := rfl
@[simp] theorem State.setReg_fw (off v : Nat) : (s.setReg off v).fw = s.fw := rfl
@[simp] theorem State.setReg_host (off v : Nat) : (s.setReg off v).host = s.host := rfl
@[simp] theorem State.setReg_boot (off v : Nat) : (s.setReg off v).boot = s.boot := rfl
@[simp] theorem State.setReg_pwr (off v : Nat) : (s.setReg off v).pwr = s.pwr := rfl
@[simp] theorem State.setReg_time (off v : Nat) : (s.setReg off v).time = s.time := rfl
@[simp] theorem State.setReg_dom (off v : Nat) : (s.setReg off v).dom = s.dom := rfl
@[simp] theorem State.setReg_res (off v : Nat) : (s.setReg off v).res = s.res := rfl
@[simp] theorem State.setReg_hlt (off v : Nat) : (s.setReg off v).hlt = s.hlt := rfl
@[simp] theorem State.setReg_out (off v : Nat) : (s.setReg off v).out = s.out := rfl

@[simp] theorem State.setFld_pending (off hi lo x : Nat) : (s.setFld off hi lo x).pending = s.pending := rfl
@[simp] theorem State.setFld_now (off hi lo x : Nat) : (s.setFld off hi lo x).now = s.now := rfl
@[simp] theorem State.setFld_freeIx (off hi lo x : Nat) : (s.setFld off hi lo x).freeIx = s.freeIx := rfl
@[simp] theorem State.setFld_seqOf (off hi lo x : Nat) : (s.setFld off hi lo x).seqOf = s.seqOf := rfl
@[simp] theorem State.setFld_bond (off hi lo x : Nat) : (s.setFld off hi lo x).bond = s.bond := rfl
@[simp] theorem State.setFld_bondPoison (off hi lo x : Nat) : (s.setFld off hi lo x).bondPoison = s.bondPoison := rfl
@[simp] theorem State.setFld_bondMarks (off hi lo x : Nat) : (s.setFld off hi lo x).bondMarks = s.bondMarks := rfl
@[simp] theorem State.setFld_cores (off hi lo x : Nat) : (s.setFld off hi lo x).cores = s.cores := rfl
@[simp] theorem State.setFld_clusters (off hi lo x : Nat) : (s.setFld off hi lo x).clusters = s.clusters := rfl
@[simp] theorem State.setFld_dies (off hi lo x : Nat) : (s.setFld off hi lo x).dies = s.dies := rfl
@[simp] theorem State.setFld_ports (off hi lo x : Nat) : (s.setFld off hi lo x).ports = s.ports := rfl
@[simp] theorem State.setFld_regions (off hi lo x : Nat) : (s.setFld off hi lo x).regions = s.regions := rfl
@[simp] theorem State.setFld_tags (off hi lo x : Nat) : (s.setFld off hi lo x).tags = s.tags := rfl
@[simp] theorem State.setFld_waiting (off hi lo x : Nat) : (s.setFld off hi lo x).waiting = s.waiting := rfl
@[simp] theorem State.setFld_inBundle (off hi lo x : Nat) : (s.setFld off hi lo x).inBundle = s.inBundle := rfl
@[simp] theorem State.setFld_gather (off hi lo x : Nat) : (s.setFld off hi lo x).gather = s.gather := rfl
@[simp] theorem State.setFld_posts (off hi lo x : Nat) : (s.setFld off hi lo x).posts = s.posts := rfl
@[simp] theorem State.setFld_counts (off hi lo x : Nat) : (s.setFld off hi lo x).counts = s.counts := rfl
@[simp] theorem State.setFld_image (off hi lo x : Nat) : (s.setFld off hi lo x).image = s.image := rfl
@[simp] theorem State.setFld_stepSt (off hi lo x : Nat) : (s.setFld off hi lo x).stepSt = s.stepSt := rfl
@[simp] theorem State.setFld_fw (off hi lo x : Nat) : (s.setFld off hi lo x).fw = s.fw := rfl
@[simp] theorem State.setFld_host (off hi lo x : Nat) : (s.setFld off hi lo x).host = s.host := rfl
@[simp] theorem State.setFld_boot (off hi lo x : Nat) : (s.setFld off hi lo x).boot = s.boot := rfl
@[simp] theorem State.setFld_pwr (off hi lo x : Nat) : (s.setFld off hi lo x).pwr = s.pwr := rfl
@[simp] theorem State.setFld_time (off hi lo x : Nat) : (s.setFld off hi lo x).time = s.time := rfl
@[simp] theorem State.setFld_dom (off hi lo x : Nat) : (s.setFld off hi lo x).dom = s.dom := rfl
@[simp] theorem State.setFld_res (off hi lo x : Nat) : (s.setFld off hi lo x).res = s.res := rfl
@[simp] theorem State.setFld_hlt (off hi lo x : Nat) : (s.setFld off hi lo x).hlt = s.hlt := rfl
@[simp] theorem State.setFld_out (off hi lo x : Nat) : (s.setFld off hi lo x).out = s.out := rfl

@[simp] theorem State.count_pending (off n : Nat) : (s.count off n).pending = s.pending := rfl
@[simp] theorem State.count_now (off n : Nat) : (s.count off n).now = s.now := rfl
@[simp] theorem State.count_freeIx (off n : Nat) : (s.count off n).freeIx = s.freeIx := rfl
@[simp] theorem State.count_seqOf (off n : Nat) : (s.count off n).seqOf = s.seqOf := rfl
@[simp] theorem State.count_bond (off n : Nat) : (s.count off n).bond = s.bond := rfl
@[simp] theorem State.count_bondPoison (off n : Nat) : (s.count off n).bondPoison = s.bondPoison := rfl
@[simp] theorem State.count_bondMarks (off n : Nat) : (s.count off n).bondMarks = s.bondMarks := rfl
@[simp] theorem State.count_cores (off n : Nat) : (s.count off n).cores = s.cores := rfl
@[simp] theorem State.count_clusters (off n : Nat) : (s.count off n).clusters = s.clusters := rfl
@[simp] theorem State.count_dies (off n : Nat) : (s.count off n).dies = s.dies := rfl
@[simp] theorem State.count_ports (off n : Nat) : (s.count off n).ports = s.ports := rfl
@[simp] theorem State.count_regions (off n : Nat) : (s.count off n).regions = s.regions := rfl
@[simp] theorem State.count_tags (off n : Nat) : (s.count off n).tags = s.tags := rfl
@[simp] theorem State.count_waiting (off n : Nat) : (s.count off n).waiting = s.waiting := rfl
@[simp] theorem State.count_inBundle (off n : Nat) : (s.count off n).inBundle = s.inBundle := rfl
@[simp] theorem State.count_gather (off n : Nat) : (s.count off n).gather = s.gather := rfl
@[simp] theorem State.count_posts (off n : Nat) : (s.count off n).posts = s.posts := rfl
@[simp] theorem State.count_counts (off n : Nat) : (s.count off n).counts = s.counts := rfl
@[simp] theorem State.count_image (off n : Nat) : (s.count off n).image = s.image := rfl
@[simp] theorem State.count_stepSt (off n : Nat) : (s.count off n).stepSt = s.stepSt := rfl
@[simp] theorem State.count_fw (off n : Nat) : (s.count off n).fw = s.fw := rfl
@[simp] theorem State.count_host (off n : Nat) : (s.count off n).host = s.host := rfl
@[simp] theorem State.count_boot (off n : Nat) : (s.count off n).boot = s.boot := rfl
@[simp] theorem State.count_pwr (off n : Nat) : (s.count off n).pwr = s.pwr := rfl
@[simp] theorem State.count_time (off n : Nat) : (s.count off n).time = s.time := rfl
@[simp] theorem State.count_dom (off n : Nat) : (s.count off n).dom = s.dom := rfl
@[simp] theorem State.count_res (off n : Nat) : (s.count off n).res = s.res := rfl
@[simp] theorem State.count_hlt (off n : Nat) : (s.count off n).hlt = s.hlt := rfl
@[simp] theorem State.count_out (off n : Nat) : (s.count off n).out = s.out := rfl

@[simp] theorem State.setReg64_pending (off v : Nat) : (s.setReg64 off v).pending = s.pending := rfl
@[simp] theorem State.setReg64_now (off v : Nat) : (s.setReg64 off v).now = s.now := rfl
@[simp] theorem State.setReg64_freeIx (off v : Nat) : (s.setReg64 off v).freeIx = s.freeIx := rfl
@[simp] theorem State.setReg64_seqOf (off v : Nat) : (s.setReg64 off v).seqOf = s.seqOf := rfl
@[simp] theorem State.setReg64_bond (off v : Nat) : (s.setReg64 off v).bond = s.bond := rfl
@[simp] theorem State.setReg64_bondPoison (off v : Nat) : (s.setReg64 off v).bondPoison = s.bondPoison := rfl
@[simp] theorem State.setReg64_bondMarks (off v : Nat) : (s.setReg64 off v).bondMarks = s.bondMarks := rfl
@[simp] theorem State.setReg64_cores (off v : Nat) : (s.setReg64 off v).cores = s.cores := rfl
@[simp] theorem State.setReg64_clusters (off v : Nat) : (s.setReg64 off v).clusters = s.clusters := rfl
@[simp] theorem State.setReg64_dies (off v : Nat) : (s.setReg64 off v).dies = s.dies := rfl
@[simp] theorem State.setReg64_ports (off v : Nat) : (s.setReg64 off v).ports = s.ports := rfl
@[simp] theorem State.setReg64_regions (off v : Nat) : (s.setReg64 off v).regions = s.regions := rfl
@[simp] theorem State.setReg64_tags (off v : Nat) : (s.setReg64 off v).tags = s.tags := rfl
@[simp] theorem State.setReg64_waiting (off v : Nat) : (s.setReg64 off v).waiting = s.waiting := rfl
@[simp] theorem State.setReg64_inBundle (off v : Nat) : (s.setReg64 off v).inBundle = s.inBundle := rfl
@[simp] theorem State.setReg64_gather (off v : Nat) : (s.setReg64 off v).gather = s.gather := rfl
@[simp] theorem State.setReg64_posts (off v : Nat) : (s.setReg64 off v).posts = s.posts := rfl
@[simp] theorem State.setReg64_counts (off v : Nat) : (s.setReg64 off v).counts = s.counts := rfl
@[simp] theorem State.setReg64_image (off v : Nat) : (s.setReg64 off v).image = s.image := rfl
@[simp] theorem State.setReg64_stepSt (off v : Nat) : (s.setReg64 off v).stepSt = s.stepSt := rfl
@[simp] theorem State.setReg64_fw (off v : Nat) : (s.setReg64 off v).fw = s.fw := rfl
@[simp] theorem State.setReg64_host (off v : Nat) : (s.setReg64 off v).host = s.host := rfl
@[simp] theorem State.setReg64_boot (off v : Nat) : (s.setReg64 off v).boot = s.boot := rfl
@[simp] theorem State.setReg64_pwr (off v : Nat) : (s.setReg64 off v).pwr = s.pwr := rfl
@[simp] theorem State.setReg64_time (off v : Nat) : (s.setReg64 off v).time = s.time := rfl
@[simp] theorem State.setReg64_dom (off v : Nat) : (s.setReg64 off v).dom = s.dom := rfl
@[simp] theorem State.setReg64_res (off v : Nat) : (s.setReg64 off v).res = s.res := rfl
@[simp] theorem State.setReg64_hlt (off v : Nat) : (s.setReg64 off v).hlt = s.hlt := rfl
@[simp] theorem State.setReg64_out (off v : Nat) : (s.setReg64 off v).out = s.out := rfl

@[simp] theorem State.event_pending (off b : Nat) : (s.event off b).pending = s.pending := rfl
@[simp] theorem State.event_now (off b : Nat) : (s.event off b).now = s.now := rfl
@[simp] theorem State.event_freeIx (off b : Nat) : (s.event off b).freeIx = s.freeIx := rfl
@[simp] theorem State.event_bond (off b : Nat) : (s.event off b).bond = s.bond := rfl
@[simp] theorem State.event_bondPoison (off b : Nat) : (s.event off b).bondPoison = s.bondPoison := rfl
@[simp] theorem State.event_bondMarks (off b : Nat) : (s.event off b).bondMarks = s.bondMarks := rfl
@[simp] theorem State.event_cores (off b : Nat) : (s.event off b).cores = s.cores := rfl
@[simp] theorem State.event_clusters (off b : Nat) : (s.event off b).clusters = s.clusters := rfl
@[simp] theorem State.event_dies (off b : Nat) : (s.event off b).dies = s.dies := rfl
@[simp] theorem State.event_ports (off b : Nat) : (s.event off b).ports = s.ports := rfl
@[simp] theorem State.event_regions (off b : Nat) : (s.event off b).regions = s.regions := rfl
@[simp] theorem State.event_tags (off b : Nat) : (s.event off b).tags = s.tags := rfl
@[simp] theorem State.event_waiting (off b : Nat) : (s.event off b).waiting = s.waiting := rfl
@[simp] theorem State.event_inBundle (off b : Nat) : (s.event off b).inBundle = s.inBundle := rfl
@[simp] theorem State.event_gather (off b : Nat) : (s.event off b).gather = s.gather := rfl
@[simp] theorem State.event_posts (off b : Nat) : (s.event off b).posts = s.posts := rfl
@[simp] theorem State.event_counts (off b : Nat) : (s.event off b).counts = s.counts := rfl
@[simp] theorem State.event_image (off b : Nat) : (s.event off b).image = s.image := rfl
@[simp] theorem State.event_stepSt (off b : Nat) : (s.event off b).stepSt = s.stepSt := rfl
@[simp] theorem State.event_fw (off b : Nat) : (s.event off b).fw = s.fw := rfl
@[simp] theorem State.event_host (off b : Nat) : (s.event off b).host = s.host := rfl
@[simp] theorem State.event_boot (off b : Nat) : (s.event off b).boot = s.boot := rfl
@[simp] theorem State.event_pwr (off b : Nat) : (s.event off b).pwr = s.pwr := rfl
@[simp] theorem State.event_time (off b : Nat) : (s.event off b).time = s.time := rfl
@[simp] theorem State.event_dom (off b : Nat) : (s.event off b).dom = s.dom := rfl
@[simp] theorem State.event_res (off b : Nat) : (s.event off b).res = s.res := rfl
@[simp] theorem State.event_hlt (off b : Nat) : (s.event off b).hlt = s.hlt := rfl
@[simp] theorem State.event_out (off b : Nat) : (s.event off b).out = s.out := rfl

@[simp] theorem State.setCore_pending (g : Nat) (c : Core) : (s.setCore g c).pending = s.pending := rfl
@[simp] theorem State.setCore_now (g : Nat) (c : Core) : (s.setCore g c).now = s.now := rfl
@[simp] theorem State.setCore_freeIx (g : Nat) (c : Core) : (s.setCore g c).freeIx = s.freeIx := rfl
@[simp] theorem State.setCore_regs (g : Nat) (c : Core) : (s.setCore g c).regs = s.regs := rfl
@[simp] theorem State.setCore_seqOf (g : Nat) (c : Core) : (s.setCore g c).seqOf = s.seqOf := rfl
@[simp] theorem State.setCore_bond (g : Nat) (c : Core) : (s.setCore g c).bond = s.bond := rfl
@[simp] theorem State.setCore_bondPoison (g : Nat) (c : Core) : (s.setCore g c).bondPoison = s.bondPoison := rfl
@[simp] theorem State.setCore_bondMarks (g : Nat) (c : Core) : (s.setCore g c).bondMarks = s.bondMarks := rfl
@[simp] theorem State.setCore_clusters (g : Nat) (c : Core) : (s.setCore g c).clusters = s.clusters := rfl
@[simp] theorem State.setCore_dies (g : Nat) (c : Core) : (s.setCore g c).dies = s.dies := rfl
@[simp] theorem State.setCore_ports (g : Nat) (c : Core) : (s.setCore g c).ports = s.ports := rfl
@[simp] theorem State.setCore_regions (g : Nat) (c : Core) : (s.setCore g c).regions = s.regions := rfl
@[simp] theorem State.setCore_tags (g : Nat) (c : Core) : (s.setCore g c).tags = s.tags := rfl
@[simp] theorem State.setCore_waiting (g : Nat) (c : Core) : (s.setCore g c).waiting = s.waiting := rfl
@[simp] theorem State.setCore_inBundle (g : Nat) (c : Core) : (s.setCore g c).inBundle = s.inBundle := rfl
@[simp] theorem State.setCore_gather (g : Nat) (c : Core) : (s.setCore g c).gather = s.gather := rfl
@[simp] theorem State.setCore_posts (g : Nat) (c : Core) : (s.setCore g c).posts = s.posts := rfl
@[simp] theorem State.setCore_counts (g : Nat) (c : Core) : (s.setCore g c).counts = s.counts := rfl
@[simp] theorem State.setCore_image (g : Nat) (c : Core) : (s.setCore g c).image = s.image := rfl
@[simp] theorem State.setCore_stepSt (g : Nat) (c : Core) : (s.setCore g c).stepSt = s.stepSt := rfl
@[simp] theorem State.setCore_fw (g : Nat) (c : Core) : (s.setCore g c).fw = s.fw := rfl
@[simp] theorem State.setCore_host (g : Nat) (c : Core) : (s.setCore g c).host = s.host := rfl
@[simp] theorem State.setCore_boot (g : Nat) (c : Core) : (s.setCore g c).boot = s.boot := rfl
@[simp] theorem State.setCore_pwr (g : Nat) (c : Core) : (s.setCore g c).pwr = s.pwr := rfl
@[simp] theorem State.setCore_time (g : Nat) (c : Core) : (s.setCore g c).time = s.time := rfl
@[simp] theorem State.setCore_dom (g : Nat) (c : Core) : (s.setCore g c).dom = s.dom := rfl
@[simp] theorem State.setCore_res (g : Nat) (c : Core) : (s.setCore g c).res = s.res := rfl
@[simp] theorem State.setCore_hlt (g : Nat) (c : Core) : (s.setCore g c).hlt = s.hlt := rfl
@[simp] theorem State.setCore_out (g : Nat) (c : Core) : (s.setCore g c).out = s.out := rfl

@[simp] theorem State.onCore_pending (g : Nat) (f : Core → Core) : (s.onCore g f).pending = s.pending := rfl
@[simp] theorem State.onCore_now (g : Nat) (f : Core → Core) : (s.onCore g f).now = s.now := rfl
@[simp] theorem State.onCore_freeIx (g : Nat) (f : Core → Core) : (s.onCore g f).freeIx = s.freeIx := rfl
@[simp] theorem State.onCore_regs (g : Nat) (f : Core → Core) : (s.onCore g f).regs = s.regs := rfl
@[simp] theorem State.onCore_seqOf (g : Nat) (f : Core → Core) : (s.onCore g f).seqOf = s.seqOf := rfl
@[simp] theorem State.onCore_bond (g : Nat) (f : Core → Core) : (s.onCore g f).bond = s.bond := rfl
@[simp] theorem State.onCore_bondPoison (g : Nat) (f : Core → Core) : (s.onCore g f).bondPoison = s.bondPoison := rfl
@[simp] theorem State.onCore_bondMarks (g : Nat) (f : Core → Core) : (s.onCore g f).bondMarks = s.bondMarks := rfl
@[simp] theorem State.onCore_clusters (g : Nat) (f : Core → Core) : (s.onCore g f).clusters = s.clusters := rfl
@[simp] theorem State.onCore_dies (g : Nat) (f : Core → Core) : (s.onCore g f).dies = s.dies := rfl
@[simp] theorem State.onCore_ports (g : Nat) (f : Core → Core) : (s.onCore g f).ports = s.ports := rfl
@[simp] theorem State.onCore_regions (g : Nat) (f : Core → Core) : (s.onCore g f).regions = s.regions := rfl
@[simp] theorem State.onCore_tags (g : Nat) (f : Core → Core) : (s.onCore g f).tags = s.tags := rfl
@[simp] theorem State.onCore_waiting (g : Nat) (f : Core → Core) : (s.onCore g f).waiting = s.waiting := rfl
@[simp] theorem State.onCore_inBundle (g : Nat) (f : Core → Core) : (s.onCore g f).inBundle = s.inBundle := rfl
@[simp] theorem State.onCore_gather (g : Nat) (f : Core → Core) : (s.onCore g f).gather = s.gather := rfl
@[simp] theorem State.onCore_posts (g : Nat) (f : Core → Core) : (s.onCore g f).posts = s.posts := rfl
@[simp] theorem State.onCore_counts (g : Nat) (f : Core → Core) : (s.onCore g f).counts = s.counts := rfl
@[simp] theorem State.onCore_image (g : Nat) (f : Core → Core) : (s.onCore g f).image = s.image := rfl
@[simp] theorem State.onCore_stepSt (g : Nat) (f : Core → Core) : (s.onCore g f).stepSt = s.stepSt := rfl
@[simp] theorem State.onCore_fw (g : Nat) (f : Core → Core) : (s.onCore g f).fw = s.fw := rfl
@[simp] theorem State.onCore_host (g : Nat) (f : Core → Core) : (s.onCore g f).host = s.host := rfl
@[simp] theorem State.onCore_boot (g : Nat) (f : Core → Core) : (s.onCore g f).boot = s.boot := rfl
@[simp] theorem State.onCore_pwr (g : Nat) (f : Core → Core) : (s.onCore g f).pwr = s.pwr := rfl
@[simp] theorem State.onCore_time (g : Nat) (f : Core → Core) : (s.onCore g f).time = s.time := rfl
@[simp] theorem State.onCore_dom (g : Nat) (f : Core → Core) : (s.onCore g f).dom = s.dom := rfl
@[simp] theorem State.onCore_res (g : Nat) (f : Core → Core) : (s.onCore g f).res = s.res := rfl
@[simp] theorem State.onCore_hlt (g : Nat) (f : Core → Core) : (s.onCore g f).hlt = s.hlt := rfl
@[simp] theorem State.onCore_out (g : Nat) (f : Core → Core) : (s.onCore g f).out = s.out := rfl

@[simp] theorem State.setDie_pending (d : Nat) (v : Die) : (s.setDie d v).pending = s.pending := rfl
@[simp] theorem State.setDie_now (d : Nat) (v : Die) : (s.setDie d v).now = s.now := rfl
@[simp] theorem State.setDie_freeIx (d : Nat) (v : Die) : (s.setDie d v).freeIx = s.freeIx := rfl
@[simp] theorem State.setDie_regs (d : Nat) (v : Die) : (s.setDie d v).regs = s.regs := rfl
@[simp] theorem State.setDie_seqOf (d : Nat) (v : Die) : (s.setDie d v).seqOf = s.seqOf := rfl
@[simp] theorem State.setDie_bond (d : Nat) (v : Die) : (s.setDie d v).bond = s.bond := rfl
@[simp] theorem State.setDie_bondPoison (d : Nat) (v : Die) : (s.setDie d v).bondPoison = s.bondPoison := rfl
@[simp] theorem State.setDie_bondMarks (d : Nat) (v : Die) : (s.setDie d v).bondMarks = s.bondMarks := rfl
@[simp] theorem State.setDie_cores (d : Nat) (v : Die) : (s.setDie d v).cores = s.cores := rfl
@[simp] theorem State.setDie_clusters (d : Nat) (v : Die) : (s.setDie d v).clusters = s.clusters := rfl
@[simp] theorem State.setDie_ports (d : Nat) (v : Die) : (s.setDie d v).ports = s.ports := rfl
@[simp] theorem State.setDie_regions (d : Nat) (v : Die) : (s.setDie d v).regions = s.regions := rfl
@[simp] theorem State.setDie_tags (d : Nat) (v : Die) : (s.setDie d v).tags = s.tags := rfl
@[simp] theorem State.setDie_waiting (d : Nat) (v : Die) : (s.setDie d v).waiting = s.waiting := rfl
@[simp] theorem State.setDie_inBundle (d : Nat) (v : Die) : (s.setDie d v).inBundle = s.inBundle := rfl
@[simp] theorem State.setDie_gather (d : Nat) (v : Die) : (s.setDie d v).gather = s.gather := rfl
@[simp] theorem State.setDie_posts (d : Nat) (v : Die) : (s.setDie d v).posts = s.posts := rfl
@[simp] theorem State.setDie_counts (d : Nat) (v : Die) : (s.setDie d v).counts = s.counts := rfl
@[simp] theorem State.setDie_image (d : Nat) (v : Die) : (s.setDie d v).image = s.image := rfl
@[simp] theorem State.setDie_stepSt (d : Nat) (v : Die) : (s.setDie d v).stepSt = s.stepSt := rfl
@[simp] theorem State.setDie_fw (d : Nat) (v : Die) : (s.setDie d v).fw = s.fw := rfl
@[simp] theorem State.setDie_host (d : Nat) (v : Die) : (s.setDie d v).host = s.host := rfl
@[simp] theorem State.setDie_boot (d : Nat) (v : Die) : (s.setDie d v).boot = s.boot := rfl
@[simp] theorem State.setDie_pwr (d : Nat) (v : Die) : (s.setDie d v).pwr = s.pwr := rfl
@[simp] theorem State.setDie_time (d : Nat) (v : Die) : (s.setDie d v).time = s.time := rfl
@[simp] theorem State.setDie_dom (d : Nat) (v : Die) : (s.setDie d v).dom = s.dom := rfl
@[simp] theorem State.setDie_res (d : Nat) (v : Die) : (s.setDie d v).res = s.res := rfl
@[simp] theorem State.setDie_hlt (d : Nat) (v : Die) : (s.setDie d v).hlt = s.hlt := rfl
@[simp] theorem State.setDie_out (d : Nat) (v : Die) : (s.setDie d v).out = s.out := rfl

@[simp] theorem State.onDie_pending (d : Nat) (f : Die → Die) : (s.onDie d f).pending = s.pending := rfl
@[simp] theorem State.onDie_now (d : Nat) (f : Die → Die) : (s.onDie d f).now = s.now := rfl
@[simp] theorem State.onDie_freeIx (d : Nat) (f : Die → Die) : (s.onDie d f).freeIx = s.freeIx := rfl
@[simp] theorem State.onDie_regs (d : Nat) (f : Die → Die) : (s.onDie d f).regs = s.regs := rfl
@[simp] theorem State.onDie_seqOf (d : Nat) (f : Die → Die) : (s.onDie d f).seqOf = s.seqOf := rfl
@[simp] theorem State.onDie_bond (d : Nat) (f : Die → Die) : (s.onDie d f).bond = s.bond := rfl
@[simp] theorem State.onDie_bondPoison (d : Nat) (f : Die → Die) : (s.onDie d f).bondPoison = s.bondPoison := rfl
@[simp] theorem State.onDie_bondMarks (d : Nat) (f : Die → Die) : (s.onDie d f).bondMarks = s.bondMarks := rfl
@[simp] theorem State.onDie_cores (d : Nat) (f : Die → Die) : (s.onDie d f).cores = s.cores := rfl
@[simp] theorem State.onDie_clusters (d : Nat) (f : Die → Die) : (s.onDie d f).clusters = s.clusters := rfl
@[simp] theorem State.onDie_ports (d : Nat) (f : Die → Die) : (s.onDie d f).ports = s.ports := rfl
@[simp] theorem State.onDie_regions (d : Nat) (f : Die → Die) : (s.onDie d f).regions = s.regions := rfl
@[simp] theorem State.onDie_tags (d : Nat) (f : Die → Die) : (s.onDie d f).tags = s.tags := rfl
@[simp] theorem State.onDie_waiting (d : Nat) (f : Die → Die) : (s.onDie d f).waiting = s.waiting := rfl
@[simp] theorem State.onDie_inBundle (d : Nat) (f : Die → Die) : (s.onDie d f).inBundle = s.inBundle := rfl
@[simp] theorem State.onDie_gather (d : Nat) (f : Die → Die) : (s.onDie d f).gather = s.gather := rfl
@[simp] theorem State.onDie_posts (d : Nat) (f : Die → Die) : (s.onDie d f).posts = s.posts := rfl
@[simp] theorem State.onDie_counts (d : Nat) (f : Die → Die) : (s.onDie d f).counts = s.counts := rfl
@[simp] theorem State.onDie_image (d : Nat) (f : Die → Die) : (s.onDie d f).image = s.image := rfl
@[simp] theorem State.onDie_stepSt (d : Nat) (f : Die → Die) : (s.onDie d f).stepSt = s.stepSt := rfl
@[simp] theorem State.onDie_fw (d : Nat) (f : Die → Die) : (s.onDie d f).fw = s.fw := rfl
@[simp] theorem State.onDie_host (d : Nat) (f : Die → Die) : (s.onDie d f).host = s.host := rfl
@[simp] theorem State.onDie_boot (d : Nat) (f : Die → Die) : (s.onDie d f).boot = s.boot := rfl
@[simp] theorem State.onDie_pwr (d : Nat) (f : Die → Die) : (s.onDie d f).pwr = s.pwr := rfl
@[simp] theorem State.onDie_time (d : Nat) (f : Die → Die) : (s.onDie d f).time = s.time := rfl
@[simp] theorem State.onDie_dom (d : Nat) (f : Die → Die) : (s.onDie d f).dom = s.dom := rfl
@[simp] theorem State.onDie_res (d : Nat) (f : Die → Die) : (s.onDie d f).res = s.res := rfl
@[simp] theorem State.onDie_hlt (d : Nat) (f : Die → Die) : (s.onDie d f).hlt = s.hlt := rfl
@[simp] theorem State.onDie_out (d : Nat) (f : Die → Die) : (s.onDie d f).out = s.out := rfl

@[simp] theorem State.setCluster_pending (n : Nat) (v : Cluster) : (s.setCluster n v).pending = s.pending := rfl
@[simp] theorem State.setCluster_now (n : Nat) (v : Cluster) : (s.setCluster n v).now = s.now := rfl
@[simp] theorem State.setCluster_freeIx (n : Nat) (v : Cluster) : (s.setCluster n v).freeIx = s.freeIx := rfl
@[simp] theorem State.setCluster_regs (n : Nat) (v : Cluster) : (s.setCluster n v).regs = s.regs := rfl
@[simp] theorem State.setCluster_seqOf (n : Nat) (v : Cluster) : (s.setCluster n v).seqOf = s.seqOf := rfl
@[simp] theorem State.setCluster_bond (n : Nat) (v : Cluster) : (s.setCluster n v).bond = s.bond := rfl
@[simp] theorem State.setCluster_bondPoison (n : Nat) (v : Cluster) : (s.setCluster n v).bondPoison = s.bondPoison := rfl
@[simp] theorem State.setCluster_bondMarks (n : Nat) (v : Cluster) : (s.setCluster n v).bondMarks = s.bondMarks := rfl
@[simp] theorem State.setCluster_cores (n : Nat) (v : Cluster) : (s.setCluster n v).cores = s.cores := rfl
@[simp] theorem State.setCluster_dies (n : Nat) (v : Cluster) : (s.setCluster n v).dies = s.dies := rfl
@[simp] theorem State.setCluster_ports (n : Nat) (v : Cluster) : (s.setCluster n v).ports = s.ports := rfl
@[simp] theorem State.setCluster_regions (n : Nat) (v : Cluster) : (s.setCluster n v).regions = s.regions := rfl
@[simp] theorem State.setCluster_tags (n : Nat) (v : Cluster) : (s.setCluster n v).tags = s.tags := rfl
@[simp] theorem State.setCluster_waiting (n : Nat) (v : Cluster) : (s.setCluster n v).waiting = s.waiting := rfl
@[simp] theorem State.setCluster_inBundle (n : Nat) (v : Cluster) : (s.setCluster n v).inBundle = s.inBundle := rfl
@[simp] theorem State.setCluster_gather (n : Nat) (v : Cluster) : (s.setCluster n v).gather = s.gather := rfl
@[simp] theorem State.setCluster_posts (n : Nat) (v : Cluster) : (s.setCluster n v).posts = s.posts := rfl
@[simp] theorem State.setCluster_counts (n : Nat) (v : Cluster) : (s.setCluster n v).counts = s.counts := rfl
@[simp] theorem State.setCluster_image (n : Nat) (v : Cluster) : (s.setCluster n v).image = s.image := rfl
@[simp] theorem State.setCluster_stepSt (n : Nat) (v : Cluster) : (s.setCluster n v).stepSt = s.stepSt := rfl
@[simp] theorem State.setCluster_fw (n : Nat) (v : Cluster) : (s.setCluster n v).fw = s.fw := rfl
@[simp] theorem State.setCluster_host (n : Nat) (v : Cluster) : (s.setCluster n v).host = s.host := rfl
@[simp] theorem State.setCluster_boot (n : Nat) (v : Cluster) : (s.setCluster n v).boot = s.boot := rfl
@[simp] theorem State.setCluster_pwr (n : Nat) (v : Cluster) : (s.setCluster n v).pwr = s.pwr := rfl
@[simp] theorem State.setCluster_time (n : Nat) (v : Cluster) : (s.setCluster n v).time = s.time := rfl
@[simp] theorem State.setCluster_dom (n : Nat) (v : Cluster) : (s.setCluster n v).dom = s.dom := rfl
@[simp] theorem State.setCluster_res (n : Nat) (v : Cluster) : (s.setCluster n v).res = s.res := rfl
@[simp] theorem State.setCluster_hlt (n : Nat) (v : Cluster) : (s.setCluster n v).hlt = s.hlt := rfl
@[simp] theorem State.setCluster_out (n : Nat) (v : Cluster) : (s.setCluster n v).out = s.out := rfl

@[simp] theorem State.setPort_pending (p : Nat) (v : Port) : (s.setPort p v).pending = s.pending := rfl
@[simp] theorem State.setPort_now (p : Nat) (v : Port) : (s.setPort p v).now = s.now := rfl
@[simp] theorem State.setPort_freeIx (p : Nat) (v : Port) : (s.setPort p v).freeIx = s.freeIx := rfl
@[simp] theorem State.setPort_regs (p : Nat) (v : Port) : (s.setPort p v).regs = s.regs := rfl
@[simp] theorem State.setPort_seqOf (p : Nat) (v : Port) : (s.setPort p v).seqOf = s.seqOf := rfl
@[simp] theorem State.setPort_bond (p : Nat) (v : Port) : (s.setPort p v).bond = s.bond := rfl
@[simp] theorem State.setPort_bondPoison (p : Nat) (v : Port) : (s.setPort p v).bondPoison = s.bondPoison := rfl
@[simp] theorem State.setPort_bondMarks (p : Nat) (v : Port) : (s.setPort p v).bondMarks = s.bondMarks := rfl
@[simp] theorem State.setPort_cores (p : Nat) (v : Port) : (s.setPort p v).cores = s.cores := rfl
@[simp] theorem State.setPort_clusters (p : Nat) (v : Port) : (s.setPort p v).clusters = s.clusters := rfl
@[simp] theorem State.setPort_dies (p : Nat) (v : Port) : (s.setPort p v).dies = s.dies := rfl
@[simp] theorem State.setPort_regions (p : Nat) (v : Port) : (s.setPort p v).regions = s.regions := rfl
@[simp] theorem State.setPort_tags (p : Nat) (v : Port) : (s.setPort p v).tags = s.tags := rfl
@[simp] theorem State.setPort_waiting (p : Nat) (v : Port) : (s.setPort p v).waiting = s.waiting := rfl
@[simp] theorem State.setPort_inBundle (p : Nat) (v : Port) : (s.setPort p v).inBundle = s.inBundle := rfl
@[simp] theorem State.setPort_gather (p : Nat) (v : Port) : (s.setPort p v).gather = s.gather := rfl
@[simp] theorem State.setPort_posts (p : Nat) (v : Port) : (s.setPort p v).posts = s.posts := rfl
@[simp] theorem State.setPort_counts (p : Nat) (v : Port) : (s.setPort p v).counts = s.counts := rfl
@[simp] theorem State.setPort_image (p : Nat) (v : Port) : (s.setPort p v).image = s.image := rfl
@[simp] theorem State.setPort_stepSt (p : Nat) (v : Port) : (s.setPort p v).stepSt = s.stepSt := rfl
@[simp] theorem State.setPort_fw (p : Nat) (v : Port) : (s.setPort p v).fw = s.fw := rfl
@[simp] theorem State.setPort_host (p : Nat) (v : Port) : (s.setPort p v).host = s.host := rfl
@[simp] theorem State.setPort_boot (p : Nat) (v : Port) : (s.setPort p v).boot = s.boot := rfl
@[simp] theorem State.setPort_pwr (p : Nat) (v : Port) : (s.setPort p v).pwr = s.pwr := rfl
@[simp] theorem State.setPort_time (p : Nat) (v : Port) : (s.setPort p v).time = s.time := rfl
@[simp] theorem State.setPort_dom (p : Nat) (v : Port) : (s.setPort p v).dom = s.dom := rfl
@[simp] theorem State.setPort_res (p : Nat) (v : Port) : (s.setPort p v).res = s.res := rfl
@[simp] theorem State.setPort_hlt (p : Nat) (v : Port) : (s.setPort p v).hlt = s.hlt := rfl
@[simp] theorem State.setPort_out (p : Nat) (v : Port) : (s.setPort p v).out = s.out := rfl

@[simp] theorem State.onPort_pending (p : Nat) (f : Port → Port) : (s.onPort p f).pending = s.pending := rfl
@[simp] theorem State.onPort_now (p : Nat) (f : Port → Port) : (s.onPort p f).now = s.now := rfl
@[simp] theorem State.onPort_freeIx (p : Nat) (f : Port → Port) : (s.onPort p f).freeIx = s.freeIx := rfl
@[simp] theorem State.onPort_regs (p : Nat) (f : Port → Port) : (s.onPort p f).regs = s.regs := rfl
@[simp] theorem State.onPort_seqOf (p : Nat) (f : Port → Port) : (s.onPort p f).seqOf = s.seqOf := rfl
@[simp] theorem State.onPort_bond (p : Nat) (f : Port → Port) : (s.onPort p f).bond = s.bond := rfl
@[simp] theorem State.onPort_bondPoison (p : Nat) (f : Port → Port) : (s.onPort p f).bondPoison = s.bondPoison := rfl
@[simp] theorem State.onPort_bondMarks (p : Nat) (f : Port → Port) : (s.onPort p f).bondMarks = s.bondMarks := rfl
@[simp] theorem State.onPort_cores (p : Nat) (f : Port → Port) : (s.onPort p f).cores = s.cores := rfl
@[simp] theorem State.onPort_clusters (p : Nat) (f : Port → Port) : (s.onPort p f).clusters = s.clusters := rfl
@[simp] theorem State.onPort_dies (p : Nat) (f : Port → Port) : (s.onPort p f).dies = s.dies := rfl
@[simp] theorem State.onPort_regions (p : Nat) (f : Port → Port) : (s.onPort p f).regions = s.regions := rfl
@[simp] theorem State.onPort_tags (p : Nat) (f : Port → Port) : (s.onPort p f).tags = s.tags := rfl
@[simp] theorem State.onPort_waiting (p : Nat) (f : Port → Port) : (s.onPort p f).waiting = s.waiting := rfl
@[simp] theorem State.onPort_inBundle (p : Nat) (f : Port → Port) : (s.onPort p f).inBundle = s.inBundle := rfl
@[simp] theorem State.onPort_gather (p : Nat) (f : Port → Port) : (s.onPort p f).gather = s.gather := rfl
@[simp] theorem State.onPort_posts (p : Nat) (f : Port → Port) : (s.onPort p f).posts = s.posts := rfl
@[simp] theorem State.onPort_counts (p : Nat) (f : Port → Port) : (s.onPort p f).counts = s.counts := rfl
@[simp] theorem State.onPort_image (p : Nat) (f : Port → Port) : (s.onPort p f).image = s.image := rfl
@[simp] theorem State.onPort_stepSt (p : Nat) (f : Port → Port) : (s.onPort p f).stepSt = s.stepSt := rfl
@[simp] theorem State.onPort_fw (p : Nat) (f : Port → Port) : (s.onPort p f).fw = s.fw := rfl
@[simp] theorem State.onPort_host (p : Nat) (f : Port → Port) : (s.onPort p f).host = s.host := rfl
@[simp] theorem State.onPort_boot (p : Nat) (f : Port → Port) : (s.onPort p f).boot = s.boot := rfl
@[simp] theorem State.onPort_pwr (p : Nat) (f : Port → Port) : (s.onPort p f).pwr = s.pwr := rfl
@[simp] theorem State.onPort_time (p : Nat) (f : Port → Port) : (s.onPort p f).time = s.time := rfl
@[simp] theorem State.onPort_dom (p : Nat) (f : Port → Port) : (s.onPort p f).dom = s.dom := rfl
@[simp] theorem State.onPort_res (p : Nat) (f : Port → Port) : (s.onPort p f).res = s.res := rfl
@[simp] theorem State.onPort_hlt (p : Nat) (f : Port → Port) : (s.onPort p f).hlt = s.hlt := rfl
@[simp] theorem State.onPort_out (p : Nat) (f : Port → Port) : (s.onPort p f).out = s.out := rfl

@[simp] theorem State.setTag_pending (d e : Nat) (t : Tag) : (s.setTag d e t).pending = s.pending := rfl
@[simp] theorem State.setTag_now (d e : Nat) (t : Tag) : (s.setTag d e t).now = s.now := rfl
@[simp] theorem State.setTag_freeIx (d e : Nat) (t : Tag) : (s.setTag d e t).freeIx = s.freeIx := rfl
@[simp] theorem State.setTag_regs (d e : Nat) (t : Tag) : (s.setTag d e t).regs = s.regs := rfl
@[simp] theorem State.setTag_seqOf (d e : Nat) (t : Tag) : (s.setTag d e t).seqOf = s.seqOf := rfl
@[simp] theorem State.setTag_bond (d e : Nat) (t : Tag) : (s.setTag d e t).bond = s.bond := rfl
@[simp] theorem State.setTag_bondPoison (d e : Nat) (t : Tag) : (s.setTag d e t).bondPoison = s.bondPoison := rfl
@[simp] theorem State.setTag_bondMarks (d e : Nat) (t : Tag) : (s.setTag d e t).bondMarks = s.bondMarks := rfl
@[simp] theorem State.setTag_cores (d e : Nat) (t : Tag) : (s.setTag d e t).cores = s.cores := rfl
@[simp] theorem State.setTag_clusters (d e : Nat) (t : Tag) : (s.setTag d e t).clusters = s.clusters := rfl
@[simp] theorem State.setTag_dies (d e : Nat) (t : Tag) : (s.setTag d e t).dies = s.dies := rfl
@[simp] theorem State.setTag_ports (d e : Nat) (t : Tag) : (s.setTag d e t).ports = s.ports := rfl
@[simp] theorem State.setTag_regions (d e : Nat) (t : Tag) : (s.setTag d e t).regions = s.regions := rfl
@[simp] theorem State.setTag_waiting (d e : Nat) (t : Tag) : (s.setTag d e t).waiting = s.waiting := rfl
@[simp] theorem State.setTag_inBundle (d e : Nat) (t : Tag) : (s.setTag d e t).inBundle = s.inBundle := rfl
@[simp] theorem State.setTag_gather (d e : Nat) (t : Tag) : (s.setTag d e t).gather = s.gather := rfl
@[simp] theorem State.setTag_posts (d e : Nat) (t : Tag) : (s.setTag d e t).posts = s.posts := rfl
@[simp] theorem State.setTag_counts (d e : Nat) (t : Tag) : (s.setTag d e t).counts = s.counts := rfl
@[simp] theorem State.setTag_image (d e : Nat) (t : Tag) : (s.setTag d e t).image = s.image := rfl
@[simp] theorem State.setTag_stepSt (d e : Nat) (t : Tag) : (s.setTag d e t).stepSt = s.stepSt := rfl
@[simp] theorem State.setTag_fw (d e : Nat) (t : Tag) : (s.setTag d e t).fw = s.fw := rfl
@[simp] theorem State.setTag_host (d e : Nat) (t : Tag) : (s.setTag d e t).host = s.host := rfl
@[simp] theorem State.setTag_boot (d e : Nat) (t : Tag) : (s.setTag d e t).boot = s.boot := rfl
@[simp] theorem State.setTag_pwr (d e : Nat) (t : Tag) : (s.setTag d e t).pwr = s.pwr := rfl
@[simp] theorem State.setTag_time (d e : Nat) (t : Tag) : (s.setTag d e t).time = s.time := rfl
@[simp] theorem State.setTag_dom (d e : Nat) (t : Tag) : (s.setTag d e t).dom = s.dom := rfl
@[simp] theorem State.setTag_res (d e : Nat) (t : Tag) : (s.setTag d e t).res = s.res := rfl
@[simp] theorem State.setTag_hlt (d e : Nat) (t : Tag) : (s.setTag d e t).hlt = s.hlt := rfl
@[simp] theorem State.setTag_out (d e : Nat) (t : Tag) : (s.setTag d e t).out = s.out := rfl

@[simp] theorem State.setProc_pending (p : Nat) (v : Proc) : (s.setProc p v).pending = s.pending := rfl
@[simp] theorem State.setProc_now (p : Nat) (v : Proc) : (s.setProc p v).now = s.now := rfl
@[simp] theorem State.setProc_freeIx (p : Nat) (v : Proc) : (s.setProc p v).freeIx = s.freeIx := rfl
@[simp] theorem State.setProc_regs (p : Nat) (v : Proc) : (s.setProc p v).regs = s.regs := rfl
@[simp] theorem State.setProc_seqOf (p : Nat) (v : Proc) : (s.setProc p v).seqOf = s.seqOf := rfl
@[simp] theorem State.setProc_bond (p : Nat) (v : Proc) : (s.setProc p v).bond = s.bond := rfl
@[simp] theorem State.setProc_bondPoison (p : Nat) (v : Proc) : (s.setProc p v).bondPoison = s.bondPoison := rfl
@[simp] theorem State.setProc_bondMarks (p : Nat) (v : Proc) : (s.setProc p v).bondMarks = s.bondMarks := rfl
@[simp] theorem State.setProc_cores (p : Nat) (v : Proc) : (s.setProc p v).cores = s.cores := rfl
@[simp] theorem State.setProc_clusters (p : Nat) (v : Proc) : (s.setProc p v).clusters = s.clusters := rfl
@[simp] theorem State.setProc_dies (p : Nat) (v : Proc) : (s.setProc p v).dies = s.dies := rfl
@[simp] theorem State.setProc_ports (p : Nat) (v : Proc) : (s.setProc p v).ports = s.ports := rfl
@[simp] theorem State.setProc_regions (p : Nat) (v : Proc) : (s.setProc p v).regions = s.regions := rfl
@[simp] theorem State.setProc_tags (p : Nat) (v : Proc) : (s.setProc p v).tags = s.tags := rfl
@[simp] theorem State.setProc_waiting (p : Nat) (v : Proc) : (s.setProc p v).waiting = s.waiting := rfl
@[simp] theorem State.setProc_inBundle (p : Nat) (v : Proc) : (s.setProc p v).inBundle = s.inBundle := rfl
@[simp] theorem State.setProc_gather (p : Nat) (v : Proc) : (s.setProc p v).gather = s.gather := rfl
@[simp] theorem State.setProc_posts (p : Nat) (v : Proc) : (s.setProc p v).posts = s.posts := rfl
@[simp] theorem State.setProc_counts (p : Nat) (v : Proc) : (s.setProc p v).counts = s.counts := rfl
@[simp] theorem State.setProc_image (p : Nat) (v : Proc) : (s.setProc p v).image = s.image := rfl
@[simp] theorem State.setProc_stepSt (p : Nat) (v : Proc) : (s.setProc p v).stepSt = s.stepSt := rfl
@[simp] theorem State.setProc_host (p : Nat) (v : Proc) : (s.setProc p v).host = s.host := rfl
@[simp] theorem State.setProc_boot (p : Nat) (v : Proc) : (s.setProc p v).boot = s.boot := rfl
@[simp] theorem State.setProc_pwr (p : Nat) (v : Proc) : (s.setProc p v).pwr = s.pwr := rfl
@[simp] theorem State.setProc_time (p : Nat) (v : Proc) : (s.setProc p v).time = s.time := rfl
@[simp] theorem State.setProc_dom (p : Nat) (v : Proc) : (s.setProc p v).dom = s.dom := rfl
@[simp] theorem State.setProc_res (p : Nat) (v : Proc) : (s.setProc p v).res = s.res := rfl
@[simp] theorem State.setProc_hlt (p : Nat) (v : Proc) : (s.setProc p v).hlt = s.hlt := rfl
@[simp] theorem State.setProc_out (p : Nat) (v : Proc) : (s.setProc p v).out = s.out := rfl

@[simp] theorem State.emit_pending (o : Out) : (s.emit o).pending = s.pending := rfl
@[simp] theorem State.emit_now (o : Out) : (s.emit o).now = s.now := rfl
@[simp] theorem State.emit_freeIx (o : Out) : (s.emit o).freeIx = s.freeIx := rfl
@[simp] theorem State.emit_regs (o : Out) : (s.emit o).regs = s.regs := rfl
@[simp] theorem State.emit_seqOf (o : Out) : (s.emit o).seqOf = s.seqOf := rfl
@[simp] theorem State.emit_bond (o : Out) : (s.emit o).bond = s.bond := rfl
@[simp] theorem State.emit_bondPoison (o : Out) : (s.emit o).bondPoison = s.bondPoison := rfl
@[simp] theorem State.emit_bondMarks (o : Out) : (s.emit o).bondMarks = s.bondMarks := rfl
@[simp] theorem State.emit_cores (o : Out) : (s.emit o).cores = s.cores := rfl
@[simp] theorem State.emit_clusters (o : Out) : (s.emit o).clusters = s.clusters := rfl
@[simp] theorem State.emit_dies (o : Out) : (s.emit o).dies = s.dies := rfl
@[simp] theorem State.emit_ports (o : Out) : (s.emit o).ports = s.ports := rfl
@[simp] theorem State.emit_regions (o : Out) : (s.emit o).regions = s.regions := rfl
@[simp] theorem State.emit_tags (o : Out) : (s.emit o).tags = s.tags := rfl
@[simp] theorem State.emit_waiting (o : Out) : (s.emit o).waiting = s.waiting := rfl
@[simp] theorem State.emit_inBundle (o : Out) : (s.emit o).inBundle = s.inBundle := rfl
@[simp] theorem State.emit_gather (o : Out) : (s.emit o).gather = s.gather := rfl
@[simp] theorem State.emit_posts (o : Out) : (s.emit o).posts = s.posts := rfl
@[simp] theorem State.emit_counts (o : Out) : (s.emit o).counts = s.counts := rfl
@[simp] theorem State.emit_image (o : Out) : (s.emit o).image = s.image := rfl
@[simp] theorem State.emit_stepSt (o : Out) : (s.emit o).stepSt = s.stepSt := rfl
@[simp] theorem State.emit_fw (o : Out) : (s.emit o).fw = s.fw := rfl
@[simp] theorem State.emit_host (o : Out) : (s.emit o).host = s.host := rfl
@[simp] theorem State.emit_boot (o : Out) : (s.emit o).boot = s.boot := rfl
@[simp] theorem State.emit_pwr (o : Out) : (s.emit o).pwr = s.pwr := rfl
@[simp] theorem State.emit_time (o : Out) : (s.emit o).time = s.time := rfl
@[simp] theorem State.emit_dom (o : Out) : (s.emit o).dom = s.dom := rfl
@[simp] theorem State.emit_res (o : Out) : (s.emit o).res = s.res := rfl
@[simp] theorem State.emit_hlt (o : Out) : (s.emit o).hlt = s.hlt := rfl

@[simp] theorem State.signal_pending (v : Nat) : (s.signal v).pending = s.pending := rfl
@[simp] theorem State.signal_now (v : Nat) : (s.signal v).now = s.now := rfl
@[simp] theorem State.signal_freeIx (v : Nat) : (s.signal v).freeIx = s.freeIx := rfl
@[simp] theorem State.signal_regs (v : Nat) : (s.signal v).regs = s.regs := rfl
@[simp] theorem State.signal_seqOf (v : Nat) : (s.signal v).seqOf = s.seqOf := rfl
@[simp] theorem State.signal_bond (v : Nat) : (s.signal v).bond = s.bond := rfl
@[simp] theorem State.signal_bondPoison (v : Nat) : (s.signal v).bondPoison = s.bondPoison := rfl
@[simp] theorem State.signal_bondMarks (v : Nat) : (s.signal v).bondMarks = s.bondMarks := rfl
@[simp] theorem State.signal_cores (v : Nat) : (s.signal v).cores = s.cores := rfl
@[simp] theorem State.signal_clusters (v : Nat) : (s.signal v).clusters = s.clusters := rfl
@[simp] theorem State.signal_dies (v : Nat) : (s.signal v).dies = s.dies := rfl
@[simp] theorem State.signal_ports (v : Nat) : (s.signal v).ports = s.ports := rfl
@[simp] theorem State.signal_regions (v : Nat) : (s.signal v).regions = s.regions := rfl
@[simp] theorem State.signal_tags (v : Nat) : (s.signal v).tags = s.tags := rfl
@[simp] theorem State.signal_waiting (v : Nat) : (s.signal v).waiting = s.waiting := rfl
@[simp] theorem State.signal_inBundle (v : Nat) : (s.signal v).inBundle = s.inBundle := rfl
@[simp] theorem State.signal_gather (v : Nat) : (s.signal v).gather = s.gather := rfl
@[simp] theorem State.signal_posts (v : Nat) : (s.signal v).posts = s.posts := rfl
@[simp] theorem State.signal_counts (v : Nat) : (s.signal v).counts = s.counts := rfl
@[simp] theorem State.signal_image (v : Nat) : (s.signal v).image = s.image := rfl
@[simp] theorem State.signal_stepSt (v : Nat) : (s.signal v).stepSt = s.stepSt := rfl
@[simp] theorem State.signal_fw (v : Nat) : (s.signal v).fw = s.fw := rfl
@[simp] theorem State.signal_host (v : Nat) : (s.signal v).host = s.host := rfl
@[simp] theorem State.signal_boot (v : Nat) : (s.signal v).boot = s.boot := rfl
@[simp] theorem State.signal_pwr (v : Nat) : (s.signal v).pwr = s.pwr := rfl
@[simp] theorem State.signal_time (v : Nat) : (s.signal v).time = s.time := rfl
@[simp] theorem State.signal_dom (v : Nat) : (s.signal v).dom = s.dom := rfl
@[simp] theorem State.signal_res (v : Nat) : (s.signal v).res = s.res := rfl
@[simp] theorem State.signal_hlt (v : Nat) : (s.signal v).hlt = s.hlt := rfl

@[simp] theorem State.freeSkip_pending (n : Nat) : (s.freeSkip n).pending = s.pending := rfl
@[simp] theorem State.freeSkip_now (n : Nat) : (s.freeSkip n).now = s.now := rfl
@[simp] theorem State.freeSkip_regs (n : Nat) : (s.freeSkip n).regs = s.regs := rfl
@[simp] theorem State.freeSkip_seqOf (n : Nat) : (s.freeSkip n).seqOf = s.seqOf := rfl
@[simp] theorem State.freeSkip_bond (n : Nat) : (s.freeSkip n).bond = s.bond := rfl
@[simp] theorem State.freeSkip_bondPoison (n : Nat) : (s.freeSkip n).bondPoison = s.bondPoison := rfl
@[simp] theorem State.freeSkip_bondMarks (n : Nat) : (s.freeSkip n).bondMarks = s.bondMarks := rfl
@[simp] theorem State.freeSkip_cores (n : Nat) : (s.freeSkip n).cores = s.cores := rfl
@[simp] theorem State.freeSkip_clusters (n : Nat) : (s.freeSkip n).clusters = s.clusters := rfl
@[simp] theorem State.freeSkip_dies (n : Nat) : (s.freeSkip n).dies = s.dies := rfl
@[simp] theorem State.freeSkip_ports (n : Nat) : (s.freeSkip n).ports = s.ports := rfl
@[simp] theorem State.freeSkip_regions (n : Nat) : (s.freeSkip n).regions = s.regions := rfl
@[simp] theorem State.freeSkip_tags (n : Nat) : (s.freeSkip n).tags = s.tags := rfl
@[simp] theorem State.freeSkip_waiting (n : Nat) : (s.freeSkip n).waiting = s.waiting := rfl
@[simp] theorem State.freeSkip_inBundle (n : Nat) : (s.freeSkip n).inBundle = s.inBundle := rfl
@[simp] theorem State.freeSkip_gather (n : Nat) : (s.freeSkip n).gather = s.gather := rfl
@[simp] theorem State.freeSkip_posts (n : Nat) : (s.freeSkip n).posts = s.posts := rfl
@[simp] theorem State.freeSkip_counts (n : Nat) : (s.freeSkip n).counts = s.counts := rfl
@[simp] theorem State.freeSkip_image (n : Nat) : (s.freeSkip n).image = s.image := rfl
@[simp] theorem State.freeSkip_stepSt (n : Nat) : (s.freeSkip n).stepSt = s.stepSt := rfl
@[simp] theorem State.freeSkip_fw (n : Nat) : (s.freeSkip n).fw = s.fw := rfl
@[simp] theorem State.freeSkip_host (n : Nat) : (s.freeSkip n).host = s.host := rfl
@[simp] theorem State.freeSkip_boot (n : Nat) : (s.freeSkip n).boot = s.boot := rfl
@[simp] theorem State.freeSkip_pwr (n : Nat) : (s.freeSkip n).pwr = s.pwr := rfl
@[simp] theorem State.freeSkip_time (n : Nat) : (s.freeSkip n).time = s.time := rfl
@[simp] theorem State.freeSkip_dom (n : Nat) : (s.freeSkip n).dom = s.dom := rfl
@[simp] theorem State.freeSkip_res (n : Nat) : (s.freeSkip n).res = s.res := rfl
@[simp] theorem State.freeSkip_hlt (n : Nat) : (s.freeSkip n).hlt = s.hlt := rfl
@[simp] theorem State.freeSkip_out (n : Nat) : (s.freeSkip n).out = s.out := rfl

@[simp] theorem State.tally_pending (i n : Nat) : (s.tally i n).pending = s.pending := rfl
@[simp] theorem State.tally_now (i n : Nat) : (s.tally i n).now = s.now := rfl
@[simp] theorem State.tally_freeIx (i n : Nat) : (s.tally i n).freeIx = s.freeIx := rfl
@[simp] theorem State.tally_regs (i n : Nat) : (s.tally i n).regs = s.regs := rfl
@[simp] theorem State.tally_seqOf (i n : Nat) : (s.tally i n).seqOf = s.seqOf := rfl
@[simp] theorem State.tally_bond (i n : Nat) : (s.tally i n).bond = s.bond := rfl
@[simp] theorem State.tally_bondPoison (i n : Nat) : (s.tally i n).bondPoison = s.bondPoison := rfl
@[simp] theorem State.tally_bondMarks (i n : Nat) : (s.tally i n).bondMarks = s.bondMarks := rfl
@[simp] theorem State.tally_cores (i n : Nat) : (s.tally i n).cores = s.cores := rfl
@[simp] theorem State.tally_clusters (i n : Nat) : (s.tally i n).clusters = s.clusters := rfl
@[simp] theorem State.tally_dies (i n : Nat) : (s.tally i n).dies = s.dies := rfl
@[simp] theorem State.tally_ports (i n : Nat) : (s.tally i n).ports = s.ports := rfl
@[simp] theorem State.tally_regions (i n : Nat) : (s.tally i n).regions = s.regions := rfl
@[simp] theorem State.tally_tags (i n : Nat) : (s.tally i n).tags = s.tags := rfl
@[simp] theorem State.tally_waiting (i n : Nat) : (s.tally i n).waiting = s.waiting := rfl
@[simp] theorem State.tally_inBundle (i n : Nat) : (s.tally i n).inBundle = s.inBundle := rfl
@[simp] theorem State.tally_gather (i n : Nat) : (s.tally i n).gather = s.gather := rfl
@[simp] theorem State.tally_posts (i n : Nat) : (s.tally i n).posts = s.posts := rfl
@[simp] theorem State.tally_counts (i n : Nat) : (s.tally i n).counts = s.counts := rfl
@[simp] theorem State.tally_image (i n : Nat) : (s.tally i n).image = s.image := rfl
@[simp] theorem State.tally_stepSt (i n : Nat) : (s.tally i n).stepSt = s.stepSt := rfl
@[simp] theorem State.tally_fw (i n : Nat) : (s.tally i n).fw = s.fw := rfl
@[simp] theorem State.tally_host (i n : Nat) : (s.tally i n).host = s.host := rfl
@[simp] theorem State.tally_boot (i n : Nat) : (s.tally i n).boot = s.boot := rfl
@[simp] theorem State.tally_pwr (i n : Nat) : (s.tally i n).pwr = s.pwr := rfl
@[simp] theorem State.tally_time (i n : Nat) : (s.tally i n).time = s.time := rfl
@[simp] theorem State.tally_dom (i n : Nat) : (s.tally i n).dom = s.dom := rfl
@[simp] theorem State.tally_res (i n : Nat) : (s.tally i n).res = s.res := rfl
@[simp] theorem State.tally_out (i n : Nat) : (s.tally i n).out = s.out := rfl

end Sys2Proof.Machine
end

