-- ==== Sys2Proof/Laws/Ops.lean ====
section
/-!
SUPPORT. What the named operations over the whole state do, each said once: reading after writing a part, register and field laws,
status events, issuing a core's instruction.
-/
namespace Sys2Proof.Machine

/-! Parts: reading back. -/

@[simp] theorem State.core_setCore (s : State) (g : Nat) (c : Core) : (s.setCore g c).core g = c := Map.get_set_same ..
theorem State.core_setCore_ne (s : State) {g h : Nat} (c : Core) (n : h ≠ g) : (s.setCore g c).core h = s.core h := Map.get_set_ne _ _ _ _ _ n
@[simp] theorem State.core_onCore (s : State) (g : Nat) (f : Core → Core) : (s.onCore g f).core g = f (s.core g) := State.core_setCore ..
theorem State.core_onCore_ne (s : State) {g h : Nat} (f : Core → Core) (n : h ≠ g) : (s.onCore g f).core h = s.core h :=
  State.core_setCore_ne s _ n

@[simp] theorem State.die_setDie (s : State) (d : Nat) (v : Die) : (s.setDie d v).die d = v := Map.get_set_same ..
theorem State.die_setDie_ne (s : State) {d h : Nat} (v : Die) (n : h ≠ d) : (s.setDie d v).die h = s.die h := Map.get_set_ne _ _ _ _ _ n
@[simp] theorem State.die_onDie (s : State) (d : Nat) (f : Die → Die) : (s.onDie d f).die d = f (s.die d) := State.die_setDie ..
@[simp] theorem State.die_setCore (s : State) (g d : Nat) (c : Core) : (s.setCore g c).die d = s.die d := rfl

@[simp] theorem State.cluster_setCluster (s : State) (n : Nat) (v : Cluster) : (s.setCluster n v).cluster n = v := Map.get_set_same ..
@[simp] theorem State.port_setPort (s : State) (p : Nat) (v : Port) : (s.setPort p v).port p = v := Map.get_set_same ..
theorem State.port_setPort_ne (s : State) {p h : Nat} (v : Port) (n : h ≠ p) : (s.setPort p v).port h = s.port h := Map.get_set_ne _ _ _ _ _ n
@[simp] theorem State.tag_setTag (s : State) (d e : Nat) (t : Tag) : (s.setTag d e t).tag d e = t := Map.get_set_same ..
@[simp] theorem State.proc_setProc (s : State) (p : Nat) (v : Proc) : (s.setProc p v).proc p = v := Map.get_set_same ..
theorem State.proc_setProc_ne (s : State) {p h : Nat} (v : Proc) (n : h ≠ p) : (s.setProc p v).proc h = s.proc h := Map.get_set_ne _ _ _ _ _ n

@[simp] theorem State.setCore_setCore (s : State) (g : Nat) (c d : Core) : (s.setCore g c).setCore g d = s.setCore g d := by
  simp [State.setCore, Map.set_set]

/-! Registers. -/

@[simp] theorem State.reg_setReg (s : State) (o v : Nat) : (s.setReg o v).reg o = v % 2 ^ 32 := by
  simp [State.reg, State.setReg, Map.get_set_same]

theorem State.reg_setReg_ne (s : State) {o p : Nat} (v : Nat) (n : p ≠ o) : (s.setReg o v).reg p = s.reg p := by
  simp only [State.reg, State.setReg]; rw [Map.get_set_ne _ _ _ _ _ n]

theorem State.reg_lt (s : State) (o : Nat) : s.reg o < 2 ^ 32 := (Map.get 0#32 s.regs o).isLt

/-! An instruction that finishes without telling the module anything changes its core alone. -/

@[simp] theorem State.raiseNow_nil (s : State) : s.raiseNow [] = s := rfl

@[simp] theorem State.raiseAll_nil (s : State) : s.raiseAll [] = s := by
  unfold State.raiseAll
  split
  · rename_i g h
    simp only [List.map_nil, List.append_nil, ← h]
  · rfl

theorem sevMax_notice (x : Sev) : sevMax .notice x = x := by cases x <;> rfl

/-- One fault is raised among many as it is alone. -/
theorem State.raiseAll_one (s : State) (code inst : Nat) : s.raiseAll [(code, inst)] = s.raise code inst := by
  cases h : s.gather <;> simp [State.raiseAll, State.raise, State.raiseNow, State.note?, insertFault, sevMax_notice, h]

@[simp] theorem State.tells_nil (s : State) (g : Nat) : s.tells g [] = s := State.raiseAll_nil s

theorem State.takeCore_quiet (s : State) (g : Nat) (i : Instr) (r : CRes) (h1 : r.evs = []) (h2 : r.stalled = none)
    (h3 : r.stamps = (s.die (g / 96)).stamps) : s.takeCore g i r = s.setCore g r.core := by
  simp [State.takeCore, h1, h2, h3]

/-- One that reports a single fault has it raised at its instance. -/
theorem State.takeCore_fault (s : State) (g : Nat) (i : Instr) (r : CRes) (code : Nat) (h1 : r.evs = [.fault code])
    (h2 : r.stalled = none) (h3 : r.stamps = (s.die (g / 96)).stamps) :
    s.takeCore g i r = (s.setCore g r.core).raise code (faultInst code g) := by
  simp [State.takeCore, h1, h2, h3, State.tells, faultsOf, State.coreEv, State.raiseAll_one]

/-- One that stalls waits. -/
theorem State.takeCore_stall (s : State) (g : Nat) (i : Instr) (r : CRes) (cause : Nat) (h1 : r.evs = []) (h2 : r.stalled = some cause)
    (h3 : r.stamps = (s.die (g / 96)).stamps) : s.takeCore g i r = ((s.setCore g r.core).stallCore g cause).wait g i := by
  simp [State.takeCore, h1, h2, h3]

/-- Core `g` issues what its thread 0 has next: RUNNING, no full brake, the stream not stalled, no bundle of its own in progress. -/
theorem State.issue_runs (s : State) (g : Nat) (i : Instr) (f : Env → Core → CRes) (hb : s.fullBrake = false) (hm : s.mod = .running)
    (hs : (s.core g).stall = 0) (hi : s.inBundle = false) : s.issue g i f = s.takeCore g i (f (s.env g) (s.core g)) := by
  simp [State.issue, State.frozen, State.live, hs, hb, hm, hi]

/-- Threads 1–3 run on under the brake (R116). -/
theorem State.runThread_runs (s : State) (g : Nat) (i : Instr) (f : Env → Core → CRes) (hm : s.mod = .running) :
    s.runThread g i f = s.takeCore g i (f (s.env g) (s.core g)) := by
  simp [State.runThread, State.live, hm]

end Sys2Proof.Machine
end

