-- ==== Sys2Proof/Laws/Core.lean ====
section
/-!
SUPPORT. What a core's instructions leave, said once for every family: where a core issues, what its instruction left is taken over;
where nothing waits, settling changes nothing.
-/
namespace Sys2Proof.Machine

theorem State.Issues.runs {s : State} {g t : Nat} (h : s.Issues g t) (i : Instr) (f : Env → Core → CRes) :
    s.scalar g t i f = s.takeCore g i (f (s.env g) (s.core g)) := by
  obtain ⟨h1, h2, h3, h4⟩ := h
  unfold State.scalar
  split
  · rw [State.issue_runs _ _ _ _ h1 h2 (h3 ‹_›) h4]
  · rw [State.runThread_runs _ _ _ _ h2]

theorem State.Issues.issue {s : State} {g : Nat} (h : s.Issues g 0) (i : Instr) (f : Env → Core → CRes) :
    s.issue g i f = s.takeCore g i (f (s.env g) (s.core g)) :=
  State.issue_runs _ _ _ _ h.1 h.2.1 (h.2.2.1 rfl) h.2.2.2

theorem State.Issues.thread {s : State} {g t : Nat} (h : s.Issues g t) (i : Instr) (f : Env → Core → CRes) :
    s.runThread g i f = s.takeCore g i (f (s.env g) (s.core g)) :=
  State.runThread_runs _ _ _ _ h.2.1

theorem State.Issues.alu {s : State} {g t : Nat} (h : s.Issues g t) (i : Instr) (xd : Nat) (f : Core → W64) (lat : Nat) :
    s.alu g t i xd f lat = s.setCore g ((s.core g).scalar t xd (f (s.core g))) := by
  unfold State.alu; rw [h.runs]; exact State.takeCore_quiet _ _ _ _ rfl rfl rfl

theorem State.Issues.frozen {s : State} {g : Nat} (h : s.Issues g 0) : s.frozen g = none := by
  simp [State.frozen, h.1, h.2.1, h.2.2.1 rfl]

theorem State.Issues.live {s : State} {g t : Nat} (h : s.Issues g t) : s.live = true := by simp [State.live, h.2.1]

/-- Nothing held up: a command for the core runs its instruction. -/
theorem Core.Clear.issue {c : Core} {u : Uses} (h : c.Clear u) (e : Env) (he : e.timed = false) (body : Core → CRes) :
    c.issue e u body = body c := by
  unfold Core.issue Core.onUnits
  rw [h.1, h.2.1]
  simp only [he, h.2.2.1, h.2.2.2, Bool.false_eq_true, if_false]

theorem State.Issues.timed {s : State} {g t : Nat} (h : s.Issues g t) : (s.env g).timed = false := h.2.2.2

theorem State.Issues.vec {s : State} {g : Nat} (h : s.Issues g 0) (i : Instr) (vd lat : Nat) (f : Core → Core)
    (c : (s.core g).Clear (vecUses vd)) : s.vec g i vd lat f = s.setCore g (f (s.core g)) := by
  unfold State.vec; rw [h.issue, c.issue _ h.timed]; exact State.takeCore_quiet _ _ _ _ rfl rfl rfl

theorem State.Calm.allWaiting {s : State} (h : s.Calm) : s.allWaiting = [] := by
  simp only [State.allWaiting, List.flatMap_eq_nil_iff, List.mem_range]
  intro p hp
  rw [h.1 ⟨p, hp⟩]; rfl

theorem foldl_same {α β : Type} (f : α → β → α) (a : α) (l : List β) (h : ∀ b ∈ l, f a b = a) : l.foldl f a = a := by
  induction l with
  | nil => rfl
  | cons b l ih =>
    rw [List.foldl_cons, h b (by simp)]
    exact ih fun x hx => h x (by simp [hx])

theorem State.Calm.settleLandings {s : State} (h : s.Calm) : s.settleLandings = s := by
  unfold State.settleLandings
  refine foldl_same _ _ _ fun d hd => foldl_same _ _ _ fun l hl => ?_
  have hd : d < 4 := by simp at hd; omega
  have := (h.2 ⟨d, hd⟩).2.2 l hl
  simp [State.settleLanding, this]

theorem State.Calm.runOffices {s : State} (h : s.Calm) : s.runOffices = s := by
  unfold State.runOffices
  refine foldl_same _ _ _ fun d hd => ?_
  have h2 := h.2 ⟨d, by simpa using hd⟩
  simp only at h2
  simp [State.runOffice, h2.1, h2.2.1, State.runAdm, State.runPar]

theorem State.Calm.settle {s : State} (h : s.Calm) : s.settle = s := by
  rw [State.settle, h.allWaiting]
  simp [State.deliver, h.runOffices, h.settleLandings]

end Sys2Proof.Machine
end

