-- ==== Sys2Proof/Laws/Mem.lean ====
section
/-!
SUPPORT. Every memory operation keeps the canonical form of the memory it writes, and the memories of the reset state have it.
-/
namespace Sys2Proof.Machine

/-! Bonded memory. -/

theorem State.writeUnit_wf (s : State) (lo hi : Nat) (f : Nat → Byte) (p op : Bool) (h : Memory.wf s.bond = true) :
    Memory.wf (s.writeUnit lo hi f p op).bond = true := by
  unfold State.writeUnit
  split
  · split
    · exact h
    · exact Map.fill_wf _ _ _ _ _ h
  · exact h

theorem State.writeUnit_poison_wf (s : State) (lo hi : Nat) (f : Nat → Byte) (p op : Bool) (h : Map.wf false s.bondPoison = true) :
    Map.wf false (s.writeUnit lo hi f p op).bondPoison = true := by
  unfold State.writeUnit
  split
  · split
    · exact h
    · exact Map.set_wf _ _ _ _ h
  · exact h

/-- What every step of a fold keeps, the fold keeps. -/
theorem foldl_keeps {α β : Type} (P : α → Prop) (f : α → β → α) (h : ∀ a b, P a → P (f a b)) (l : List β) (a : α) (ha : P a) :
    P (l.foldl f a) := by
  induction l generalizing a with
  | nil => exact ha
  | cons b l ih => exact ih _ (h a b ha)

theorem State.writeBond_wf (s : State) (a : Nat) (l : List Byte) (poison : Nat) (op : Bool) (h : Memory.wf s.bond = true) :
    Memory.wf (s.writeBond a l poison op).bond = true := by
  unfold State.writeBond
  dsimp only
  split
  · exact h
  · refine foldl_keeps (fun t : State => Memory.wf t.bond = true) _ (fun t i ht => ?_) _ _ h
    split
    · exact ht
    · exact t.writeUnit_wf _ _ _ _ _ ht

theorem State.writeBond_poison_wf (s : State) (a : Nat) (l : List Byte) (poison : Nat) (op : Bool) (h : Map.wf false s.bondPoison = true) :
    Map.wf false (s.writeBond a l poison op).bondPoison = true := by
  unfold State.writeBond
  dsimp only
  split
  · exact h
  · refine foldl_keeps (fun t : State => Map.wf false t.bondPoison = true) _ (fun t i ht => ?_) _ _ h
    split
    · exact ht
    · exact t.writeUnit_poison_wf _ _ _ _ _ ht

theorem State.opElem_wf (s : State) (op addr x swap : Nat) (poison : Bool) (h : Memory.wf s.bond = true) :
    Memory.wf (s.opElem op addr x swap poison).1.bond = true := s.writeBond_wf _ _ _ _ h

theorem State.opRow_wf (s : State) (op addr : Nat) (data : List Byte) (poison : Nat) (h : Memory.wf s.bond = true) :
    Memory.wf (s.opRow op addr data poison).bond = true := by
  refine foldl_keeps (fun t : State => Memory.wf t.bond = true) _ (fun t i ht => ?_) _ _ h
  split
  · exact ht
  · exact t.opElem_wf _ _ _ _ _ ht

theorem State.scanFill_wf (s : State) (key : Nat) (h : Memory.wf s.bond = true) : Memory.wf (s.scanFill key).bond = true :=
  Map.fill_wf _ _ _ _ _ h

/-- Losing a channel drops its bytes (R266). -/
theorem bond_filter_wf (m : Map Byte) (p : Nat × Byte → Bool) (h : Memory.wf m = true) : Memory.wf (m.filter p) = true :=
  Map.filter_wf _ _ _ h

/-! A core's memories: the tile store, the scalar data memory. -/

theorem Core.putBytes_wf (c : Core) (acc : Bool) (a n : Nat) (f : Nat → Byte) (p : Bool) (h : Memory.wf c.ts = true) :
    Memory.wf (c.putBytes acc a n f p).ts = true := by
  cases acc
  · exact Map.fill_wf _ _ _ _ _ h
  · exact h

theorem Core.putBytes_acc_wf (c : Core) (acc : Bool) (a n : Nat) (f : Nat → Byte) (p : Bool) (h : Map.wf 0#32 c.acc = true) :
    Map.wf 0#32 (c.putBytes acc a n f p).acc = true := by
  cases acc
  · exact h
  · exact Map.fill_wf _ _ _ _ _ h

theorem Core.accPutRow_wf (c : Core) (tile row : Nat) (f : Nat → Nat) (p : Bool) (h : Map.wf 0#32 c.acc = true) :
    Map.wf 0#32 (c.accPutRow tile row f p).acc = true := Map.fill_wf _ _ _ _ _ h

theorem Core.putV_wf (c : Core) (r : Nat) (f : Nat → Nat) (p : Nat → Bool) (h : Map.wf 0#32 c.vreg = true) :
    Map.wf 0#32 (c.putV r f p).vreg = true := Map.fill_wf _ _ _ _ _ h

theorem Core.sdmWrite_wf (c : Core) (a n v : Nat) (h : Memory.wf c.sdm = true) : Memory.wf (c.sdmWrite a n v).sdm = true :=
  Map.fill_wf _ _ _ _ _ h

theorem Core.sdmPut_wf (c : Core) (a n : Nat) (f : Nat → Byte) (p : Bool) (h : Memory.wf c.sdm = true) :
    Memory.wf (c.sdmPut a n f p).sdm = true := Map.fill_wf _ _ _ _ _ h

/-! Reset. -/

theorem reset_bond_wf : Memory.wf State.reset.bond = true := by decide

theorem reset_core_wf (g : Nat) : Memory.wf (State.reset.core g).ts = true ∧ Memory.wf (State.reset.core g).sdm = true := by
  have h : State.reset.cores = [] := by decide
  simp [State.core, h, Memory.wf, Map.wf, Map.rising]

end Sys2Proof.Machine
end

