-- ==== Sys2Proof/Laws/Vector.lean ====
section
/-!
SUPPORT. What writing a vector register does: its lanes, its row poison, and nothing else.
-/
namespace Sys2Proof.Machine

theorem Core.vw_putV (c : Core) (r : Nat) (f : Nat → Nat) (p : Nat → Bool) (q w : Nat) (h : w < 2048) :
    (c.putV r f p).vw q w = if q = r then f w % 2 ^ 32 else c.vw q w := by
  simp only [Core.vw, Core.putV, Map.get_fill]
  by_cases e : q = r
  · subst e
    rw [if_pos (by omega), if_pos rfl, Nat.add_sub_cancel_left, BitVec.toNat_ofNat]
  · rw [if_neg (by omega), if_neg e]

theorem Core.vp_putV (c : Core) (r : Nat) (f : Nat → Nat) (p : Nat → Bool) (q k : Nat) (h : k < 32) :
    (c.putV r f p).vp q k = if q = r then p k else c.vp q k := by
  simp only [Core.vp, Core.putV, Map.get_fill]
  by_cases e : q = r
  · subst e; rw [if_pos (by omega), if_pos rfl, Nat.add_sub_cancel_left]
  · rw [if_neg (by omega), if_neg e]

theorem Core.vset_writes (c : Core) (ty : VTy) (vd : Nat) (rs : List Nat) (f : Nat → Nat) : WritesLanes c (c.vset ty vd rs f) ty vd rs f := by
  refine ⟨?_, ?_, ?_, ?_, rfl⟩
  · intro i hi
    unfold Core.vlane
    cases ty with
    | bf16 =>
      simp only [VTy.lanes] at hi
      simp only [if_true, Core.vh, Core.vset, Core.vw_putV _ _ _ _ _ _ (show i / 2 < 2048 by omega), laneWord, VTy.width]
      rcases Nat.mod_two_eq_zero_or_one i with h | h
      · rw [h, show 2 * (i / 2) = i by omega]; omega
      · rw [h, show 2 * (i / 2) + 1 = i by omega]; omega
    | f32 => simp [VTy.lanes] at hi; simp [Core.vset, Core.vw_putV _ _ _ _ _ _ hi, laneWord, VTy.width]
    | int32 => simp [VTy.lanes] at hi; simp [Core.vset, Core.vw_putV _ _ _ _ _ _ hi, laneWord, VTy.width]
  · intro k hk; simp [Core.vset, Core.vp_putV _ _ _ _ _ _ hk, Core.rowPoison]
  · intro r hr w hw; simp [Core.vset, Core.vw_putV _ _ _ _ _ _ hw, hr]
  · intro r hr k hk; simp [Core.vset, Core.vp_putV _ _ _ _ _ _ hk, hr]

/-- Only the lanes below the lane count matter, and of them only the low bits. -/
theorem WritesLanes.congr {c d : Core} {ty : VTy} {vd : Nat} {rs : List Nat} {f h : Nat → Nat} (w : WritesLanes c d ty vd rs f)
    (e : ∀ i < ty.lanes, f i % 2 ^ ty.width = h i % 2 ^ ty.width) : WritesLanes c d ty vd rs h :=
  ⟨fun i hi => (w.1 i hi).trans (e i hi), w.2⟩

end Sys2Proof.Machine
end

