-- ==== Sys2Proof/Tests/Slice0.lean ====
section
/-!
SUPPORT. Tests on small states, and for every statement with hypotheses a theorem that shows states and operands that meet them, clause by
clause. Expected results come from the spec's encodings, rules and worked examples.
-/
namespace Sys2Proof.Tests
open Sys2Proof.Machine

/-! Small states. -/

/-- A module in state `m` with nothing in it. -/
def inMod (m : Mod) : State := { fw := { mod := m, prev := .ready, event := 6 } }
/-- A running module whose core 0 is `c`. -/
def withCore (c : Core) : State := { inMod .running with cores := [(0, c)] }
/-- A running module whose die 0 is `d`. -/
def withDie (d : Die) : State := { inMod .running with dies := [(0, d)] }
/-- A module in state `m` whose port 0 is `p`. -/
def withPort (m : Mod) (p : Port) : State := { inMod m with ports := [(0, p)] }
/-- A module in state `m` whose processor `p` is in state `st`. -/
def withProc (m : Mod) (p : Nat) (st : ProcState) : State :=
  { fw := { mod := m, prev := .ready, event := 6, procs := [(p, { st := st })] } }
/-- The answer's state, if it goes on. -/
def after : Ans → State
  | .next t => t
  | _ => inMod .off

/-! Ill-formed instructions, one for each check (R62, R83, R118, R129, R130, R132, R136, R137). -/

theorem test_wf_vst : (Instr.vst 0 8 0 0 0 0).wellFormed = false ∧ (Instr.vst 0 7 0 0 0 0).wellFormed = true := by decide
theorem test_wf_tfill : (Instr.tfill 0 7 0 0).wellFormed = false ∧ (Instr.tfill 0 6 0 0).wellFormed = true := by decide
theorem test_wf_gopenLoad : (Instr.gopenLoad 0 2 0 0 0 0 0).wellFormed = false ∧ (Instr.gopenLoad 0 8 0 0 0 0 0).wellFormed = true := by decide
theorem test_wf_vcvts_register : (Instr.vcvts 0 .f32 4 false 0 0 0).wellFormed = false ∧ (Instr.vcvts 0 .bf16 4 false 0 0 0).wellFormed = true := by
  decide
theorem test_wf_vcvts_format : (Instr.vcvts 0 .f32 8 false 0 0 9).wellFormed = false := by decide
theorem test_wf_vtopk : (Instr.vtopk 0 .int32 0 0 0).wellFormed = false ∧ (Instr.vtopk 0 .bf16 0 0 0).wellFormed = true := by decide
theorem test_wf_geth : (Instr.geth 0 0 1 12#19).wellFormed = false ∧ (Instr.geth 0 1 1 0#19).wellFormed = false
    ∧ (Instr.geth 0 0 1 11#19).wellFormed = true := by decide
theorem test_wf_puth : (Instr.puth 0 0 1 0#19).wellFormed = false ∧ (Instr.puth 0 3 1 0#19).wellFormed = true := by decide
theorem test_wf_branches : (Instr.beq 0 0 1 2 0#19).wellFormed = false ∧ (Instr.bne 0 0 1 2 0#19).wellFormed = false
    ∧ (Instr.blt 0 0 1 2 0#19).wellFormed = false ∧ (Instr.thalt 0 0).wellFormed = false := by decide
theorem test_wf_tstart : (Instr.tstart 0 0 0).wellFormed = false ∧ (Instr.tstart 0 1 0).wellFormed = true := by decide
theorem test_wf_expect : (Instr.expect 0 3 0).wellFormed = false ∧ (Instr.expect 0 2 0).wellFormed = true := by decide
theorem test_refuses : exec (.vst 0 8 0 0 0 0) (inMod .running) = .refused (.illFormed "VST")
    ∧ exec (.puth 0 0 1 0#19) (inMod .running) = .refused (.illFormed "PUTH") := ⟨rfl, rfl⟩

/-! Words of the slots, written out field by field from R122, R125, R126, R131, R132, R136 and R137. -/

theorem test_slot_stream : arraySlot 0 .a 0b0010_00000101_00001_00010_1_011_000000000111_00 = .instr (.stream 0 .a 5 1 2 true 3 7) := by decide
theorem test_slot_gclose : arraySlot 0 .b 0b0101_11111111_10000_00000_0_111_000000000000_00 = .instr (.gclose 0 .b 255 16 7) := by decide
theorem test_slot_twin : arraySlot 9 .a 0b0011_00000001_00010_00011_0_100_100000000000_00 = .instr (.twin 9 1 2 3 false 4 2048)
    ∧ arraySlot 9 .b 0b0011_00000001_00010_00011_0_100_100000000000_00 = .bad := by decide
theorem test_slot_array_reserved : arraySlot 0 .a 0b0111_00000000_00000_00000_0_000_000000000000_00 = .bad
    ∧ arraySlot 0 .a 0b0001_00000000_00000_00000_0_000_000000000000_01 = .bad := by decide
theorem test_slot_vfma : vectorSlot 0 0b00000100_01_00001_00010_00011_00100_0000_0_0_000000000000_00000_00000000000
    = .instr (.vfma 0 .bf16 1 2 3 4) := by decide
theorem test_slot_vcvt : vectorSlot 0 0b00001110_00_00101_00010_00011_00000_0000_0_1_001010100111_01001_00000000001
    = .instr (.vcvt 0 .f32 5 2 3 true 0x2A7 9 true) := by decide
theorem test_slot_vtopk : vectorSlot 0 0b00010110_00_00000_00000_00000_00000_0000_0_0_000000000000_00110_0111_0000111
    = .instr (.vtopk 0 .f32 6 7 7) := by decide
theorem test_slot_vld : moveSlot 0 0b0001_1000_00011_100000000000010_00001_00000_1_010000000 = .instr (.vld 0 8 3 0x4002 1 true 128) := by decide
theorem test_slot_cpost : moveSlot 0 0b0110_0000_00010_000000000000000_00111_00000_0_111111111 = .instr (.cpost 0 2 7 511) := by decide
theorem test_slot_gopenLoad : moveSlot 0 0b0101_0111_00110_000000000000001_00010_00011_0_000011111 = .instr (.gopenLoad 0 7 6 1 2 3 31) := by decide
theorem test_slot_addi : scalarSlot 0 0 0b000010_00001_00010_00000_1111111111111111111 = .instr (.addi 0 0 1 2 0x7FFFF#19) := by decide
theorem test_slot_sub : scalarSlot 0 2 0b000011_00001_00010_00011_0000000000000000000 = .instr (.sub 0 2 1 2 3) := by decide
theorem test_slot_st : scalarSlot 0 0 0b010001_00000_00010_00011_0000000000000001000 = .instr (.st 0 0 2 3 8#19) := by decide
theorem test_slot_blt : scalarSlot 0 1 0b011001_00000_00010_00011_1111111111111111110 = .instr (.blt 0 1 2 3 0x7FFFE#19) := by decide
theorem test_slot_loop : syncSlot 0 0b0001_000000000011_00000010 = .instr (.loop 0 3 2) := by decide
theorem test_slot_expect : syncSlot 0 0b0011_10_0000000101_00000000 = .instr (.expect 0 2 5) := by decide
theorem test_slot_tstart : syncSlot 0 0b0100_11_00000000_0000001001 = .instr (.tstart 0 3 9) := by decide
theorem test_no_row_has_bits : decodeTableWord 40 0x123456789A = none := by decide

/-! Results on small states. -/

theorem test_add_wraps : ((after (exec (.add 0 0 3 1 2) (withCore { x := [(1, 0xFFFFFFFFFFFFFFFF#64), (2, 2#64)] }))).core 0).rx 3 = 1#64 := by
  decide
theorem test_x0_discards : ((after (exec (.addi 0 0 0 0 5#19) (withCore {}))).core 0).rx 0 = 0#64 := by decide
theorem test_addi_sign : ((after (exec (.addi 0 0 1 0 0x7FFFF#19) (withCore {}))).core 0).rx 1 = 0xFFFFFFFFFFFFFFFF#64 := by decide
theorem test_srai_sign : ((after (exec (.srai 0 0 1 1 4#19) (withCore { x := [(1, 0x8000000000000000#64)] }))).core 0).rx 1
    = 0xF800000000000000#64 := by decide
theorem test_shri_zero : ((after (exec (.shri 0 0 1 1 4#19) (withCore { x := [(1, 0x8000000000000000#64)] }))).core 0).rx 1
    = 0x0800000000000000#64 := by decide
theorem test_shlor : ((after (exec (.shlor 0 0 1 1 0x7#19) (withCore { x := [(1, 1#64)] }))).core 0).rx 1 = 0x80007#64 := by decide
theorem test_divu_zero : ((after (exec (.divu 0 0 1 1 2) (withCore { x := [(1, 5#64)] }))).core 0).rx 1 = 0xFFFFFFFFFFFFFFFF#64 := by decide
theorem test_slt_signed : ((after (exec (.slt 0 0 1 1 2) (withCore { x := [(1, 0xFFFFFFFFFFFFFFFF#64)] }))).core 0).rx 1 = 1#64 := by decide
theorem test_lw_zero_extends :
    ((after (exec (.lw 0 0 1 0 0#19) (withCore { sdm := [(0, 0x78#8), (3, 0xFF#8)] }))).core 0).rx 1 = 0xFF000078#64 := by decide
theorem test_sw_little_endian :
    ((after (exec (.sw 0 0 0 1 8#19) (withCore { x := [(1, 0xAA11223344#64)] }))).core 0).sdm
      = [(8, 0x44#8), (9, 0x33#8), (10, 0x22#8), (11, 0x11#8)] := by decide
theorem test_thread_registers :
    ((after (exec (.addi 0 2 1 0 7#19) (withCore {}))).core 0).rt 2 1 = 7#64 ∧ ((after (exec (.addi 0 2 1 0 7#19) (withCore {}))).core 0).rt 1 1 = 0#64 := by
  decide
theorem test_blt_taken : (((after (exec (.blt 0 1 1 0 0x7FFFE#19) (withCore { th := [(1, { x := [(1, 0xFFFFFFFFFFFFFFFF#64)], pc := 9, running := true })] }))).core 0).thread 1).pc
    = 7 := by decide
theorem test_held_waits : (after (exec (.addi 0 0 1 0 1#19) (inMod .held))).waiting = [(0, [.addi 0 0 1 0 1#19])] := by decide

/-- The worked example of R91: 463 and 464 round to 448 in E4M3, and 470 overflows. -/
theorem test_e4m3_rounds : ∃ t, fmtInfo (fun _ => 0) 2 = some t ∧ t.convElem 0 .rne (.fin false 463 0) = (0x7E, false)
    ∧ t.convElem 0 .rne (.fin false 464 0) = (0x7E, false) ∧ (t.convElem 0 .rne (.fin false 470 0)).2 = true :=
  ⟨_, rfl, by decide, by decide, by decide⟩
/-- The worked example of ch. 3: an element of a gradient tile into G16 at stamps −18 and −14, and the element that overflows. -/
theorem test_g16_element : ∃ t, fmtInfo (fun _ => 0) 8 = some t
    ∧ t.convElem (-18) (.sr 0x3A1C) (FFmt.f32.decode 0xBB9B7700) = (0xFB25, false)
    ∧ t.convElem (-14) (.sr 0x3A1C) (FFmt.f32.decode 0xBB9B7700) = (0xFFB3, false)
    ∧ (t.convElem (-18) .rne (FFmt.f32.decode 0x3E400000)).2 = true
    ∧ t.convElem (-14) .rne (FFmt.f32.decode 0x3E400000) = (0x0C00, false) :=
  ⟨_, rfl, by decide, by decide, by decide, by decide⟩
/-- The worked example of R191: three pairs of admitted and saved tokens. -/
theorem test_match_pairs : (matchPairs [7, 19, 40, 41] [41, 3, 19, 19]).1 = [(3, 0), (1, 2), (1, 3)] := by decide
/-- The worked example of R172: −3.0 and the 2.0 at the lower index are kept of 2.0, −3.0, 0.5, 2.0. -/
theorem test_keep_two : keepTwo (fun i => [FV.fin false 2 0, .fin true 3 0, .fin false 1 (-1), .fin false 2 0].getD i .nan) [0, 1, 2, 3] = [0, 1] := by
  decide
/-- The worked example of R451: a sequence clear of 0x0709_0000 clears bit 19 and leaves bit 16, which was set again. -/
theorem test_sequence_clear :
    ((after (exec (.sequenceClear (BitVec.ofNat 26 Reg.HOST_STAT) 0x07090000#32)
      { inMod .running with regs := [(Reg.HOST_STAT, 0x08090000#32)], seqOf := [(Reg.HOST_STAT * 32 + 16, 8), (Reg.HOST_STAT * 32 + 19, 7)] })).reg
      Reg.HOST_STAT) = 0x08010000 := by decide
/-- R279: contributions in any order leave one element, and a stamp below the scale makes it INVALID. -/
theorem test_exact_elem : (exactElem 0 1 3 ((exactElem 0 0 5 0).1)).1 = 11 ∧ (exactElem 0 (-1) 3 7).1 = invalid64 := by decide
/-- R336: the dead-letter value. -/
theorem test_dead_letter : let t := after (exec (.deadLetter 0 0) { inMod .running with tags := [(0, { used := true, dest := { load := true, space := 0, core := 0, addr := 0, size := 2 } })] })
    (t.core 0).tileByte false 0 = 0xBD#8 ∧ (t.core 0).tileByte false 1 = 0x7F#8 := by decide

/-! Cores. -/

/-- Bits of an array descriptor: FMT, FIRST, COUNT − 1, DST and DFMT (R123). -/
def arrayDesc (fmt first count dst dfmt : Nat) : Nat := fmt * 2 ^ 29 + first * 2 ^ 63 + count * 2 ^ 68 + dst * 2 ^ 73 + dfmt * 2 ^ 88
/-- A core with an open group 0 of tile 0 and an FP8 resident set in front of both arrays. -/
def readyCore : Core :=
  { desc := [(1, arrayDesc 2 0 0 0 2 + 2 ^ 35), (2, arrayDesc 2 31 1 0 9)], x := [(1, 2#64), (2, 1#64), (3, 0x3000#64)]
    groups := [(0, { st := .opened, first := 0, count := 1 }), (1, { st := .opened, first := 8, count := 2 }), (2, { st := .closing, first := 4, count := 1 })]
    frontA := { fmt := 2, g := 2, filled := true }, frontB := { fmt := 2, g := 2, filled := true, parity := some (5, 7) } }
def ready : State := withCore readyCore
/-- Entries 0, 2 and 7 of the format table (R83). -/
def bf16Tile : FmtInfo := { width := 16, f := .bf16 }
def fp8Tile : FmtInfo := { width := 8, f := ⟨4, 3, 7, 1⟩, scaled := true }
def f32Tile : FmtInfo := { width := 32, f := .f32 }

/-- Every thread of a core of a running module issues; a hold and a stall stop thread 0. -/
theorem witness_ScalarArithmetic : (withCore {}).Issues 0 0 ∧ (inMod .running).Issues 383 3 ∧ ¬ (inMod .held).Issues 0 0
    ∧ ((withCore {}).core 0).busyUnit .divider = false ∧ (withCore { occ := [(11, 1)] }).Issues 0 0
    ∧ ((withCore { occ := [(11, 1)] }).core 0).busyUnit .divider = true := by decide
theorem witness_ScalarResult : (0 : Fin 4).val = 0 ∧ (3 : Fin 4).val ≠ 0 ∧ (2 : Fin 4) ≠ 3 := by decide
/-- The last words of the general area and of a window, and the first ones past them. -/
theorem witness_ScalarMemory :
    let c : Core := { x := [(1, 0x17FF8#64), (2, 0x17EF8#64)] }
    let s := withCore { c with th := [(1, { x := [(1, 0x19FF8#64)] })] }
    s.Issues 0 0 ∧ s.Issues 0 1 ∧ ((s.core 0).rt 0 1 + (0#19).signExtend 64).toNat = 0x17FF8
    ∧ MayReadSdm 0 0x17FF8 8 ∧ (s.core 0).blocked { reads := [sdmUnits 0x17FF8 8] } = none
    ∧ (0 = 0 → (s.core 0).services = []) ∧ MayWriteSdm 0 0x17EF8 8 ∧ (s.core 0).blocked { writes := [sdmUnits 0x17EF8 8] } = none ∧ serviceIn 0x17EF8 8 = none
    ∧ (s.core 0).blocked { reads := [sdmUnits 0x17EF8 8] } = none
    ∧ ((s.core 0).rt 1 1 + (0#19).signExtend 64).toNat = 0x19FF8 ∧ MayReadSdm 1 0x19FF8 8 ∧ MayWriteSdm 1 0x19FF8 8
    ∧ (s.core 0).blocked { writes := [sdmUnits 0x19FF8 8] } = none ∧ serviceIn 0x19FF8 8 = none
    ∧ ¬ MayReadSdm 0 0x17FF9 8 ∧ ¬ MayWriteSdm 1 0x17FF8 8 ∧ ¬ MayReadSdm 1 0x19FF9 8 ∧ ((s.core 0).rt 0 1 + (1#19).signExtend 64).toNat = 0x17FF9
    ∧ (¬ ∃ w ∈ (s.core 0).sdmBad, 0x17FF8 / 8 ≤ w ∧ w < (0x17FF8 + 8 + 7) / 8)
    ∧ (∃ w ∈ ({ c with sdmBad := [0x2FFF] } : Core).sdmBad, 0x17FF8 / 8 ≤ w ∧ w < (0x17FF8 + 8 + 7) / 8) := by
  decide
theorem witness_ThreadControl :
    let s := withCore { handFull := [(11, true)] }
    s.Issues 0 0 ∧ (11#19).toNat < 12 ∧ Map.get false (s.core 0).handFull 11 = true ∧ Map.get false (s.core 0).handFull 0 = false
    ∧ s.Issues 0 1 ∧ (1 : Fin 4).val ≠ 0 ∧ (inMod .running).Issues 383 3 ∧ (3 : Fin 4).val ≠ 0 := by decide
/-- A fenced module: its state, its RESET_N and what waits. -/
def shut (low : Bool) (c : Instr) : State :=
  { State.reset with fw := { State.reset.fw with mod := .fenced }, pwr := { State.reset.pwr with resetLow := low }, pending := [c] }
theorem witness_ShutStays :
    (∃ t, step (shut true .resetNRelease) = .next t ∧ t.mod = .boot) ∧ (shut true .resetNRelease).mod = .fenced
    ∧ (∃ t, step (shut false .resetNRelease) = .next t ∧ t.mod = .fenced)
    ∧ ∃ t, step (shut false .supplyReset) = .next t ∧ t.mod = .off :=
  ⟨⟨_, rfl, by decide +kernel⟩, rfl, ⟨_, rfl, by decide +kernel⟩, ⟨_, rfl, by decide +kernel⟩⟩
theorem witness_SyncSlot :
    let l : Loop := { first := 0, len := 1, left := 0 }
    let s := withCore { loops := [l, l, l] }
    s.Issues 0 0 ∧ (s.core 0).loops.length < 4 ∧ ((withCore {}).core 0).loops = [] ∧ ((withCore {}).core 0).stepEnd = false
    ∧ (withCore { stepEnd := true }).Issues 0 0 ∧ ((withCore { stepEnd := true }).core 0).stepEnd = true ∧ (1 : Fin 4).val ≠ 0 := by decide
theorem witness_ReleaseUses :
    let r : RelEnt := { uses := 1, valid := true, space := 2, dest := 0x100, bytes := 8 }
    let s := withCore { rel := [(1023, r)] }
    let spent := withCore { rel := [(1023, r)], uses := [(1023, 1)] }
    let due := withCore { claims := [{ ident := 7, src := 0, space := 2, first := 0, units := 1, bytes := 8, got := 8 }] }
    s.Issues 0 0 ∧ (2 : Fin 4).val < 3 ∧ ((s.core 0).relEnt 1023).valid = true ∧ ((s.core 0).relEnt 1023).space = 2 ∧ s.Calm
    ∧ (s.core 0).usesOf 1023 < ((s.core 0).relEnt 1023).uses ∧ ((spent.core 0).relEnt 1023).uses ≤ (spent.core 0).usesOf 1023 ∧ spent.Issues 0 0 ∧ spent.Calm
    ∧ (∀ k ∈ (due.core 0).claims, k.ident = 7 → due.claimDue k = true) ∧ (∀ k ∈ (due.core 0).claims, k.ident = 8 → due.claimDue k = false) ∧ due.Calm
    ∧ (inMod .held).mod = .held ∧ s.fullBrake = false ∧ s.mod ≠ .held ∧ Map.get [] s.waiting 0 = []
    ∧ Map.get [] ({ s with waiting := [(0, [.add 0 0 1 2 3])] } : State).waiting 0 = [.add 0 0 1 2 3] := by decide
theorem witness_ReleaseUses_reissue : ∃ u, reissue (.add 0 0 1 2 3) (withCore {}) = .next u := ⟨_, rfl⟩
theorem witness_VectorLanewise : (withCore {}).Issues 0 0 ∧ ((withCore {}).core 0).busyUnit .special = false
    ∧ ((withCore {}).core 0).Clear (vecUses 31) ∧ ((withCore { occ := [(8, 1)] }).core 0).Clear (vecUses 0)
    ∧ (withCore { occ := [(8, 1)] }).Issues 0 0 ∧ ((withCore { occ := [(8, 1)] }).core 0).busyUnit .special = true := by decide
theorem witness_VectorRows : (inMod .running).Issues 383 0 ∧ ((inMod .running).core 383).Clear (vecUses 31) := by decide
/-- SR under a VALID id, and under one that is not; a stamped conversion into the last granule, past it, and while a decision is awaited. -/
theorem witness_VectorConversions :
    let s := withDie { stamps := [(5, { valid := true })] }
    let far := withCore { x := [(4, 0x5FBE00#64), (9, 0x5FBE01#64)] }
    let wait := withCore { stepEnd := true }
    s.Issues 0 0 ∧ (s.core 0).Clear (vecUses 31) ∧ (Map.get {} (s.die 0).stamps 5).valid = true ∧ (s.env 0).updating = false ∧ (Map.get {} (s.die 0).stamps 6).valid = false
    ∧ s.fmt 2 = some fp8Tile ∧ tileSize fp8Tile 0 = 16896 ∧ (2 : Fin 16).val ≠ 9 ∧ (24 : Fin 32).val % 8 = 0 ∧ (28 : Fin 32).val % 4 = 0
    ∧ far.Issues 0 0 ∧ ((far.core 0).rx ((1 + 3) % 32)).toNat + 16896 = 12288 * 512 ∧ (far.env 0).updating = false
    ∧ (far.core 0).Clear { units := [.vcvts], writes := [granules 0x5FBE00 16896] } ∧ 12288 * 512 < ((far.core 0).rx ((6 + 3) % 32)).toNat + 16896
    ∧ wait.Issues 0 0 ∧ (wait.env 0).updating = true := by decide
theorem witness_TopkRanking : 0 ≤ 0 ∧ 16 ≤ 32 := by decide
/-- Two rows of 32 FP32 columns, one without and one with a NaN, and an empty plane. -/
theorem witness_VectorTopk :
    let c : Core := { x := [(1, 0#64), (2, 0x1000#64), (3, 0x1200#64), (4, 2#64), (5, 2#64)] }
    let s := withCore c
    s.Issues 0 0 ∧ (VTy.f32 ≠ .int32) ∧ ((s.core 0).rx 1).toNat + 2 * 32 * 4 ≤ 12288 * 512 ∧ 0x1000 + 4 * (1 * 2 + 2) ≤ 12288 * 512
    ∧ 0x1200 + 2 * (1 * 2 + 2) ≤ 12288 * 512 ∧ 2 ≤ 2 ∧ 0x1000 + 4 * (1 * 2 + 2) ≤ 0x1200
    ∧ (s.core 0).Clear { units := [.topk], reads := [granules 0 256], writes := [granules 0x1000 16, granules 0x1200 8] }
    ∧ laneVal .f32 (leNat ((List.range 4).map fun b => (s.core 0).tileByte false b)) ≠ .nan
    ∧ laneVal .f32 0x7FC00000 = .nan := by decide
/-- The last band of the tile store, the last tile of the accumulator store transposed, a band that runs past the end, and an address past
it. -/
theorem witness_VectorLoad :
    let c := ready.core 0
    let last := c.bandBytes (ready.env 0) f32Tile false (0x2FF0 * 512) false 0 16
    let past := c.bandBytes (ready.env 0) f32Tile false (0x2FF0 * 512) false 1 16
    let turned := c.bandBytes (ready.env 0) f32Tile true (31 * 65536) true 112 16
    ready.Issues 0 0 ∧ ready.fmt 7 = some f32Tile ∧ effAddr 0x2FF0 (c.rx 0) = some (false, 0x2FF0 * 512)
    ∧ last = [(0x2FF0 * 512, 8192)] ∧ (∀ b ∈ last, b.1 + b.2 ≤ spaceBytes false)
    ∧ c.Clear { units := [.tileMove], reads := last.map (fun b => tileUnits false b.1 b.2), writes := [(5, 31, 1)] }
    ∧ (∃ b ∈ past, spaceBytes false < b.1 + b.2)
    ∧ effAddr 0x7E00 (c.rx 0) = some (true, 31 * 65536) ∧ (∀ b ∈ turned, b.1 + b.2 ≤ spaceBytes true)
    ∧ c.Clear { units := [.tileMove], reads := turned.map (fun b => tileUnits true b.1 b.2), writes := [(5, 0, 1)] }
    ∧ effAddr 0x3000 (c.rx 0) = none := by decide
theorem witness_VectorStore : ready.Issues 0 0 ∧ effAddr 0x2FF0 ((ready.core 0).rx 0) = some (false, 0x2FF0 * 512) ∧ 0x2FF0 * 512 + 8192 ≤ spaceBytes false
    ∧ (ready.core 0).Clear { units := [.tileMove], writes := [tileUnits false (0x2FF0 * 512) 8192] }
    ∧ effAddr 0x7E00 ((ready.core 0).rx 0) = some (true, 31 * 65536) ∧ 31 * 65536 + 112 * 128 * 4 + 8192 = spaceBytes true
    ∧ (ready.core 0).Clear { units := [.tileMove], writes := [tileUnits true (31 * 65536 + 112 * 128 * 4) 8192] } := by decide
theorem witness_TileMove :
    let s := withCore { x := [(1, 0x20#64), (2, 0x4000#64), (3, 0x3000#64)] }
    s.Issues 0 0 ∧ s.fmt 0 = some bf16Tile ∧ bf16Tile.hasScale = false ∧ effAddr 0 ((s.core 0).rx 0) = some (false, 0)
    ∧ regAddr ((s.core 0).rx 1) = some (false, 0x4000) ∧ (s.core 0).markedSize (s.env 0) bf16Tile false 0 = 0x8000
    ∧ regAddr ((s.core 0).rx 2) = some (true, 0)
    ∧ (s.core 0).Clear { units := [.tileMove], reads := [tileUnits false 0 0x8000], writes := [tileUnits true 0 0x8000] }
    ∧ bf16Tile.tileBytes = 0x8000
    ∧ 0x8000 ≤ spaceBytes true ∧ regAddr ((s.core 0).rx 3) = none ∧ effAddr 0x3000 ((s.core 0).rx 0) = none := by decide

/-! Arrays, groups and couriers. -/

theorem witness_ResidentLoad : ready.Issues 0 0 ∧ ((ready.core 0).descAt 1).fmt = 2 ∧ ready.fmt 2 = some fp8Tile
    ∧ (2 ≤ 6 ∨ 10 ≤ 2) ∧ ((ready.core 0).descAt 1).g fp8Tile = 2 ∧ structuredLoad ((ready.core 0).descAt 1) 0 = false
    ∧ effAddr ((ready.core 0).descAt 1).src ((ready.core 0).rx 0) = some (false, 0)
    ∧ tilesFit false (tileAddrs (false, 0) 0 2) (tileSize fp8Tile 0) = true
    ∧ (ready.core 0).Clear { units := [residentOf .a], arrays := [.a], reads := (tileAddrs (false, 0) 0 2).map fun o => tileUnits false o 16896 }
    ∧ effAddr ((ready.core 0).descAt 1).src ((ready.core 0).rx 3) = none := by decide
/-- The same load of a tensor in the structured form (R171, R183): four tiles, two of a set and two of its remainder. -/
theorem witness_ResidentLoad_structured :
    let s : State := { ready with dies := [(0, { policy := [(0, 43)] })] }
    let p := Map.get 0 (s.die 0).policy 0
    s.Issues 0 0 ∧ structuredLoad ((s.core 0).descAt 1) p = true ∧ tilesFit false (tileAddrs (false, 0) 0 4) (tileSize fp8Tile p) = true
    ∧ (s.core 0).Clear { units := [residentOf .b], arrays := [.b], reads := (tileAddrs (false, 0) 0 4).map fun o => tileUnits false o (tileSize fp8Tile p) } := by
  decide
/-- Two streamed rows into tile 0 of an open group, and a count above M_max. -/
theorem witness_StreamRows :
    let c := ready.core 0
    let x := c.descAt 1
    ready.Issues 0 0 ∧ ready.fmt x.fmt = some fp8Tile ∧ x.fmt ≤ 6 ∧ Nat.min (c.rx 1).toNat x.mmax = 2 ∧ x.mmax = 2
    ∧ ready.fmt ((c.swap .a false).front .a).fmt = some fp8Tile ∧ ((c.swap .a false).front .a).structured = false
    ∧ ((c.swap .a false).front .a).remainder = false ∧ ((c.swap .a false).front .a).clash = false ∧ ((c.swap .a false).front .a).parity = none
    ∧ ((c.swap .b false).front .b).parity.isSome = true ∧ ((c.swap .a false).front .a).g = x.g fp8Tile ∧ effAddr x.src (c.rx 0) = some (false, 0)
    ∧ tilesFit false (tileAddrs (false, 0) x.stride (2 * ((2 + 127) / 128))) (tileSize fp8Tile 0) = true
    ∧ c.Clear { units := [inputOf .a], arrays := [.a], reads := (tileAddrs (false, 0) x.stride 2).map fun o => tileUnits false o 16896
                adds := [(1, 0 + 126 / 128, (126 + 2 - 1) / 128 + 1 - 126 / 128)] }
    ∧ (∀ r < 2, (c.group 0).first + (126 + r) / 128 < 32 ∧ (c.openOver ((c.group 0).first + (126 + r) / 128)).isSome = true)
    ∧ x.mmax < (c.rx 3).toNat := by decide
/-- A filled FP8 block and FP8 sets (K = 256), a filled 4-bit block (K = 512), and an address past the tile store. -/
theorem witness_TwinPass :
    let c := readyCore
    let s := withCore { c with twin1 := { fmt := 2, k := 256, filled := true }, twinCur := false, twinFresh := true, desc := [(1, 2 ^ 48)] }
    let four := withCore { c with twin1 := { fmt := 6, k := 512, filled := true } }
    let turn := fun (c : Core) => ((({ c with twinCur := if c.twinFresh then !c.twinCur else c.twinCur, twinFresh := false } : Core).swap .a false).swap .b false)
    let c1 := turn (s.core 0)
    let f1 := turn (four.core 0)
    let groups := [(1, ((s.core 0).group 0).first + 0 / 128, (0 + 256 - 1) / 128 + 1 - 0 / 128), (1, ((s.core 0).group 1).first + 0 / 128, (0 + 256 - 1) / 128 + 1 - 0 / 128)]
    s.Issues 0 0 ∧ c1.twinCur = true ∧ s.fmt c1.twin1.fmt = some fp8Tile ∧ s.fmt c1.frontA.fmt = some fp8Tile ∧ s.fmt c1.frontB.fmt = some fp8Tile
    ∧ effAddr ((s.core 0).descAt 1).src ((s.core 0).rx 0) ≠ none ∧ effAddr ((s.core 0).descAt 1).src ((s.core 0).rx 3) = none
    ∧ (∀ o ∈ [(c1.twin1.filled, fp8Tile), (c1.frontA.filled, fp8Tile), (c1.frontB.filled, fp8Tile)], o.1 = true → 2 ≤ o.2.g)
    ∧ (∃ o ∈ [(c1.twin1.filled, fp8Tile), (c1.frontA.filled, fp8Tile), (c1.frontB.filled, fp8Tile)], o.1 = true ∧ o.2.g = 2)
    ∧ (∀ o ∈ [(c1.twin1.filled, fp8Tile), (c1.frontA.filled, fp8Tile), (c1.frontB.filled, fp8Tile)], o.1 = true → o.2.width ≠ 4)
    ∧ ((s.core 0).descAt 1).groupB = 1 ∧ ((s.core 0).descAt 1).startB = 0
    ∧ (s.core 0).Clear { units := [.inputA, .inputB, .twinPass], arrays := [.a, .b], adds := groups }
    ∧ four.Issues 0 0 ∧ f1.twinCur = true ∧ f1.twin1.filled = true ∧ ((four.fmt 6).map fun t => (t.width, t.g)) = some (4, 4) ∧ fp8Tile.g = 2 := by decide
theorem witness_GroupOpenings :
    let c := ready.core 0
    ready.Issues 0 0 ∧ (c.group 3).st = .closed ∧ (c.descAt 2).first + (c.descAt 2).count = 33 ∧ (c.descAt 1).first + (c.descAt 1).count ≤ 32
    ∧ (∃ h < 8, h ≠ 3 ∧ (c.group h).st ≠ .closed ∧ (c.group h).first < (c.descAt 1).first + (c.descAt 1).count
        ∧ (c.descAt 1).first < (c.group h).first + (c.group h).count)
    ∧ (c.group 0).st = .opened ∧ (c.group 2).st = .closing ∧ ready.Calm ∧ c.Clear { arrays := [.b] } ∧ ready.fmt (c.descAt 1).dfmt = some fp8Tile ∧ (c.descAt 1).dfmt ≠ 9 := by decide
/-- GOPEN.CLEAR on free tiles. -/
theorem witness_GroupOpenings_clear :
    let s := withCore { desc := [(1, arrayDesc 2 0 31 0 2)] }
    let x := (s.core 0).descAt 1
    s.Issues 0 0 ∧ ((s.core 0).group 7).st = .closed ∧ x.first + x.count = 32 ∧ (∀ h < 8, ((s.core 0).group h).st = .closed)
    ∧ (s.core 0).Clear { arrays := [.b], writes := [(1, x.first, x.count)] } := by decide
/-- GOPEN.LOAD of two BF16 tiles and TFILL of two by two FP8 tiles. -/
theorem witness_GroupOpenings_load :
    let s := withCore {}
    s.Issues 0 0 ∧ s.fmt 0 = some bf16Tile ∧ (s.core 0).openBad 7 30 2 = false ∧ effAddr 0 ((s.core 0).rx 0) = some (false, 0)
    ∧ (s.core 0).stackAddrs (s.env 0) bf16Tile false 0 2 = [0, 0x8000] ∧ (s.core 0).stackFits (s.env 0) bf16Tile false [0, 0x8000] = true
    ∧ (s.core 0).Clear { units := [.tileMove], reads := (s.core 0).stackUnits (s.env 0) bf16Tile false [0, 0x8000], writes := [(1, 30, 2)] }
    ∧ s.fmt 2 = some fp8Tile ∧ fp8Tile.width ≠ 4 ∧ fp8Tile.g = 2
    ∧ (s.core 0).stackAddrs (s.env 0) fp8Tile false 0 4 = [0, 33 * 512, 66 * 512, 99 * 512]
    ∧ (s.core 0).stackFits (s.env 0) fp8Tile false [0, 33 * 512, 66 * 512, 99 * 512] = true
    ∧ (s.core 0).Clear { units := [.twinFill], reads := (s.core 0).stackUnits (s.env 0) fp8Tile false [0, 33 * 512, 66 * 512, 99 * 512] } := by decide
theorem witness_GroupClose :
    let c := ready.core 0
    let x := c.descAt 1
    let wait := withCore { readyCore with stepEnd := true }
    ready.Issues 0 0 ∧ ready.fmt x.dfmt = some fp8Tile ∧ x.dfmt ≠ 9 ∧ (c.group 0).st = .opened ∧ effAddr x.dst (c.rx 0) = some (false, 0)
    ∧ tilesFit false (tileAddrs (false, 0) x.stride 1) (tileSize fp8Tile 0) = true ∧ (ready.env 0).updating = false
    ∧ c.Clear { units := [converterOf .a], arrays := [.a], reads := [(1, 0, 1)], writes := (tileAddrs (false, 0) x.stride 1).map fun o => tileUnits false o 16896 }
    ∧ wait.Issues 0 0 ∧ (wait.env 0).updating = true := by decide

/-! A COPY of two rows of 64 bytes from tile store 0 at 0 to tile store 1 at 0x1000, a COPY past the tile store, and BANK descriptors. -/

def copyDesc (src dstCore dst release : Nat) : Nat :=
  2 ^ 64 * dstCore + 2 ^ 96 * release + 2 ^ 128 * (src + 2 ^ 64 * (dst + 2 ^ 64 * (64 + 2 ^ 32 * (2 + 2 ^ 32 * (64 + 2 ^ 32 * (64 + 2 ^ 32 * 0xFFFF))))))
def remoteDesc (release : Nat) : Nat := copyDesc 0 0 0 release + 2 ^ 40 * 4
def bankDesc (mask st : Nat) : Nat := 3 + 2 ^ 128 * mask + 2 ^ 192 * st
def couriers (n : Nat) : State :=
  { withCore { rel := [(5, { uses := 1, valid := true, space := 2, dest := 0x100, bytes := 8 })] } with
    clusters := [(0, { desc := [(1, copyDesc 0 1 0x1000 0xFFFF), (2, copyDesc 0x600000 1 0x1000 0xFFFF), (3, remoteDesc 5), (4, bankDesc 6 2)]
                       queues := [(0, List.replicate n { desc := 1, off := 0, core := 0, ident := 0 })]
                       banks := [{ desc := 4, off := 0, core := 0, ident := 0 }] })] }
def posted (s : State) (k : Nat) : CDesc := (cdesc (Map.get 0 (s.cluster 0).desc k)).withOff 0
def postFits (d : CDesc) : Bool :=
  sideFits d.srcSpace d.src d.rows d.rowLen d.srcPitch && (d.allocDst || sideFits d.dstSpace d.dst d.rows d.rowLen d.dstPitch)

/-- Posts of a COPY in the module, of one to space 4, of a BANK and of a COPY past the tile store; a full queue, and a claimed destination. -/
def word (s : State) (k : Nat) : Nat := Map.get 0 (s.cluster 0).desc k
set_option exponentiation.threshold 600 in
theorem witness_CourierPost :
    let s := couriers 31
    let full := couriers 32
    let held : State := { s with cores := [(1, { claims := [{ ident := 9, src := 1, space := 0, first := 8, units := 1 }] })] }
    s.Issues 0 0 ∧ (posted s 1).kind = 0 ∧ (posted s 1).kind ≠ 3 ∧ ((s.cluster 0).queue 0).length < 32 ∧ postFits (posted s 1) = true
    ∧ s.postBlocked 0 (word s 1) 0 = none ∧ (posted s 1).remote = false
    ∧ (posted s 3).kind = 0 ∧ postFits (posted s 3) = true ∧ s.postBlocked 0 (word s 3) 0 = none ∧ (posted s 3).remote = true ∧ (posted s 3).release ≠ 0xFFFF
    ∧ (((s.claimPost 0 (word s 3) 0).takeUse 0 5).2.isSome = true) ∧ (((s.claimPost 0 (word s 3) 0).takeUse 0 6).2 = none)
    ∧ (posted s 4).kind = 3 ∧ postFits (posted s 2) = false ∧ (posted s 2).kind = 0
    ∧ full.Issues 0 0 ∧ 32 ≤ ((full.cluster 0).queue 0).length
    ∧ held.Issues 0 0 ∧ held.postBlocked 0 (word held 1) 0 = some 1 := by decide
set_option exponentiation.threshold 600 in
theorem witness_CourierCopy :
    let s := couriers 1
    let d := posted s 1
    Map.rising s.cores = true ∧ Map.rising s.dies = true ∧ s.Calm ∧ (s.cluster 0).queue 0 = [{ desc := 1, off := 0, core := 0, ident := 0 }]
    ∧ d.kind = 0 ∧ s.mod ≠ .held ∧ d.srcSpace = 0 ∧ d.dstSpace = 0 ∧ d.transpose = false ∧ d.allocDst = false ∧ d.releaseSrc = false
    ∧ polForm (Map.get 0 (s.die 0).policy d.tensor) = 0 ∧ s.liveRows 0 d = 2 ∧ s.srcReady 0 0 d 2 = true ∧ s.dstReady 0 d 2 = true
    ∧ s.banksReady d 2 = (s, true) ∧ d.rowLen = 64 ∧ d.dstPitch = 64 ∧ d.srcCore ≠ d.dstCore
    ∧ ({ s with fw := { s.fw with mod := .held } } : State).mod = .held := by decide
/-- Banks 1 and 2 of a BANK; a bank that waits and is free, or claimed; sleeping banks, told of or not. -/
theorem witness_Banks :
    let s := couriers 1
    let c : Core := { banks := [(1, .idle), (2, .retained), (31, .waking)], retainWait := [0], bankGoal := [(31, 1)], wakeTold := [31]
                      services := [(3, some { kind := 3, arg := [] })] }
    let t : State := { withCore c with fw := { mod := .running, prev := .ready, event := 6, procs := [(ctlOf 0, { st := .running })] } }
    let held := withCore { c with claims := [{ ident := 9, src := 1, space := 0, first := 8, units := 1 }] }
    (s.cluster 0).banks = [{ desc := 4, off := 0, core := 0, ident := 0 }] ∧ (s.cluster 1).banks = [] ∧ (posted s 4).src = 6 ∧ (posted s 4).dst % 4 = 2
    ∧ (s.core 0).testing = none ∧ bit 6 1 = true ∧ bit 6 2 = true ∧ bit 6 0 = false
    ∧ (s.core 0).bankFree 1 = true ∧ (held.core 0).bankFree 0 = false ∧ (t.core 0).bank 2 ≠ .active
    ∧ 0 ∈ (t.core 0).retainWait ∧ (t.core 0).bankFree 0 = true ∧ 1 ∉ (t.core 0).retainWait ∧ (t.core 0).bank 31 = .waking ∧ t.Calm
    ∧ Map.get 0 (t.core 0).bankGoal 31 = 1 ∧ Map.get 0 (t.core 0).bankGoal 2 ≠ 1 ∧ 31 ∈ (t.core 0).wakeTold ∧ 2 ∉ (t.core 0).wakeTold
    ∧ (t.core 0).bank 2 = .retained ∧ (t.core 0).bank 1 = .idle ∧ (t.core 0).bank 0 = .active ∧ t.ctlUp 0 = true ∧ s.ctlUp 0 = false
    ∧ (t.core 0).testing = none := by decide
/-- A test in an IDLE bank of the mask, and in one outside it. -/
theorem witness_Banks_test :
    let tested := fun (k : Nat) => withCore { banks := [(1, .idle)], testing := some (k, [], false, 0) }
    ((tested 95).core 0).testing = some (95, [], false, 0) ∧ (95 / 48 < 32 ∧ bit 6 (95 / 48) = true)
    ∧ ((tested 95).core 0).bank (95 / 48) = .idle ∧ ((tested 0).core 0).testing = some (0, [], false, 0) ∧ bit 6 (0 / 48) = false := by decide
/-- A test window while no bank is IDLE, and a slot without one. -/
theorem witness_Banks_window :
    let full : State := { withCore { services := [(3, some { kind := 3, arg := [] })] } with fw := { mod := .running, prev := .ready, event := 6, procs := [(ctlOf 0, { st := .running })] } }
    (full.core 0).service 3 = some { kind := 3, arg := [] } ∧ full.ctlUp 0 = true ∧ (full.core 0).testing = none ∧ (∀ b < 32, (full.core 0).bank b ≠ .idle)
    ∧ (full.core 0).service 0 = none := by decide

/-! Pools, Sorting Offices, matches and bonded memory. -/

/-- Pool 63 of die 0: two buffers of 256 bytes in the tile store of core 0 at 0x1000, the first of which heads the list; owner words in
bonded memory at 0x2000, all of it in channel 0. -/
def somePool : Pool := { valid := true, count := 2, base := 0x1000, owners := 0x2000, head := 0x1000, free := 2 }
def linked (good : Bool) : Core :=
  { ts := Map.fill 0#8 [] 0x1000 8 fun i => byteAt (leBytes 8 (linkWord (if good then 63 else 62) 0x1000 0x1100)) i }
def pooled (v : Pool) (good : Bool) : State := { withDie { pools := [(63, v)], order := [0] } with cores := [(0, linked good)] }
def linkHolds (s : State) : Bool :=
  let v := s.pool 0 63
  let w := s.poolWord 0 v v.head
  w / 2 ^ 48 == crc16 (leBytes 1 63 ++ leBytes 6 v.head ++ leBytes 6 (w % 2 ^ 48))

set_option maxRecDepth 100000 in
theorem witness_Pools_alloc :
    let s := pooled somePool true
    let q := pooled { somePool with quarantined := true } true
    let e := pooled { somePool with free := 0, waiting := [{ caller := 8 }] } true
    (s.pool 0 63).valid = true ∧ (s.pool 0 63).quarantined = false ∧ (s.pool 0 63).free ≠ 0 ∧ linkHolds s = true ∧ linkHolds (pooled somePool false) = false
    ∧ (q.pool 0 63).valid = true ∧ (q.pool 0 63).quarantined = true
    ∧ (e.pool 0 63).quarantined = false ∧ (e.pool 0 63).free = 0 ∧ (e.pool 0 63).valid = true ∧ (e.pool 0 62).valid = false ∧ s.poolPost 7 = none := by decide
/-- The last buffer, held by caller 7, shared, free, and addresses that name no buffer. -/
theorem witness_Pools_owner :
    let s := pooled somePool true
    let v := s.pool 0 63
    let held := s.setOwner v 0x1100 1 7
    v.valid = true ∧ v.base ≤ 0x1100 ∧ 0x1100 < v.base + v.count * (256 * 2 ^ v.cls) ∧ (0x1100 - v.base) % (256 * 2 ^ v.cls) = 0
    ∧ held.pool 0 63 = v ∧ held.owner v 0x1100 = 2 ^ 30 + 7 ∧ held.owner v 0x1100 ≠ 2 ^ 30 + 8 ∧ v.quarantined = false ∧ v.waiting = []
    ∧ held.owner v 0x1100 / 2 ^ 30 ≠ 0 ∧ held.owner v 0x1100 % 65536 = 7 ∧ s.owner v 0x1100 / 2 ^ 30 = 0
    ∧ ¬ (0x1200 < v.base + v.count * (256 * 2 ^ v.cls)) ∧ ¬ ((0x1001 - v.base) % (256 * 2 ^ v.cls) = 0) := by decide

/-- Two positions, one rank, two experts of capacity 1: position 0 sends one choice to each expert, position 1 one to expert 0. -/
def someSlots : Slots := { g := 2, k := 1, e := 2, cap := 1, cnt := fun q r e => if r = 0 ∧ (q = 0 ∧ e < 2 ∨ q = 1 ∧ e = 0) then 1 else 0 }
def someChoices : List Choice :=
  [{ token := 0, expert := 1, rank := 0, gate := 0, counted := true }, { token := 1, expert := 7, rank := 0, gate := 0 },
   { token := 2, expert := 0, rank := 0, gate := 0, counted := true }]

theorem witness_SlotLayout :
    0 < someSlots.g ∧ (∀ c ∈ someChoices, c.admitted = false ∧ (c.counted = true → c.rank < someSlots.k ∧ c.expert < someSlots.e))
    ∧ (∀ r e : Nat, someSlots.cnt 0 r e = (someChoices.filter fun c => c.counted && c.rank == r && c.expert == e).length) := by
  refine ⟨by decide, by decide, ?_⟩
  rintro (_ | r) (_ | _ | e) <;> simp [someSlots, someChoices]
theorem test_slots : someSlots.total 0 = 2 ∧ someSlots.total 1 = 0 ∧ someSlots.ownerOf 0 0 = some (0, 0) ∧ someSlots.sendIndex 0 0 1 0 = 1 := by decide
theorem witness_SlotOwner : 1 < someSlots.e ∧ 0 < someSlots.admitted 1 := by decide

/-- Descriptors of die 0's engine: a round of no token, rows of no byte. -/
def anAdmit : AdmitDesc :=
  { layer := 0, pass := 0, round := 0, liveCore := 0, liveWord := 0, segments := [], state := 0, mlive := 0, coreMask := 0, relCore := 0, relEntry := 0
    ident := 0 }
def aSend : SendDesc := { layer := 0, dir := 0, state := 0, rows := ⟨0, 0, 0⟩, perChoice := false, pitch := 0, relCore := 0, relEntry := 0, ident := 0 }
def aScatter : ScatterDesc := { layer := 0, dir := 1, state := 0, rows := ⟨0, 0, 0⟩, combine := ⟨0, 0, 0⟩, pitch := 0, ident := 0 }
def aLand : LandDesc := { layer := 0, dir := 0, state := 0, range := ⟨0, 0, 0⟩, length := 0, relCore := 0, relEntry := 0, ident := 7 }
def aRound : Round := { desc := anAdmit, pc := 0, live := 0, choices := [], step := 0 }
def aLanding (x : Nat) : Landing := { region := 3, pf := 0, bytes := x, land := some (64, (3, 0, 0, 64), 0) }

/-- A module whose courier 0 of cluster 0 has a Sorting Office descriptor (kind 1) of identity 7 at the head of its queue. -/
def heads (m : Mod) (kind : Nat) : State :=
  { inMod m with clusters := [(0, { desc := [(1, kind)], queues := [(0, [{ desc := 1, off := 0, core := 0, ident := 7 }])] })] }

theorem witness_OfficeEngines :
    let s := heads .running 1
    let held := heads .held 1
    let popped := s.popPost 7
    let adm : AdmitDesc := { anAdmit with ident := 7 }
    let sct : ScatterDesc := { aScatter with ident := 7 }
    let snd : SendDesc := { aSend with ident := 7 }
    let r := withDie { rounds := [aRound] }
    let early := withDie { rounds := [{ aRound with pc := 1 }] }
    let l := withDie { landings := [aLanding 64] }
    (s.die 0).admQ = [] ∧ (s.die 0).parQ = [] ∧ s.headsQueue 7 1 = true ∧ s.mod ≠ .held
    ∧ popped.jobReady 0 (.admission adm) = true ∧ (popped.reachAll (popped.jobRngs 0 (.admission adm))).2 = true
    ∧ popped.jobReady 0 (.scatter sct) = true ∧ (popped.reachAll (popped.jobRngs 0 (.scatter sct))).2 = true
    ∧ popped.jobReady 0 (.send snd) = true ∧ (popped.reachAll (popped.jobRngs 0 (.send snd))).2 = true
    ∧ (((popped.onDie 0 fun x => { x with admQ := [], parQ := [] }).startAdmit 0 adm).die 0).parQ = []
    ∧ (((popped.onDie 0 fun x => { x with admQ := [], parQ := [] }).runScatter 0 sct).die 0).parQ = []
    ∧ held.mod = .held ∧ held.headsQueue 7 1 = true ∧ s.headsQueue 8 1 = false
    ∧ (r.die 0).rounds = [aRound] ∧ r.assignDue 0 aRound = true ∧ r.reachAll (admitOuts aRound.desc 0 (r.layer 0 aRound.desc.layer)) = (r, true)
    ∧ early.assignDue 0 { aRound with pc := 1 } = false ∧ (s.die 0).rounds = []
    ∧ (l.die 0).landing 3 0 = some (aLanding 64) ∧ (l.die 0).landing 4 0 = none ∧ (aLanding 64).bytes = 64 ∧ l.relDue 0 = true
    ∧ (aLanding 64).last ≤ (aLanding 64).pf ∧ ({ aLanding 64 with last := 65536 } : Landing).pf < ({ aLanding 64 with last := 65536 } : Landing).last := by
  decide
/-- A LAND at the head of its courier's queue. -/
theorem witness_OfficeEngines_land :
    let s := heads .running 1
    let a : LandDesc := aLand
    s.headsQueue a.ident 1 = true ∧ (s.popPost a.ident).jobReady 0 (.land a) = true ∧ ((s.popPost a.ident).reachAll ((s.popPost a.ident).jobRngs 0 (.land a))).2 = true := by
  decide
theorem witness_MatchPairs :
    let m : MatchDesc := { core := 0, fmt := 0, keysA := ⟨0, 0, 0⟩, valsA := ⟨0, 0, 0⟩, na := (0, 0), keysB := ⟨0, 0, 0⟩, valsB := ⟨0, 0, 0⟩, nb := (0, 1)
                           outA := ⟨0, 0, 0⟩, outB := ⟨0, 0, 0⟩, outN := (0, 2), maxOut := 0, ident := 7 }
    let s := heads .running 2
    s.matchReady m = true ∧ s.reachAll (s.sortIns 0 (.pairs m) ++ s.sortOuts 0 (.pairs m)) = (s, true)
    ∧ ({ s with cores := [(0, { claims := [{ ident := 1, src := 0, space := 2, first := 1, units := 1 }] })] } : State).matchReady m = false := by decide
/-- The last 64 bytes of the one channel in service of die 3. -/
theorem witness_BondedMemory :
    let s : State := { inMod .running with dies := [(3, { order := [255] })] }
    3 * 2 ^ 38 + 2 ^ 30 - 64 < 2 ^ 40 ∧ (3 * 2 ^ 38 + 2 ^ 30 - 64) % 2 ^ 38 + 64 ≤ s.capacity 3
    ∧ (∀ d : Fin 4, (s.die d).order.Nodup ∧ ∀ c ∈ (s.die d).order, c < 256) := by decide
/-- Whole operands of each size; part ones; a store of a core, held or not; a full queue; bytes that are held. -/
theorem witness_HomeOperations :
    let s : State := withDie { order := [0] }
    let h : State := { s with dies := [(0, { order := [0], holds := [(1, 0, 1024)] })] }
    s.bondWritable 0x1000 4 = true ∧ s.pastEnd 0x1000 4 = false ∧ (leBytes 4 7).length = 4 ∧ 0x1000 % 4 = 0 ∧ s.bondWritable 0x1008 8 = true ∧ s.pastEnd 0x1008 8 = false
    ∧ s.bondWritable 0x1002 2 = true ∧ s.pastEnd 0x1002 2 = false ∧ s.bondWritable (2 ^ 30 - 16) 16 = true ∧ s.pastEnd (2 ^ 30 - 16) 16 = false
    ∧ s.bondWritable 0x1000 (260 / 260 * 1024) = true ∧ h.bondWritable 1023 4 = false ∧ s.mod ≠ .held ∧ (inMod .held).mod = .held
    ∧ s.queueRoom 0x1000 4 = true ∧ s.queueRoom 0x1008 8 = true ∧ s.queueRoom 0x1002 2 = true ∧ s.queueRoom (2 ^ 30 - 16) 8 = true
    ∧ s.queueRoom 0x1000 1024 = true ∧ s.pastEnd 0x1000 1024 = false ∧ 259 % 260 ≠ 0 ∧ 0x1004 % 1024 ≠ 0 ∧ 0x1002 % 4 ≠ 0
    ∧ (s.core 5).writersHeld (spaceUnits 2 0x100 8) = false ∧ s.reachBanks 5 2 0x100 8 = (s, true)
    ∧ s.reachBanks 5 0 (12288 * 512 - 8) 8 = (s, true) := by decide
/-- A reduction unit whose queue holds 64 operations. -/
theorem witness_HomeOperations_full :
    (withDie { order := [0], chans := [(0, { rdu := { queue := List.replicate 64 [0] } })] }).queueRoom 0x1000 4 = false := by decide
theorem witness_ExactAccumulation :
    let l : List (Int × Nat) := [(-3, 1), (21, 0xFFFF), (0, 0x7FFF)]
    let k : List (Int × Nat) := [(0, 0x7FFF), (-3, 1), (21, 0xFFFF)]
    5 < 2 ^ 64 ∧ 5 ≠ invalid64 ∧ (∀ c ∈ l, (-3 : Int) ≤ c.1 ∧ c.1 ≤ -3 + 24 ∧ c.2 < 65536 ∧ c.2 ≠ 0x8000)
    ∧ (signed 64 5).natAbs + (l.map fun c => (signed 16 c.2 * 2 ^ (c.1 + 3).toNat).natAbs).sum < 2 ^ 63 ∧ l.Perm k
    ∧ ([((0 : Int), 0x8000)].foldl (fun v c => (exactElem (-3) c.1 c.2 v).1) 5) = invalid64 := by decide
set_option maxRecDepth 100000 in
theorem witness_BondChannels :
    let s : State := withDie { order := [0], chans := [(1, { state := 2 }), (2, { state := 1 })] }
    let many : State := withDie { order := [0], chans := [(0, { units := [(1, 0), (2, 0), (3, 0)] })] }
    ((s.die 0).chan 1).state = 2 ∧ ((s.die 0).chan 2).state = 1 ∧ ((s.die 0).chan 0).state ≠ 1 ∧ ((s.die 0).chan 0).state ≠ 2 ∧ s.mod = .running
    ∧ (inMod .held).mod = .held ∧ (inMod .parked).mod = .parked ∧ (inMod .fenced).mod = .fenced ∧ (inMod .off).mod = .off ∧ (inMod .standby).mod = .standby
    ∧ State.reset.mod = .boot ∧ (inMod .recovery).mod = .recovery
    ∧ (s.die 0).order.contains 0 = true ∧ (s.unitAddr 0 (16777215 * 64)).isSome = true
    ∧ (((s.die 0).chan 0).units.filter (fun (x : Nat × Nat) => decide (s.now < x.2 + 600000000) && x.1 != 9) ++ [(9, s.now)]).length < 4
    ∧ 4 ≤ (((many.die 0).chan 0).units.filter (fun (x : Nat × Nat) => decide (many.now < x.2 + 600000000) && x.1 != 9) ++ [(9, many.now)]).length
    ∧ (many.die 0).order.contains 0 = true ∧ ((((many.setReg (Reg.at Reg.BOND_ERR_ADDR_LO 0) 576).tally 1).raise 0x4301 0).live) = true := by decide

/-! The fabric. -/

/-- A WRITE of nothing from node 9, in class 1, and a LOAD-class REQUEST seen before. -/
def aPacket (ty cls op seq : Nat) : Packet := { cls := cls, ty := ty, op := op, src := 9, seq := seq }
/-- Port 0 with an entry for node 9: CUM 10, and SEQ 12 accepted beyond it. -/
def aPort : Port := { link := 2, rx := [(9, { used := true, cum := 10, ahead := [12] })] }

theorem witness_ReceivedPackets :
    let s := withPort .running aPort
    let t := s.count64 (Reg.at Reg.PORT_RX_LO 0)
    let k := aPacket 1 1 0 10
    (¬ ((withPort .running {}).fabric = true ∧ ((withPort .running {}).port 0).link = 2)) ∧ s.fabric = true ∧ (s.port 0).link = 2
    ∧ headerOk k = true ∧ headerOk (aPacket 1 2 0 10) = false ∧ t.mine k = true ∧ t.mine { k with dst := 1 } = false ∧ t.mine { k with job := 1 } = false
    ∧ headerOk (aPacket 13 7 0 0) = true ∧ (t.port 0).seqTest 9 1034 = .ahead ∧ (t.port 0).seqTest 9 12 = .seen ∧ (t.port 0).seqTest 9 9 = .seen
    ∧ (t.port 0).seqTest 9 10 = .fresh ∧ (t.port 0).seqTest 9 1033 = .fresh ∧ t.rxFull 0 k = false ∧ (t.takeReceipt 0 k).2 = true := by decide
/-- A port whose 2,048 receive entries are all in use. -/
theorem witness_ReceivedPackets_full :
    ({ rx := (List.range 2048).map fun k => (k, { used := true }) } : Port).seqTest 5000 0 = .full := by
  simp only [Port.seqTest, Port.rxEnt]
  decide +kernel
theorem foldl_replicate (f : Packet → Nat) (k : Packet) : ∀ n a : Nat, (List.replicate n k).foldl (fun m x => m + f x) a = a + n * f k
  | 0, a => by simp
  | n + 1, a => by rw [List.replicate_succ, List.foldl_cons, foldl_replicate f k n]; rw [Nat.succ_mul]; omega
/-- A port whose receive buffer holds 256 packets of 8,192 bytes. -/
theorem witness_ReceivedPackets_dropped :
    (withPort .running { aPort with waiting := List.replicate 256 { aPacket 1 6 0 0 with payload := List.replicate 8192 0#8 } }).rxFull 0 (aPacket 1 6 0 10) = true := by
  unfold State.rxFull
  have h : ((withPort .running { aPort with waiting := List.replicate 256 { aPacket 1 6 0 0 with payload := List.replicate 8192 0#8 } }).port 0).waiting
      = List.replicate 256 { aPacket 1 6 0 0 with payload := List.replicate 8192 0#8 } := rfl
  rw [h, foldl_replicate (frameBytes _)]
  unfold frameBytes
  rw [List.length_replicate]
  decide
theorem witness_Sequencing :
    (aPort.rxEnt 9).used = true ∧ 1033 < 2 ^ 32 ∧ (aPort.rxEnt 9).cum < 2 ^ 32
    ∧ (∀ x ∈ (aPort.rxEnt 9).ahead, x < 2 ^ 32 ∧ (x + 2 ^ 32 - (aPort.rxEnt 9).cum) % 2 ^ 32 < 1024) ∧ (aPort.rxEnt 9).cum ∉ (aPort.rxEnt 9).ahead
    ∧ (aPort.rxEnt 9).ahead.Nodup ∧ aPort.seqTest 9 1033 = .fresh ∧ aPort.seqTest 9 10 = .fresh
    ∧ (((inMod .boot).fabric = false ∨ ((inMod .boot).port 0).link ≠ 2) ∧ ((withPort .running {}).port 0).link ≠ 2) := by decide
theorem witness_PortEvents_frames :
    let s : State := { withPort .running { aPort with subUp := 1 } with regs := [(Reg.at Reg.PORT_CTL 0, 0x200#32)] }
    s.fabric = true ∧ (s.port 0).link = 2 ∧ s.fld (Reg.at Reg.PORT_CTL 0) 9 9 = 1
    ∧ (withPort .running aPort).fld (Reg.at Reg.PORT_CTL 0) 9 9 = 0 ∧ (0xF7#8).getLsbD 3 = false ∧ 0xF7#8 ≠ 0#8
    ∧ s.portsOn = true ∧ (s.port 0).subUp.testBit 0 = true ∧ (s.port 0).subUp.testBit 1 = false
    ∧ ¬ ((withPort .boot aPort).fabric = true ∧ ((withPort .boot aPort).port 0).link = 2) := by decide
/-- A frame with its FCS. -/
def sealed (b : List Byte) : List Byte := b ++ leBytes 4 (crc32 b)
/-- An IPv6 packet in a C-tagged frame for MAC 0: next header, and what follows the header. -/
def ip6Frame (next : Nat) (l : List Byte) : List Byte :=
  List.replicate 12 0#8 ++ beBytes 2 0x8100 ++ beBytes 2 0 ++ beBytes 2 0x86DD ++ beBytes 4 (6 * 2 ^ 28) ++ beBytes 2 l.length ++ beBytes 1 next ++
    List.replicate 33 0#8 ++ l
def framed : State := { withPort .running { aPort with subUp := 1 } with regs := [(Reg.POST_CTL, 0x12B70000#32)] }
def framed4 : State := { framed with regs := [(Reg.POST_CTL, 0x12B70001#32)] }
/-- A WRITE of eight bytes from node 0 to itself. -/
def looped : Packet := { cls := 1, ty := 1, seq := 10, payload := leBytes 8 0x1122334455667788 }
/-- A packet's bytes spell it (R292). -/
theorem test_post_round_trip : postPacket 1 (postBytes looped (checkOf looped)) = some (looped, checkOf looped)
    ∧ postPacket 3 (postBytes { looped with cls := 3, ty := 3, op := 0x10, job := 0xABC, pmap := some 5, retry := true, release := 65536, addr := 2 ^ 43 } 7)
      = some ({ looped with cls := 3, ty := 3, op := 0x10, job := 0xABC, pmap := some 5, retry := true, release := 65536, addr := 2 ^ 43 }, 7) := by decide +kernel
/-- R289: node 0x0055, port 3, sub-port 0 under the prefix fd7a:… of the rule. -/
theorem test_ip6 : framed.ip6 0x55 3 0 = 0x550030 := by decide +kernel
/-- A frame of each kind, over IPv6 and over IPv4: the module's own frame comes back whole. -/
theorem witness_PortEvents_received :
    let s := framed
    let f := fun (k : Packet) => s.frameOf 0 0 k (checkOf k)
    s.fabric = true ∧ (s.port 0).link = 2 ∧ bit (s.port 0).subUp (s.rxSub 0 0) = true
    ∧ s.inspect 0 0 { lane := 0, bytes := f looped } = .packet looped
    ∧ framed4.inspect 0 0 { lane := 0, bytes := framed4.frameOf 0 0 looped (checkOf looped) } = .packet looped
    ∧ s.inspect 0 0 { lane := 0, bytes := List.replicate 64 0#8 } = .drop .fcs
    ∧ s.inspect 0 0 { lane := 0, bytes := f { looped with dst := 1 } } = .drop .address
    ∧ s.inspect 0 0 { lane := 0, bytes := f { looped with cls := 2 } } = .drop .header
    ∧ s.inspect 0 0 { lane := 0, bytes := s.frameOf 0 0 looped 0 } = .drop .crc
    ∧ s.inspect 0 0 { lane := 0, bytes := f { looped with job := 1 } } = .drop .foreign := by decide +kernel
/-- ICMPv6 that is no solicitation, an extension header, a solicitation and an ARP request for the sub-port's own address. -/
theorem witness_PortEvents_neighbours :
    let s := framed
    s.inspect 0 0 { lane := 0, bytes := sealed (ip6Frame 58 (beBytes 1 128 ++ List.replicate 23 0#8)) } = .drop .icmp
    ∧ s.inspect 0 0 { lane := 0, bytes := sealed (ip6Frame 0 (List.replicate 24 0#8)) } = .drop .silent
    ∧ s.inspect 0 0 { lane := 0, bytes := sealed (ip6Frame 58 (beBytes 1 135 ++ List.replicate 23 0#8)) } = .solicit
    ∧ framed4.inspect 0 0 { lane := 0, bytes := sealed (List.replicate 12 0#8 ++ beBytes 2 0x0806 ++ beBytes 6 0x000108000604 ++ beBytes 2 1 ++ List.replicate 38 0#8) }
      = .arp := by decide +kernel
/-- A first fault of a code in a frame, and a second one. -/
theorem witness_PortEvents_faults : Map.get 0 (framed.port 0).faultFrame 0x6201 ≠ framed.frame + 1
    ∧ Map.get 0 ((withPort .running { faultFrame := [(0x6201, 1)] }).port 0).faultFrame 0x6201 = framed.frame + 1 := by decide +kernel
theorem witness_PortEvents_timers :
    let x : Sent := { pkt := aPacket 1 1 0 3, sentAt := 0, tries := 1 }
    let s := withPort .running { aPort with rx := [(9, { used := true, since := 1, riseAt := some 0 })], tx := [(9, { used := true, unacked := [x] })]
                                            txTable := [(0, 100)] }
    let q := s.port 0
    s.fabric = true ∧ 0 < (q.rxEnt 9).since ∧ (q.rxEnt 9).riseAt.isSome = true ∧ (q.rxEnt 8).since = 0 ∧ (q.rxEnt 8).riseAt = none
    ∧ s.unackedOf 0 9 3 = some x ∧ q.link = 2 ∧ s.unackedOf 0 9 4 = none ∧ (q.txEnt 9).unreachable = false
    ∧ ((q.txEnt 9).unacked.any fun y => decide (s.retryMax ≤ y.tries)) = true ∧ ((q.txEnt 8).unacked.any fun y => decide (s.retryMax ≤ y.tries)) = false
    ∧ q.txTable[(q.window + 1) % Nat.max 1 q.txTable.length]? = some (0, 100) ∧ s.mod = .running ∧ (inMod .held).mod ≠ .running
    ∧ x.pkt.cls ≠ 6 ∧ (aPacket 6 6 0 3).cls = 6 ∧ s.mod ≠ .held ∧ s.mod ≠ .parked ∧ q.txTable ≠ [] ∧ q.remainder < (wireBytes s.v4 (aPacket 6 6 0 3) : Int)
    ∧ (wireBytes s.v4 (aPacket 6 6 0 3) : Int) ≤ 8192
    ∧ (inMod .boot).fabric = false := by decide
theorem witness_PortLinks :
    let s : State := { withPort .boot { lost := true } with regs := [(Reg.at Reg.PORT_CTL 0, 9#32)] }
    s.portsOn = true ∧ s.portEnabled 0 = true ∧ (s.port 0).link = 0 ∧ s.portEnabled 1 = false ∧ s.fabric = false ∧ (s.port 0).lost = true ∧ s.subPorts 0 = 4
    ∧ ((withPort .boot { link := 1, step := 4 }).port 0).step < 5 ∧ ((withPort .boot { link := 1, step := 5 }).port 0).step = 5
    ∧ ((withPort .boot { link := 1, step := 1 }).port 0).retrain = false ∧ ((withPort .boot { link := 3, step := 3, retrain := true }).port 0).retrain = true
    ∧ (withPort .boot { link := 4 }).portsOn = true ∧ ((withPort .boot { link := 4 }).port 0).link = 4 ∧ ((withPort .boot { link := 4 }).port 0).step = 0
    ∧ (withPort .running { link := 2 }).portsOn = true ∧ ((withPort .running { link := 2 }).port 0).link = 2 ∧ ((withPort .running { link := 2 }).port 0).lost = false := by
  decide
/-- A LOAD into a tile store whose bank is awake, and into one whose bank sleeps; a returning operation; the end of a tile store. -/
theorem witness_DeadLetters :
    let load : ReqDest := { load := true, space := 0, core := 0, addr := 6291392, size := 64 }
    let s : State := { inMod .running with tags := [(0, { used := true, dest := load }), (4095, { used := true, dest := { load with load := false, space := 2, addr := 0, size := 8 } })] }
    let asleep : State := { s with cores := [(0, { banks := [(31, .retained)] })] }
    (s.tag 0 1).used = false ∧ (s.tag 0 0).used = true ∧ (s.tag 0 0).dest.load = true ∧ (s.tag 0 0).dest.whole = false ∧ s.mod ≠ .held ∧ (inMod .held).mod = .held
    ∧ s.reachAll [destRng load] = (s, true) ∧ (s.landLoad load (noData 64) 1).2 = true ∧ (asleep.landLoad load (noData 64) 1).2 = false
    ∧ (s.tag 0 4095).used = true ∧ (s.tag 0 4095).dest.load = false ∧ 6291392 + 64 ≤ 6291456 := by decide

/-! The supply, temperatures, clocks and frames. -/

theorem witness_Supply :
    let s := inMod .off
    let ramp : State := { s with pwr := { ramping := true } }
    let latched : State := { s with pwr := { latched := true } }
    let warn : State := { inMod .running with pwr := { warn := true } }
    let parked : State := { inMod .parked with pwr := { warn := true, supplyParked := true } }
    let low : State := { inMod .fenced with pwr := { resetLow := true } }
    s.mod = .off ∧ s.pwr.latched = false ∧ latched.pwr.latched = true ∧ ramp.mod = .off ∧ ramp.pwr.switch = true ∧ ramp.pwr.ramping = true
    ∧ (inMod .running).mod ≠ .off ∧ (inMod .running).pwr.warn = false ∧ warn.pwr.warn = true ∧ warn.pwr.supplyParked = false ∧ parked.pwr.supplyParked = true
    ∧ (inMod .running).pwr.half = false ∧ (inMod .standby).mod = .standby ∧ low.mod = .fenced ∧ low.pwr.resetLow = true ∧ s.mod ≠ .standby ∧ s.pwr.resetLow = false
    ∧ (inMod .boot).mod = .boot ∧ (inMod .boot).powered = true ∧ s.powered = false := by decide
theorem witness_Temperatures :
    let s := inMod .running
    let t : State := { s with regs := [(Reg.THM_STAT, 3#32)], pwr := { deadSensors := [(0, 12)] } }
    s.powered = true ∧ s.fld Reg.THM_STAT 0 0 = 0 ∧ t.fld Reg.THM_STAT 0 0 = 1 ∧ s.fld Reg.THM_STAT 1 1 = 0 ∧ t.fld Reg.THM_STAT 1 1 = 1
    ∧ (((21 : Fin 22).val, (1 : Fin 13).val) ∉ s.pwr.deadSensors ∧ 1 < 2) ∧ (((0 : Fin 22).val, (12 : Fin 13).val) ∉ s.pwr.deadSensors ∧ 12 < 13)
    ∧ (((5 : Fin 22).val, (3 : Fin 13).val) ∉ s.pwr.deadSensors ∧ 3 < 4) ∧ ((0, 12) ∈ t.pwr.deadSensors)
    ∧ s.stackBlind 15 = false ∧ ({ s with pwr := { deadSensors := [(21, 0), (21, 1)] } } : State).stackBlind 15 = true := by decide
theorem witness_Temperatures_stacks :
    let s := inMod .ready
    let r : State := { inMod .running with regs := [(Reg.at Reg.BOND_REFRESH 3, 8#32)] }
    let m : State := { s with dies := [(3, { margin := some (255, 3, 63) })] }
    s.powered = true ∧ s.fld (Reg.at Reg.BOND_REFRESH 3) 3 3 = 0 ∧ r.fld (Reg.at Reg.BOND_REFRESH 3) 3 3 = 1 ∧ s.stackBlind 15 = false
    ∧ (0x80000000#32).getLsbD 31 = true ∧ (0x7FFFFFFF#32).getLsbD 31 = false ∧ s.mod = .ready ∧ (inMod .parked).mod ≠ .ready
    ∧ (s.die 3).margin = none ∧ (m.die 3).margin = some (255, 3, 63) := by decide
set_option maxRecDepth 100000 in
/-- A flit of a tile store, of a packet that a port sends, and of a set on its way to the hub's flash (R20). -/
theorem witness_Temperatures_flits :
    let k : Packet := { cls := 3, ty := 1, payload := List.replicate 65 0#8 }
    let s : State := { withPort .running { q3 := [k] } with res := { snap := some { boundary := 4, set := {} } } }
    (⟨0, 5, 64⟩ : Place).space ≠ 4 ∧ (⟨0, 5, 64⟩ : Place).space ≠ 5
    ∧ (s.port ((⟨4, 24, 64⟩ : Place).unit % 8)).q3 = [] ++ [k] ∧ (⟨4, 24, 64⟩ : Place).unit / 8 = 3 ∧ (⟨4, 24, 64⟩ : Place).addr < k.payload.length
    ∧ (⟨5, 0, 0⟩ : Place).space = 5 ∧ s.res.snap = some { boundary := 4, set := {} } := by decide
theorem witness_Clocking :
    let s : State := { inMod .running with time := { present := [8, 1], phaseBad := 7 } }
    let st := fun (v m : Nat) => ({ s with regs := [(Reg.TIME_DPLL_CTL, BitVec.ofNat 32 m), (Reg.TIME_DPLL_STAT, BitVec.ofNat 32 v)] } : State)
    Reg.at Reg.TIME_DPLL_STAT s.hub = Reg.TIME_DPLL_STAT
    ∧ (withProc .running 2 .running).hub = 0 ∧ ((withProc .running 2 .running).proc (4 * 0 + 2)).st = .running ∧ (s.proc (4 * s.hub + 2)).st ≠ .running
    ∧ (4000 : Int).natAbs ≤ 4000 ∧ 4000 < (-4001 : Int).natAbs ∧ s.time.phaseBad = 7 ∧ (inMod .running).time.phaseBad ≠ 7
    ∧ (15 : Fin 16).val = 15 ∧ 8 ∈ s.time.present ∧ 9 ∉ s.time.present ∧ (st 1 0).dpll = 1 ∧ (st 2 0).dpll = 2 ∧ (st 3 0).dpll = 3 ∧ (st 0 0).dpll = 0 := by decide
/-- References of priority 8 and 1 and one of none, all present for a second, or not yet; the DPLL's modes; an ESMC of the active port. -/
theorem witness_Clocking_references :
    let s := fun (state active : Nat) => ({ inMod .running with
      now := 600000000, time := { present := [1, 8, 9] }
      regs := [(Reg.TIME_DPLL_CTL, 5#32), (Reg.TIME_REF_PRIO, 0x18#32), (Reg.TIME_DPLL_STAT, BitVec.ofNat 32 (state + 256 * active))] } : State)
    let steady := fun (s : State) (x : Nat) => decide (x ∈ s.time.present) && decide (Map.get 0 s.time.presentAt x + 600000000 ≤ s.now)
    let young : State := { s 3 8 with now := 599999999 }
    let mode := fun (m : Nat) => ({ s 1 8 with regs := [(Reg.TIME_DPLL_CTL, BitVec.ofNat 32 m), (Reg.TIME_DPLL_STAT, 1#32)] } : State)
    (s 2 1).refPrio = [8, 1] ∧ 9 ∈ (s 2 1).time.present ∧ (s 2 1).activeRef ≠ 9 ∧ 9 ∉ (s 2 1).refPrio
    ∧ (s 2 1).dpll = 2 ∧ (s 2 1).fld (Reg.at Reg.TIME_DPLL_CTL (s 2 1).hub) 2 2 = 1
    ∧ (∃ x ∈ (s 2 1).refPrio.takeWhile (· != (s 2 1).activeRef), steady (s 2 1) x = true)
    ∧ (∀ x ∈ (s 2 8).refPrio.takeWhile (· != (s 2 8).activeRef), steady (s 2 8) x = false)
    ∧ (s 3 8).dpll = 3 ∧ (s 3 8).dpllMode = 1 ∧ (s 3 8).refPrio = [] ++ 8 :: [1] ∧ steady (s 3 8) 8 = true ∧ (s 3 8).activeRef = 8 ∧ (s 3 1).activeRef ≠ 8
    ∧ (s 3 1).time.lossSwitch = false ∧ ({ s 3 1 with time := { present := [8], lossSwitch := true } } : State).time.lossSwitch = true
    ∧ (∀ x ∈ young.refPrio, steady young x = false) ∧ (mode 1).dpllMode = 1 ∧ (mode 2).dpllMode = 2 ∧ (mode 0).dpllMode = 0 ∧ (mode 2).dpll = 1
    ∧ 10 ∉ (s 3 8).time.present ∧ (s 0 0).dpll = 0 ∧ (s 0 0).dpll ≠ 1 := by decide
theorem witness_Frames :
    (inMod .running).powered = true ∧ (inMod .running).gather = none ∧ (inMod .standby).powered = false ∧ (inMod .running).hlt.due = false
    ∧ ({ inMod .running with hlt := { due := true } } : State).hlt.due = true := by decide
theorem witness_RiskCurve : (∀ i j, i < j → j < 8 → (fun k => 10 * k) i < (fun k => 10 * k) j) ∧ (3 < 7 ∧ 30 ≤ 35 ∧ 35 ≤ 40) := by
  constructor
  · intro i j h _; simp only; omega
  · decide

/-! The step boundary, module states, holds and sets. -/

/-- A module of a domain of one whose only core has ended its step. -/
def stepDone (m : Mod) : State :=
  { inMod m with fw := { mod := m, prev := .ready, event := 6, procs := [(2, { st := .running })] }
                 cores := [(0, { stepEnd := true, rel := [(0, { offset := 5, uses := 1, valid := true, space := 2 })] })]
                 image := { loaded := true, segments := [(0, (0, 0))] }, dom := { joined := true, members := [0] } }

theorem witness_StepBoundary :
    let s := stepDone .running
    let late : State := { s with time := { pm := 9, sched := 9 } }
    let told : State := { late with stepSt := { own := some ({ node := 0, clean := true, cause := 0 }, 4), reports := [{ node := 0, clean := true, cause := 0 }] } }
    let made : State := { s with stepSt := { decision := some true } }
    s.mod = .running ∧ s.stepSt.own = none ∧ s.stepSt.discarded = false ∧ s.res.parking = none ∧ s.stepEnds = true
    ∧ s.bagsComplete = true ∧ s.stepSt.bookkeeping = true ∧ s.schUp = true ∧ s.decisionPm = 5 ∧ s.pm = 0 ∧ late.decisionPm = 5 ∧ late.pm = 9
    ∧ ¬ (inMod .ready).mod = .running
    ∧ told.live = true ∧ told.decisionPm < told.pm ∧ told.stepSt.own ≠ none ∧ told.allReports = true ∧ told.stepSt.decision = none ∧ told.stepSt.discarded = false
    ∧ (told.mod = .running ∨ told.decisionPm ≤ told.dom.fstop) ∧ s.allReports = false ∧ s.pm ≤ s.decisionPm ∧ (inMod .ready).live = false ∧ s.stepSt.decision = none
    ∧ made.stepSt.decision = some true ∧ made.live = true ∧ 2 ^ 40 - 1 < 2 ^ 40 ∧ 2 ^ 64 - 1 < 2 ^ 64
    ∧ s.fld Reg.FMT_STAT 1 1 = 0 ∧ ({ s with regs := [(Reg.FMT_STAT, 2#32)] } : State).fld Reg.FMT_STAT 1 1 = 1
    ∧ s.res.mirrorDue = false ∧ s.res.snapDue = false := by decide
/-- A report formed before and after the decision postmark. -/
theorem witness_StepBoundary_report :
    let sent := fun (s : State) => ({ s with stepSt := { s.stepSt with own := some ({ node := 0, clean := true, cause := 0 }, s.pm)
                                                                       reports := [{ node := 0, clean := true, cause := 0 }] } } : State).letters 7 5
                                      (reportPayload s.step40 { node := 0, clean := true, cause := 0 })
    (sent (stepDone .running)).pm ≤ (stepDone .running).decisionPm
    ∧ ({ stepDone .running with time := { pm := 9, sched := 9 } } : State).decisionPm < (sent { stepDone .running with time := { pm := 9 } }).pm := by decide
theorem witness_ModuleStates :
    legal .off 1 .standby = true ∧ legal .held 12 .fenced = true ∧ legal .fenced 12 .fenced = false ∧ legal (inMod .parked).mod 11 .ready = true
    ∧ faultSev 0x4301 = .notice ∧ faultSev 0x7003 = .stop ∧ (inMod .running).mod ≠ .off ∧ (inMod .running).mod ≠ .fenced ∧ (inMod .running).mod ≠ .recovery
    ∧ (inMod .running).fw.h1Charge = false ∧ (inMod .running).gather = none ∧ (inMod .running).rival = none
    ∧ ({ inMod .running with gather := some [] } : State).gather = some [] ∧ (0x7003 < 0x7004 ∧ faultSev 0x7004 ≠ .stop) := by decide
/-- A module that went from RUNNING to HELD in this very cycle: a park wins, a resume loses. -/
theorem witness_ModuleStates_rival :
    let s : State := { fw := { mod := .held, prev := .running, event := 7, turned := some (0, .running) } }
    let order : List Mod := [.off, .fenced, .recovery, .standby, .boot, .parked, .held, .ready, .running]
    s.rival = some .running ∧ legal .running 9 .parked = true ∧ Mod.parked ≠ s.mod ∧ order.idxOf Mod.parked < order.idxOf s.mod ∧ s.mod ≠ .fenced ∧ s.mod ≠ .recovery
    ∧ ({ fw := { mod := .parked, prev := .running, event := 9, turned := some (0, .running) } } : State).rival = some .running
    ∧ legal .running 7 .held = true ∧ Mod.held ≠ Mod.parked ∧ order.idxOf Mod.parked < order.idxOf Mod.held := by decide
theorem witness_HoldsAndParks :
    let h : Hold := { stop := 0, seq := 1, causes := [0x6302] }
    let procs : Map Proc := (List.range 48).map fun n => (0x10 + n, { st := .running })
    let s : State := { fw := { mod := .held, prev := .running, event := 7, procs := procs }, dom := { hold := some h, members := [0] } }
    let stuck : State := { inMod .held with dom := { hold := some h } }
    let park : State := { inMod .held with res := { parking := some (0, some 7) } }
    let run : State := { inMod .ready with host := { runArmed := some (3, 0) }, dom := { joined := true }, image := { loaded := true } }
    let soon : State := { run with host := { runArmed := some (3, 1) } }
    let again : State := { inMod .ready with regs := [(Reg.RES_STAT, 16#32)], res := { restart := some 0 }, image := { loaded := true } }
    let lost : State := { inMod .parked with res := { restart := some 0 } }
    let cut : State := { inMod .parked with regs := [(Reg.RES_STAT, 16#32)], res := { restart := some 0 }, image := { loaded := true } }
    s.live = true ∧ (inMod .ready).live = false ∧ s.dom.hold = some h ∧ s.selfReady = true ∧ h.ready = false ∧ stuck.selfReady = false ∧ (inMod .held).dom.hold = none
    ∧ park.res.parking = some (0, some 7) ∧ park.mod = .held ∧ park.allParked = true ∧ s.res.parking = none
    ∧ run.host.runArmed = some (3, 0) ∧ 0 = run.pm ∧ run.mod = .ready ∧ run.dom.joined = true ∧ run.image.loaded = true ∧ 1 ≠ soon.pm ∧ s.host.runArmed = none
    ∧ again.res.restart = some 0 ∧ 0 = again.pm ∧ again.mod = .ready ∧ again.fld Reg.RES_STAT 4 4 = 1 ∧ again.image.loaded = true
    ∧ lost.res.restart = some 0 ∧ 0 = lost.pm ∧ lost.mod = .parked ∧ lost.fld Reg.RES_STAT 4 4 = 0
    ∧ cut.mod = .parked ∧ cut.pwr.warn = false ∧ cut.channelLost = false ∧ cut.fld Reg.RES_STAT 4 4 = 1 ∧ cut.image.loaded = true ∧ s.res.restart = none := by decide
/-- A channel mapped out, a park by the supply, and a release in the cycle of a restart. -/
theorem witness_HoldsAndParks_lost :
    let park : State := { inMod .held with res := { parking := some (0, some 7) }, dies := [(0, { order := [3], chans := [(3, { state := 2 })] })] }
    let cut : State := { inMod .parked with res := { restart := some 0 }, dies := [(0, { order := [3], chans := [(3, { state := 2 })] })] }
    let warned : State := { inMod .parked with res := { restart := some 0 }, pwr := { warn := true, supplyParked := true } }
    let left : State := { fw := { mod := .ready, prev := .parked, event := 11, turned := some (0, .parked) }, res := { restart := some 0 } }
    park.channelLost = true ∧ (inMod .held).channelLost = false ∧ cut.channelLost = true ∧ cut.mod = .parked ∧ warned.pwr.warn = true ∧ warned.pwr.supplyParked = true
    ∧ left.mod = .ready ∧ left.rival = some .parked ∧ left.res.restart = some 0 ∧ 0 = left.pm ∧ (inMod .ready).rival ≠ some .parked := by decide
set_option maxRecDepth 100000 in
theorem witness_StateSets :
    let j : SetJob := { boundary := 4, set := {} }
    let s : State := { inMod .running with res := { mirror := some j, snap := some j } }
    let wait : State := { withPort .running { tx := [(0, { used := true, unacked := [{ pkt := aPacket 1 1 0 3, sentAt := 0 }] })] } with
                          res := { mirror := some { j with sent := [(0, 3)] } } }
    let e : List Byte := List.replicate 16 0#8
    let rep : State := { withProc .running 0 .running with boot := { repairQueue := [e] } }
    (inMod .running).res.mirror = none ∧ s.res.mirror = some j ∧ s.partner = some 0 ∧ j.sent.all (s.acked 0) = true ∧ j.record = none
    ∧ wait.res.mirror = some { j with sent := [(0, 3)] } ∧ wait.partner = some 0 ∧ [(0, 3)].all (wait.acked 0) = false
    ∧ s.pwr.guard = false ∧ s.res.snap = some j ∧ (inMod .running).res.snap = none ∧ s.boot.repairQueue = []
    ∧ rep.boot.repairQueue = [e] ∧ rep.secUp = true ∧ s.secUp = false ∧ rep.pwr.guard = false ∧ rep.fw.h1Charge = false ∧ rep.repairEnd < 32768
    ∧ ({ rep with fw := { rep.fw with h1Charge := true, procs := [(4, { st := .running })] } } : State).secUp = true := by decide
theorem witness_StateSets_drain :
    let s : State := { fw := { mod := .running, prev := .ready, event := 6, procs := [(2, { st := .running })] }
                       regs := [(Reg.HOST_FEAT_GRANT0, 0x80#32), (Reg.RES_CTL, 1#32)]
                       res := { slots := [(3, { draining := true })] }
                       host := { drainBufs := [(0x1000, 4096)], outbox := [(0, 3#8)] } }
    s.mayDrain = true ∧ s.drainSet = some 3 ∧ s.host.drainBufs = [(0x1000, 4096)] ∧ s.emptyOutbound = some 1
    ∧ (s.flashSlot 3).drainOff < (s.flashSlot 3).size ∧ (inMod .running).mayDrain = false
    ∧ s.schUp = true ∧ s.slotState false 0 = 3 ∧ s.slotState false 1 ≠ 3 ∧ (inMod .running).schUp = false := by decide

/-! Start-up, processors, the host. -/

theorem witness_BootPhases :
    let s := fun (n : Nat) (h1 : Bool) => ({ fw := { mod := .boot, prev := .standby, event := 2, h1Charge := h1 }, regs := [(Reg.BOOT_STAT, BitVec.ofNat 32 (16 * n))] } : State)
    (inMod .ready).mod ≠ .boot ∧ (s 5 true).fw.h1Charge = true ∧ (s 5 true).fld Reg.BOOT_STAT 7 4 = 5 ∧ (s 1 false).mod = .boot ∧ (s 1 false).fw.h1Charge = false
    ∧ (s 1 false).fld Reg.BOOT_STAT 7 4 = 1 ∧ (s 6 true).fld Reg.BOOT_STAT 7 4 = 6 ∧ (s 9 false).fld Reg.BOOT_STAT 7 4 = 9 ∧ (s 9 false).boot.regdefs = []
    ∧ (s 9 false).rival = none ∧ ({ s 3 false with boot := { cause := 0xA002 } } : State).boot.cause ≠ 0
    ∧ ({ s 3 false with pwr := { guard := true } } : State).pwr.guard = true ∧ (s 3 false).fld Reg.BOOT_STAT 7 4 = 3 ∧ (s 3 false).pwr.guard = false := by decide
theorem witness_Processors :
    let s := fun (x : Proc) => ({ fw := { mod := .running, prev := .ready, event := 6, procs := [(1, x)], cache := [(2, { bytes := [], digest := measurement [] })] } } : State)
    let held : State := { inMod .running with cores := [(0, { services := [(0, some { kind := 1, arg := [] }), (3, some { kind := 2, arg := [] })] })]
                                              regs := [(Reg.FW_TRACE_EN0, 1#32)]
                                              fw := { mod := .running, prev := .ready, event := 6, procs := [(ctlOf 0, { st := .running })] } }
    kindOf 1 = some 1 ∧ (s { st := .running }).up 1 = true ∧ (s { st := .stopped }).up 1 = false ∧ ((s { st := .running }).proc 1).comp = none
    ∧ ((s { st := .running, comp := some 0 }).proc 1).comp = some 0 ∧ (s { st := .running }).now < 0 + 600000
    ∧ (0x80000001#32).getLsbD 31 = true ∧ (0x80000001#32).toNat % 256 = 1 ∧ (s {}).mod ≠ .fenced ∧ (s {}).mod ≠ .recovery ∧ (1#32).getLsbD 31 = false
    ∧ ((s { st := .restarting }).proc 1).st = .restarting ∧ ((s { st := .restarting }).proc 1).overrun = false
    ∧ ((s { st := .restarting, overrun := true }).proc 1).overrun = true 
    ∧ (s { st := .restarting, cause := 4 }).copyChecks 1 1 true = false ∧ ((s {}).proc 1).st ≠ .restarting
    ∧ (held.core 0).service 0 = some { kind := 1, arg := [] } ∧ (held.core 0).service 3 = some { kind := 2, arg := [] } ∧ (held.core 0).service 1 = none
    ∧ held.ctlUp 0 = true ∧ held.traceOn (fieldAt [] 0 2 % 4096) = true ∧ (inMod .running).traceOn 0 = false := by decide
/-- A copy that checks: its measurement is the stored one. -/
theorem witness_Processors_copy :
    ({ fw := { mod := .running, prev := .ready, event := 6, cache := [(2, { bytes := [], digest := measurement [] })] } } : State).copyChecks 1 1 false = true := by
  decide +kernel
theorem witness_LeaseAndHost :
    let s := fun (f : Fw → Fw) => ({ fw := f { mod := .running, prev := .ready, event := 6 } } : State)
    let word := s fun f => { f with leaseSent := some (1, 2) }
    let boot : State := { fw := { mod := .boot, prev := .standby, event := 2 }, boot := { bootAt := 5 } }
    (s id).powered = true ∧ (s id).fw.leaseSent = none ∧ word.fw.leaseSent = some (1, 2) ∧ word.fw.h1Charge = false
    ∧ (s fun f => { f with leaseSent := some (1, 2), h1Charge := true }).fw.h1Charge = true ∧ (s fun f => { f with leaseAck := some 1 }).fw.leaseAck = some 1
    ∧ (s id).fw.leaseAck = none ∧ (inMod .off).powered = false ∧ boot.mod = .boot ∧ boot.fw.lastWord ≤ boot.boot.bootAt ∧ boot.powered = true ∧ (s id).mod ≠ .boot
    ∧ (s fun f => { f with hostTimer := true }).fw.hostTimer = true ∧ (s id).fw.absent = false ∧ (s id).fw.hostTimer = false
    ∧ (s fun f => { f with absent := true }).fw.absent = true := by decide
theorem witness_JoinSteps :
    let s := fun (d : Dom) => ({ inMod .ready with dom := d, regs := [(Reg.TIME_DPLL_STAT, 0x802#32)], time := { phaseGood := 8 } } : State)
    let l : Latency := { answered := 2 ^ 48 - 1 }
    let b : Bucket := { tokens := 64, seqMax := 64, liveAddr := 0x100, entry := 7 }
    let m : Micro := { slot := 15, step := 0, pass := 0, word := 9, cores := [0] }
    let k : Claim := { ident := 1, src := 0, space := 2, first := 0x20, units := 1, entry := 7, addr := 0x100, bytes := 8 }
    let live : State := { withCore { claims := [k], uses := [(7, 1)], rel := [(7, { valid := true, uses := 1, space := 2, dest := 0x100, bytes := 8 })] } with
                          fw := { mod := .running, prev := .ready, event := 6, procs := [(2, { st := .running })] }
                          host := { micro := [m] }, image := { buckets := [b], passMap := [0] } }
    (s { joinStep := 3 }).mod = .ready ∧ (s { joinStep := 3 }).dom.pmLoaded = false ∧ (s { joinStep := 3, pmLoaded := true }).dom.pmLoaded = true
    ∧ (s { joinStep := 4, members := [0, 5], probesSent := 63 }).dom.probesSent < 64 * (s { joinStep := 4, members := [0, 5], probesSent := 63 }).others.length
    ∧ (s { joinStep := 2, syncE := 8 }).dpll = 2 ∧ (s { joinStep := 2, syncE := 8 }).activeRef = 8 ∧ 8 ≤ (s { joinStep := 3, pmLoaded := true }).time.phaseGood
    ∧ (let t := s { joinStep := 4, members := [0, 5], lat := [(1, l)] }
       ∀ i < t.dom.members.length, t.dom.members.getD i 0 = t.node ∨ 48 ≤ probesAnswered (t.latency i))
    ∧ (s { joinStep := 1 }).dom.joinStep < 2 ∧ (s { joinStep := 2 }).dom.joinSlot = none ∧ (s { joinStep := 4, joinSlot := some 15 }).dom.joinSlot = some 15
    ∧ (inMod .running).mod ≠ .ready ∧ (inMod .running).host.micro = []
    ∧ live.host.micro = [m] ∧ 0 ∈ m.cores ∧ live.bucketOf m.pass = some b ∧ live.liveClaim 0 m b = some k ∧ live.live = true ∧ live.schUp = true := by decide

/-- Inbound slot 0 in a state, with a letter of a type and its payload. -/
def inSlot (st ty : Nat) (p : List Byte) : Map Byte :=
  let l := leBytes 4 st ++ leBytes 2 ty ++ leBytes 2 p.length
  Map.fill 0#8 (Map.fill 0#8 [] 0 8 fun i => byteAt l i) 0x20 p.length fun i => byteAt p i
/-- A module with SEC and the scheduler core running, whose inbound slot 0 holds a collected letter. -/
def letter (m : Mod) (ty : Nat) (p : List Byte) : State :=
  { fw := { mod := m, prev := .ready, event := 6, procs := [(0, { st := .running }), (2, { st := .running })] }
    host := { inbox := inSlot 2 ty p, control := if isControl ty then [0] else [] } }
/-- The letter is started: `goes` of `Obligations.HostLetters`. -/
abbrev Goes' (s : State) (ty : Nat) : Prop :=
  (s.slotState true 0 = 2 ∧ s.slotGet true 0 4 1 = ty ∧ s.schUp = true ∧ (isControl ty = true → s.host.control.head? = some 0)) ∧ accepts ty s.mod = true

theorem witness_HostLetters :
    Goes' (letter .fenced 1 []) 1 ∧ accepts 3 (letter .fenced 3 []).mod = false ∧ accepts 9 Mod.ready = false ∧ (letter .ready 9 []).parkedYet = false ∧ ¬ (inMod .running).slotState true 0 = 2
    ∧ Goes' (letter .ready 2 []) 2 ∧ (letter .ready 2 []).secUp = true ∧ (letter .ready 2 []).pwr.guard = false
    ∧ Goes' (letter .ready 3 []) 3 ∧ (letter .ready 3 []).fw.update = none
    ∧ Goes' (letter .ready 4 (leBytes 8 (2 ^ 40) ++ leBytes 8 1)) 4 ∧ (letter .ready 4 (leBytes 8 (2 ^ 40) ++ leBytes 8 1)).inService (2 ^ 40) 1 = false
    ∧ Goes' (letter .ready 4 []) 4 ∧ (letter .ready 4 []).inService 0 0 = true ∧ (letter .ready 4 []).secUp = true
    ∧ ¬ Goes' (letter .ready 9 []) 9 ∧ Goes' (letter .parked 9 []) 9 ∧ ((letter .parked 9 []).pwr.warn && (letter .parked 9 []).pwr.supplyParked) = false := by
  decide
theorem witness_HostLetters_refused :
    let up := fun (n : Nat) => ({ letter .ready 3 [] with fw := { (letter .ready 3 []).fw with update := some (n, 1) } } : State)
    let down : State := { letter .ready 3 [] with fw := { (letter .ready 3 []).fw with procs := [(2, { st := .running })] } }
    Goes' (up 0) 3 ∧ (up 0).fw.update = some (0, 1) ∧ Goes' (up 5) 3 ∧ (up 5).fw.update = some (5, 1) ∧ Goes' down 3 ∧ down.fw.update = none
    ∧ down.secUp = false := by decide
theorem witness_HostLetters_run :
    let s := fun (start : Nat) (joined : Bool) => ({ letter .ready 6 (leBytes 8 start) with dom := { joined := joined }, image := { loaded := true }, time := { pm := 65536 } } : State)
    let j := letter .ready 5 (List.replicate 0x22 0#8)
    Goes' (s 131072 true) 6 ∧ (s 131072 true).dom.joined = true ∧ (s 131072 true).pay 0 0 8 % 65536 = 0 ∧ (s 131072 true).pm < (s 131072 true).pay 0 0 8
    ∧ Goes' (s 65536 true) 6 ∧ (s 65536 true).pay 0 0 8 ≤ (s 65536 true).pm ∧ (s 0 false).dom.joined = false
    ∧ Goes' j 5 ∧ j.dom.joinStep = 0 ∧ 0x20 + 2 * j.pay 0 2 2 ≤ j.slotGet true 0 6 2 ∧ j.slotGet true 0 6 2 ≤ 2016 := by decide
theorem witness_HostLetters_data :
    let b : Bucket := { tokens := 64, seqMax := 64, liveAddr := 0x100, entry := 7 }
    let m : State := { letter .running 7 (leBytes 8 0 ++ leBytes 2 0 ++ leBytes 2 0 ++ leBytes 4 64 ++ leBytes 4 64 ++ List.replicate 12 0#8 ++ leBytes 8 4 ++ leBytes 8 0) with
                       image := { buckets := [b], passMap := [0] }, dies := [(0, { order := [0] })] }
    let r := fun (kind : Nat) => letter .parked 8 (leBytes 8 0 ++ leBytes 8 kind ++ leBytes 8 131072)
    let d := letter .running 10 (leBytes 2 1 ++ List.replicate 14 0#8 ++ leBytes 8 0x1000 ++ leBytes 8 4096)
    let f := letter .ready 11 (leBytes 1 1 ++ leBytes 1 0 ++ leBytes 2 1 ++ List.replicate 12 0#8 ++ leBytes 8 0x1000 ++ leBytes 8 4096)
    Goes' m 7 ∧ (m.host.micro.any fun x => x.slot == 0) = false ∧ m.pay 0 0 8 % 2 ^ 40 = m.step40 ∧ m.inService (m.pay 0 0x28 8) (m.pay 0 0x20 8) = true
    ∧ m.bucketOf (m.pay 0 8 2) = some b ∧ m.pay 0 0xC 4 ≤ b.tokens ∧ m.pay 0 0x10 4 ≤ b.seqMax ∧ (leBytes 4 7).length = m.pay 0 0x20 8
    ∧ Goes' (r 0) 8 ∧ (r 0).mod = .parked ∧ (r 0).pay 0 8 1 = 0 ∧ (r 0).pay 0 0x10 8 % 65536 = 0 ∧ (r 0).reg64 Reg.RES_CUT_LO % 2 ^ 40 = (r 0).pay 0 0 8
    ∧ (r 0).res.cutMapOut = false ∧ (r 0).channelLost = false ∧ (r 0).res.tornRestore = false ∧ bit ((r 0).pay 0 0xA 1) 0 = false ∧ Goes' (r 3) 8 ∧ 2 < (r 3).pay 0 8 1
    ∧ Goes' d 10 ∧ d.bufsOk 0 (d.pay 0 0 2) = true
    ∧ Goes' f 11 ∧ f.pwr.guard = false ∧ f.fw.absent = false ∧ bit (f.pay 0 0 1) 0 = true ∧ f.pay 0 8 8 = 0 ∧ f.bufsOk 0 (f.pay 0 2 2) = true
    ∧ f.chooseSlot = some 0 ∧ 4096 ≤ 2 * slotBytes ∧ ((f.bufEntries 0 (f.pay 0 2 2)).map fun e => e.2).sum = 4096 := by decide
theorem witness_HostLetters_attest :
    let s : State := { letter .ready 12 (List.replicate 0x28 0#8 ++ leBytes 4 14877) with boot := { pufKey := some [] }, regs := [(Reg.SEC_STAT, 4#32)] }
    Goes' s 12 ∧ s.secUp = true ∧ 14877 ≤ s.pay 0 0x28 4 ∧ s.boot.pufKey = some [] ∧ s.fld Reg.SEC_STAT 2 2 = 1 := by decide

/-! Signed images: what a signature that verifies (Config.mldsaVerify, log 4) makes of them. -/

/-- SHAKE256 of the body, 64 bytes. -/
def fwDigest : List Byte :=
  [0xb4#8, 0xa2#8, 0x1e#8, 0x79#8, 0x39#8, 0xbe#8, 0xb1#8, 0x25#8, 0xbd#8, 0x3c#8, 0x10#8, 0x23#8, 0x7e#8, 0xd5#8, 0xea#8, 0x31#8,
   0xb3#8, 0x1a#8, 0xee#8, 0x7e#8, 0x64#8, 0x68#8, 0x73#8, 0x4f#8, 0x8d#8, 0x15#8, 0x8b#8, 0x4d#8, 0x50#8, 0xe9#8, 0x95#8, 0xd6#8,
   0x36#8, 0x8d#8, 0x30#8, 0x6c#8, 0x84#8, 0x1b#8, 0x2a#8, 0x4e#8, 0x8c#8, 0xbb#8, 0x44#8, 0x83#8, 0xbd#8, 0xce#8, 0xa6#8, 0x12#8,
   0x31#8, 0xab#8, 0xec#8, 0x0c#8, 0x37#8, 0x5f#8, 0x21#8, 0xd0#8, 0x03#8, 0x4a#8, 0x74#8, 0x27#8, 0xd8#8, 0x75#8, 0xe8#8, 0x21#8]
/-- A firmware image of kind 0 with a body of four bytes, for a letter of UPDATE. -/
def fwImage : List Byte :=
  leBytes 4 0x4657494D ++ leBytes 8 0 ++ leBytes 4 4 ++ leBytes 8 0 ++ leBytes 8 (2 ^ 64 - 1) ++ fwDigest
    ++ List.replicate (0x1000 - 0x60) 0#8 ++ List.replicate 4 0#8
def updating : State :=
  { letter .ready 3 (leBytes 4 0 ++ leBytes 4 4100) with boot := { admitted := [(0, 0, false)] } }

theorem fwImage_fields : fwImage.length = 4100 ∧ imageFields 0 fwImage = true := by decide +kernel
/-- The digest of the body is the known one, and the image carries it. -/
theorem fwImage_digest : (slice fwImage 0x20 64 == shake512 (fwImage.drop 0x1000)) = true := by decide +kernel
theorem fwImage_key : (updating.keyFor 0 true false (fieldAt fwImage 0x18 8)).isSome = true := by decide +kernel
theorem witness_HostLetters_update (ok : ∀ k m g, Config.mldsaVerify k m g = true) :
    Goes' updating 3 ∧ updating.fw.update = none ∧ updating.secUp = true ∧ fwImage.length = updating.pay 0 4 4 ∧ imageFields (updating.pay 0 0 1) fwImage = true
    ∧ updating.imageSigned fwImage = true := by
  refine ⟨by decide, by decide, by decide, fwImage_fields.1, fwImage_fields.2, ?_⟩
  obtain ⟨k, hk⟩ := Option.isSome_iff_exists.mp fwImage_key
  unfold State.imageSigned
  rw [hk]
  simp only [sigOver, ok, Bool.true_and]
  exact fwImage_digest

theorem witness_Registers :
    (5 ≤ 7 ∧ 7 < 32 ∧ 7 < 2 ^ (7 + 1 - 5)) ∧ 23 < 24 ∧ ((Reg.find? Reg.HOST_STAT).any fun d => d.sqc != 0) = true
    ∧ (inMod .running).endpointUp = true ∧ (inMod .running).blockUp Reg.HOST_STAT = true
    ∧ (inMod .running).fld Reg.HOST_STAT 31 24 = 0 ∧ (0 + 256 - 129) % 256 ≤ 127 ∧ 127 < (0 + 256 - 128) % 256 ∧ Reg.find? 0x3FFFFFC = none := by decide +kernel
theorem witness_HostInterface :
    let s := fun (st : BitVec 8) => ({ inMod .ready with host := { inbox := [(0, st)], outbox := [(0, st)] }, regs := [(Reg.HOST_FEAT_GRANT0, 0x400#32), (Reg.HOST_WIN_CTL, 0x80000000#32)] } : State)
    let t : State := { s 1#8 with host := { snapPending := some (1, 5) } }
    (s 1#8).endpointUp = true ∧ (s 1#8).mod ≠ .recovery ∧ (s 1#8).slotState true 1 = 0 ∧ (s 3#8).slotState true 0 = 3 ∧ (s 1#8).slotState false 0 = 1
    ∧ (s 2#8).slotState false 0 = 2 ∧ ¬ ((s 2#8).slotState true 0 = 0) ∧ ¬ ((s 2#8).slotState true 0 = 3) ∧ ¬ ((s 3#8).slotState false 0 = 1) ∧ ¬ ((s 3#8).slotState false 0 = 2)
    ∧ (s 1#8).host.snapPending = none ∧ t.host.snapPending = some (1, 5) ∧ t.capture 1 5 = some [5, 0] ∧ (∀ x ∈ [5, 0], x < 2 ^ 32)
    ∧ Reg.HOST_STAT % 4 = 0 ∧ Reg.HOST_STAT < 0x300000 ∧ (1#4 ≠ 0xF#4) ∧ (s 1#8).blockUp Reg.HOST_STAT = true
    ∧ ({ fw := { mod := .fenced, prev := .ready, event := 12 } } : State).blockUp 0x20000 = false
    ∧ ((s 1#8).mod = .ready ∨ (s 1#8).mod = .parked) ∧ (s 1#8).granted 10 = true ∧ (s 1#8).fld Reg.HOST_WIN_CTL 31 31 = 1
    ∧ ¬ (((inMod .running).mod = .ready ∨ (inMod .running).mod = .parked) ∧ (inMod .running).granted 10 = true) ∧ (s 1#8).host.posted = [] := by decide
theorem witness_HostInterface_register : (Reg.find? Reg.HOST_STAT).isSome = true ∧ (Reg.find? 0x20000).isSome = true := by decide +kernel

/-- A module in RECOVERY whose slot 0 holds a posted letter of a type. -/
def recovering (ty : Nat) (p : List Byte) : State := { inMod .recovery with host := { inbox := inSlot 1 ty p } }
/-- `goes` of `Obligations.RecoveryLetters`. -/
abbrev GoesR (s : State) (ty : Nat) : Prop := s.mod = .recovery ∧ s.slotState true 0 = 1 ∧ s.slotGet true 0 4 1 = ty ∧ s.pwr.guard = false
/-- An ENROLL record of 5,376 bytes for a module without an owner. -/
def enrolment (remove : Nat) : List Byte :=
  leBytes 4 0x454E524C ++ leBytes 4 0 ++ leBytes 8 0 ++ (inMod .recovery).serial ++ leBytes 1 remove ++ List.replicate 5343 0#8

theorem witness_RecoveryLetters :
    let w := leBytes 1 3 ++ List.replicate 3 0#8 ++ leBytes 4 256 ++ List.replicate 8 0#8 ++ leBytes 4 256
    let s := recovering 0x43 w
    let e : State := { s with boot := { erased := [3] } }
    (inMod .ready).mod ≠ .recovery ∧ (inMod .recovery).slotState true 0 ≠ 1 ∧ ({ inMod .recovery with pwr := { guard := true } } : State).pwr.guard = true
    ∧ GoesR (recovering 0x40 []) 0x40 ∧ GoesR (recovering 0x41 []) 0x41
    ∧ GoesR (recovering 0x42 [1#8]) 0x42 ∧ ((recovering 0x42 [1#8]).collectSlot 0).pay 0 0 1 = 1 ∧ ((recovering 0x42 [4#8]).collectSlot 0).pay 0 0 1 = 4
    ∧ GoesR (recovering 0x42 [2#8]) 0x42 ∧ ((recovering 0x42 [2#8]).collectSlot 0).pay 0 0 1 = 2
    ∧ GoesR s 0x43 ∧ (s.collectSlot 0).writeAllowed ((s.collectSlot 0).pay 0 0 1) ((s.collectSlot 0).pay 0 4 4) ((s.collectSlot 0).pay 0 0x10 4) = false
    ∧ GoesR e 0x43 ∧ (e.collectSlot 0).writeAllowed ((e.collectSlot 0).pay 0 0 1) ((e.collectSlot 0).pay 0 4 4) ((e.collectSlot 0).pay 0 0x10 4) = true
    ∧ (e.collectSlot 0).pay 0 0x10 4 = 256 ∧ GoesR (recovering 0x44 [3#8]) 0x44 ∧ ((recovering 0x44 [3#8]).collectSlot 0).pay 0 0 1 = 3
    ∧ GoesR (recovering 0x45 []) 0x45 := by decide
theorem witness_Sideband :
    (inMod .running).sidebandUp = false ∧ (withProc .running 1 .restarting).sidebandUp = true ∧ (withProc .running 1 .restarting).mod ≠ .standby ∧ (withProc .running 1 .restarting).pwrCore.st ≠ .running
    ∧ (withProc .running 1 .running).pwrCore.st = .running ∧ (1#8 ≠ 0#8 ∧ 1#8 ≠ 0xFF#8) ∧ (withProc .running 1 .running).sensor 31 = some 0
    ∧ (withProc .running 1 .running).sensor 32 = none ∧ (inMod .off).mod = .off ∧ (inMod .standby).mod = .standby ∧ (inMod .ready).mod ≠ .off
    ∧ (inMod .ready).mod ≠ .standby ∧ 2 + 1 < [true, false, true, true].length := by decide

/-! The whole block. -/

theorem witness_StepTakesFront : ({ inMod .running with pending := [.flashGuard, .warningClear] } : State).pending = .flashGuard :: [.warningClear] := rfl
/-- On an empty queue a step is one cycle of the clock. -/
theorem test_step_idles : step (inMod .running) = .next (inMod .running).tick ∧ (inMod .off).tick.now = 1 := ⟨rfl, by decide⟩
/-- A form of each kind that stops, and one that goes on. -/
theorem witness_CommandsGoOn :
    let l : Loop := { first := 0, len := 1, left := 0 }
    let c : Core := { desc := [(1, 9 * 2 ^ 29 + 9 * 2 ^ 88), (2, 15 * 2 ^ 29)], loops := [l, l, l, l] }
    let s := withCore c
    (Instr.vst 0 8 0 0 0 0).wellFormed = false ∧ operandCode ((s.core 0).descAt 1).fmt = false ∧ s.fmt ((s.core 0).descAt 2).fmt = none
    ∧ ((s.core 0).descAt 1).dfmt = 9 ∧ s.fmt 15 = none ∧ (s.fmt 2).map FmtInfo.hasScale = some true ∧ 4 ≤ (s.core 0).loops.length ∧ (s.core 0).loops ≠ []
    ∧ ((s.core 0).relEnt 0).valid = false ∧ ((withCore { rel := [(0, { valid := true, space := 1 })] }).core 0).relEnt 0 = { valid := true, space := 1 }
    ∧ (Instr.flashGuard).wellFormed = true ∧ (Instr.seg 0).wellFormed = true ∧ ((withCore {}).core 0).loops = [] := by decide
/-- Encoded words of every slot, and a bundle beside a TWIN. -/
theorem witness_SlotEncodings :
    encodeArray .b (.gclose 0 .b 255 16 7) = some 0b0101_11111111_10000_00000_0_111_000000000000_00
    ∧ encodeVector (.vfma 0 .bf16 1 2 3 4) = some 0b00000100_01_00001_00010_00011_00100_0000_0_0_000000000000_00000_00000000000
    ∧ encodeMove (.vld 0 8 3 0x4002 1 true 128) = some 0b0001_1000_00011_100000000000010_00001_00000_1_010000000
    ∧ encodeScalar 2 (.sub 0 2 1 2 3) = some 0b000011_00001_00010_00011_0000000000000000000
    ∧ encodeSync (.expect 0 2 5) = some 0b0011_10_0000000101_00000000
    ∧ 2 ^ 40 - 1 < 2 ^ 40 ∧ 2 ^ 64 - 1 < 2 ^ 64 ∧ 2 ^ 48 - 1 < 2 ^ 48 ∧ 2 ^ 24 - 1 < 2 ^ 24
    ∧ arraySlot 9 .a 0b0011_00000001_00010_00011_0_100_100000000000_00 = .instr (.twin 9 1 2 3 false 4 2048) ∧ arraySlot 9 .a 0 = .nop := by decide
theorem test_reset : State.reset.mod = .boot ∧ State.reset.pending = [] ∧ State.reset.fw.prev = .standby ∧ (State.reset.proc 4).st = .standby
    ∧ (State.reset.proc 5).st = .stopped := by decide

theorem byteAt_padded (h : List Byte) (n i : Nat) (hi : h.length ≤ i) : byteAt (h ++ List.replicate n 0#8) i = 0#8 := by
  simp only [byteAt, List.getD_eq_getElem?_getD, List.getElem?_append_right hi, List.getElem?_replicate]
  split <;> rfl
theorem enrolment_zeros (r : Nat) : (slice (enrolment r) 0x40 1952).all (· == 0#8) = true := by
  simp only [slice, List.all_map, List.all_eq_true, List.mem_range]
  intro i _
  have h : byteAt (enrolment r) (0x40 + i) = 0#8 := byteAt_padded _ _ _ (by
    have : (leBytes 4 0x454E524C ++ leBytes 4 0 ++ leBytes 8 0 ++ (inMod .recovery).serial ++ leBytes 1 r).length = 33 := rfl
    omega)
  simp [h]
/-- An ENROLL record that names an owner, one that removes it, and one that is none. -/
theorem witness_RecoveryLetters_enroll :
    (∀ r, (enrolment r).length = 5376)
    ∧ ((recovering 0x45 []).collectSlot 0).enrolOk (enrolment 0) = true ∧ fieldAt (enrolment 0) 0x20 1 % 2 = 0
    ∧ ((recovering 0x45 []).collectSlot 0).enrolOk (enrolment 1) = true ∧ fieldAt (enrolment 1) 0x20 1 % 2 = 1
    ∧ ((recovering 0x45 []).collectSlot 0).enrolOk (List.replicate 5376 0#8) = false := by
  have own : ((recovering 0x45 []).collectSlot 0).ownerEnrolled = false := by decide
  have ser : ((recovering 0x45 []).collectSlot 0).serial = (inMod .recovery).serial := rfl
  have a0 : fieldAt (enrolment 0) 0 4 = 0x454E524C := by decide
  have b0 : fieldAt (enrolment 0) 8 8 = ((recovering 0x45 []).collectSlot 0).reg64 Reg.BOOT_COUNT_LO := by decide
  have c0 : slice (enrolment 0) 0x10 16 = (inMod .recovery).serial := by decide
  have d0 : fieldAt (enrolment 0) 0x20 1 % 2 = 0 := by decide
  have a1 : fieldAt (enrolment 1) 0 4 = 0x454E524C := by decide
  have b1 : fieldAt (enrolment 1) 8 8 = ((recovering 0x45 []).collectSlot 0).reg64 Reg.BOOT_COUNT_LO := by decide
  have c1 : slice (enrolment 1) 0x10 16 = (inMod .recovery).serial := by decide
  have d1 : fieldAt (enrolment 1) 0x20 1 % 2 = 1 := by decide
  refine ⟨fun r => ?_, ?_, d0, ?_, d1, ?_⟩
  · show (_ ++ List.replicate 5343 0#8 : List Byte).length = 5376
    rw [List.length_append, List.length_replicate]; rfl
  · unfold State.enrolOk; rw [ser, own, a0, b0, c0, d0]; simp
  · unfold State.enrolOk; rw [ser, own, a1, b1, c1, d1, enrolment_zeros]; simp
  · have : fieldAt (List.replicate 5376 0#8) 0 4 = 0 := by decide
    unfold State.enrolOk
    rw [this, show (0 == 0x454E524C : Bool) = false by decide]; simp only [Bool.false_and]

end Sys2Proof.Tests
end

section
/-!
The module's states and faults (ch. 0, 12): what the books of a fault and of a transition leave as it is, and the settling of O44.
-/
namespace Sys2Proof.Machine

/-! ## What the books leave as it is -/

/-- The state without its books: registers, the daybook and the fault queues, the post box and what was sent out. -/
def State.sansBooks (s : State) : State :=
  { s with regs := [], seqOf := [], host := {}, out := [], fw := { s.fw with daySeq := 0, day := [], faultQ0 := [], faultQ1 := [] } }

/-- `t` is `s` but for the books. -/
def State.Keeps (s t : State) : Prop := t.sansBooks = s.sansBooks

variable {s t u : State}

namespace State.Keeps

theorem refl : s.Keeps s := rfl
theorem trans (h : s.Keeps t) (k : t.Keeps u) : s.Keeps u := Eq.trans k h

theorem mod (h : s.Keeps t) : t.mod = s.mod := congrArg (·.mod) h
theorem prev (h : s.Keeps t) : t.fw.prev = s.fw.prev := congrArg (·.fw.prev) h
theorem event (h : s.Keeps t) : t.fw.event = s.fw.event := congrArg (·.fw.event) h
theorem rival (h : s.Keeps t) : t.rival = s.rival := congrArg (·.rival) h
theorem cores (h : s.Keeps t) : t.cores = s.cores := congrArg (·.cores) h
theorem bond (h : s.Keeps t) : t.bond = s.bond := congrArg (·.bond) h
theorem boot (h : s.Keeps t) : t.boot = s.boot := congrArg (·.boot) h
theorem dom (h : s.Keeps t) : t.dom = s.dom := congrArg (·.dom) h

theorem ite {c : Prop} {_ : Decidable c} (ht : s.Keeps t) (hu : s.Keeps u) : s.Keeps (if c then t else u) := by
  split <;> assumption

theorem foldl {α : Type} {l : List α} {f : State → α → State} (hf : ∀ t a, s.Keeps t → s.Keeps (f t a)) (h : s.Keeps t) :
    s.Keeps (l.foldl f t) := foldl_keeps s.Keeps f hf l t h

/-- An update of the books. -/
theorem books (h : s.Keeps t) {regs : Map Word} {seqOf : Map Nat} {host : HostIf} {out : List Out} {daySeq : Nat} {day : Map (Option DRec)}
    {faultQ0 faultQ1 : List DRec} :
    s.Keeps { t with regs := regs, seqOf := seqOf, host := host, out := out,
                     fw := { t.fw with daySeq := daySeq, day := day, faultQ0 := faultQ0, faultQ1 := faultQ1 } } := h

theorem withDom (h : s.Keeps t) : s.Keeps { t with dom := s.dom } := by
  have hdom := congrArg (fun x : State => { x with dom := s.dom }) (show t.sansBooks = s.sansBooks from h)
  exact hdom

theorem setReg (h : s.Keeps t) {off v : Nat} : s.Keeps (t.setReg off v) := h.books
theorem setFld (h : s.Keeps t) {off hi lo v : Nat} : s.Keeps (t.setFld off hi lo v) := h.setReg
theorem count (h : s.Keeps t) {off n : Nat} : s.Keeps (t.count off n) := h.setReg
theorem statusEvent (h : s.Keeps t) {off b : Nat} : s.Keeps (t.event off b) := h.setFld.setFld.books
theorem emit (h : s.Keeps t) {o : Out} : s.Keeps (t.emit o) := h.books
theorem signal (h : s.Keeps t) {v : Nat} : s.Keeps (t.signal v) := h.emit
theorem slotFill (h : s.Keeps t) {inb : Bool} {n o : Nat} {l : List Byte} : s.Keeps (t.slotFill inb n o l) := .ite h.books h.books

theorem putRecord (h : s.Keeps t) {r : DRec} {lost : Bool} : s.Keeps (t.putRecord r lost) := by
  unfold State.putRecord
  refine .ite (.signal (.ite (.count ?_) ?_)) (.ite (.count ?_) ?_) <;> exact h.books.setReg

theorem record (h : s.Keeps t) {kind source fault severity ident : Nat} {payload : Option (List Byte)} :
    s.Keeps (t.record kind source fault severity ident payload) := by
  unfold State.record
  dsimp only
  split
  · exact h.books
  · exact .ite h.count (.putRecord (.ite h.books h))

theorem answer (h : s.Keeps t) {slot status fault : Nat} {payload : List Byte} : s.Keeps (t.answer slot status fault payload) := by
  unfold State.answer
  split
  · exact h
  · exact h.slotFill.slotFill.slotFill.books.count.signal

theorem dropMicro (h : s.Keeps t) : s.Keeps t.dropMicro := (State.Keeps.foldl (fun _ _ hu => hu.answer) h).books

theorem refuseLetters (h : s.Keeps t) : s.Keeps t.refuseLetters := by
  unfold State.refuseLetters
  exact .foldl (fun _ _ hu => hu.answer) h

theorem recordFault (h : s.Keeps t) {code inst ident : Nat} : s.Keeps (t.recordFault code inst ident) := by
  unfold State.recordFault
  dsimp only
  refine .ite (.emit ?_) ?_ <;> exact .signal (.record (.foldl (fun _ _ hu => hu.statusEvent) h))

/-- Entry to FENCED keeps all but the domain. -/
theorem fence (h : s.Keeps t) : s.Keeps { t.fence with dom := s.dom } := by
  have hletters : s.Keeps (t.refuseLetters.setFld Reg.DOM_IDENT 9 0 0) := h.refuseLetters.setFld
  unfold State.fence
  dsimp only
  generalize t.refuseLetters.setFld Reg.DOM_IDENT 9 0 0 = w at *
  exact hletters.withDom

end State.Keeps

/-- The marks of a transition: where it comes from, where it leads, and by which event. -/
def State.turnTo (s : State) (ev : Nat) (before dest : Mod) : State :=
  { s with fw := { s.fw with prev := before, mod := dest, event := ev, turned := some (s.now, before) } }

/-- A transition keeps all but its own marks and, into FENCED, the domain. -/
theorem State.enter_keeps {ev : Nat} {before dest : Mod} :
    (s.turnTo ev before dest).Keeps { s.enter ev before dest with dom := s.dom } := by
  have hmarks : (s.turnTo ev before dest).Keeps ((((s.turnTo ev before dest).record 2 0xFF 0 0 ev).signal 32).emit (.uart 2 ev)) :=
    .emit (.signal (.record .refl))
  unfold State.enter
  dsimp only
  split
  · exact State.Keeps.fence (.ite hmarks hmarks.dropMicro)
  · exact State.Keeps.withDom (.ite hmarks hmarks.dropMicro)

theorem State.enter_mod {ev : Nat} {before dest : Mod} : (s.enter ev before dest).mod = dest := enter_keeps.mod
theorem State.enter_prev {ev : Nat} {before dest : Mod} : (s.enter ev before dest).fw.prev = before := enter_keeps.prev
theorem State.enter_event {ev : Nat} {before dest : Mod} : (s.enter ev before dest).fw.event = ev := enter_keeps.event
theorem State.enter_cores {ev : Nat} {before dest : Mod} : (s.enter ev before dest).cores = s.cores := enter_keeps.cores
theorem State.enter_bond {ev : Nat} {before dest : Mod} : (s.enter ev before dest).bond = s.bond := enter_keeps.bond

/-! ## Transitions (R4, R5, R437) -/

theorem State.transition_of_legal {ev : Nat} {dest : Mod} (hr : s.rival = none) (hl : legal s.mod ev dest = true) :
    s.transition ev dest = s.enter ev s.mod dest := by
  simp [State.transition, hr, hl]

theorem State.transition_of_not_legal {ev : Nat} {dest : Mod} (hr : s.rival = none) (hl : legal s.mod ev dest = false) :
    s.transition ev dest = s := by
  simp [State.transition, hr, hl]

/-- Of two transitions of one cycle the one whose state stands first is entered (R4). -/
theorem State.transition_of_rival_first {ev : Nat} {before dest : Mod} (hr : s.rival = some before) (hl : legal before ev dest = true)
    (hrank : modRank dest < modRank s.mod) (hf : s.mod ≠ .fenced) (hv : s.mod ≠ .recovery) :
    s.transition ev dest = s.enter ev before dest := by
  have hne : dest ≠ s.mod := fun e => by simp [e] at hrank
  simp [State.transition, hr, hl, hne, hrank, hf, hv]

theorem State.transition_of_rival_later {ev : Nat} {before dest : Mod} (hr : s.rival = some before) (hl : legal before ev dest = true)
    (hrank : modRank s.mod < modRank dest) : s.transition ev dest = s.record 2 0xFF 0 0 ev := by
  have hne : dest ≠ s.mod := fun e => by simp [e] at hrank
  simp [State.transition, hr, hl, hne, Nat.lt_asymm hrank]

theorem modRank_eq_idxOf (a : Mod) :
    modRank a = [Mod.off, .fenced, .recovery, .standby, .boot, .parked, .held, .ready, .running].idxOf a := by
  cases a <;> decide

theorem legal_iff {a b : Mod} {ev : Nat} : legal a ev b = true ↔
    (a, ev, b) ∈ [(Mod.off, 1, Mod.standby), (.standby, 2, .boot), (.boot, 4, .ready), (.boot, 5, .recovery), (.ready, 6, .running),
      (.running, 7, .held), (.held, 8, .running), (.running, 9, .parked), (.held, 9, .parked), (.parked, 10, .running), (.parked, 11, .ready),
      (.fenced, 13, .boot), (.recovery, 13, .boot)] ∨ (ev = 3 ∧ b = .off) ∨ (ev = 12 ∧ b = .fenced ∧ a ≠ .off ∧ a ≠ .fenced ∧ a ≠ .recovery) := by
  unfold legal
  split
  all_goals simp_all

/-! ## Faults (R7, R8, R438, R527) -/

theorem State.raise_of_gather {code inst ident : Nat} {l : List (Nat × Nat × Nat)} (hg : s.gather = some l) :
    s.raise code inst ident = { s with gather := some (l ++ [(code, inst, ident)]) } := by
  simp [State.raise, State.note?, hg]

theorem State.raise_of_gather_none {code inst ident : Nat} (hg : s.gather = none) :
    s.raise code inst ident =
      ((s.recordFault code inst ident).act code (faultSev code)).1.seqFull ((s.recordFault code inst ident).act code (faultSev code)).2 := by
  simp [State.raise, State.note?, hg]

theorem State.raise_notice {code inst ident : Nat} (hn : faultSev code = .notice) (hg : s.gather = none) :
    s.raise code inst ident = s.recordFault code inst ident := by
  rw [State.raise_of_gather_none hg, hn]
  rfl

theorem State.raise_stop {code inst ident : Nat} (hs : faultSev code = .stop) (hg : s.gather = none) :
    s.raise code inst ident = ((s.recordFault code inst ident).act code .stop).1 := by
  rw [State.raise_of_gather_none hg, hs]
  rfl

theorem legal_stop {a : Mod} (ho : a ≠ .off) (hf : a ≠ .fenced) (hv : a ≠ .recovery) : legal a 0x0C .fenced = true :=
  legal_iff.mpr (.inr (.inr ⟨rfl, rfl, ho, hf, hv⟩))

theorem State.enter_fenced_joined {ev : Nat} {before : Mod} : (s.enter ev before .fenced).dom.joined = false := rfl

theorem State.act_stop {code : Nat} (hr : s.rival = none) (ho : s.mod ≠ .off) (hf : s.mod ≠ .fenced) (hv : s.mod ≠ .recovery) :
    (s.act code .stop).1.mod = .fenced ∧ (s.act code .stop).1.boot.stopFault = code ∧ (s.act code .stop).1.dom.joined = false := by
  have hturn : s.transition 0x0C .fenced = s.enter 0x0C s.mod .fenced := State.transition_of_legal hr (legal_stop ho hf hv)
  have hmod : (s.enter 0x0C s.mod .fenced).mod = .fenced := State.enter_mod
  have hjoined : (s.enter 0x0C s.mod .fenced).dom.joined = false := State.enter_fenced_joined
  unfold State.act
  rw [hturn]
  generalize s.enter 0x0C s.mod .fenced = t at hmod hjoined
  dsimp only
  rw [if_pos ⟨hf, hmod⟩]
  exact ⟨hmod, rfl, hjoined⟩

/-- A stop and a lesser fault of one cycle: both are recorded in ascending code, and the action is the stop's (R8). -/
theorem State.raiseNow_stop_lesser {f g : Nat × Nat × Nat} (hlt : f.1 < g.1) (hf : faultSev f.1 = .stop) :
    s.raiseNow [g, f] = (((s.recordFault f.1 f.2.1 f.2.2).recordFault g.1 g.2.1 g.2.2).act f.1 .stop).1 := by
  have horder : [g, f].foldr insertFault [] = [f, g] := by simp [insertFault, Nat.not_le.mpr hlt]
  have htop : sevMax (sevMax .notice .stop) (faultSev g.1) = .stop := by cases faultSev g.1 <;> rfl
  simp only [State.raiseNow, horder, List.foldl_cons, List.foldl_nil, hf, htop, List.find?_cons, beq_self_eq_true]
  rfl

/-- The record of a fault, as the daybook has it next (R438). -/
def State.faultRecord (s : State) (code sev ident : Nat) (payload : Option (List Byte)) : DRec :=
  { seq := s.fw.daySeq + 1, postmark := s.pm, kind := 1, source := 0xFF, fault := code, severity := sev, state := s.mod.code
    ident := ident, payload := slice (payload.getD (Config.dayPayload 1 (s.fw.daySeq + 1))) 0 28 }

theorem mem_drop_concat {α : Type} {q : List α} {r : α} {n : Nat} (hn : n ≤ q.length) : r ∈ (q ++ [r]).drop n := by
  rw [List.drop_append_of_le_length hn]
  exact List.mem_append_right _ (List.mem_singleton_self r)

theorem mem_keep64 {q : List DRec} {r : DRec} : r ∈ keep64 q r := by
  refine mem_drop_concat ?_
  rw [List.length_append, List.length_singleton]
  omega

theorem State.putRecord_fw {r : DRec} {lost : Bool} :
    (s.putRecord r lost).fw = { s.fw with daySeq := r.seq, day := Map.set none s.fw.day ((r.seq - 1) % 16384) (some r) } := by
  simp only [State.putRecord, apply_ite State.fw, State.signal_fw, State.count_fw, State.setReg_fw, ite_self]

/-- With H0 in charge a fault's record is never dropped: it is the latest of H0's queue and stands in the ring. -/
theorem State.record_fault_fw {code sev ident : Nat} {payload : Option (List Byte)} (hq : s.fw.h1Charge = false) :
    (s.record 1 0xFF code sev ident payload).fw.faultQ0 = keep64 s.fw.faultQ0 (s.faultRecord code sev ident payload)
    ∧ (s.record 1 0xFF code sev ident payload).dayAt (s.fw.daySeq % 16384) = some (s.faultRecord code sev ident payload) := by
  simp [State.record, hq, State.putRecord_fw, State.dayAt, State.faultRecord]

/-- The status events of a fault. -/
def State.faultEvents (s : State) (code inst : Nat) : State :=
  (faultRow code).bits.foldl (fun t b => t.event (Reg.at b.1 inst) b.2) s

theorem State.faultEvents_fw {code inst : Nat} : (s.faultEvents code inst).fw = s.fw :=
  foldl_keeps (·.fw = s.fw) _ (fun _ _ h => (State.event_fw ..).trans h) (faultRow code).bits s rfl

theorem State.faultEvents_time {code inst : Nat} : (s.faultEvents code inst).time = s.time :=
  foldl_keeps (·.time = s.time) _ (fun _ _ h => (State.event_time ..).trans h) (faultRow code).bits s rfl

theorem State.recordFault_fw {code inst ident : Nat} :
    (s.recordFault code inst ident).fw =
      ((s.faultEvents code inst).record 1 0xFF code (faultSev code).code ident ((s.faultEvents code inst).faultPayload code inst)).fw := by
  unfold State.recordFault State.faultEvents faultSev
  dsimp only
  split
  · rw [State.emit_fw, State.signal_fw]
  · rw [State.signal_fw]

/-- Settles O44: the table by its rows, a transition by what it keeps, a fault by its severity and its record. -/
theorem moduleStates : Obligations.ModuleStates := by
  refine ⟨fun _ _ _ => legal_iff, ?table, ?others, ?rivals, ?notice, ?stop, fun _ _ _ _ _ => State.raise_of_gather,
    fun _ _ _ _ hlt hf _ => State.raiseNow_stop_lesser hlt hf, ?books⟩
  case table =>
    intro s ev b hr hl
    rw [State.transition_of_legal hr hl]
    exact ⟨State.enter_mod, State.enter_prev, State.enter_event, State.enter_cores, State.enter_bond⟩
  case others => exact fun _ _ _ => State.transition_of_not_legal
  case rivals =>
    intro s ev a b hr hl _
    simp only [← modRank_eq_idxOf]
    refine ⟨fun hrank hf hv => ?_, State.transition_of_rival_later hr hl⟩
    rw [State.transition_of_rival_first hr hl hrank hf hv]
    exact ⟨State.enter_mod, State.enter_prev, State.enter_event⟩
  case notice =>
    intro s code inst ident hn
    cases hg : s.gather with
    | some l =>
      rw [State.raise_of_gather hg]
      exact ⟨rfl, rfl, rfl⟩
    | none =>
      rw [State.raise_notice hn hg]
      have hbooks : s.Keeps (s.recordFault code inst ident) := .recordFault .refl
      exact ⟨hbooks.mod, hbooks.cores, hbooks.dom⟩
  case stop =>
    intro s code inst ident hs hg hr ho hf hv
    have hbooks : s.Keeps (s.recordFault code inst ident) := .recordFault .refl
    rw [State.raise_stop hs hg]
    generalize s.recordFault code inst ident = t at hbooks
    rw [← hbooks.mod] at ho hf hv
    exact State.act_stop (hbooks.rival.trans hr) ho hf hv
  case books =>
    intro s code inst ident hq
    let u := s.faultEvents code inst
    have hfw : u.fw = s.fw := State.faultEvents_fw
    have htime : u.time = s.time := State.faultEvents_time
    obtain ⟨hqueue, hring⟩ := u.record_fault_fw (code := code) (sev := (faultSev code).code) (ident := ident)
      (payload := u.faultPayload code inst) ((congrArg Fw.h1Charge hfw).trans hq)
    refine ⟨u.faultRecord code (faultSev code).code ident (u.faultPayload code inst), ?_, rfl, rfl, congrArg (·.daySeq + 1) hfw,
      congrArg (·.pm) htime, congrArg (·.mod.code) hfw, ?_⟩
    · rw [State.recordFault_fw, hqueue]
      exact mem_keep64
    · rw [State.dayAt, State.recordFault_fw, ← hfw]
      exact hring

end Sys2Proof.Machine
end

section
/-!
FENCED and RECOVERY (R5, R437): each operation of the model leaves a shut module shut, but for a reset and the loss of the input, and the
settling of O45.
-/
namespace Sys2Proof.Machine

/-- The module is shut in state `m`: FENCED or RECOVERY (R5). -/
structure State.ShutIn (s : State) (m : Mod) : Prop where
  mod : s.fw.mod = m
  shut : m = .fenced ∨ m = .recovery

/-- An answer that goes on leaves the module shut in `m`. -/
def EndsShut (m : Mod) : Ans → Prop
  | .next t => t.ShutIn m
  | _ => True

variable {m : Mod} {s t : State}

/-! ### What a shut module is not -/

theorem State.ShutIn.mod_ne (h : s.ShutIn m) {x : Mod} (hx : x ≠ .fenced ∧ x ≠ .recovery) : s.mod ≠ x := by
  rw [show s.mod = m from h.mod]
  obtain rfl | rfl := h.shut
  · exact hx.1.symm
  · exact hx.2.symm

theorem State.ShutIn.notOff (h : s.ShutIn m) : s.mod ≠ .off := h.mod_ne (by decide)
theorem State.ShutIn.notStandby (h : s.ShutIn m) : s.mod ≠ .standby := h.mod_ne (by decide)
theorem State.ShutIn.notBoot (h : s.ShutIn m) : s.mod ≠ .boot := h.mod_ne (by decide)
theorem State.ShutIn.notReady (h : s.ShutIn m) : s.mod ≠ .ready := h.mod_ne (by decide)
theorem State.ShutIn.notRunning (h : s.ShutIn m) : s.mod ≠ .running := h.mod_ne (by decide)
theorem State.ShutIn.notHeld (h : s.ShutIn m) : s.mod ≠ .held := h.mod_ne (by decide)
theorem State.ShutIn.notParked (h : s.ShutIn m) : s.mod ≠ .parked := h.mod_ne (by decide)

theorem State.ShutIn.live (h : s.ShutIn m) : s.live = false := by simp [State.live, h.notRunning, h.notHeld]

theorem State.ShutIn.fabric (h : s.ShutIn m) : s.fabric = false := by
  simp [State.fabric, h.notReady, h.notRunning, h.notHeld, h.notParked]

/-- From FENCED and RECOVERY an event leads to OFF or BOOT alone (R437). -/
theorem legal_of_shut {b : Mod} {ev : Nat} (hm : m = .fenced ∨ m = .recovery) (hl : legal m ev b = true) : b = .off ∨ b = .boot := by
  unfold legal at hl
  obtain rfl | rfl := hm <;> split at hl <;> simp_all

/-! ### The ways in which an operation is put together

One lemma for each shape, so that the lemma about an operation of the model is a term of the operation's own shape. -/

theorem State.ShutIn.of_eq {α : Type} {x : State × α} {a : α} (h : x.1.ShutIn m) (e : x = (t, a)) : t.ShutIn m := by
  rwa [e] at h

theorem State.ShutIn.pair {α : Type} {a : α} (h : s.ShutIn m) : (s, a).1.ShutIn m := h

/-- The books do not hold the state of the module. -/
theorem State.ShutIn.keeps (h : s.ShutIn m) (k : s.Keeps t) : t.ShutIn m := ⟨k.mod.trans h.mod, h.shut⟩

section
variable {pending now freeIx regs seqOf bond bondPoison bondMarks cores clusters dies ports regions tags waiting inBundle gather posts counts
  image stepSt host boot pwr time dom res hlt out}

/-- An update outside the firmware's part. -/
theorem State.ShutIn.update (h : s.ShutIn m) :
    (State.mk pending now freeIx regs seqOf bond bondPoison bondMarks cores clusters dies ports regions tags waiting inBundle gather posts
      counts image stepSt s.fw host boot pwr time dom res hlt out).ShutIn m := ⟨h.mod, h.shut⟩

/-- An update of the firmware's part that keeps the module's state. -/
theorem State.ShutIn.updateFw {prev event h1Charge procs cache update leaseSeq leaseSent leaseAck lastWord h0SchLast maxGap haW haE expired
    unanswered daySeq day faultQ0 faultQ1 faultSeen hostTimer absent hostParkDue turned} (h : s.ShutIn m) :
    (State.mk pending now freeIx regs seqOf bond bondPoison bondMarks cores clusters dies ports regions tags waiting inBundle gather posts
      counts image stepSt
      (Fw.mk s.fw.mod prev event h1Charge procs cache update leaseSeq leaseSent leaseAck lastWord h0SchLast maxGap haW haE expired unanswered
        daySeq day faultQ0 faultQ1 faultSeen hostTimer absent hostParkDue turned)
      host boot pwr time dom res hlt out).ShutIn m := ⟨h.mod, h.shut⟩

end

section
variable {c : Prop} {_ : Decidable c}

theorem State.ShutIn.ite (hs : s.ShutIn m) (ht : t.ShutIn m) : (if c then s else t).ShutIn m := by
  split <;> assumption

theorem State.ShutIn.when (h : s.ShutIn m) (k : s.ShutIn m → t.ShutIn m) : (if c then t else s).ShutIn m := .ite (k h) h
theorem State.ShutIn.unless (h : s.ShutIn m) (k : s.ShutIn m → t.ShutIn m) : (if c then s else t).ShutIn m := .ite h (k h)

theorem State.ShutIn.left (hc : c) (h : s.ShutIn m) : (if c then s else t).ShutIn m := by rwa [if_pos hc]
theorem State.ShutIn.right (hc : ¬ c) (h : t.ShutIn m) : (if c then s else t).ShutIn m := by rwa [if_neg hc]

theorem State.ShutIn.iteFun {f g : State → State} (hf : (f s).ShutIn m) (hg : (g s).ShutIn m) : ((if c then f else g) s).ShutIn m := by
  split <;> assumption

variable {α : Type} {x y : State × α} {a : α}

theorem State.ShutIn.iteFst (hx : x.1.ShutIn m) (hy : y.1.ShutIn m) : (if c then x else y).1.ShutIn m := by
  split <;> assumption

theorem State.ShutIn.whenFst (h : s.ShutIn m) (k : s.ShutIn m → x.1.ShutIn m) : (if c then x else (s, a)).1.ShutIn m := .iteFst (k h) h
theorem State.ShutIn.unlessFst (h : s.ShutIn m) (k : s.ShutIn m → x.1.ShutIn m) : (if c then (s, a) else x).1.ShutIn m := .iteFst h (k h)

theorem State.ShutIn.leftFst (hc : c) (h : x.1.ShutIn m) : (if c then x else y).1.ShutIn m := by rwa [if_pos hc]
theorem State.ShutIn.rightFst (hc : ¬ c) (h : y.1.ShutIn m) : (if c then x else y).1.ShutIn m := by rwa [if_neg hc]

end

theorem State.ShutIn.foldl {α : Type} {l : List α} {f : State → α → State} (hf : ∀ t a, t.ShutIn m → (f t a).ShutIn m)
    (h : s.ShutIn m) : (l.foldl f s).ShutIn m := foldl_keeps (·.ShutIn m) f hf l s h

theorem State.ShutIn.foldlFst {α β : Type} {l : List α} {f : State × β → α → State × β} {x : State × β}
    (hf : ∀ t a, t.1.ShutIn m → (f t a).1.ShutIn m) (h : x.1.ShutIn m) : (l.foldl f x).1.ShutIn m :=
  foldl_keeps (·.1.ShutIn m) f hf l x h

theorem EndsShut.next (h : t.ShutIn m) : EndsShut m (.next t) := h
theorem EndsShut.illegal {n : String} : EndsShut m (illegal n) := trivial

theorem EndsShut.ite {c : Prop} {_ : Decidable c} {a b : Ans} (ha : EndsShut m a) (hb : EndsShut m b) : EndsShut m (if c then a else b) := by
  split <;> assumption

theorem EndsShut.withFmt {f : FmtInfo → State} (hf : ∀ t, (f t).ShutIn m) {mnemonic : String} {code : Nat} {ok : Bool} :
    EndsShut m (withFmt s mnemonic code ok f) := by
  unfold Machine.withFmt
  split
  · exact .ite (.next (hf _)) .illegal
  · exact .illegal

/-! ### Parts of the state, registers and the books -/

theorem State.ShutIn.setCore (h : s.ShutIn m) {g : Nat} {c : Core} : (s.setCore g c).ShutIn m :=
  .update h

theorem State.ShutIn.onCore (h : s.ShutIn m) {g : Nat} {f : Core → Core} : (s.onCore g f).ShutIn m :=
  .setCore h

theorem State.ShutIn.setDie (h : s.ShutIn m) {d : Nat} {v : Die} : (s.setDie d v).ShutIn m :=
  .update h

theorem State.ShutIn.onDie (h : s.ShutIn m) {d : Nat} {f : Die → Die} : (s.onDie d f).ShutIn m :=
  .setDie h

theorem State.ShutIn.setReg (h : s.ShutIn m) {off v : Nat} : (s.setReg off v).ShutIn m :=
  h.keeps (.setReg .refl)

theorem State.ShutIn.setFld (h : s.ShutIn m) {off hi lo x : Nat} : (s.setFld off hi lo x).ShutIn m :=
  h.keeps (.setFld .refl)

theorem State.ShutIn.event (h : s.ShutIn m) {off b : Nat} : (s.event off b).ShutIn m :=
  h.keeps (.statusEvent .refl)

theorem State.ShutIn.count (h : s.ShutIn m) {off n : Nat} : (s.count off n).ShutIn m :=
  h.keeps (.count .refl)

theorem State.ShutIn.emit (h : s.ShutIn m) {o : Out} : (s.emit o).ShutIn m :=
  h.keeps (.emit .refl)

theorem State.ShutIn.signal (h : s.ShutIn m) {v : Nat} : (s.signal v).ShutIn m :=
  h.keeps (.signal .refl)

theorem State.ShutIn.putRecord (h : s.ShutIn m) {r : DRec} {lost : Bool} : (s.putRecord r lost).ShutIn m :=
  h.keeps (.putRecord .refl)

theorem State.ShutIn.record (h : s.ShutIn m) {kind source fault severity ident : Nat} {payload : Option (List Byte)} :
    (s.record kind source fault severity ident payload).ShutIn m :=
  h.keeps (.record .refl)

theorem State.ShutIn.recordFault (h : s.ShutIn m) {code inst ident : Nat} : (s.recordFault code inst ident).ShutIn m :=
  h.keeps (.recordFault .refl)

theorem State.ShutIn.setReg64 (h : s.ShutIn m) {off v : Nat} : (s.setReg64 off v).ShutIn m :=
  .setReg (.setReg h)

theorem State.ShutIn.count64 (h : s.ShutIn m) {off n : Nat} : (s.count64 off n).ShutIn m :=
  .setReg64 h

/-! ### Packets, holds, parks, faults and the change of state -/

theorem State.ShutIn.setPort (h : s.ShutIn m) {p : Nat} {v : Port} : (s.setPort p v).ShutIn m :=
  .update h

theorem State.ShutIn.drain (h : s.ShutIn m) {p : Nat} : (s.drain p).ShutIn m :=
  .right (by simp [h.fabric]) h

theorem State.ShutIn.handOver (h : s.ShutIn m) {p : Nat} {k : Packet} : (s.handOver p k).1.ShutIn m := by
  unfold State.handOver
  dsimp only
  exact .iteFst (.pair (.drain (.setPort h))) (.iteFst h (.pair (.drain (.setPort h))))

theorem State.ShutIn.sendLetter (h : s.ShutIn m) {ty dst release : Nat} {payload : List Byte} :
    (s.sendLetter ty dst release payload).1.ShutIn m := by
  unfold State.sendLetter
  dsimp only
  split
  · split
    · exact h
    · exact .handOver h
  · refine .handOver ?_
    split
    · exact h
    · exact .handOver h

theorem State.ShutIn.sendAll (h : s.ShutIn m) {ty release : Nat} {payload : List Byte} : (s.sendAll ty release payload).1.ShutIn m := by
  unfold State.sendAll
  dsimp only
  exact .foldlFst (fun _ _ h1 => .sendLetter h1) h

theorem State.ShutIn.holdCause (h : s.ShutIn m) {cause : Nat} : (s.holdCause cause).1.ShutIn m := by
  unfold State.holdCause
  split
  · exact .iteFst (.pair (.update h)) (.pair (.update h))
  · exact .rightFst (by simp [h.notRunning]) h

theorem State.ShutIn.discardStep (h : s.ShutIn m) : s.discardStep.ShutIn m :=
  .update (.foldl (fun _ _ h3 => .onDie h3) h)

theorem State.ShutIn.sendRisk (h : s.ShutIn m) {park : Bool} {cut cause : Nat} : (s.sendRisk park cut cause).1.ShutIn m := by
  unfold State.sendRisk
  dsimp only
  refine .update ?_
  split
  · exact .handOver (.sendAll h)
  · exact .pair (.sendAll h)

theorem State.ShutIn.settleCut (h : s.ShutIn m) {cause cut : Nat} : (s.settleCut cause cut).1.ShutIn m :=
  .sendRisk (.update h)

theorem State.ShutIn.beginPark (h : s.ShutIn m) {cause : Nat} : (s.beginPark cause).1.ShutIn m :=
  .leftFst (by simp [h.live]) h

theorem State.ShutIn.slotFill (h : s.ShutIn m) {inb : Bool} {n o : Nat} {l : List Byte} : (s.slotFill inb n o l).ShutIn m :=
  h.keeps (.slotFill .refl)

theorem State.ShutIn.setSlotState (h : s.ShutIn m) {inb : Bool} {n v : Nat} : (s.setSlotState inb n v).ShutIn m :=
  .slotFill h

theorem State.ShutIn.answer (h : s.ShutIn m) {slot status fault : Nat} {payload : List Byte} :
    (s.answer slot status fault payload).ShutIn m :=
  h.keeps (.answer .refl)

/-- A transition to another state than OFF and BOOT is none, whatever took place in the same cycle (R4, R5). -/
theorem State.ShutIn.transition (h : s.ShutIn m) {ev : Nat} {dest : Mod} (hoff : dest ≠ .off := by decide)
    (hboot : dest ≠ .boot := by decide) : (s.transition ev dest).ShutIn m := by
  have hs : s.mod = m := h.mod
  have stay : legal s.mod ev dest = false := by
    rw [hs, Bool.eq_false_iff]
    exact fun hl => (legal_of_shut h.shut hl).elim hoff hboot
  have keep : ¬ (dest = .off ∨ (s.mod ≠ .fenced ∧ s.mod ≠ .recovery)) := by
    rw [hs]
    obtain rfl | rfl := h.shut <;> simp [hoff]
  unfold State.transition
  simp only [stay, keep, and_false, if_false, Bool.false_eq_true]
  split
  · exact .ite (.record h) h
  · exact h

theorem State.ShutIn.act (h : s.ShutIn m) {code : Nat} {x1 : Sev} : (s.act code x1).1.ShutIn m := by
  unfold State.act
  dsimp only
  split
  · exact h
  · exact .holdCause h
  · exact .beginPark h
  · exact .pair (.ite (.update (.transition h)) (.transition h))

theorem State.ShutIn.note? (h : s.ShutIn m) {code inst ident : Nat} (ht : t.ShutIn m) : ((s.note? code inst ident).getD t).ShutIn m := by
  unfold State.note?
  cases s.gather with
  | none => exact ht
  | some l => exact .update h

theorem State.ShutIn.seqFull (h : s.ShutIn m) {ok : Bool} : (s.seqFull ok).ShutIn m :=
  .ite h (.note? h (.beginPark (.recordFault h)))

theorem State.ShutIn.raiseNow (h : s.ShutIn m) {fs : List (Nat × Nat × Nat)} : (s.raiseNow fs).ShutIn m := by
  unfold State.raiseNow
  dsimp only
  split
  · exact .foldl (fun _ _ h1 => .recordFault h1) h
  · exact .seqFull (.act (.foldl (fun _ _ h1 => .recordFault h1) h))

theorem State.ShutIn.raiseAll (h : s.ShutIn m) {fs : List (Nat × Nat)} : (s.raiseAll fs).ShutIn m := by
  unfold State.raiseAll
  dsimp only
  split
  · exact .update h
  · exact .raiseNow h

theorem State.ShutIn.dirty (h : s.ShutIn m) {cause : Nat} : (s.dirty cause).ShutIn m :=
  .ite (.update (.foldl (fun _ _ h3 => .setFld h3) h)) (.foldl (fun _ _ h1 => .setFld h1) h)

theorem State.ShutIn.coreEv (h : s.ShutIn m) {g : Nat} {x1 : Ev} : (s.coreEv g x1).ShutIn m := by
  unfold State.coreEv
  split
  · exact h
  · exact .event h
  · exact .count h
  · exact .setReg h
  · exact .dirty h

theorem State.ShutIn.tells (h : s.ShutIn m) {g : Nat} {evs : List Ev} : (s.tells g evs).ShutIn m :=
  .raiseAll (.foldl (fun _ _ h1 => .coreEv h1) h)

/-! ### Cores, landings, the Sorting Offices and operations at bonded memory -/

theorem State.ShutIn.issue (h : s.ShutIn m) {g : Nat} {i : Instr} {f : Env → Core → CRes} : (s.issue g i f).ShutIn m :=
  .left (by simp [h.live]) h

theorem State.ShutIn.releaseIdent (h : s.ShutIn m) {ident : Nat} : (s.releaseIdent ident).ShutIn m :=
  .ite h (.update h)

theorem State.ShutIn.endLanding (h : s.ShutIn m) {d : Nat} {l : Landing} : (s.endLanding d l).ShutIn m := by
  unfold State.endLanding
  dsimp only
  split
  · exact .releaseIdent (.onDie h)
  · exact .onDie h

theorem State.ShutIn.writeUnit (h : s.ShutIn m) {lo hi : Nat} {f : Nat → Byte} {p op : Bool} : (s.writeUnit lo hi f p op).ShutIn m := by
  unfold State.writeUnit
  split
  · exact .ite h (.update h)
  · exact h

theorem State.ShutIn.writeBond (h : s.ShutIn m) {addr : Nat} {data : List Byte} {poison : Nat} {op : Bool} :
    (s.writeBond addr data poison op).ShutIn m :=
  .ite h (.foldl (fun _ _ h1 => .unless h1 fun h2 => .writeUnit h2) h)

theorem State.ShutIn.raise (h : s.ShutIn m) {code inst ident : Nat} : (s.raise code inst ident).ShutIn m :=
  .note? h (.seqFull (.act (.recordFault h)))

theorem State.ShutIn.roundFault (h : s.ShutIn m) {d layer round code : Nat} : (s.roundFault d layer round code).ShutIn m :=
  .raise (.setReg h)

theorem State.ShutIn.overLanding (h : s.ShutIn m) {d : Nat} {l : Landing} : (s.overLanding d l).ShutIn m := by
  unfold State.overLanding
  dsimp only
  refine .roundFault ?_
  split
  · exact .ite (.writeBond (.endLanding h)) (.onCore (.endLanding h))
  · exact .endLanding h

theorem State.ShutIn.tally (h : s.ShutIn m) {input n : Nat} : (s.tally input n).ShutIn m :=
  .update h

theorem State.ShutIn.late (h : s.ShutIn m) {rel : Nat} : (s.late rel).ShutIn m :=
  .ite (.raise (.tally (.count h))) (.when (.tally (.count h)) fun h2 => .holdCause h2)

theorem State.ShutIn.settleLanding (h : s.ShutIn m) {d : Nat} {l : Landing} : (s.settleLanding d l).ShutIn m := by
  unfold State.settleLanding
  split
  · exact .ite (.overLanding h) (.ite (.when (.endLanding h) fun h2 => .late h2) (.ite (.late (.onDie h)) h))
  · exact h

theorem State.ShutIn.settleLandings (h : s.ShutIn m) : s.settleLandings.ShutIn m :=
  .foldl (fun _ _ h1 => .foldl (fun _ _ h2 => .settleLanding h2) h1) h

theorem State.ShutIn.takeUse (h : s.ShutIn m) {g e : Nat} : (s.takeUse g e).1.ShutIn m := by
  unfold State.takeUse
  dsimp only
  exact .iteFst (.pair (.setCore h)) h

theorem State.ShutIn.reachBank (h : s.ShutIn m) {g b : Nat} {byCore : Bool} : (s.reachBank g b byCore).ShutIn m := by
  unfold State.reachBank
  dsimp only
  exact .tells (.setCore h)

theorem State.ShutIn.cutTest (h : s.ShutIn m) {g : Nat} {byCore : Bool} : (s.cutTest g byCore).ShutIn m := by
  unfold State.cutTest
  dsimp only
  exact .tells (.setCore h)

theorem State.ShutIn.reachBanks (h : s.ShutIn m) {g space a n : Nat} : (s.reachBanks g space a n).1.ShutIn m := by
  unfold State.reachBanks
  dsimp only
  split
  · exact .pair (.reachBank h)
  · exact .iteFst (.pair (.cutTest h)) h

theorem State.ShutIn.reachAll (h : s.ShutIn m) {l : List (Nat × Nat × Nat × Nat)} : (s.reachAll l).1.ShutIn m :=
  .foldlFst (fun _ _ h1 => .whenFst h1 fun h2 => .reachBanks h2) h

theorem State.ShutIn.startJob (h : s.ShutIn m) {d : Nat} {j : SortJob} : (s.startJob d j).1.ShutIn m :=
  .iteFst (.reachAll h) h

theorem State.ShutIn.ingest (h : s.ShutIn m) {d : Nat} {a : AdmitDesc} {pc : Nat} : (s.ingest d a pc).1.ShutIn m := by
  unfold State.ingest
  dsimp only
  refine .raiseAll (.unless (.onDie ?_) fun h3 => .setReg h3)
  split
  · exact .setReg h
  · exact h

theorem State.ShutIn.releaseSource (h : s.ShutIn m) {ident : Nat} : (s.releaseSource ident).ShutIn m :=
  .update h

theorem State.ShutIn.post (h : s.ShutIn m) {p : Nat} {k : Packet} : (s.post p k).ShutIn m := by
  unfold State.post
  dsimp only
  exact .unless (.handOver h) fun h2 => .raise h2

theorem State.ShutIn.sendCounts (h : s.ShutIn m) {l : Layer} {r : Round} : (s.sendCounts l r).ShutIn m := by
  unfold State.sendCounts
  dsimp only
  exact .foldl (fun _ _ h1 => .ite (.update h1) (.post h1)) h

theorem State.ShutIn.meetPart (h : s.ShutIn m) {d : Nat} {c : CountPart} : (s.meetPart d c).ShutIn m := by
  unfold State.meetPart
  split
  · exact .ite h (.when (.ite h (.roundFault h)) fun h2 => .onDie h2)
  · exact h

theorem State.ShutIn.startAdmit (h : s.ShutIn m) {d : Nat} {a : AdmitDesc} : (s.startAdmit d a).ShutIn m := by
  unfold State.startAdmit
  dsimp only
  split
  · next t1 e1 => exact .raise (.of_eq (.takeUse h) e1)
  · next t1 _ _ e1 =>
    have h1 : t1.ShutIn m := .of_eq (.takeUse h) e1
    exact .foldl (fun _ _ h4 => .meetPart h4) (.sendCounts (.releaseSource (.onDie (.ingest h1))))

theorem State.ShutIn.hotCount (h : s.ShutIn m) {addr n : Nat} : (s.hotCount addr n).ShutIn m :=
  .ite h (.foldl (fun _ _ h1 => .when (.setDie h1) fun h6 => .unless (.count (.setReg (.setReg h6))) fun h5 => .raise h5) h)

theorem State.ShutIn.writePlace (h : s.ShutIn m) {p : Place} {off : Nat} {l : List (Byte × Bool)} : (s.writePlace p off l).ShutIn m :=
  .ite (.hotCount (.writeBond h)) (.onCore h)

theorem State.ShutIn.writeRuns (h : s.ShutIn m) {p : Place} {l : List (Nat × List (Byte × Bool))} : (s.writeRuns p l).ShutIn m :=
  .foldl (fun _ _ h1 => .writePlace (.writePlace h1)) h

theorem State.ShutIn.hotPlace (h : s.ShutIn m) {p : Place} {off n : Nat} : (s.hotPlace p off n).ShutIn m :=
  .ite (.hotCount h) h

theorem State.ShutIn.runScatter (h : s.ShutIn m) {d : Nat} {a : ScatterDesc} : (s.runScatter d a).ShutIn m :=
  .releaseIdent (.writeRuns (.hotPlace h))

theorem State.ShutIn.sendParcel (h : s.ShutIn m) {d : Nat} {l : Layer} {q region pf port used o : Nat} {b : List (Byte × Bool)} :
    (s.sendParcel d l q region pf port used o b).1.ShutIn m := by
  unfold State.sendParcel
  dsimp only
  exact .post (.ite (.count h) h)

theorem State.ShutIn.free (h : s.ShutIn m) : (s.free).2.ShutIn m :=
  .update h

theorem State.ShutIn.countRegion (h : s.ShutIn m) {d region pf n : Nat} : (s.countRegion d region pf n).ShutIn m := by
  unfold State.countRegion
  dsimp only
  split
  · exact .settleLanding (.onDie h)
  · exact .ite (.roundFault (.onDie (.free h))) (.onDie h)

theorem State.ShutIn.sendOwn (h : s.ShutIn m) {region pf : Nat} {runs : List (Nat × List (Byte × Bool))} :
    (s.sendOwn region pf runs).ShutIn m :=
  .foldl (fun _ _ h1 => .countRegion (.writePlace h1)) h

theorem State.ShutIn.sprayOne {x : Spray} (h : x.st.ShutIn m) {d region pf q : Nat} {l : Layer} {r : Nat × List (Byte × Bool)} :
    (x.one d l region pf q r).st.ShutIn m := by
  unfold Spray.one
  exact .sendParcel h

theorem State.ShutIn.runSend (h : s.ShutIn m) {d : Nat} {a : SendDesc} : (s.runSend d a).ShutIn m := by
  unfold State.runSend
  split
  · next t1 e1 => exact .raise (.of_eq (.takeUse h) e1)
  · next t1 _ _ e1 =>
    have h1 : t1.ShutIn m := .of_eq (.takeUse h) e1
    refine .when (.releaseIdent (.sendOwn ?_)) fun h2 => .roundFault h2
    exact foldl_keeps (fun x : Spray => x.st.ShutIn m) _ (fun _ _ hx => foldl_keeps (fun x : Spray => x.st.ShutIn m) _
      (fun _ _ hy => .sprayOne hy) _ _ hx) _ _
      (.foldl (fun _ _ ht => .foldl (fun _ _ hu => .hotPlace hu) ht) h1)

theorem State.ShutIn.runLand (h : s.ShutIn m) {d : Nat} {a : LandDesc} : (s.runLand d a).ShutIn m := by
  unfold State.runLand
  split
  · next t1 e1 => exact .raise (.of_eq (.takeUse h) e1)
  · next t1 _ _ e1 => exact .settleLanding (.onDie (.of_eq (.takeUse h) e1))

theorem State.ShutIn.runJob (h : s.ShutIn m) {d : Nat} {x1 : SortJob} : (s.runJob d x1).ShutIn m := by
  unfold State.runJob
  split
  · exact .startAdmit h
  · exact .runScatter h
  · exact .runSend h
  · exact .runLand h

theorem State.ShutIn.runAdm (h : s.ShutIn m) {d n : Nat} : (State.runAdm d n s).ShutIn m := by
  induction n generalizing s with
  | zero => exact h
  | succ n ih =>
    unfold State.runAdm
    split
    · split
      · next t1 e1 => exact ih (.runJob (.onDie (.of_eq (.startJob h) e1)))
      · next t1 e1 => exact .of_eq (.startJob h) e1
    · exact h

theorem State.ShutIn.runPar (h : s.ShutIn m) {d n : Nat} : (State.runPar d n s).ShutIn m := by
  induction n generalizing s with
  | zero => exact h
  | succ n ih =>
    unfold State.runPar
    split
    · split
      · next t1 e1 => exact ih (.runJob (.onDie (.of_eq (.startJob h) e1)))
      · next t1 e1 => exact .of_eq (.startJob h) e1
    · exact h

theorem State.ShutIn.runOffice (h : s.ShutIn m) {d : Nat} : (s.runOffice d).ShutIn m :=
  .runPar (.runAdm h)

theorem State.ShutIn.runOffices (h : s.ShutIn m) : s.runOffices.ShutIn m :=
  .foldl (fun _ _ h1 => .runOffice h1) h

theorem State.ShutIn.exactRow (h : s.ShutIn m) {r : ExactRes} {addr : Nat} {row : List Byte} {bad : Nat → Bool} :
    (s.exactRow r addr row bad).1.ShutIn m := by
  unfold State.exactRow
  dsimp only
  split
  · exact h
  · exact h
  · exact .iteFst h (.foldlFst (fun _ _ h2 => (.when (.writeBond h2) fun h4 => .count h4)) (.count64 h))

theorem State.ShutIn.exactFaults (h : s.ShutIn m) {d : Nat} {r : ExactRes} : (s.exactFaults d r).ShutIn m := by
  unfold State.exactFaults
  split
  · exact h
  · exact .raiseAll (.setReg (.setReg (.setReg h)))

theorem State.ShutIn.exactOp (h : s.ShutIn m) {addr : Nat} {data : List Byte} {poison : Nat} : (s.exactOp addr data poison).ShutIn m := by
  unfold State.exactOp
  dsimp only
  exact .exactFaults (.foldlFst (fun _ _ h1 => .unlessFst h1 fun h2 => .exactRow h2) h)

theorem State.ShutIn.queueOp (h : s.ShutIn m) {addr n : Nat} : (s.queueOp addr n).ShutIn m :=
  .foldl (fun _ _ h1 => .onDie h1) h

theorem State.ShutIn.opElem (h : s.ShutIn m) {op addr x swap : Nat} {poison : Bool} : (s.opElem op addr x swap poison).1.ShutIn m := by
  unfold State.opElem
  dsimp only
  exact .writeBond h

theorem State.ShutIn.opRow (h : s.ShutIn m) {op addr : Nat} {data : List Byte} {poison : Nat} : (s.opRow op addr data poison).ShutIn m :=
  .foldl (fun _ _ h1 => .unless h1 fun h2 => .opElem h2) h

theorem State.ShutIn.bondApply (h : s.ShutIn m) {op addr : Nat} {data : List Byte} {poison : Nat} :
    (s.bondApply op addr data poison).ShutIn m :=
  .ite h (.hotCount (.ite (.writeBond h) (.ite (.exactOp (.queueOp h)) (.ite (.ite h (.opElem (.queueOp h))) (.opRow (.queueOp h))))))

theorem State.ShutIn.rangeFault (h : s.ShutIn m) {addr : Nat} : (s.rangeFault addr).ShutIn m :=
  .raise (.setReg (.setReg h))

theorem State.ShutIn.bondOp (h : s.ShutIn m) {op addr : Nat} {data : List Byte} {poison : Nat} : (s.bondOp op addr data poison).ShutIn m :=
  .when (.bondApply h) fun h2 => .rangeFault h2

theorem State.ShutIn.markLanded (h : s.ShutIn m) {g space a : Nat} {data : List Byte} : (s.markLanded g space a data).ShutIn m :=
  .ite (.onCore h) h

theorem State.ShutIn.releaseCore (h : s.ShutIn m) {g : Nat} : (s.releaseCore g).ShutIn m :=
  .ite (.onCore h) h

theorem State.ShutIn.countLanded (h : s.ShutIn m) {g : Nat} {k : Claim} {n : Nat} : (s.countLanded g k n).ShutIn m :=
  .ite (.raise (.onCore h)) (.releaseCore (.when (.onCore h) fun h2 => .late h2))

theorem State.ShutIn.dataToCore (h : s.ShutIn m) {g space a : Nat} {k : Packet} : (s.dataToCore g space a k).1.ShutIn m := by
  unfold State.dataToCore
  dsimp only
  refine .iteFst h ?_
  refine .iteFst h ?_
  refine .iteFst (.reachBanks h) ?_
  split
  · exact .pair (.countLanded (.markLanded (.onCore (.reachBanks h))))
  · exact .markLanded (.onCore (.reachBanks h))

theorem State.ShutIn.applyData (h : s.ShutIn m) {k : Packet} : (s.applyData k).1.ShutIn m := by
  unfold State.applyData
  dsimp only
  exact .when (.iteFst (.iteFst h (.pair (.bondOp h))) (.dataToCore h)) fun h2 => .countRegion h2

/-! ### Waiting packets, responses and pools -/

theorem State.ShutIn.onPort (h : s.ShutIn m) {p : Nat} {f : Port → Port} : (s.onPort p f).ShutIn m :=
  .setPort h

theorem State.ShutIn.onReceipt (h : s.ShutIn m) {p src seq : Nat} {f : Receipt → Receipt} : (s.onReceipt p src seq f).ShutIn m :=
  .onPort h

theorem State.ShutIn.respond (h : s.ShutIn m) {p : Nat} {k : Packet} {status : Nat} {payload : List Byte} {pmap : Option Nat} :
    (s.respond p k status payload pmap).ShutIn m :=
  .post h

theorem State.ShutIn.answerRequest (h : s.ShutIn m) {p : Nat} {k : Packet} {status value : Nat} {payload : List Byte} {pmap : Option Nat} :
    (s.answerRequest p k status value payload pmap).ShutIn m :=
  .foldl (fun _ _ h4 => .respond h4) (.unless (.onReceipt h) fun h2 => .count h2)

theorem State.ShutIn.applyLoad (h : s.ShutIn m) {p : Nat} {k : Packet} : (s.applyLoad p k).1.ShutIn m := by
  unfold State.applyLoad
  dsimp only
  exact .iteFst (.iteFst (.pair (.answerRequest (.rangeFault h))) (.iteFst h (.pair (.answerRequest (.hotCount (.ite
    (.rangeFault h) h)))))) (.iteFst h (.unlessFst (.reachBanks h) fun h3 => .pair (.answerRequest h3)))

theorem State.ShutIn.applyReturning (h : s.ShutIn m) {p : Nat} {k : Packet} : (s.applyReturning p k).1.ShutIn m := by
  unfold State.applyReturning
  dsimp only
  exact .iteFst (.pair (.answerRequest (.rangeFault h))) (.iteFst h (.pair (.answerRequest (.hotCount (.opElem (.queueOp h))))))

theorem State.ShutIn.applyRequest (h : s.ShutIn m) {p : Nat} {k : Packet} : (s.applyRequest p k).1.ShutIn m :=
  .iteFst h (.iteFst (.applyLoad h) (.applyReturning h))

theorem State.ShutIn.setFence (h : s.ShutIn m) {p : Nat} {k : Packet} {l : Option (List (Nat × Nat × Nat))} : (s.setFence p k l).ShutIn m :=
  .onPort h

theorem State.ShutIn.applyHandover (h : s.ShutIn m) {p : Nat} {k : Packet} : (s.applyHandover p k).1.ShutIn m := by
  unfold State.applyHandover
  dsimp only
  exact .iteFst (.pair (.setFence h)) (.pair (.post (.update (.setFence h))))

theorem State.ShutIn.applyHeader (h : s.ShutIn m) {h' : List Byte} : (s.applyHeader h').ShutIn m :=
  .ite (.raise (.dirty h)) (.ite (.raise (.dirty h)) (.when (.when (.onDie h) fun h2 => .dirty (.event h2)) fun h4 => .hotCount
    (.writeBond h4)))

theorem State.ShutIn.applyMailbag (h : s.ShutIn m) {p : Nat} {k : Packet} : (s.applyMailbag p k).1.ShutIn m := by
  unfold State.applyMailbag
  dsimp only
  exact .iteFst h (.pair (.right (by simp [h.notParked]) (.applyHeader h)))

theorem State.ShutIn.setCluster (h : s.ShutIn m) {n : Nat} {v : Cluster} : (s.setCluster n v).ShutIn m :=
  .update h

theorem State.ShutIn.setHead (h : s.ShutIn m) {cl k : Nat} {q : QEnt} : (s.setHead cl k q).ShutIn m :=
  .setCluster h

theorem State.ShutIn.putRng (h : s.ShutIn m) {r : Rng} {data : List Byte} {poison : Nat} : (s.putRng r data poison).ShutIn m :=
  .ite (.hotCount (.writeBond h)) (.onCore h)

theorem State.ShutIn.putDead (h : s.ShutIn m) {r : Rng} : (s.putDead r).ShutIn m :=
  .putRng h

theorem State.ShutIn.poisonRng (h : s.ShutIn m) {r : Rng} : (s.poisonRng r).ShutIn m := by
  unfold State.poisonRng
  dsimp only
  exact .ite (.hotCount (.writeBond h)) (.ite (.onCore h) h)

theorem State.ShutIn.tileCorrupt (h : s.ShutIn m) {die space a cause : Nat} : (s.tileCorrupt die space a cause).ShutIn m :=
  .raise (.setReg (.setReg (.setReg h)))

theorem State.ShutIn.landRow (h : s.ShutIn m) {cl : Nat} {d : CDesc} {row : Nat} {l : List Piece} : (s.landRow cl d row l).1.ShutIn m := by
  unfold State.landRow
  dsimp only
  refine .iteFst (.reachAll h) ?_
  refine .iteFst (.pair (.putDead (.reachAll h))) ?_
  refine .iteFst (.pair (.poisonRng (.reachAll h))) ?_
  split
  · exact .pair (.tileCorrupt (.free (.putRng (.reachAll h))))
  · exact .putRng (.reachAll h)

theorem State.ShutIn.landPiece (h : s.ShutIn m) {q : ReqDest} {p : Piece} : (s.landPiece q p).1.ShutIn m := by
  unfold State.landPiece
  dsimp only
  split
  · exact h
  · refine .iteFst (.pair (.setHead h)) ?_
    split
    · next t2 e2 => exact .pair (.setHead (.of_eq (.landRow h) e2))
    · next t2 e2 => exact .of_eq (.landRow h) e2

theorem State.ShutIn.landLoad (h : s.ShutIn m) {q : ReqDest} {data : List (Byte × Bool)} {fate : Nat} :
    (s.landLoad q data fate).1.ShutIn m := by
  unfold State.landLoad
  dsimp only
  exact .iteFst (.landPiece h) (.unlessFst (.reachAll h) fun h4 => .iteFst (.pair (.putDead h4)) (.iteFst (.pair (.poisonRng h4)) (.pair
    (.unless (.putRng h4) fun h3 => .onCore h3))))

theorem State.ShutIn.destWord (h : s.ShutIn m) {q : ReqDest} {v : Nat} : (s.destWord q v).ShutIn m :=
  .onCore h

theorem State.ShutIn.courErr (h : s.ShutIn m) {cl k desc : Nat} : (s.courErr cl k desc).ShutIn m :=
  .setReg h

theorem State.ShutIn.setTag (h : s.ShutIn m) {d e : Nat} {t' : Tag} : (s.setTag d e t').ShutIn m :=
  .update h

theorem State.ShutIn.popQueue (h : s.ShutIn m) {cl k : Nat} : (s.popQueue cl k).ShutIn m :=
  .setCluster h

theorem State.ShutIn.endPost (h : s.ShutIn m) {cl k : Nat} {q : QEnt} : (s.endPost cl k q).ShutIn m := by
  unfold State.endPost
  dsimp only
  split
  · exact .rangeFault (.releaseIdent (.popQueue h))
  · exact .releaseIdent (.popQueue h)

theorem State.ShutIn.freeTag (h : s.ShutIn m) {d e : Nat} {t' : Tag} : (s.freeTag d e t').ShutIn m := by
  unfold State.freeTag
  dsimp only
  refine .ite (.setTag h) ?_
  split
  · exact .when (.setTag h) fun h2 => .endPost h2
  · exact .releaseIdent (.setTag h)

theorem State.ShutIn.completeTag (h : s.ShutIn m) {d e : Nat} {t' : Tag} {k : Packet} : (s.completeTag d e t' k).1.ShutIn m := by
  unfold State.completeTag
  dsimp only
  refine .unlessFst (.iteFst (.iteFst (.landLoad h) (.landLoad h)) (.pair (.destWord h))) fun h1 => .pair ?_
  refine .unless ?_ fun h2 => .ite (.raise (.count h2)) (.raise h2)
  generalize State.headOf _ _ = x
  split
  · exact .iteFun (.freeTag h1) (.courErr (.freeTag h1))
  · exact .freeTag h1

theorem State.ShutIn.applyResponse (h : s.ShutIn m) {p : Nat} {k : Packet} : (s.applyResponse p k).1.ShutIn m := by
  unfold State.applyResponse
  dsimp only
  exact .iteFst (.completeTag h) (.pair (.count h))

theorem State.ShutIn.applyCount (h : s.ShutIn m) {k : Packet} : (s.applyCount k).ShutIn m :=
  .ite h (.foldl (fun _ _ h1 => .meetPart h1) (.update h))

theorem State.ShutIn.applyAck (h : s.ShutIn m) {p src : Nat} {pay : List Byte} : (s.applyAck p src pay).ShutIn m :=
  .drain (.onPort h)

theorem State.ShutIn.applyCredit (h : s.ShutIn m) {p src : Nat} {pay : List Byte} : (s.applyCredit p src pay).ShutIn m :=
  .drain (.onPort h)

theorem State.ShutIn.applyReport (h : s.ShutIn m) {pay : List Byte} : (s.applyReport pay).ShutIn m :=
  .left (by simp [h.live]) h

theorem State.ShutIn.setHold (h : s.ShutIn m) {h' : Hold} : (s.setHold h').ShutIn m :=
  .update h

theorem State.ShutIn.applyHold (h : s.ShutIn m) {stop seq cause : Nat} : (s.applyHold stop seq cause).ShutIn m :=
  .left (by simp [h.live]) h

theorem State.ShutIn.agree (h : s.ShutIn m) : s.agree.ShutIn m := by
  unfold State.agree
  split
  · exact .ite (.ite (.setHold (.update h)) (.setHold (.update h))) h
  · exact h

theorem State.ShutIn.applyResume (h : s.ShutIn m) {at' seq node : Nat} : (s.applyResume at' seq node).ShutIn m := by
  unfold State.applyResume
  split
  · exact .right (by simp [h.live]) h
  · exact h

theorem State.ShutIn.edgePs (h : s.ShutIn m) : (s.edgePs).2.ShutIn m := by
  unfold State.edgePs
  dsimp only
  exact .free h

theorem State.ShutIn.letter (h : s.ShutIn m) {ty dst release : Nat} {payload : List Byte} : (s.letter ty dst release payload).ShutIn m := by
  unfold State.letter
  dsimp only
  exact .unless (.sendLetter h) fun h2 => .raise h2

theorem State.ShutIn.applyProbe (h : s.ShutIn m) {src : Nat} {pay : List Byte} : (s.applyProbe src pay).ShutIn m := by
  unfold State.applyProbe
  dsimp only
  exact .letter (.edgePs (.edgePs h))

theorem State.ShutIn.applyProbeReply (h : s.ShutIn m) {src : Nat} {pay : List Byte} : (s.applyProbeReply src pay).ShutIn m := by
  unfold State.applyProbeReply
  dsimp only
  exact .ite h (.update (.edgePs h))

theorem State.ShutIn.partnerScore (h : s.ShutIn m) {score : Nat} : (s.partnerScore score).ShutIn m :=
  .setFld h

theorem State.ShutIn.setLevel (h : s.ShutIn m) {member lw : Nat} : (s.setLevel member lw).ShutIn m :=
  .update h

theorem State.ShutIn.riskDue (h : s.ShutIn m) : s.riskDue.ShutIn m :=
  .update (.foldl (fun _ _ h3 => .setLevel h3) h)

theorem State.ShutIn.applyRisk (h : s.ShutIn m) {release cut node level flags cause : Nat} :
    (s.applyRisk release cut node level flags cause).ShutIn m := by
  unfold State.applyRisk
  dsimp only
  refine .ite h ?_
  refine .ite ?_ (.riskDue (.update h))
  split
  · exact .seqFull (.beginPark (.update (.riskDue (.update h))))
  · exact .when (.update (.riskDue (.update h))) fun h5 => .seqFull (.settleCut (.discardStep h5))
  · exact .update (.riskDue (.update h))

theorem State.ShutIn.tryPacket (h : s.ShutIn m) {p : Nat} {k : Packet} : (s.tryPacket p k).1.ShutIn m := by
  unfold State.tryPacket
  dsimp only
  exact .iteFst (.applyData h) (.iteFst (.applyRequest h) (.iteFst (.applyHandover h) (.iteFst (.applyMailbag h) (.iteFst
    (.applyResponse h) (.iteFst (.pair (.applyCount h)) (.iteFst (.pair (.applyAck h)) (.iteFst (.pair (.applyCredit h)) (.iteFst h
    (.iteFst (.iteFst h (.pair (.applyReport h))) (.iteFst (.pair (.applyHold h)) (.iteFst (.pair (.applyResume h)) (.iteFst (.pair
    (.applyProbe h)) (.iteFst (.pair (.applyProbeReply h)) (.iteFst (.pair (.ite (.ite (.partnerScore h) h) (.applyRisk h))) h))))))))))))))

theorem State.ShutIn.poolRefuse (h : s.ShutIn m) {d addr code : Nat} : (s.poolRefuse d addr code).ShutIn m :=
  .raise (.setReg (.setReg (.count h)))

theorem State.ShutIn.setOwner (h : s.ShutIn m) {v : Pool} {a st who : Nat} : (s.setOwner v a st who).ShutIn m :=
  .writeBond h

theorem State.ShutIn.setPool (h : s.ShutIn m) {d p : Nat} {v : Pool} : (s.setPool d p v).ShutIn m :=
  .onDie h

theorem State.ShutIn.setPoolWord (h : s.ShutIn m) {d : Nat} {v : Pool} {a w : Nat} : (s.setPoolWord d v a w).ShutIn m :=
  .ite (.onCore h) (.writeBond h)

theorem State.ShutIn.allocHead (h : s.ShutIn m) {d p caller : Nat} : (s.allocHead d p caller).1.ShutIn m := by
  unfold State.allocHead
  dsimp only
  exact .iteFst (.pair (.setOwner (.setPool h))) (.pair (.poolRefuse (.setPool h)))

theorem State.ShutIn.alloc (h : s.ShutIn m) {d p caller : Nat} : (s.alloc d p caller).1.ShutIn m := by
  unfold State.alloc
  dsimp only
  refine .iteFst h ?_
  refine .iteFst (.pair (.poolRefuse h)) ?_
  refine .iteFst h ?_
  split
  · next t1 _ e1 => exact .of_eq (.allocHead h) e1
  · next t1 e1 => exact .of_eq (.allocHead h) e1

theorem State.ShutIn.allocResult (h : s.ShutIn m) {res : Option (Nat × Nat)} {addr : Nat} : (s.allocResult res addr).ShutIn m := by
  unfold State.allocResult
  split
  · exact .onCore h
  · exact h

theorem State.ShutIn.onPost (h : s.ShutIn m) {ident : Nat} {f : QEnt → Option QEnt} : (s.onPost ident f).ShutIn m :=
  .ite h (.update h)

theorem State.ShutIn.popPost (h : s.ShutIn m) {ident : Nat} : (s.popPost ident).ShutIn m :=
  .onPost h

theorem State.ShutIn.serveWaiting (h : s.ShutIn m) {d p : Nat} : (s.serveWaiting d p).ShutIn m := by
  unfold State.serveWaiting
  split
  · split
    · next t2 _ e2 =>
      have h2 : t2.ShutIn m := .of_eq (.alloc h) e2
      exact .ite (.onPost (.allocResult (.setPool h2))) (.releaseIdent (.popPost (.allocResult (.setPool h2))))
    · next t2 _ _ e2 => exact .of_eq (.alloc h) e2
  · exact h

theorem State.ShutIn.releaseBuf (h : s.ShutIn m) {d p caller a : Nat} : (s.releaseBuf d p caller a).ShutIn m :=
  .ite (.poolRefuse h) (.ite h (.ite (.poolRefuse h) (.ite (.poolRefuse h) (.serveWaiting (.setOwner (.setPool (.setPoolWord h)))))))

theorem State.ShutIn.sendCredit (h : s.ShutIn m) {p src : Nat} : (s.sendCredit p src).ShutIn m :=
  .handOver (.onPort h)

theorem State.ShutIn.grantUp (h : s.ShutIn m) {p src : Nat} : (s.grantUp p src).ShutIn m :=
  .when (.onPort h) fun h2 => .sendCredit h2

theorem State.ShutIn.pfc (h : s.ShutIn m) {p d : Nat} : (s.pfc p d).ShutIn m :=
  .ite (.when (.setPort h) fun h2 => .emit h2) h

theorem State.ShutIn.freeBuffer (h : s.ShutIn m) {p : Nat} {k : Packet} : (s.freeBuffer p k).ShutIn m := by
  unfold State.freeBuffer
  dsimp only
  refine .ite h ?_
  refine .grantUp (.pfc ?_)
  split
  · exact .releaseBuf h
  · exact h

theorem State.ShutIn.retryPacket (h : s.ShutIn m) {x : Nat × Packet} : (s.retryPacket x).ShutIn m := by
  unfold State.retryPacket
  split
  · next t1 e1 => exact .freeBuffer (.onPort (.of_eq (.tryPacket h) e1))
  · next t1 e1 => exact .of_eq (.tryPacket h) e1

theorem State.ShutIn.deliver (h : s.ShutIn m) {n : Nat} : (State.deliver n s).ShutIn m := by
  induction n generalizing s with
  | zero => exact h
  | succ n ih =>
    have ht := foldl_keeps (·.ShutIn m) State.retryPacket (fun _ _ h => .retryPacket h) s.allWaiting s h
    exact .ite (ih ht) ht

theorem State.ShutIn.settle (h : s.ShutIn m) : s.settle.ShutIn m :=
  .settleLandings (.runOffices (.deliver h))

theorem State.ShutIn.freeSkip (h : s.ShutIn m) {n : Nat} : (s.freeSkip n).ShutIn m :=
  .update h

/-! ### Core instructions

They find the module neither RUNNING nor HELD. -/

theorem State.ShutIn.execTmov (h : s.ShutIn m) {g : Fin 384} {fmt : Fin 16} {addr : Fin 32768} {xa xc : Fin 32} {tr : Bool} :
    EndsShut m (execTmov g fmt addr xa xc tr s) := by
  unfold Machine.execTmov
  split
  · exact .ite .illegal (.next (.issue h))
  · exact .illegal

theorem State.ShutIn.vec (h : s.ShutIn m) {g : Nat} {i : Instr} {vd lat : Nat} {f : Core → Core} : (s.vec g i vd lat f).ShutIn m :=
  .issue h

theorem State.ShutIn.special (h : s.ShutIn m) {g : Nat} {i : Instr} {f : FV → FV} {ty : VTy} {vd va : Nat} :
    (s.special g i f ty vd va).ShutIn m :=
  .freeSkip (.issue h)

theorem State.ShutIn.runThread (h : s.ShutIn m) {g : Nat} {i : Instr} {f : Env → Core → CRes} : (s.runThread g i f).ShutIn m :=
  .left (by simp [h.live]) h

theorem State.ShutIn.scalar (h : s.ShutIn m) {g t' : Nat} {i : Instr} {f : Env → Core → CRes} : (s.scalar g t' i f).ShutIn m :=
  .ite (.issue h) (.runThread h)

theorem State.ShutIn.alu (h : s.ShutIn m) {g t' : Nat} {i : Instr} {xd : Nat} {f : Core → W64} {lat : Nat} :
    (s.alu g t' i xd f lat).ShutIn m :=
  .scalar h

theorem State.ShutIn.serveUnknown (h : s.ShutIn m) {g : Nat} : (s.serveUnknown g).ShutIn m :=
  .ite (.onCore h) h

theorem State.ShutIn.storeDone (h : s.ShutIn m) {g t' a n : Nat} : (s.storeDone g t' a n).ShutIn m :=
  .right (by simp [h.live]) h

theorem State.ShutIn.branch (h : s.ShutIn m) {g t' : Nat} {i : Instr} {imm : BitVec 19} {taken : Core → Bool} :
    (s.branch g t' i imm taken).ShutIn m :=
  .runThread h

theorem State.ShutIn.control (h : s.ShutIn m) {g : Nat} {i : Instr} {f : Core → Core} : (s.control g i f).ShutIn m :=
  .issue h

theorem State.ShutIn.nextOr (h : s.ShutIn m) {a : Ans} (ha : EndsShut m a) : (nextOr s a).ShutIn m := by
  cases a with
  | next t => exact ha
  | fault _ => exact h
  | refused _ => exact h

theorem State.ShutIn.reissue (h : s.ShutIn m) {i : Instr} : EndsShut m (reissue i s) := by
  cases i with
  | rload | stream | gclose | tfill | gopenLoad | vcvts => exact .withFmt fun _ => .issue h
  | twin | gopenClear | gcloseKeep | stepend => exact .next (.issue h)
  | vld => exact .withFmt fun _ => .freeSkip (.issue h)
  | vst | geth => exact .ite (.next (.issue h)) .illegal
  | tmov => exact h.execTmov
  | cpost => exact .next (.left (by simp [h.live]) h)
  | vadd | vsub | vmul | vfma | vmin | vmax | vcmplt | vcmpeq | vsel | vand | vor | vxor | vbcast | vrsum | vrmax =>
    exact .next (.vec h)
  | vcvt => exact .next (.freeSkip (.issue h))
  | vexp | vrcp | vrsqrt | vlog => exact .next (.special h)
  | vtopk => exact .ite .illegal (.next (.issue h))
  | add | addi | sub | and | or | xor | shli | shri | srai | shlor | mul | min | max | slt | rdpm =>
    exact .next (.alu h)
  | divu | ld | lw => exact .next (.scalar h)
  | st | sw => exact .next (.storeDone (.scalar h))
  | puth | thalt => exact .ite .illegal (.next (.runThread h))
  | beq | bne | blt => exact .ite .illegal (.next (.branch h))
  | loop | tstart => exact .ite .illegal (.next (.control h))
  | seg => exact .ite (.next (.control h)) .illegal
  | expect => exact .ite .illegal (.next (.left (by simp [h.live]) h))
  | halt => exact .next (.control h)
  | _ => exact .next h

theorem State.ShutIn.stallEnd (h : s.ShutIn m) {g : Nat} : (s.stallEnd g).ShutIn m :=
  .ite h (.foldl (fun _ _ h3 => .nextOr h3 h3.reissue) (.update (.onCore h)))

/-! ### Couriers, banks, pools and the engines -/

theorem State.ShutIn.refuseCopy (h : s.ShutIn m) {cl k : Nat} {d : CDesc} {q : QEnt} : (s.refuseCopy cl k d q).ShutIn m :=
  .raise (.endPost (.courErr (.foldl (fun _ _ h1 => .poisonRng h1) h)))

theorem State.ShutIn.allocWait (h : s.ShutIn m) {d p : Nat} {w : PoolWait} : (s.allocWait d p w).ShutIn m :=
  .ite h (.count (.setPool h))

theorem State.ShutIn.copyAlloc (h : s.ShutIn m) {cl k : Nat} {d : CDesc} {q : QEnt} : (s.copyAlloc cl k d q).1.ShutIn m := by
  unfold State.copyAlloc
  dsimp only
  refine .iteFst h ?_
  split
  · next t1 _ e1 => exact .pair (.setHead (.allocResult (.of_eq (.alloc h) e1)))
  · next t1 e1 => exact .pair (.popQueue (.of_eq (.alloc h) e1))
  · next t1 e1 => exact .pair (.allocWait (.of_eq (.alloc h) e1))

theorem State.ShutIn.banksReady (h : s.ShutIn m) {d : CDesc} {n : Nat} : (s.banksReady d n).1.ShutIn m :=
  .reachAll h

theorem State.ShutIn.sendRequest (h : s.ShutIn m) {die port cls op node rel addr size operand swap : Nat} {bad : Bool} {dest : ReqDest} :
    (s.sendRequest die port cls op node rel addr size operand swap bad dest).1.ShutIn m := by
  unfold State.sendRequest
  dsimp only
  split
  · exact h
  · exact .pair (.post (.setTag h))

theorem State.ShutIn.sendRequests (h : s.ShutIn m) {cl : Nat} {d : CDesc} {q : QEnt} {n : Nat} : (s.sendRequests cl d q n).1.ShutIn m := by
  unfold State.sendRequests
  dsimp only
  refine .iteFst (.pair ?_) (.pair ?_)
  · exact .foldlFst (fun _ _ h1 => .unlessFst h1 fun h3 => .iteFst (.pair (.sendRequest h3)) h3) h
  · exact .foldlFst (fun _ _ h1 => .unlessFst h1 fun h3 => .iteFst (.pair (.sendRequest h3)) h3) h

theorem State.ShutIn.sourceRead (h : s.ShutIn m) {cl k : Nat} {d : CDesc} {q : QEnt} : (s.sourceRead cl k d q).ShutIn m :=
  .when (.releaseSource h) fun h2 => .releaseBuf h2

theorem State.ShutIn.endCopy (h : s.ShutIn m) {cl k : Nat} {d : CDesc} {q : QEnt} : (s.endCopy cl k d q).ShutIn m :=
  .endPost (.sourceRead h)

theorem State.ShutIn.copyRequests (h : s.ShutIn m) {cl k : Nat} {d : CDesc} {q : QEnt} {n : Nat} :
    (s.copyRequests cl k d q n).ShutIn m := by
  unfold State.copyRequests
  dsimp only
  exact .ite (.endCopy (.sendRequests h)) (.ite (.setHead (.sendRequests h)) (.setHead (.sourceRead (.sendRequests h))))

theorem State.ShutIn.readOut (h : s.ShutIn m) {d : CDesc} {i : Nat} : (s.readOut d i).1.ShutIn m := by
  unfold State.readOut
  dsimp only
  exact .when (.when (.onDie h) fun h2 => .writeBond h2) fun h4 => .dirty h4

theorem State.ShutIn.rowEvents (h : s.ShutIn m) {die space : Nat} {r : Row} : (s.rowEvents die space r).ShutIn m := by
  unfold State.rowEvents
  dsimp only
  split
  · exact .tileCorrupt (.when (.ite h (.count h)) fun h2 => .raise (.count h2))
  · exact .when (.ite h (.count h)) fun h2 => .raise (.count h2)

theorem State.ShutIn.takeRow (h : s.ShutIn m) {d : CDesc} {cl i : Nat} : (s.takeRow d cl i).1.ShutIn m := by
  unfold State.takeRow
  dsimp only
  exact .iteFst ((.readOut (.ite (.hotCount h) h))) (.pair (.rowEvents (.ite (.hotCount h) h)))

theorem State.ShutIn.gatherRows (h : s.ShutIn m) {d : CDesc} {cl n : Nat} : (s.gatherRows d cl n).1.ShutIn m := by
  unfold State.gatherRows
  dsimp only
  exact .foldlFst (fun _ _ h1 => .takeRow h1) h

theorem State.ShutIn.sendRowsData (h : s.ShutIn m) {d : CDesc} {rel : Nat} {rows : List (List (Byte × Bool))} :
    (s.sendRowsData d rel rows).1.ShutIn m := by
  unfold State.sendRowsData
  dsimp only
  exact .foldl (fun _ _ h1 => .post h1) h

theorem State.ShutIn.setBag (h : s.ShutIn m) {cl k : Nat} {on : Bool} : (s.setBag cl k on).ShutIn m :=
  .setCluster h

theorem State.ShutIn.sendHeader (h : s.ShutIn m) {cl k : Nat} {m' : MailSpec} {d : CDesc} {rel n sent : Nat} :
    (s.sendHeader cl k m' d rel n sent).ShutIn m :=
  .ite (.post (.setBag (.ite (.dirty h) h))) (.applyHeader (.setBag (.ite (.dirty h) h)))

theorem State.ShutIn.mailed (h : s.ShutIn m) {cl k : Nat} {d : CDesc} {rel n sent : Nat} {mail : Option MailSpec} :
    (s.mailed cl k d rel n sent mail).ShutIn m := by
  unfold State.mailed
  split
  · exact .sendHeader h
  · exact .ite (.setBag h) h

theorem State.ShutIn.copyRemote (h : s.ShutIn m) {cl k : Nat} {d : CDesc} {q : QEnt} {n : Nat} {mail : Option MailSpec} :
    (s.copyRemote cl k d q n mail).ShutIn m := by
  unfold State.copyRemote
  dsimp only
  exact .ite (.ite h (.endCopy (.post (.takeRow h)))) (.endCopy (.mailed (.sendRowsData (.iteFst h (.gatherRows h)))))

theorem State.ShutIn.returnRow (h : s.ShutIn m) {d : CDesc} {i : Nat} {r : List (Byte × Bool)} : (s.returnRow d i r).1.ShutIn m := by
  unfold State.returnRow
  dsimp only
  exact .iteFst (.pair (.ite h (.onCore h))) (.pair (.ite (.hotCount (.opElem (.queueOp h))) (.onCore (.hotCount (.opElem (.queueOp h))))))

theorem State.ShutIn.putRow (h : s.ShutIn m) {d : CDesc} {i : Nat} {r : List (Byte × Bool)} : (s.putRow d i r).1.ShutIn m := by
  unfold State.putRow
  dsimp only
  exact .iteFst (.pair (.onCore h)) (.iteFst (.pair (.foldl (fun _ _ h1 => .bondApply h1) h)) (.pair (.onCore h)))

theorem State.ShutIn.setMark (h : s.ShutIn m) {space core a : Nat} {on : Bool} : (s.setMark space core a on).ShutIn m :=
  .ite (.update h) (.ite (.onCore h) h)

theorem State.ShutIn.markRow (h : s.ShutIn m) {d : CDesc} {cl i : Nat} {dirty : Bool} : (s.markRow d cl i dirty).ShutIn m :=
  .when (.setMark h) fun h2 => .onCore h2

theorem State.ShutIn.moveRow (h : s.ShutIn m) {d : CDesc} {cl i : Nat} : (s.moveRow d cl i).1.ShutIn m := by
  unfold State.moveRow
  dsimp only
  exact .iteFst ((.returnRow (.takeRow h))) (.pair (.markRow (.putRow (.takeRow h))))

theorem State.ShutIn.copyRows (h : s.ShutIn m) {d : CDesc} {cl : Nat} {q : QEnt} {n : Nat} : (s.copyRows d cl q n).1.ShutIn m := by
  unfold State.copyRows
  dsimp only
  exact .foldlFst (fun _ _ h1 => .unlessFst h1 fun h3 => .moveRow h3) h

theorem State.ShutIn.copyLocal (h : s.ShutIn m) {cl k : Nat} {d : CDesc} {q : QEnt} {n : Nat} {mail : Option MailSpec} :
    (s.copyLocal cl k d q n mail).ShutIn m := by
  unfold State.copyLocal
  dsimp only
  exact .ite (.endCopy (.mailed h)) (.ite (.setHead (.copyRows h)) (.endCopy (.mailed (.copyRows h))))

theorem State.ShutIn.runCopy (h : s.ShutIn m) {cl k : Nat} {q : QEnt} {mail : Option MailSpec} : (s.runCopy cl k q mail).ShutIn m := by
  unfold State.runCopy
  dsimp only
  refine .ite h ?_
  refine .ite (.refuseCopy h) ?_
  refine .ite h ?_
  split
  · next t1 e1 => exact .of_eq (.iteFst (.copyAlloc h) h) e1
  · next t1 _ e1 =>
    have h1 : t1.ShutIn m := .of_eq (.iteFst (.copyAlloc h) h) e1
    exact .ite h1 (.unless (.banksReady h1) fun h2 => .ite (.copyRequests h2) (.ite (.copyRemote h2) (.copyLocal h2)))

theorem State.ShutIn.execCopy (h : s.ShutIn m) {cl : Fin 48} {k : Fin 4} {mail : Option MailSpec} : EndsShut m (execCopy cl k mail s) := by
  unfold Machine.execCopy
  refine .next ?_
  split
  · exact .ite (.settle (.runCopy h)) h
  · exact h

theorem State.ShutIn.execBank (h : s.ShutIn m) {cl : Fin 48} : EndsShut m (execBank cl s) := by
  unfold Machine.execBank
  refine .next ?_
  split
  · exact .onCore (.setCluster h)
  · exact h

theorem State.ShutIn.poolDone (h : s.ShutIn m) {o : PoolOp} : (s.poolDone o).ShutIn m :=
  .releaseIdent (.popPost h)

theorem State.ShutIn.execAlloc (h : s.ShutIn m) {d p caller : Nat} {res : Option (Fin 384 × Nat)} :
    EndsShut m (execAlloc d p caller res s) := by
  unfold Machine.execAlloc
  dsimp only
  refine .next ?_
  split
  · next t1 _ e1 => exact .poolDone (.allocResult (.of_eq (.alloc h) e1))
  · next t1 e1 => exact .poolDone (.of_eq (.alloc h) e1)
  · next t1 e1 => exact .allocWait (.of_eq (.alloc h) e1)

theorem State.ShutIn.shareBuf (h : s.ShutIn m) {d p caller a last : Nat} : (s.shareBuf d p caller a last).ShutIn m :=
  .ite (.poolRefuse h) (.ite (.setOwner h) (.poolRefuse h))

theorem State.ShutIn.sortPost (h : s.ShutIn m) {d ident : Nat} {f : Die → Die} : (s.sortPost d ident f).ShutIn m :=
  .ite (.settle (.runOffice (.onDie (.popPost h)))) h

theorem State.ShutIn.writeBlock' (h : s.ShutIn m) {b : BlockMap} {t' : Slots} {bad : Bool} {me : Nat} {l : List Choice} :
    (s.writeBlock' b t' bad me l).ShutIn m :=
  .foldl (fun _ _ h5 => .writePlace h5) (.foldl (fun _ _ h3 => .writePlace h3) (.writePlace (.writePlace h)))

theorem State.ShutIn.writeToken (h : s.ShutIn m) {d : Nat} {a : AdmitDesc} {renorm bad : Bool} {t' : Nat} {l : List Choice} :
    (s.writeToken d a renorm bad t' l).ShutIn m := by
  unfold State.writeToken
  split
  · exact .writePlace (.foldl (fun _ _ h1 => .writePlace h1) h)
  · exact h

theorem State.ShutIn.writeLive (h : s.ShutIn m) {d : Nat} {a : AdmitDesc} {l : Layer} {t' : Slots} {bad : Bool} :
    (s.writeLive d a l t' bad).ShutIn m :=
  .foldl (fun _ _ h1 => .writePlace (.foldl (fun _ _ h2 => .writePlace h2) h1)) h

theorem State.ShutIn.assignRound (h : s.ShutIn m) {d : Nat} {r : Round} : (s.assignRound d r).ShutIn m :=
  .when (.onDie (.update (.releaseIdent (.count (.count (.count (.writeLive (.foldl (fun _ _ h8 => .writeToken h8)
    (.writeBlock' h))))))))) fun h11 => .late h11

theorem State.ShutIn.execSlotAssignment (h : s.ShutIn m) {d : Fin 4} : EndsShut m (execSlotAssignment d s) := by
  unfold Machine.execSlotAssignment
  refine .next ?_
  split
  · refine .ite ?_ h
    split
    · next t2 e2 => exact .settle (.runOffice (.assignRound (.of_eq (.reachAll h) e2)))
    · next t2 e2 => exact .of_eq (.reachAll h) e2
  · exact h

theorem State.ShutIn.execLandRelease (h : s.ShutIn m) {d : Fin 4} {region pf : Nat} : EndsShut m (execLandRelease d region pf s) := by
  unfold Machine.execLandRelease
  refine .next ?_
  split
  · exact .settle (.runOffice (.settleLanding h))
  · exact h

theorem State.ShutIn.startMatch (h : s.ShutIn m) {m' : MatchDesc} : (s.startMatch m').1.ShutIn m :=
  .iteFst (.reachAll h) h

theorem State.ShutIn.poisonPlace (h : s.ShutIn m) {p : Place} {n : Nat} : (s.poisonPlace p n).ShutIn m :=
  .writePlace h

theorem State.ShutIn.runMatch (h : s.ShutIn m) {m' : MatchDesc} : (s.runMatch m').ShutIn m := by
  unfold State.runMatch
  dsimp only
  exact .releaseIdent (.count (.when (.foldl (fun _ _ h8 => .raise h8) (.onCore (.unless (.foldl (fun _ _ h2 => .writePlace (.writePlace
    (.hotPlace (.hotPlace h2)))) (.hotPlace (.hotPlace h))) fun h5 => .onCore h5))) fun h10 => .raise (.poisonPlace (.poisonPlace h10))))

theorem State.ShutIn.execMatchKeys (h : s.ShutIn m) {m' : MatchDesc} : EndsShut m (execMatchKeys m' s) := by
  unfold Machine.execMatchKeys
  refine .next ?_
  split
  · next t1 e1 => exact .settle (.runMatch (.popPost (.of_eq (.startMatch h) e1)))
  · next t1 e1 => exact .of_eq (.startMatch h) e1

/-! ### Arrivals, homes and the repair of bonded memory -/

theorem State.ShutIn.receive (h : s.ShutIn m) {p : Nat} {k : Packet} {consume again : State → State} :
    (s.receive p k consume again).ShutIn m :=
  .left (by simp [h.fabric]) h

theorem State.ShutIn.arrive (h : s.ShutIn m) {p : Nat} {k : Packet} : (s.arrive p k).ShutIn m :=
  .settle (.receive h)

theorem State.ShutIn.courierOp (h : s.ShutIn m) {op : Nat} {pl : Place} {data : List Byte} {poison : Nat} :
    (s.courierOp op pl data poison).ShutIn m := by
  unfold State.courierOp
  refine .right (by simp [h.notHeld]) ?_
  refine .ite (.ite (.bondOp h) h) ?_
  refine .ite ?_ h
  split
  · next t1 e1 => exact .onCore (.of_eq (.reachBanks h) e1)
  · next t1 e1 => exact .of_eq (.reachBanks h) e1

theorem State.ShutIn.operate (h : s.ShutIn m) {op : Nat} {via : Via} : (s.operate op via).ShutIn m := by
  unfold State.operate
  split
  · exact .arrive h
  · exact .settle (.courierOp h)

theorem State.ShutIn.showService (h : s.ShutIn m) {d : Nat} : (s.showService d).ShutIn m :=
  .foldl (fun _ _ h1 => .setReg h1) h

theorem State.ShutIn.queueRepair (h : s.ShutIn m) {e : List Byte} : (s.queueRepair e).ShutIn m :=
  .update h

theorem State.ShutIn.buildInterleave (h : s.ShutIn m) {d : Nat} : (s.buildInterleave d).ShutIn m :=
  .showService (.setFld (.onDie h))

theorem State.ShutIn.discardImage (h : s.ShutIn m) : s.discardImage.ShutIn m := by
  unfold State.discardImage
  dsimp only
  split
  · exact .answer (.update h)
  · exact .update h

theorem State.ShutIn.banksActive (h : s.ShutIn m) : s.banksActive.ShutIn m :=
  .update h

theorem State.ShutIn.clearSequences (h : s.ShutIn m) : s.clearSequences.ShutIn m :=
  .foldl (fun _ _ h1 => .onPort h1) h

theorem State.ShutIn.dropHolds (h : s.ShutIn m) {ident : Nat} : (s.dropHolds ident).ShutIn m :=
  .update h

theorem State.ShutIn.loseMirror (h : s.ShutIn m) : s.loseMirror.ShutIn m := by
  unfold State.loseMirror
  split
  · exact .raise (.setFld (.dropHolds (.update h)))
  · exact h

theorem State.ShutIn.clearTables (h : s.ShutIn m) : s.clearTables.ShutIn m :=
  .clearSequences (.loseMirror h)

theorem State.ShutIn.leaveParked (h : s.ShutIn m) : s.leaveParked.ShutIn m :=
  .left (State.ShutIn.transition h).notReady (.transition h)

theorem State.ShutIn.mapOut (h : s.ShutIn m) {g : Nat} : (s.mapOut g).ShutIn m :=
  .ite h (.ite (.raise (.buildInterleave (.discardImage (.update (.tally (.queueRepair (.update (.showService (.onDie h))))))))) (.when
    (.raise (.update (.tally (.queueRepair (.update (.showService (.onDie h))))))) fun h6 => .leaveParked h6))

theorem State.ShutIn.uncorrectable (h : s.ShutIn m) {g unit : Nat} : (s.uncorrectable g unit).ShutIn m := by
  unfold State.uncorrectable
  dsimp only
  refine .ite h ?_
  refine .when (.raise (.tally (.onDie ?_))) fun h5 => .mapOut h5
  split
  · exact .setReg (.setReg (.update h))
  · exact .update h

/-! ### Ports, the mirror and snapshots -/

theorem State.ShutIn.advertise (h : s.ShutIn m) {p k : Nat} {solicited : Bool} : (s.advertise p k solicited).ShutIn m :=
  .emit h

theorem State.ShutIn.arpReply (h : s.ShutIn m) {p k : Nat} : (s.arpReply p k).ShutIn m :=
  .emit h

theorem State.ShutIn.execRetransmit (h : s.ShutIn m) {p : Fin 8} {dst : Fin 65536} {seq : Nat} :
    EndsShut m (execRetransmit p dst seq s) := by
  unfold Machine.execRetransmit
  refine .next ?_
  split
  · exact .right (by simp [h.fabric]) h
  · exact h

theorem State.ShutIn.execDeadLetter (h : s.ShutIn m) {d : Fin 4} {e : Fin 4096} : EndsShut m (execDeadLetter d e s) := by
  unfold Machine.execDeadLetter
  dsimp only
  refine .next ?_
  refine .ite h ?_
  refine .ite ?_ (.raise (.freeTag (.destWord (.count h))))
  split
  · next t1 e1 => exact .raise (.freeTag (.count (.of_eq (.landLoad h) e1)))
  · next t1 e1 => exact .of_eq (.landLoad h) e1

theorem State.ShutIn.sendEsmc (h : s.ShutIn m) {p : Nat} : (s.sendEsmc p).ShutIn m :=
  .ite (.emit h) h

theorem State.ShutIn.letters (h : s.ShutIn m) {ty release : Nat} {payload : List Byte} : (s.letters ty release payload).ShutIn m := by
  unfold State.letters
  dsimp only
  exact .unless (.sendAll h) fun h2 => .raise h2

theorem State.ShutIn.sendPart (h : s.ShutIn m) {r : SetRec} {o n half : Nat} : (s.sendPart r o n half).1.ShutIn m := by
  unfold State.sendPart
  dsimp only
  split
  · exact h
  · exact .foldlFst (fun _ _ h1 => .pair (.post h1)) h

theorem State.ShutIn.mirrorRecord (h : s.ShutIn m) {rec : List Byte} : (s.mirrorRecord rec).ShutIn m :=
  .sendPart (.update h)

theorem State.ShutIn.wearCheck (h : s.ShutIn m) : s.wearCheck.ShutIn m :=
  .when (.setFld (.setReg (.update h))) fun h3 => .raise h3

theorem State.ShutIn.flashWrote (h : s.ShutIn m) {n : Nat} : (s.flashWrote n).ShutIn m :=
  .wearCheck (.setReg (.ite (.update h) (.update (.update h))))

theorem State.ShutIn.setFlashSlot (h : s.ShutIn m) {n : Nat} {r : SetRec} : (s.setFlashSlot n r).ShutIn m :=
  .update h

theorem State.ShutIn.slotRecord (h : s.ShutIn m) {n : Nat} {rec : List Byte} : (s.slotRecord n rec).ShutIn m :=
  .flashWrote (.setFlashSlot h)

theorem State.ShutIn.execDecisionApply (h : s.ShutIn m) : EndsShut m (execDecisionApply s) := by
  unfold Machine.execDecisionApply
  refine .next ?_
  split
  · exact .right (by simp [h.live]) h
  · exact h

theorem State.ShutIn.writeBlock (h : s.ShutIn m) {b : Nat} : (s.writeBlock b).ShutIn m :=
  .foldl (fun _ _ h2 => .writeBond h2) (.writeBond h)

theorem State.ShutIn.holdRanges (h : s.ShutIn m) {ident kinds : Nat} : (s.holdRanges ident kinds).ShutIn m :=
  .foldl (fun _ _ h1 => .when h1 fun h2 => .onDie h2) h

theorem State.ShutIn.startMirror (h : s.ShutIn m) {b : Nat} : (s.startMirror b).ShutIn m := by
  unfold State.startMirror
  refine .ite h (.ite (.raise h) ?_)
  dsimp only
  refine .update ?_
  refine .sendPart ?_
  refine .foldlFst (fun _ _ h1 => .sendPart h1) ?_
  exact .sendPart (.setFld (.holdRanges h))

theorem State.ShutIn.startSnap (h : s.ShutIn m) {b : Nat} : (s.startSnap b).ShutIn m := by
  unfold State.startSnap
  refine .ite (.raise h) ?_
  split
  · exact .raise h
  · exact .update (.setFlashSlot (.setFld (.holdRanges h)))

theorem State.ShutIn.execBoundaryBlockCapture (h : s.ShutIn m) : EndsShut m (execBoundaryBlockCapture s) :=
  .next (.ite (.update (.ite (.startSnap (.ite (.startMirror (.writeBlock (.foldl (fun _ _ h8 => .setFld h8) h))) (.writeBlock (.foldl
    (fun _ _ h9 => .setFld h9) h)))) (.ite (.startMirror (.writeBlock (.foldl (fun _ _ h10 => .setFld h10) h))) (.writeBlock (.foldl
    (fun _ _ h11 => .setFld h11) h))))) h)

/-! ### Temperatures, references and the hold of time -/

theorem State.ShutIn.onPwr (h : s.ShutIn m) {f : Pwr → Pwr} : (s.onPwr f).ShutIn m :=
  .update h

theorem State.ShutIn.tempWarning (h : s.ShutIn m) {b code : Nat} : (s.tempWarning b code).ShutIn m :=
  .ite h (.raise (.count (.setFld (.onPwr h))))

theorem State.ShutIn.heat (h : s.ShutIn m) : s.heat.ShutIn m := by
  unfold State.heat
  dsimp only
  exact .when (.when (.setReg h) fun h2 => .setFld (.setFld h2)) fun h4 => .setFld (.setFld h4)

theorem State.ShutIn.dieReads (h : s.ShutIn m) {d t' : Nat} : (s.dieReads d t').ShutIn m :=
  .heat (.onPwr h)

theorem State.ShutIn.stackReads (h : s.ShutIn m) {k t' : Nat} : (s.stackReads k t').ShutIn m :=
  .heat (.onPwr h)

theorem State.ShutIn.tempLimit (h : s.ShutIn m) {code : Nat} : (s.tempLimit code).ShutIn m :=
  .raise (.onPwr h)

theorem State.ShutIn.setDoubled (h : s.ShutIn m) {k v : Nat} : (s.setDoubled k v).ShutIn m :=
  .setFld h

theorem State.ShutIn.refreshDouble (h : s.ShutIn m) {k : Nat} : (s.refreshDouble k).ShutIn m :=
  .ite h (.raise (.setDoubled h))

theorem State.ShutIn.scanFill (h : s.ShutIn m) {key : Nat} : (s.scanFill key).ShutIn m :=
  .update h

theorem State.ShutIn.marginWrite (h : s.ShutIn m) {d v : Nat} : (s.marginWrite d v).ShutIn m :=
  .unless (.setReg h) fun h3 => .ite (.scanFill (.onDie (.setFld (.discardImage h3)))) (.event h3)

theorem State.ShutIn.marginResult (h : s.ShutIn m) {d c kind lo hi : Nat} : (s.marginResult d c kind lo hi).ShutIn m :=
  .record (.setReg h)

theorem State.ShutIn.execMarginScanDone (h : s.ShutIn m) {d : Fin 4} {low high : Nat} : EndsShut m (execMarginScanDone d low high s) := by
  unfold Machine.execMarginScanDone
  refine .next ?_
  split
  · exact h
  · exact .marginResult (.onDie h)

theorem State.ShutIn.poisonFlit (h : s.ShutIn m) {pl : Place} : (s.poisonFlit pl).ShutIn m :=
  .ite (.onPort h) (.ite (.update h) (.poisonPlace h))

theorem State.ShutIn.phaseMeasured (h : s.ShutIn m) {ps : ℤ} : (s.phaseMeasured ps).ShutIn m :=
  .ite (.when (.update (.setReg h)) fun h3 => .raise h3) (.update (.setReg h))

theorem State.ShutIn.holdover (h : s.ShutIn m) : s.holdover.ShutIn m :=
  .event (.setFld h)

theorem State.ShutIn.sendEsmcs (h : s.ShutIn m) : s.sendEsmcs.ShutIn m :=
  .foldl (fun _ _ h1 => .sendEsmc h1) h

theorem State.ShutIn.acquire (h : s.ShutIn m) {r : Nat} : (s.acquire r).ShutIn m :=
  .when (.setFld (.setFld (.update h))) fun h3 => .sendEsmcs (.event h3)

theorem State.ShutIn.refLost (h : s.ShutIn m) {r : Nat} : (s.refLost r).ShutIn m := by
  unfold State.refLost
  dsimp only
  refine .ite (.when (.update h) fun h2 => .event h2) ?_
  refine .ite ?_ ?_
  · split
    · exact .when (.update (.holdover (.ite (.event (.update h)) (.update h)))) fun h6 => .raise (.acquire h6)
    · exact .when (.update (.holdover (.ite (.event (.update h)) (.update h)))) fun h7 => .raise h7
  · refine .ite ?_ (.when (.update h) fun h2 => .event h2)
    split
    · exact .raise (.acquire (.when (.update h) fun h2 => .event h2))
    · exact .setFld (.when (.update h) fun h2 => .event h2)

theorem State.ShutIn.dpllObey (h : s.ShutIn m) : s.dpllObey.ShutIn m := by
  unfold State.dpllObey
  refine .ite (.ite h (.setFld h)) ?_
  refine .ite ?_ (.ite (.holdover h) h)
  refine .ite ?_ h
  split
  · exact .acquire h
  · exact h

theorem State.ShutIn.execHoldoverAcquire (h : s.ShutIn m) : EndsShut m (execHoldoverAcquire s) := by
  unfold Machine.execHoldoverAcquire
  refine .next ?_
  refine .ite ?_ h
  split
  · exact .ite (.raise (.acquire h)) (.acquire h)
  · exact h

theorem State.ShutIn.together (h : s.ShutIn m) {f : State → State} (hf : ∀ u1, u1.ShutIn m → (f u1).ShutIn m) :
    (s.together f).ShutIn m := by
  unfold State.together
  split
  · exact hf _ h
  · exact .raiseNow (.update (hf _ (.update h)))

/-! ### The postmark and its boundaries -/

theorem State.ShutIn.noPhase (h : s.ShutIn m) : s.noPhase.ShutIn m :=
  .update (.setReg h)

theorem State.ShutIn.applyTime (h : s.ShutIn m) {w : Nat × Word} : (s.applyTime w).ShutIn m :=
  .ite (.when (.setReg h) fun h2 => .noPhase h2) (.setReg h)

theorem State.ShutIn.applyTimes (h : s.ShutIn m) : s.applyTimes.ShutIn m :=
  .ite h (.dpllObey (.update (.foldl (fun _ _ h3 => .applyTime h3) h)))

theorem State.ShutIn.releaseDue (h : s.ShutIn m) : s.releaseDue.ShutIn m :=
  .foldl (fun _ _ h1 => .releaseCore h1) h

theorem State.ShutIn.holdResume (h : s.ShutIn m) : s.holdResume.ShutIn m := by
  unfold State.holdResume
  split
  · exact .right (by simp [h.notHeld]) h
  · exact h

theorem State.ShutIn.riskEvaluation (h : s.ShutIn m) : s.riskEvaluation.ShutIn m :=
  .ite (.update (.riskDue h)) (.riskDue h)

theorem State.ShutIn.abandonDrain (h : s.ShutIn m) {n : Nat} : (s.abandonDrain n).ShutIn m :=
  .setFld (.update (.setFlashSlot h))

theorem State.ShutIn.drainAnswer (h : s.ShutIn m) {slot : Nat} : (s.drainAnswer slot).ShutIn m := by
  unfold State.drainAnswer
  split
  · exact h
  · exact .ite (.abandonDrain (.update h)) (.when (.update h) fun h3 => .count (.setFld (.setFlashSlot h3)))

theorem State.ShutIn.collectOutbound (h : s.ShutIn m) {slot : Nat} : (s.collectOutbound slot).ShutIn m :=
  .ite (.setSlotState (.drainAnswer h)) h

theorem State.ShutIn.collectSlot (h : s.ShutIn m) {n : Nat} : (s.collectSlot n).ShutIn m :=
  .count (.update (.slotFill (.setSlotState h)))

theorem State.ShutIn.collectLetter (h : s.ShutIn m) {n : Nat} : (s.collectLetter n).ShutIn m := by
  unfold State.collectLetter
  dsimp only
  refine .ite h ?_
  split
  · exact .raise (.answer (.collectSlot h))
  · exact .ite (.raise (.answer (.collectSlot h))) (.ite (.answer (.collectSlot h)) (.ite (.update (.collectSlot h)) (.collectSlot h)))

theorem State.ShutIn.collect (h : s.ShutIn m) : s.collect.ShutIn m :=
  .ite (.foldl (fun _ _ h2 => .collectOutbound h2) (.foldl (fun _ _ h1 => .collectLetter h1) h)) h

theorem State.ShutIn.holdStop (h : s.ShutIn m) : s.holdStop.ShutIn m := by
  unfold State.holdStop
  split
  · exact .right (by simp [h.notRunning]) h
  · exact h

theorem State.ShutIn.atBoundary (h : s.ShutIn m) : s.atBoundary.ShutIn m := by
  unfold State.atBoundary
  refine .riskEvaluation (.collect (.holdStop (.settle (.releaseDue (.holdResume ?_)))))
  exact .unless (.applyTimes h) fun h2 => .raise h2

theorem State.ShutIn.slip (h : s.ShutIn m) {e : Fin 6 × Nat} : (s.slip e).ShutIn m :=
  .update h

theorem State.ShutIn.timePasses (h : s.ShutIn m) {n : Nat} : (s.timePasses n).ShutIn m :=
  .unless (.unless (.update h) fun h2 => .count64 h2) fun h4 => .count64 h4

theorem State.ShutIn.reduce (h : s.ShutIn m) {n : Nat} : (s.reduce n).ShutIn m :=
  .foldl (fun _ _ h1 => .when h1 fun h2 => .count (.setDie h2)) h

theorem State.ShutIn.elapse (h : s.ShutIn m) {n : Nat} : (s.elapse n).ShutIn m :=
  .reduce (.update (.timePasses h))

theorem State.ShutIn.sampled (h : s.ShutIn m) {m' : Sample} : (s.sampled m').ShutIn m :=
  .setReg (.setReg (.heat (.onPwr h)))

theorem State.ShutIn.onHlt (h : s.ShutIn m) {f : Hlt → Hlt} : (s.onHlt f).ShutIn m :=
  .update h

theorem State.ShutIn.evalInput (h : s.ShutIn m) {x : Sample} {i : Nat} : (State.evalInput x s i).ShutIn m := by
  unfold State.evalInput
  refine .onHlt ?_
  have hread : (match s.reading x i with | some r => (r, s) | none => (s.free.1.toNat, s.free.2)).2.ShutIn m := by
    split
    · exact h
    · exact .free h
  split
  · exact hread
  · exact .free hread

theorem State.ShutIn.setScore (h : s.ShutIn m) {score : Nat} : (s.setScore score).ShutIn m :=
  .when (.onHlt (.when (.setFld (.setFld h)) fun h2 => .signal (.event h2))) fun h5 => .raise h5

theorem State.ShutIn.execHealthEvaluation (h : s.ShutIn m) {m' : Sample} : EndsShut m (execHealthEvaluation m' s) := by
  unfold Machine.execHealthEvaluation
  dsimp only
  exact .next (.ite h (.when (.setScore (.onHlt (.foldl (fun _ _ h2 => .evalInput h2) (.wearCheck (.sampled h))))) fun h7 => .seqFull
    (.sendRisk h7)))

theorem State.ShutIn.execMirrorComplete (h : s.ShutIn m) : EndsShut m (execMirrorComplete s) := by
  unfold Machine.execMirrorComplete
  dsimp only
  refine .next ?_
  split
  · refine .ite ?_ h
    split
    · exact .mirrorRecord (.count (.setFld (.dropHolds (.sendPart (.update h)))))
    · exact .count (.setFld (.dropHolds (.sendPart (.update h))))
  · exact h

/-! ### The flash and the registers -/

theorem State.ShutIn.flashWrite (h : s.ShutIn m) {a : Nat} {l : List Byte} : (s.flashWrite a l).ShutIn m :=
  .update h

theorem State.ShutIn.flashErase (h : s.ShutIn m) {a n : Nat} : (s.flashErase a n).ShutIn m :=
  .update h

theorem State.ShutIn.appendCounter (h : s.ShutIn m) {kind value : Nat} : (s.appendCounter kind value).ShutIn m :=
  .ite h (.ite (.flashWrite h) (.flashWrite (.foldl (fun _ _ h2 => .flashWrite h2) (.flashErase h))))

theorem State.ShutIn.execSnapshotComplete (h : s.ShutIn m) : EndsShut m (execSnapshotComplete s) := by
  unfold Machine.execSnapshotComplete
  dsimp only
  refine .next ?_
  refine .ite h ?_
  split
  · exact h
  · split
    · exact .slotRecord (.appendCounter (.flashWrote (.setFlashSlot (.count (.setFld (.dropHolds (.update h)))))))
    · exact .appendCounter (.flashWrote (.setFlashSlot (.count (.setFld (.dropHolds (.update h))))))

theorem State.ShutIn.dropErrLocs (h : s.ShutIn m) {off : Nat} : (s.dropErrLocs off).ShutIn m :=
  .when (.foldl (fun _ _ h1 => .when h1 fun h2 => .setFld h2) h) fun h4 => .setFld h4

theorem State.ShutIn.sequenceClear (h : s.ShutIn m) {off v : Nat} : (s.sequenceClear off v).ShutIn m := by
  unfold State.sequenceClear
  split
  · exact h
  · exact .ite h (.dropErrLocs (.foldl (fun _ _ h1 => .when h1 fun h2 => .setFld h2) h))

theorem State.ShutIn.safeSet (h : s.ShutIn m) : s.safeSet.ShutIn m :=
  .foldl (fun _ _ h1 => .setReg h1) h

theorem State.ShutIn.execHeartbeatBump (h : s.ShutIn m) : EndsShut m (execHeartbeatBump s) :=
  .next (.ite (.safeSet (.record (.updateFw (.updateFw h)))) (.updateFw h))

theorem State.ShutIn.snapSel (h : s.ShutIn m) {v : Nat} : (s.snapSel v).ShutIn m :=
  .update (.setFld (.setFld h))

theorem State.ShutIn.setProc (h : s.ShutIn m) {p : Nat} {v : Proc} : (s.setProc p v).ShutIn m :=
  .updateFw h

theorem State.ShutIn.restart (h : s.ShutIn m) {p cause : Nat} : (s.restart p cause).ShutIn m := by
  unfold State.restart
  split
  · exact h
  · exact .ite h (.ite (.raise (.setProc h)) (.raiseAll (.tally (.record (.setProc h)))))

theorem State.ShutIn.fwRestart (h : s.ShutIn m) {v : Nat} : (s.fwRestart v).ShutIn m :=
  .ite (.restart h) h

theorem State.ShutIn.refuseWrite (h : s.ShutIn m) {off : Nat} : (s.refuseWrite off).ShutIn m :=
  .ite (.foldl (fun _ _ h1 => .event h1) h) (.ite (.event h) (.ite (.event h) (.ite (.event h) (.ite (.event h) h))))

theorem State.ShutIn.plainWrite (h : s.ShutIn m) {off v : Nat} {d : RegDef} : (s.plainWrite off v d).ShutIn m :=
  .ite (.setReg h) (.refuseWrite (.setReg h))

theorem State.ShutIn.holdReq (h : s.ShutIn m) : s.holdReq.ShutIn m :=
  .right (by simp [h.live]) h

theorem State.ShutIn.resumeReq (h : s.ShutIn m) : s.resumeReq.ShutIn m :=
  .update h

theorem State.ShutIn.domCtlWrite (h : s.ShutIn m) {off v : Nat} {d : RegDef} : (s.domCtlWrite off v d).ShutIn m :=
  .when (.when (.plainWrite h) fun h2 => .holdReq h2) fun h4 => .resumeReq h4

theorem State.ShutIn.parkReq (h : s.ShutIn m) : s.parkReq.ShutIn m :=
  .ite (.raise h) h

theorem State.ShutIn.resCtlWrite (h : s.ShutIn m) {off v : Nat} {d : RegDef} : (s.resCtlWrite off v d).ShutIn m :=
  .when (.plainWrite h) fun h2 => .parkReq h2

theorem State.ShutIn.curveWrite (h : s.ShutIn m) {v : Nat} : (s.curveWrite v).ShutIn m :=
  .right (by simp [h.notReady]) (.event h)

theorem State.ShutIn.windowWrite (h : s.ShutIn m) {v : Nat} : (s.windowWrite v).ShutIn m :=
  .right (by simp [h.notReady]) (.event h)

theorem State.ShutIn.timeWrite (h : s.ShutIn m) {off v : Nat} : (s.timeWrite off v).ShutIn m :=
  .update h

theorem State.ShutIn.portCtlWrite (h : s.ShutIn m) {off v : Nat} {d : RegDef} : (s.portCtlWrite off v d).ShutIn m :=
  .unless (.plainWrite h) fun h2 => .onPort h2

theorem State.ShutIn.regWrite (h : s.ShutIn m) {off v : Nat} {d : RegDef} : (s.regWrite off v d).ShutIn m :=
  .ite (.sequenceClear h) (.ite (.nextOr h h.execHeartbeatBump) (.ite (.snapSel h) (.ite (.fwRestart h) (.ite (.domCtlWrite h) (.ite
    (.resCtlWrite h) (.ite (.curveWrite h) (.ite (.windowWrite h) (.ite (.timeWrite h) (.ite (.marginWrite h) (.ite (.portCtlWrite h)
    (.plainWrite h)))))))))))

theorem State.ShutIn.hostWrite (h : s.ShutIn m) {off v : Nat} {full : Bool} : (s.hostWrite off v full).ShutIn m := by
  unfold State.hostWrite
  refine .ite h ?_
  split
  · exact h
  · exact .ite (.event h) (.ite (.regWrite h) h)

/-! ### Firmware, leases and the daybook -/

theorem State.ShutIn.setCached (h : s.ShutIn m) {hub kind : Nat} {pending : Bool} {img : List Byte} :
    (s.setCached hub kind pending img).ShutIn m :=
  .updateFw h

theorem State.ShutIn.repairRegion (h : s.ShutIn m) {g key : Nat} : (s.repairRegion g key).ShutIn m :=
  .ite (.raise (.tally (.count (.queueRepair (.setCore (.record (.setReg h))))))) (.raise (.queueRepair (.setCore (.record (.setReg h)))))

theorem State.ShutIn.phaseEnd (h : s.ShutIn m) {r : PhaseEnd} : (s.phaseEnd r).ShutIn m :=
  .left (by simp [h.notBoot]) h

theorem State.ShutIn.updateNext (h : s.ShutIn m) {done : Option Nat} : (s.updateNext done).ShutIn m := by
  unfold State.updateNext
  dsimp only
  split
  · exact h
  · split
    · exact .restart h
    · exact .answer (.updateFw (.foldl (fun _ _ h3 => .setCached h3) h))

theorem State.ShutIn.execRestartComplete (h : s.ShutIn m) {p discards : Nat} : EndsShut m (execRestartComplete p discards s) := by
  unfold Machine.execRestartComplete
  dsimp only
  refine .next ?_
  refine .ite ?_ h
  split
  · exact h
  · exact .ite (.raise (.setProc h)) (.when (.when (.foldl (fun _ _ h2 => .record h2) (.setProc h)) fun h5 => .foldl
    (fun _ _ h4 => .serveUnknown h4) h5) fun h7 => .updateNext h7)

theorem State.ShutIn.execLeaseWordReceive (h : s.ShutIn m) : EndsShut m (execLeaseWordReceive s) := by
  unfold Machine.execLeaseWordReceive
  refine .next ?_
  split
  · exact h
  · exact .ite (.raise (.updateFw h)) (.updateFw (.updateFw h))

theorem State.ShutIn.execLeaseAckReceive (h : s.ShutIn m) : EndsShut m (execLeaseAckReceive s) := by
  unfold Machine.execLeaseAckReceive
  refine .next ?_
  split
  · exact h
  · exact .updateFw h

theorem State.ShutIn.rebase (h : s.ShutIn m) : s.rebase.ShutIn m :=
  .update h

theorem State.ShutIn.takeover (h : s.ShutIn m) : s.takeover.ShutIn m := by
  unfold State.takeover
  refine .dpllObey (.raiseAll (.event (.setFld (.record (.rebase ?_)))))
  refine .updateFw (.foldl (fun _ _ h1 => ?_) h)
  exact .when (.setProc h1) fun h2 => .setProc h2

theorem State.ShutIn.leaseOut (h : s.ShutIn m) : s.leaseOut.ShutIn m :=
  .ite h (.ite (.raise (.updateFw h)) (.takeover (.updateFw h)))

theorem State.ShutIn.withdrawOutbound (h : s.ShutIn m) : s.withdrawOutbound.ShutIn m :=
  .setFld (.update (.foldl (fun _ _ h4 => .when h4 fun h5 => .setSlotState h5) h))

theorem State.ShutIn.execLog (h : s.ShutIn m) {g n : Nat} : EndsShut m (execLog g n s) := by
  unfold Machine.execLog
  refine .next ?_
  split
  · exact .ite (.onCore (.record h)) h
  · exact h

theorem State.ShutIn.execTrace (h : s.ShutIn m) {g n : Nat} : EndsShut m (execTrace g n s) := by
  unfold Machine.execTrace
  refine .next ?_
  split
  · exact .ite (.ite (.onCore (.record h)) (.onCore h)) h
  · exact h

/-! ### Tests, letters and the image -/

theorem State.ShutIn.testRegion (h : s.ShutIn m) {g key : Nat} {fails : Bool} : (s.testRegion g key fails).ShutIn m :=
  .when (.count h) fun h2 => .repairRegion h2

theorem State.ShutIn.finishTest (h : s.ShutIn m) {g : Nat} : (s.finishTest g).ShutIn m := by
  unfold State.finishTest
  split
  · exact .testRegion (.onCore h)
  · exact h

theorem State.ShutIn.execTestWindow (h : s.ShutIn m) {g : Fin 384} {slot : Fin 4} {bad : List (Fin 32 × Fin 48)} :
    EndsShut m (execTestWindow g slot bad s) := by
  unfold Machine.execTestWindow
  refine .next ?_
  split
  · exact .ite (.onCore (.foldl (fun _ _ h2 => .testRegion h2) (.finishTest h))) h
  · exact h

theorem State.ShutIn.execRepairAppend (h : s.ShutIn m) : EndsShut m (execRepairAppend s) := by
  unfold Machine.execRepairAppend
  refine .next ?_
  split
  · exact h
  · exact .ite h (.ite (.raise (.update h)) (.flashWrite (.update h)))

theorem State.ShutIn.startLetter (h : s.ShutIn m) {slot ty : Nat} {body : State → State} (hbody : ∀ u, u.ShutIn m → (body u).ShutIn m) :
    (s.startLetter slot ty body).ShutIn m :=
  .ite h (.ite h (.ite (.answer h) (hbody _ h)))

/-- Of the letters NEGOTIATE, RECOVER_REQ and ATTEST alone are taken in FENCED or RECOVERY; the others are answered at once (R462). -/
theorem State.ShutIn.startLetter_refused (h : s.ShutIn m) {slot ty : Nat} {body : State → State}
    (hty : ty ≠ 1 ∧ ty ≠ 2 ∧ ty ≠ 0xC := by decide) : (s.startLetter slot ty body).ShutIn m := by
  have haccepts : accepts ty s.mod = false := by
    rw [show s.mod = m from h.mod]
    obtain ⟨h1, h2, h3⟩ := hty
    obtain rfl | rfl := h.shut <;> simp [accepts, h1, h2, h3]
  have hyet : s.parkedYet = false := by simp [State.parkedYet, h.notParked, h.notRunning]
  exact .ite h (.ite h (.left (by simp [haccepts, hyet]) (.answer h)))

theorem State.ShutIn.refuseWith (h : s.ShutIn m) {slot code : Nat} : (s.refuseWith slot code).ShutIn m :=
  .raise (.answer h)

theorem State.ShutIn.hostRead (h : s.ShutIn m) {slot n : Nat} {data : Option (List Byte)} {body : List Byte → State → State}
    (hbody : ∀ u1 u2, u2.ShutIn m → (body u1 u2).ShutIn m) : (s.hostRead slot n data body).ShutIn m := by
  unfold State.hostRead
  split
  · exact .ite (hbody _ _ h) (.raise (.answer h))
  · exact .raise (.answer h)

theorem State.ShutIn.applyFormats (h : s.ShutIn m) {l : List Sect} (e : s.applyFormats l = some t) : t.ShutIn m := by
  unfold State.applyFormats at e
  dsimp only at e
  split at e
  · obtain rfl := Option.some.inj e
    exact .foldl (fun _ _ h1 => .onDie h1) (.foldl (fun _ _ h1 => .setReg h1) h)
  · cases e

theorem State.ShutIn.applyImage (h : s.ShutIn m) {base : Nat} {hd : ImgHead} {l : List Sect} (e : s.applyImage base hd l = some t) :
    t.ShutIn m := by
  unfold State.applyImage at e
  obtain ⟨u, hu, rfl⟩ := Option.map_eq_some_iff.mp e
  refine .setFld (.setReg (.setReg64 (.setFld (.foldl (fun _ _ h1 => .setFld h1) ?_))))
  exact .update (h.applyFormats hu)

theorem State.ShutIn.clearWindows (h : s.ShutIn m) {d : Nat} : (s.clearWindows d).ShutIn m :=
  .foldl (fun _ _ h1 => .when h1 fun h3 => .foldl (fun _ _ h2 => .writeBond h2) h3) h

theorem State.ShutIn.fillHalves (h : s.ShutIn m) : s.fillHalves.ShutIn m := by
  unfold State.fillHalves
  dsimp only
  exact .foldl (fun _ _ h1 => .onCore h1) h

theorem State.ShutIn.runReset (h : s.ShutIn m) : s.runReset.ShutIn m :=
  .fillHalves (.foldl (fun _ _ h5 => .setFld h5) (.foldl (fun _ _ h3 => .clearWindows h3) (.banksActive (.clearTables (.update h)))))

theorem State.ShutIn.threadPool (h : s.ShutIn m) {d p : Nat} : (s.threadPool d p).ShutIn m :=
  .ite h (.setPool (.foldl (fun _ _ h1 => .setOwner (.setPoolWord h1)) h))

theorem State.ShutIn.threadPools (h : s.ShutIn m) : s.threadPools.ShutIn m :=
  .foldl (fun _ _ h1 => .foldl (fun _ _ h2 => .threadPool h2) h1) h

theorem State.ShutIn.loadImage (h : s.ShutIn m) {addr len : Nat} (e : s.loadImage addr len = .ok t) : t.ShutIn m := by
  unfold State.loadImage at e
  dsimp only at e
  split at e
  · cases e
  · split_ifs at e
    split at e
    · cases e
    · next hu =>
      split_ifs at e
      split at e
      · cases e
      · rw [← Except.ok.inj e]
        exact .update (.runReset (.threadPools (h.applyImage hu)))

theorem State.ShutIn.execImageLoad (h : s.ShutIn m) {slot : Fin 16} : EndsShut m (execImageLoad slot s) := by
  refine .next (.startLetter h fun u hu => ?_)
  refine .ite (.answer hu) (.ite hu ?_)
  split
  · next ht => exact .answer (hu.loadImage ht)
  · exact .raise (.answer hu)

theorem State.ShutIn.execJoinTimeout (h : s.ShutIn m) : EndsShut m (execJoinTimeout s) := by
  unfold Machine.execJoinTimeout
  dsimp only
  refine .next ?_
  refine .ite ?_ h
  refine .raise ?_
  split
  · exact .answer (.setFld (.update h))
  · exact .setFld (.update h)

theorem State.ShutIn.runStart (h : s.ShutIn m) : s.runStart.ShutIn m := by
  unfold State.runStart
  split
  · exact .right (by simp [h.notReady]) h
  · exact h

theorem State.ShutIn.execLiveWordWrite (h : s.ShutIn m) {slot : Fin 16} {g : Fin 384} : EndsShut m (execLiveWordWrite slot g s) := by
  unfold Machine.execLiveWordWrite
  refine .next ?_
  split
  · exact h
  · split
    · exact h
    · split
      · exact h
      · exact .right (by simp [h.live]) h

theorem State.ShutIn.restartRun (h : s.ShutIn m) : s.restartRun.ShutIn m := by
  unfold State.restartRun
  split
  · exact .right (by simp [h.notReady, h.notParked]) h
  · exact h

theorem State.ShutIn.postDrain (h : s.ShutIn m) {slot : Nat} {body : List Byte} : (s.postDrain slot body).ShutIn m := by
  unfold State.postDrain
  dsimp only
  exact .signal (.setSlotState (.slotFill (.free h)))

theorem State.ShutIn.drainTo (h : s.ShutIn m) {n slot addr len : Nat} : (s.drainTo n slot addr len).ShutIn m :=
  .postDrain (.setFld (.update (.emit (.setFlashSlot h))))

theorem State.ShutIn.execDrainPart (h : s.ShutIn m) {ok : Bool} : EndsShut m (execDrainPart ok s) := by
  unfold Machine.execDrainPart
  refine .next ?_
  refine .ite h ?_
  split
  · exact .ite h (.ite (.drainTo h) (.raise (.update h)))
  · exact h

theorem State.ShutIn.execAttest (h : s.ShutIn m) {slot : Fin 16} {ok : Bool} : EndsShut m (execAttest slot ok s) :=
  .next (.startLetter h (fun _ h1 => by
      refine .ite h1 ?_
      refine .ite (.answer h1) ?_
      split
      · exact .answer h1
      · exact .ite (.answer h1) (.ite (.raise (.answer h1)) (.answer (.emit (.freeSkip h1))))))

/-! ### The host interface and the sideband -/

theorem State.ShutIn.slotRefused (h : s.ShutIn m) : s.slotRefused.ShutIn m :=
  .ite (.event h) (.raise (.update h))

theorem State.ShutIn.slotStateWrite (h : s.ShutIn m) {outb : Bool} {n v : Nat} : (s.slotStateWrite outb n v).ShutIn m :=
  .ite (.update (.setSlotState h)) (.ite (.setSlotState h) (.ite (.setSlotState h) (.ite (.setSlotState h) (.slotRefused h))))

theorem State.ShutIn.execSequenceClear (h : s.ShutIn m) {off : BitVec 26} {v : BitVec 32} : EndsShut m (execSequenceClear off v s) := by
  unfold Machine.execSequenceClear
  refine .next ?_
  split
  · exact .ite (.sequenceClear h) h
  · exact h

theorem State.ShutIn.snapCapture (h : s.ShutIn m) : s.snapCapture.ShutIn m := by
  unfold State.snapCapture
  split
  · exact h
  · exact .when (.setFld (.setFld (.foldl (fun _ _ h2 => .setReg h2) (.update h)))) fun h6 => .event h6

theorem State.ShutIn.slotWordWrite (h : s.ShutIn m) {outb : Bool} {n o v : Nat} : (s.slotWordWrite outb n o v).ShutIn m :=
  .ite (.slotFill h) (.ite (.slotFill h) (.slotRefused h))

theorem State.ShutIn.boxWrite (h : s.ShutIn m) {off v : Nat} : (s.boxWrite off v).ShutIn m :=
  .ite h (.ite (.slotStateWrite h) (.slotWordWrite h))

theorem State.ShutIn.msixWrite (h : s.ShutIn m) {off v be : Nat} : (s.msixWrite off v be).ShutIn m :=
  .ite h (.update h)

theorem State.ShutIn.bar0Write (h : s.ShutIn m) {off v be : Nat} : (s.bar0Write off v be).ShutIn m :=
  .ite h (.ite (.hostWrite h) (.ite (.ite (.boxWrite h) (.event h)) (.ite (.msixWrite h) h)))

theorem State.ShutIn.winRefused (h : s.ShutIn m) : s.winRefused.ShutIn m :=
  .ite (.event h) (.raise (.update (.event h)))

theorem State.ShutIn.execEndpointReset (h : s.ShutIn m) : EndsShut m (execEndpointReset s) :=
  .next (.ite h (.raise (.count (.withdrawOutbound (.update (.foldl (fun _ _ h5 => .when h5 fun h6 => .setSlotState h6) (.safeSet
    (.setReg64 (.setReg h)))))))))

theorem State.ShutIn.holdLimit (h : s.ShutIn m) : s.holdLimit.ShutIn m := by
  unfold State.holdLimit
  split
  · exact .right (by simp [h.notHeld]) h
  · exact h

theorem State.ShutIn.resumeReady (h : s.ShutIn m) : s.resumeReady.ShutIn m := by
  unfold State.resumeReady
  split
  · exact .ite (.agree (.letters (.setHold h))) h
  · exact h

theorem State.ShutIn.parkEntry (h : s.ShutIn m) {limit : Bool} : (s.parkEntry limit).ShutIn m := by
  unfold State.parkEntry
  split
  · exact .right (by simp [h.notHeld]) h
  · exact h

theorem State.ShutIn.recoveryLetter (h : s.ShutIn m) {ty : Nat} {body : State → State} (hbody : ∀ u1, u1.ShutIn m → (body u1).ShutIn m) :
    (s.recoveryLetter ty body).ShutIn m :=
  .ite h (.ite (.answer (.collectSlot h)) (.ite (hbody _ (.collectSlot h)) h))

theorem State.ShutIn.execRecoveryWrite (h : s.ShutIn m) {data cells : Option (List Byte)} : EndsShut m (execRecoveryWrite data cells s) :=
  .next (.ite h (.recoveryLetter h (fun _ h1 => .ite (.refuseWith h1) (.hostRead h1 (fun _ _ h2 => .ite (.answer (.update
    (.flashWrite h2))) (.raise (.answer (.update (.flashWrite h2)))))))))

theorem State.ShutIn.execCommit (h : s.ShutIn m) : EndsShut m (execCommit s) :=
  .next (.recoveryLetter h (fun _ h1 => .ite (.answer h1) (.ite (.answer (.update h1)) (.raise (.answer (.update h1))))))

theorem State.ShutIn.execEnroll (h : s.ShutIn m) {data : Option (List Byte)} : EndsShut m (execEnroll data s) :=
  .next (.ite h (.recoveryLetter h (fun _ h1 => .hostRead h1 (fun _ _ h2 => .ite (.refuseWith h2) (.answer (.unless (.flashErase h2)
    fun h4 => .flashWrite (.flashWrite h4)))))))

theorem State.ShutIn.say (h : s.ShutIn m) {l : List Byte} : (s.say l).ShutIn m :=
  .emit h

theorem State.ShutIn.vendorAnswer (h : s.ShutIn m) {cmd status : Nat} {l : List Byte} : (s.vendorAnswer cmd status l).ShutIn m :=
  .say h

theorem State.ShutIn.vendor (h : s.ShutIn m) {cmd : Nat} {body : State → State × List Byte}
    (hbody : ∀ u1, u1.ShutIn m → (body u1).1.ShutIn m) : (s.vendor cmd body).ShutIn m := by
  unfold State.vendor
  dsimp only
  exact .ite h (.ite (.vendorAnswer h) (.vendorAnswer (hbody _ h)))

theorem State.ShutIn.execGetFaults (h : s.ShutIn m) {seq : Nat} : EndsShut m (execGetFaults seq s) := by
  unfold Machine.execGetFaults
  dsimp only
  exact .next (.vendor h (fun _ h1 => .updateFw h1))

theorem State.ShutIn.execPark (h : s.ShutIn m) : EndsShut m (execPark s) :=
  .next (.vendor h (fun _ h1 => .parkReq h1))

theorem State.ShutIn.mctp (h : s.ShutIn m) {cmd : Nat} {body : State → State × Nat × List Byte}
    (hbody : ∀ u1, u1.ShutIn m → (body u1).1.ShutIn m) : (s.mctp cmd body).ShutIn m := by
  unfold State.mctp
  dsimp only
  exact .ite h (.ite (.say h) (.say (hbody _ h)))

theorem State.ShutIn.pldm (h : s.ShutIn m) {ty cmd : Nat} {body : State → State × Nat × List Byte}
    (hbody : ∀ u1, u1.ShutIn m → (body u1).1.ShutIn m) : (s.pldm ty cmd body).ShutIn m := by
  unfold State.pldm
  dsimp only
  exact .ite h (.ite (.say h) (.say (hbody _ h)))

theorem State.ShutIn.execGetSensorReading (h : s.ShutIn m) {id : BitVec 16} : EndsShut m (execGetSensorReading id s) :=
  .next (.pldm h (fun _ h1 => by
      split
      · exact h1
      · exact h1))

theorem State.ShutIn.tap (h : s.ShutIn m) {ir : Nat} {bits : List Bool} : (s.tap ir bits).ShutIn m :=
  .emit (.update h)

theorem State.ShutIn.boundaryScan (h : s.ShutIn m) {ir : Nat} {levels : List (Pin × Bool)} {bits : List Bool} :
    (s.boundaryScan ir levels bits).ShutIn m :=
  .tap (.update h)

/-! ### A cycle

No core issues and no thread runs in a shut module, so what a cycle does is done by time, the boundary, repairs and tests. -/

theorem State.ShutIn.badHistory (h : s.ShutIn m) {d tensor : Nat} : (s.badHistory d tensor).ShutIn m :=
  .raise (.onDie h)

theorem State.ShutIn.upset (h : s.ShutIn m) {x1 : Upset} : (s.upset x1).ShutIn m := by
  unfold State.upset
  split
  · exact .onCore h
  · exact .onCore h
  · exact .count (.event h)
  · exact .raise (.setReg (.onCore h))
  · exact .count (.event h)
  · exact .raise (.onCore h)
  · exact .onCore h
  · exact .count (.event h)
  · exact .badHistory h

theorem State.ShutIn.watchPools (h : s.ShutIn m) : s.watchPools.ShutIn m :=
  .foldl (fun _ _ h1 => .when h1 fun h4 => .foldl (fun _ _ h2 => .when h2 fun h3 => .pfc h3) h4) h

theorem State.ShutIn.assignDies (h : s.ShutIn m) : s.assignDies.ShutIn m :=
  .foldl (fun _ _ h1 => .nextOr h1 h1.execSlotAssignment) h

theorem State.ShutIn.coreEnds (h : s.ShutIn m) {g : Nat} : (s.coreEnds g).ShutIn m := by
  unfold State.coreEnds
  dsimp only
  split
  · exact .unless (.onCore h) fun h2 => .finishTest h2
  · exact .onCore h

theorem State.ShutIn.coreCycle (h : s.ShutIn m) {g : Fin 384} : s.coreCycle g = s := by
  simp [State.coreCycle, h.live]

theorem State.ShutIn.threadsRun (h : s.ShutIn m) : s.threadsRun = false := by
  simp [State.threadsRun, h.notRunning]

theorem State.ShutIn.oneCore (h : s.ShutIn m) {g : Nat} : (s.oneCore g).ShutIn m := by
  have h1 : (s.coreEnds g).ShutIn m := .coreEnds h
  unfold State.oneCore
  split
  · simp only [h1.threadsRun, h1.coreCycle, Bool.false_eq_true, if_false]
    exact h1
  · exact h

theorem State.ShutIn.cycle (h : s.ShutIn m) : s.cycle.ShutIn m :=
  .foldl (fun _ _ h6 => .oneCore h6) (.watchPools (.assignDies (.settle (.reduce (.ite (.restartRun (.runStart (.atBoundary (.foldl
    (fun _ _ h2 => .upset h2) (.timePasses h))))) (.releaseDue (.foldl (fun _ _ h2 => .upset h2) (.timePasses h))))))))

theorem State.ShutIn.tick (h : s.ShutIn m) : s.tick.ShutIn m :=
  .ite (.together h (fun _ h1 => .cycle h1)) (.update h)

/-- The reset and the losses of the input (events 13 and 3 of R437). -/
def endsShut : Instr → Bool
  | .resetNRelease | .supplyReset | .overVoltage | .shortCircuit | .thermalTrip => true
  | _ => false

/-- No command but a reset and the losses of the input ends FENCED or RECOVERY. -/
theorem State.ShutIn.exec (h : s.ShutIn m) {i : Instr} (hi : endsShut i = false) : EndsShut m (Machine.exec i s) := by
  have hcore : EndsShut m (Machine.reissue i s) := h.reissue
  cases i with
  | rload | stream | twin | gopenClear | gclose | gcloseKeep | vld | vst | tmov | tfill | gopenLoad | cpost | vadd
  | vsub | vmul | vfma | vmin | vmax | vcmplt | vcmpeq | vsel | vand | vor | vxor | vbcast | vcvt | vcvts | vexp
  | vrcp | vrsqrt | vlog | vrsum | vrmax | vtopk | add | addi | sub | and | or | xor | shli | shri | srai | shlor
  | mul | divu | min | max | slt | ld | st | lw | sw | rdpm | geth | puth | beq | bne | blt | thalt | loop | seg
  | expect | tstart | stepend | halt => exact hcore
  | gcloseComplete => exact .next (.settle (.onCore h))
  | coreStallEnd => exact .next (.stallEnd h)
  | claimRelease | wakeComplete => exact .next (.ite (.settle (.onCore h)) h)
  | copy => exact h.execCopy
  | bank => exact h.execBank
  | bankRetain => exact .next (.ite (.onCore h) h)
  | tsUnscheduledWake => exact .next (.ite (.reachBank h) h)
  | tsUncorrectable => exact .next (.raise (.tally (.setReg (.onCore h))))
  | alloc => exact h.execAlloc
  | share => exact .next (.poolDone (.shareBuf h))
  | drop => exact .next (.poolDone (.ite h (.poolRefuse h)))
  | release => exact .next (.poolDone (.releaseBuf h))
  | admission | send | land | scatter => exact .next (.sortPost h)
  | slotAssignment => exact h.execSlotAssignment
  | landRelease => exact h.execLandRelease
  | matchKeys => exact h.execMatchKeys
  | write | fadd32 | iadd32 | iadd64 | fmin32 | fmax32 | bmin | bmax | imin32 | imax32 | imin64 | imax64 | cas64
  | exact => exact .next (.operate h)
  | load | response | mailbag | handover | count | report | hold | resume | probe | probeReply | risk | ack | credit =>
    exact .next (.arrive h)
  | bondUncorrectable => exact .next (.uncorrectable h)
  | channelInterfaceFailure => exact .next (.mapOut h)
  | pfcFrame | discardedFrame => exact .next (.left (by simp [h.fabric]) h)
  | neighbourSolicitation => exact .next (.ite (.advertise h) h)
  | arpRequest => exact .next (.ite (.arpReply h) h)
  | ackTimer | creditTimer | postUnreachable | class1Slot => exact .next (.right (by simp [h.fabric]) h)
  | retransmit => exact h.execRetransmit
  | deadLetter => exact h.execDeadLetter
  | transmitWindow | stepReport | spineLaneLost => exact .next (.right (by simp [h.notRunning]) h)
  | portBringup | portRetry => exact .next (.ite (.onPort h) h)
  | portBringupStepDone =>
    exact .next (.ite h (.ite (.onPort h) (.drain (.foldl (fun _ _ h2 => .advertise h2) (.sendEsmc (.onPort h))))))
  | portBringupFailed => exact .next (.ite h (.ite (.onPort h) (.raise (.onPort h))))
  | portLinkLost => exact .next (.ite (.raise (.tally (.count (.onPort h)))) h)
  | portDownLong => exact .next (.ite (.raise (.onPort h)) h)
  | portFecUncorrected => exact .next (.ite h (.raise (.count h)))
  | stepDecision => exact .next (.right (by simp [h.live, h.notRunning]) h)
  | decisionApply => exact h.execDecisionApply
  | boundaryBlockCapture => exact h.execBoundaryBlockCapture
  | inputSwitchClose | inputValid => exact .next (.right (by simp [h.notOff]) h)
  | supplyWarning => exact .next (.ite h (.raise (.tally (.count (.onPwr h)))))
  | flashGuard => exact .next (.ite (.onPwr h) h)
  | warningClear | currentLimitClear | tripLatchClear => exact .next (.onPwr h)
  | supplyReset | overVoltage | shortCircuit | resetNRelease | thermalTrip => cases hi
  | currentLimit => exact .next (.ite h (.raise (.count (.onPwr h))))
  | supplyPark => exact .next (.ite (.raise (.onPwr h)) h)
  | resetNLow => exact .next (.unless (.onPwr h) fun h2 => .raise h2)
  | railFault => exact .next (.ite (.raise (.update (.onPwr h))) h)
  | junctionWarning => exact .next (.ite (.tempWarning (.dieReads h)) h)
  | stackWarning => exact .next (.ite (.tempWarning (.stackReads h)) h)
  | temperatureWarningClear => exact .next (.setFld (.onPwr h))
  | junctionLimit => exact .next (.ite (.tempLimit (.dieReads h)) h)
  | stackLimit => exact .next (.ite (.tempLimit (.stackReads h)) h)
  | sensorFault => exact .next (.ite h (.when (.raise (.setFld (.onPwr h))) fun h3 => .refreshDouble h3))
  | refreshDoubled => exact .next (.ite (.refreshDouble h) h)
  | refreshNormal => exact .next (.ite h (.setDoubled h))
  | refreshWindow => exact .next (.ite (.tally (.event (.onDie h))) h)
  | marginScan => exact .next (.marginWrite h)
  | marginScanDone => exact h.execMarginScanDone
  | spineUncorrectable => exact .next (.ite (.raise (.tally (.poisonFlit h))) h)
  | hubLinkDown | aerUncorrectable => exact .next (.ite (.raise h) h)
  | ppsOutPulse => exact .next (.ite (.emit h) h)
  | ppsInEdge | ptpSync => exact .next (.ite (.phaseMeasured h) h)
  | esmc => exact .next (.ite (.refLost (.update h)) (.when (.update h) fun h2 => .sendEsmcs h2))
  | refLost => exact .next (.ite (.refLost h) h)
  | referencePresent => exact .next (.when (.ite h (.update h)) fun h2 => .dpllObey h2)
  | dpllLock => exact .next (.ite (.dpllObey (.setFld h)) h)
  | revert => exact .next (.ite (.holdover h) h)
  | holdoverAcquire => exact h.execHoldoverAcquire
  | synthUnlock => exact .next (.raise h)
  | halfAliveDead | halfAliveAlive => exact .next (.ite (.updateFw h) (.updateFw h))
  | frameBoundary =>
    exact .next (.ite (.together h (fun _ h1 => .atBoundary (.foldl (fun _ _ h2 => .slip h2) (.elapse h1)))) h)
  | healthEvaluation => exact h.execHealthEvaluation
  | mirrorComplete => exact h.execMirrorComplete
  | snapshotComplete => exact h.execSnapshotComplete
  | wear => exact .next (.wearCheck h)
  | snapFlashUncorrectable => exact .next (.raise (.tally (.update (.setFlashSlot h))))
  | bootPhaseEnd => exact .next (.phaseEnd h)
  | bootOverrun | bootLeaseTimeout => exact .next (.right (by simp [h.notBoot]) h)
  | watchdogExpiry | privateMemoryUncorrectable => exact .next (.ite (.restart h) h)
  | protectionViolation => exact .next (.ite (.ite (.raise (.setProc h)) (.restart h)) h)
  | restartComplete => exact h.execRestartComplete
  | restartOverrun => exact .next (.ite (.raise (.setProc h)) h)
  | fwRestart => exact .next (.fwRestart h)
  | leaseWord => exact .next (.ite (.updateFw h) h)
  | leaseWordReceive => exact h.execLeaseWordReceive
  | leaseAckReceive => exact h.execLeaseAckReceive
  | leaseExpiry => exact .next (.leaseOut h)
  | leaseUnanswered => exact .next (.ite h (.ite (.raise (.updateFw h)) (.raise (.updateFw h))))
  | hostAbsent => exact .next (.ite (.withdrawOutbound (.raise (.record (.updateFw h)))) h)
  | heartbeatBump => exact h.execHeartbeatBump
  | log => exact h.execLog
  | trace => exact h.execTrace
  | testWindow => exact h.execTestWindow
  | testAbort => exact .next (.ite (.cutTest h) h)
  | backgroundTest => exact .next (.ite (.onCore (.finishTest h)) h)
  | repairAppend => exact h.execRepairAppend
  | negotiate =>
    exact .next (.startLetter h (fun _ h1 => .answer (.update (.foldl (fun _ _ h4 => .setReg (.setReg h4)) h1))))
  | recoverReq =>
    exact .next (.startLetter h (fun _ h1 => .unless h1 fun h2 => .answer (.appendCounter (.update h2))))
  | update | join | run | microbatch | restore | releaseLetter | drainBuffers | fill =>
    exact .next (.startLetter_refused h)
  | imageLoad => exact h.execImageLoad
  | postmarkLoad | probeTransmit => exact .next (.right (by simp [h.notReady]) h)
  | joinStepDone => exact .next (.left (by simp [h.notReady]) h)
  | joinTimeout => exact h.execJoinTimeout
  | imageRunStart => exact .next (.runStart h)
  | liveWordWrite => exact h.execLiveWordWrite
  | restart => exact .next (.restartRun h)
  | drainPart => exact h.execDrainPart
  | drainPartAnswer => exact .next (.ite (.collectOutbound h) h)
  | attest => exact h.execAttest
  | slotStateWrite => exact .next (.ite (.slotStateWrite h) h)
  | sequenceClear => exact h.execSequenceClear
  | snapSel => exact .next (.ite (.snapSel h) h)
  | snapCapture => exact .next (.snapCapture h)
  | registerWrite => exact .next (.bar0Write h)
  | bar2Write => exact .next (.ite h (.right (by simp [h.notReady, h.notParked]) (.winRefused h)))
  | endpointReset => exact h.execEndpointReset
  | holdReq => exact .next (.holdReq h)
  | resumeReq => exact .next (.resumeReq h)
  | parkReq => exact .next (.parkReq h)
  | holdLimit => exact .next (.holdLimit h)
  | resumeReady => exact .next (.resumeReady h)
  | parkEntry => exact .next (.parkEntry h)
  | info => exact .next (.recoveryLetter h (fun _ h1 => .answer h1))
  | erase =>
    exact .next (.ite h (.recoveryLetter h (fun _ h1 => .ite (.answer h1) (.answer (.update (.flashErase h1))))))
  | recoveryWrite => exact h.execRecoveryWrite
  | commit => exact h.execCommit
  | enroll => exact h.execEnroll
  | getState => exact .next (.vendor h (fun _ h1 => h1))
  | getFaults => exact h.execGetFaults
  | park => exact h.execPark
  | setEndpointId => exact .next (.mctp h (fun _ h1 => .unlessFst h1 fun h2 => .pair (.update h2)))
  | getEndpointId | getMessageTypeSupport => exact .next (.mctp h (fun _ h1 => h1))
  | getMctpVersionSupport => exact .next (.mctp h (fun _ h1 => .iteFst h1 h1))
  | getTid | getPldmTypes | getPdrRepositoryInfo | getPdr => exact .next (.pldm h (fun _ h1 => h1))
  | setTid => exact .next (.pldm h (fun _ h1 => .unlessFst h1 fun h2 => .pair (.setFld h2)))
  | getPldmVersion | getStateSensorReadings => exact .next (.pldm h (fun _ h1 => .iteFst h1 h1))
  | getPldmCommands => exact .next (.pldm h (fun _ h1 => .unlessFst h1 fun h2 => .iteFst h2 h2))
  | getSensorReading => exact h.execGetSensorReading
  | bypass | idcode => exact .next (.right (by simp [h.notOff]) (.tap h))
  | samplePreload => exact .next (.right (by simp [h.notOff]) (.boundaryScan h))
  | extest => exact .next (.right (by simp [h.notOff]) (.right (by simp [h.notStandby]) (.tap h)))

/-- A step from FENCED or RECOVERY whose command is no reset and no loss of the input stays there. -/
theorem State.ShutIn.step (h : s.ShutIn m) (hi : ∀ i, s.front = some i → endsShut i = false) : EndsShut m (Machine.step s) := by
  unfold Machine.step
  cases hp : s.pending with
  | nil => exact .next (.tick h)
  | cons c r => exact State.ShutIn.exec (.update h) (hi c (by simp [State.front, hp]))

/-! ### The reset and the loss of the input -/

theorem Fw.atBoot_mod {f : Fw} {cold : Bool} {prev : Mod} {ev now : Nat} : (f.atBoot cold prev ev now).mod = .boot := by
  unfold Fw.atBoot
  split <;> rfl

theorem State.enterBoot_mod {ev : Nat} : (s.enterBoot ev).mod = .boot := by
  unfold State.enterBoot
  extract_lets cold kind _ _ _ causes
  have hbooks : causes.Keeps ((if cold then causes else (causes.record 2 0xFF 0 0 ev).signal 32).emit (.uart 2 ev)) :=
    .emit (.ite .refl (.signal (.record .refl)))
  exact hbooks.mod.trans Fw.atBoot_mod

theorem State.inputLost_mod : s.inputLost.mod = .off := by
  unfold State.inputLost
  split
  · assumption
  · rfl

/-- From FENCED or RECOVERY the release of RESET_N enters BOOT after a low, and changes no state without one (R437). -/
theorem State.ShutIn.execResetNRelease (h : s.ShutIn m) (e : Machine.execResetNRelease s = .next t) :
    t.mod = m ∨ (t.mod = .boot ∧ s.pwr.resetLow = true) := by
  obtain rfl := Host.Outcome.next.inj e
  have hreset : (s.onPwr fun p => { p with resetLow := false }).ShutIn m := .onPwr h
  generalize (s.onPwr fun p => { p with resetLow := false }) = u at hreset
  dsimp only
  rw [if_neg hreset.notStandby]
  split
  · next hlow => exact .inr ⟨State.enterBoot_mod, hlow.1⟩
  · exact .inl hreset.mod

/-- The loss of the input switches the module off (event 3 of R437). -/
theorem openSwitch_mod {latch : Bool} : (s.openSwitch latch).mod = .off := State.inputLost_mod

theorem mod_of_next {u : State} {x : Mod} (e : (.next u : Ans) = .next t) (hu : u.mod = x) : t.mod = x :=
  Host.Outcome.next.inj e ▸ hu

/-- Settles O45: every operation of the model keeps FENCED and RECOVERY (`State.ShutIn`), but for the reset and the loss of the input. -/
theorem shutStays : Obligations.ShutStays := by
  intro s t hstep hshut
  have h : s.ShutIn s.mod := ⟨rfl, hshut⟩
  by_cases hend : ∃ i, s.front = some i ∧ endsShut i = true
  · obtain ⟨i, hi, hends⟩ := hend
    obtain ⟨r, hr⟩ : ∃ r, s.pending = i :: r := List.head?_eq_some_iff.mp hi
    simp only [Machine.step, hr] at hstep
    cases i <;> simp only [endsShut, Bool.false_eq_true] at hends
    case resetNRelease =>
      have hpop : ({ s with pending := r } : State).ShutIn s.mod := .update h
      obtain hstay | hboot := hpop.execResetNRelease hstep
      · exact .inl hstay
      · exact .inr (.inl ⟨hboot.1, hi, hboot.2⟩)
    case supplyReset => exact .inr (.inr ⟨mod_of_next hstep State.inputLost_mod, .inl hi⟩)
    case overVoltage => exact .inr (.inr ⟨mod_of_next hstep openSwitch_mod, .inr (.inl hi)⟩)
    case shortCircuit => exact .inr (.inr ⟨mod_of_next hstep openSwitch_mod, .inr (.inr (.inl hi))⟩)
    case thermalTrip => exact .inr (.inr ⟨mod_of_next hstep openSwitch_mod, .inr (.inr (.inr hi))⟩)
  · have hstay := h.step fun i hi => Bool.eq_false_iff.mpr fun he => hend ⟨i, hi, he⟩
    rw [hstep] at hstay
    exact .inl hstay.mod

end Sys2Proof.Machine
end

section
/-!
Commands go on (R62, R83): the answer of each command of the model, and the settling of O58.
-/
namespace Sys2Proof.Machine

/-- The answer is a refusal as ill-formed where `stops` holds, and goes on elsewhere. -/
def AnswersBy (stops : Prop) (a : Ans) : Prop :=
  (stops → ∃ name, a = .refused (.illFormed name)) ∧ (¬ stops → ∃ t, a = .next t)

variable {stops : Prop} {s t : State} {name : String}

theorem AnswersBy.next (h : ¬ stops) : AnswersBy stops (.next t) := ⟨fun hs => absurd hs h, fun _ => ⟨t, rfl⟩⟩

theorem AnswersBy.illegal (h : stops) : AnswersBy stops (illegal name) := ⟨fun _ => ⟨name, rfl⟩, fun hs => absurd h hs⟩

theorem AnswersBy.illegalIf {c : Prop} {_ : Decidable c} (h : stops ↔ c) : AnswersBy stops (if c then Machine.illegal name else .next t) := by
  split
  · next hc => exact .illegal (h.mpr hc)
  · next hc => exact .next (mt h.mp hc)

theorem AnswersBy.nextIf {c : Prop} {_ : Decidable c} (h : stops ↔ ¬ c) : AnswersBy stops (if c then .next t else Machine.illegal name) := by
  split
  · next hc => exact .next fun hs => h.mp hs hc
  · next hc => exact .illegal (h.mpr hc)

/-- A format's code that names none, or one that the instruction may not name, stops it (R83). -/
theorem AnswersBy.withFmt {code : Nat} {ok : Bool} {f : FmtInfo → State} (h : stops ↔ s.fmt code = none ∨ ok = false) :
    AnswersBy stops (withFmt s name code ok f) := by
  unfold Machine.withFmt
  split
  · next hf =>
    refine .nextIf (h.trans ?_)
    simp [hf]
  · next hf => exact .illegal (h.mpr (.inl hf))

/-- The codes of the array slots are those of the image check (R83). -/
theorem arrayCode_eq_operandCode (code : Nat) : arrayCode code = operandCode code := rfl

/-- A TMOV that transposes may name no format with a scale. -/
theorem AnswersBy.tmov {g : Fin 384} {fmt : Fin 16} {addr : Fin 32768} {xa xc : Fin 32} {tr : Bool}
    (h : stops ↔ s.fmt fmt = none ∨ (tr = true ∧ ∃ t, s.fmt fmt = some t ∧ t.hasScale = true)) :
    AnswersBy stops (execTmov g fmt addr xa xc tr s) := by
  unfold execTmov
  split
  · next hf =>
    refine .illegalIf (h.trans ?_)
    simp [hf]
  · next hf => exact .illegal (h.mpr (.inl hf))

theorem le_one_eq (fmt : Fin 16) : decide (fmt.val ≤ 1) = (fmt.val == 0 || fmt.val == 1) := by
  revert fmt
  decide

/-- Settles O58, by the form of each command's answer: each `simp` shows that `stops` is, for that command, what its answer tests. -/
theorem commandsGoOn : Obligations.CommandsGoOn := by
  intro i s none' stops
  suffices AnswersBy stops (exec i s) from this
  cases i with
  | rload | stream => exact .withFmt (by simp [stops, none', Instr.wellFormed, arrayCode_eq_operandCode, State.adesc])
  | gclose => exact .withFmt (by simp [stops, none', Instr.wellFormed, State.adesc])
  | vld => exact .withFmt (by simp [stops, none', Instr.wellFormed])
  | tfill => exact .withFmt (by simp [stops, none', Instr.wellFormed, arrayCode_eq_operandCode, or_comm])
  | gopenLoad => exact .withFmt (by simp only [stops, none', Instr.wellFormed, le_one_eq, or_comm])
  | vcvts => exact .withFmt (by simp only [stops, none', Instr.wellFormed, or_comm])
  | tmov => exact .tmov (by simp [stops, none', Instr.wellFormed])
  | vst => exact .nextIf (by simp [stops, Instr.wellFormed, and_assoc])
  | geth => exact .nextIf (by simp [stops, Instr.wellFormed, handOff])
  | vtopk | puth | thalt | beq | bne | blt | tstart | loop | expect => exact .illegalIf (by simp [stops, Instr.wellFormed])
  | seg => exact .nextIf (by simp [stops, Instr.wellFormed])
  | _ => exact .next (by simp [stops, Instr.wellFormed])

end Sys2Proof.Machine
end

section
/-!
The references and the timing DPLL (ch. 1, 13): what a field of a register reads after a write, what each operation of the DPLL leaves in
each of its states, and the settling of O40.
-/
namespace Sys2Proof.Machine

variable {s : State}

/-! ## Fields of registers -/

theorem bits_mod_two_pow_32 {v hi lo : Nat} (hlo : lo ≤ hi) (hhi : hi < 32) : bits (v % 2 ^ 32) hi lo = bits v hi lo := by
  have hsplit : 2 ^ 32 = 2 ^ lo * (2 ^ (hi + 1 - lo) * 2 ^ (31 - hi)) := by
    rw [← pow_add, ← pow_add]
    congr 1
    omega
  rw [bits, hsplit, Nat.mod_mul_right_div_self, Nat.mod_mul_right_mod, bits]

theorem bits_putBits {v hi lo x : Nat} : bits (putBits v hi lo x) hi lo = x % 2 ^ (hi + 1 - lo) := by
  unfold putBits bits
  generalize 2 ^ (hi + 1 - lo) = k
  have hw : 0 < 2 ^ lo := Nat.two_pow_pos lo
  generalize 2 ^ lo = w at hw
  have hv : v = (w * (k * (v / w / k)) + v % w) + v / w % k * w := by
    conv_lhs => rw [← Nat.div_add_mod v w, ← Nat.div_add_mod (v / w) k]
    ring
  have hcut : v - v / w % k * w = w * (k * (v / w / k)) + v % w := Nat.sub_eq_of_eq_add hv
  have hdiv : (w * (k * (v / w / k)) + v % w + x % k * w) / w = k * (v / w / k) + x % k := by
    rw [show w * (k * (v / w / k)) + v % w + x % k * w = v % w + w * (k * (v / w / k) + x % k) by ring,
      Nat.add_mul_div_left _ _ hw, Nat.div_eq_of_lt (Nat.mod_lt _ hw), Nat.zero_add]
  rw [hcut, hdiv, Nat.mul_add_mod, Nat.mod_mod]

/-- A field reads back what was written to it. -/
theorem State.fld_setFld {off hi lo x : Nat} (hlo : lo ≤ hi) (hhi : hi < 32) :
    (s.setFld off hi lo x).fld off hi lo = x % 2 ^ (hi + 1 - lo) := by
  rw [State.fld, State.setFld, State.reg_setReg, bits_mod_two_pow_32 hlo hhi, bits_putBits]

theorem State.fld_setFld_ne {off p hi lo x hi' lo' : Nat} (h : p ≠ off) : (s.setFld off hi lo x).fld p hi' lo' = s.fld p hi' lo' := by
  rw [State.fld, State.setFld, State.reg_setReg_ne s _ h, State.fld]

/-! ## The fields of the DPLL -/

theorem dpllCtl_ne_dpllStat {h : Nat} : dpllCtl h ≠ dpllStat h := by
  have hstride : Reg.stride Reg.TIME_DPLL_CTL = Reg.stride Reg.TIME_DPLL_STAT := by decide
  rw [dpllCtl, dpllStat, Reg.at, Reg.at, hstride]
  exact fun h => absurd (Nat.add_right_cancel h) (by decide)

/-- STATE of `TIME.DPLL_STAT` set. -/
def State.setDpll (s : State) (x : Nat) : State := s.setFld (dpllStat s.hub) 2 0 x

theorem State.dpll_setDpll {x : Nat} (hx : x < 8) : (s.setDpll x).dpll = x :=
  (State.fld_setFld (by decide) (by decide)).trans (Nat.mod_eq_of_lt hx)

theorem State.dpllMode_setDpll {x : Nat} : (s.setDpll x).dpllMode = s.dpllMode :=
  congrArg (Nat.min 2) (State.fld_setFld_ne dpllCtl_ne_dpllStat)

/-! ## Phase measurements (R34) -/

theorem State.phaseMeasured_within {ps : Int} (h : ps.natAbs ≤ 4000) :
    s.phaseMeasured ps = { s.setReg (Reg.at Reg.TIME_PHASE_ERR s.hub) (unsigned 32 ps) with
      time := { s.time with phaseBad := 0, phaseGood := s.time.phaseGood + 1 } } :=
  if_neg (Nat.not_lt.mpr h)

/-- A measurement beyond the limit, before its fault. -/
def State.phaseBeyond (s : State) (ps : Int) : State :=
  { s.setReg (Reg.at Reg.TIME_PHASE_ERR s.hub) (unsigned 32 ps) with time := { s.time with phaseBad := s.time.phaseBad + 1, phaseGood := 0 } }

theorem State.phaseMeasured_beyond {ps : Int} (h : 4000 < ps.natAbs) :
    s.phaseMeasured ps = if s.time.phaseBad + 1 = 8 then (s.phaseBeyond ps).raise 0x7004 s.hub else s.phaseBeyond ps :=
  if_pos h

/-! ## References (R30–R32, R313) -/

theorem execEsmc_no_loss {port ql : Nat} (h : ql ≠ 15 ∨ 8 + port ∉ s.time.present) :
    execEsmc port ql s =
      let t : State := { s with time := { s.time with esmc := Map.set 0 s.time.esmc port ql } }
      .next (if s.activeRef = 8 + port then t.sendEsmcs else t) := by
  have hkept : ¬ (ql = 15 ∧ s.time.present.contains (8 + port) = true) := fun ⟨hdnu, hpresent⟩ =>
    h.elim (· hdnu) (· (List.contains_iff_mem.mp hpresent))
  exact congrArg Host.Outcome.next (if_neg hkept)

theorem execEsmc_dnu {port : Nat} (h : 8 + port ∈ s.time.present) :
    execEsmc port 15 s = .next (({ s with time := { s.time with esmc := Map.set 0 s.time.esmc port 15 } } : State).refLost (8 + port)) :=
  congrArg Host.Outcome.next (if_pos ⟨rfl, List.contains_iff_mem.mpr h⟩)

theorem execRefLost_present {r : Nat} (h : r ∈ s.time.present) : execRefLost r s = .next (s.refLost r) :=
  congrArg Host.Outcome.next (if_pos (List.contains_iff_mem.mpr h))

theorem execRefLost_absent {r : Nat} (h : r ∉ s.time.present) : execRefLost r s = .next s :=
  congrArg Host.Outcome.next (if_neg (mt List.contains_iff_mem.mp h))

/-- The loss of a reference that is neither active nor listed. -/
theorem State.refLost_idle {r : Nat} (ha : s.activeRef ≠ r) (hp : r ∉ s.refPrio) :
    s.refLost r = { s with time := { s.time with present := s.time.present.filter (· != r) } } := by
  unfold State.refLost
  extract_lets _ t u
  have hu : u = t := if_neg (mt List.contains_iff_mem.mp hp)
  rw [hu]
  exact if_pos ha

theorem execReferencePresent_new {r : Nat} (h : r ∉ s.time.present) (hd : s.dpll ≠ 0) :
    execReferencePresent r s = .next { s with time := { s.time with
      present := s.time.present ++ [r], presentAt := Map.set 0 s.time.presentAt r s.now } } := by
  have habsent : ¬ s.time.present.contains r = true := mt List.contains_iff_mem.mp h
  unfold execReferencePresent
  rw [if_neg habsent]
  exact congrArg Host.Outcome.next (if_neg fun hfree => hd hfree.2)

theorem execReferencePresent_known {r : Nat} (h : r ∈ s.time.present) (hd : s.dpllMode ≠ 1 ∨ s.dpll ≠ 0) :
    execReferencePresent r s = .next s := by
  unfold execReferencePresent
  rw [if_pos (List.contains_iff_mem.mpr h), if_neg (not_and_or.mpr hd)]

/-- A reference counts as steady after 600,000,000 cycles of presence (R31, log 101). -/
theorem State.steady_iff {r : Nat} : s.steady r = true ↔ r ∈ s.time.present ∧ Map.get 0 s.time.presentAt r + 600000000 ≤ s.now := by
  rw [State.steady, Bool.and_eq_true, List.contains_iff_mem, decide_eq_true_iff, ms]

/-! ## The states of the DPLL (R31) -/

theorem execDpllLock_acquire (h : s.dpll = 1) : execDpllLock s = .next (s.setDpll 2).dpllObey := congrArg Host.Outcome.next (if_pos h)

theorem execDpllLock_other (h : s.dpll ≠ 1) : execDpllLock s = .next s := congrArg Host.Outcome.next (if_neg h)

theorem State.dpllObey_free (hm : s.dpllMode = 0) (hd : s.dpll ≠ 4) : s.dpllObey = s.setDpll 0 := by
  rw [State.dpllObey, if_pos hm, if_neg hd, State.setDpll]

theorem State.dpllObey_auto (hm : s.dpllMode = 1) (hd : s.dpll ≠ 0) : s.dpllObey = s := by
  rw [State.dpllObey, if_neg (by omega), if_pos hm, if_neg hd]

theorem State.dpllObey_forced (hm : s.dpllMode = 2) (hd : s.dpll = 2) : s.dpllObey = s.holdover := by
  rw [State.dpllObey, if_neg (by omega), if_neg (by omega), if_pos hd]

theorem execRevert_higher (hd : s.dpll = 2) (hr : s.fld (dpllCtl s.hub) 2 2 = 1)
    (h : ∃ x ∈ s.refPrio.takeWhile (· != s.activeRef), s.steady x = true) : execRevert s = .next s.holdover :=
  congrArg Host.Outcome.next (if_pos ⟨hd, hr, List.any_eq_true.mpr h⟩)

theorem execRevert_stays (h : s.dpll ≠ 2 ∨ ∀ x ∈ s.refPrio.takeWhile (· != s.activeRef), ¬ s.steady x = true) : execRevert s = .next s := by
  have hstays : ¬ (s.dpll = 2 ∧ s.fld (dpllCtl s.hub) 2 2 = 1 ∧ (s.refPrio.takeWhile (· != s.activeRef)).any s.steady = true) := by
    rintro ⟨hd, -, hany⟩
    obtain ⟨x, hx, hsteady⟩ := List.any_eq_true.mp hany
    exact h.elim (· hd) (· x hx hsteady)
  exact congrArg Host.Outcome.next (if_neg hstays)

/-- ACQUIRE on reference `r`, before a change of the active reference is told. -/
def State.acquiring (s : State) (r : Nat) : State :=
  (({ s with time := { s.time with lossSwitch := false } } : State).setDpll 1).setFld (dpllStat s.hub) 11 8 r

theorem State.acquire_same {r : Nat} (h : s.activeRef = r) : s.acquire r = s.acquiring r := if_neg (not_not_intro h)

theorem State.acquire_other {r : Nat} (h : s.activeRef ≠ r) : s.acquire r = ((s.acquiring r).event (dpllStat s.hub) 17).sendEsmcs := if_pos h

theorem State.find_steady {hi lo : List Nat} {b : Nat} (hp : s.refPrio = hi ++ b :: lo) (hb : s.steady b = true)
    (hhi : ∀ x ∈ hi, ¬ s.steady x = true) : s.refPrio.find? s.steady = some b :=
  List.find?_eq_some_iff_append.mpr ⟨hb, hi, lo, hp, by simpa using hhi⟩

theorem execHoldoverAcquire_found {b : Nat} (hd : s.dpll = 3) (hm : s.dpllMode = 1) (hb : s.refPrio.find? s.steady = some b) :
    execHoldoverAcquire s =
      .next (if s.time.lossSwitch ∧ s.activeRef ≠ b then (s.acquire b).raise 0x7001 s.hub else s.acquire b) := by
  rw [execHoldoverAcquire, if_pos ⟨hd, hm⟩, hb]

theorem execHoldoverAcquire_none (h : s.refPrio.find? s.steady = none) : execHoldoverAcquire s = .next s := by
  rw [execHoldoverAcquire, h, ite_self]

theorem execHoldoverAcquire_other (h : s.dpll ≠ 3) : execHoldoverAcquire s = .next s :=
  congrArg Host.Outcome.next (if_neg fun hd => h hd.1)

/-- Settles O40 (with the readings of log 101): each command by the lemma of its case. -/
theorem clocking : Obligations.Clocking := by
  intro r port ql ps s stat present steady measured
  have hsteady : ∀ x, s.steady x = true ↔ steady x := fun _ => State.steady_iff
  refine ⟨rfl, ?ptpRunning, ?ptpStopped, ?phase, ?esmc, execEsmc_dnu, execRefLost_absent, ?idleLost, execRefLost_present,
    execReferencePresent_new, execReferencePresent_known, ?lockAuto, ?lockForced, ?lockFree, execDpllLock_other, ?revert, ?noRevert,
    ?acquire, ?noneSteady, execHoldoverAcquire_other, rfl, rfl, rfl, rfl, rfl⟩
  case ptpRunning =>
    intro hrun
    exact congrArg Host.Outcome.next (if_congr (and_iff_left hrun) rfl rfl)
  case ptpStopped => exact fun hstop => congrArg Host.Outcome.next (if_neg fun h => hstop h.2)
  case phase =>
    refine ⟨State.phaseMeasured_within, fun hps hbad => ?_, fun hps hbad => ?_⟩
    · rw [State.phaseMeasured_beyond hps, if_neg (by omega), State.phaseBeyond]
    · rw [State.phaseMeasured_beyond hps, if_pos (by omega), State.phaseBeyond, hbad]
  case esmc =>
    intro hkept t
    have hexec : exec (.esmc port ql) s = .next (if s.activeRef = 8 + port.val then t.sendEsmcs else t) := execEsmc_no_loss hkept
    exact ⟨fun hother => by rw [hexec, if_neg hother], fun hactive => by rw [hexec, if_pos hactive]⟩
  case idleLost =>
    intro hpresent hother hunlisted
    exact (execRefLost_present hpresent).trans (congrArg Host.Outcome.next (State.refLost_idle hother hunlisted))
  case lockAuto =>
    intro hd hm
    have hobey : (s.setDpll 2).dpllObey = s.setDpll 2 :=
      State.dpllObey_auto (State.dpllMode_setDpll.trans hm) (by rw [State.dpll_setDpll (by decide)]; decide)
    exact (execDpllLock_acquire hd).trans (congrArg Host.Outcome.next hobey)
  case lockForced =>
    intro hd hm
    have hobey : (s.setDpll 2).dpllObey = (s.setDpll 2).holdover :=
      State.dpllObey_forced (State.dpllMode_setDpll.trans hm) (State.dpll_setDpll (by decide))
    exact (execDpllLock_acquire hd).trans (congrArg Host.Outcome.next hobey)
  case lockFree =>
    intro hd hm
    have hobey : (s.setDpll 2).dpllObey = (s.setDpll 2).setDpll 0 :=
      State.dpllObey_free (State.dpllMode_setDpll.trans hm) (by rw [State.dpll_setDpll (by decide)]; decide)
    exact (execDpllLock_acquire hd).trans (congrArg Host.Outcome.next hobey)
  case revert =>
    intro hd hr hhigher
    exact execRevert_higher hd hr (by simpa only [hsteady] using hhigher)
  case noRevert =>
    intro hstays
    exact execRevert_stays (by simpa only [hsteady] using hstays)
  case acquire =>
    intro hd hm hi lo b hp hb hhi t u
    have hfind : s.refPrio.find? s.steady = some b :=
      State.find_steady hp ((hsteady b).mpr hb) fun x hx => mt (hsteady x).mp (hhi x hx)
    have hexec := execHoldoverAcquire_found hd hm hfind
    refine ⟨fun hsame => hexec.trans ?_, fun hother hloss => hexec.trans ?_, fun hother hloss => hexec.trans ?_⟩
    · rw [if_neg fun h => h.2 hsame, State.acquire_same hsame]
      rfl
    · rw [if_neg (by simp [hloss]), State.acquire_other hother]
      rfl
    · rw [if_pos ⟨hloss, hother⟩, State.acquire_other hother]
      rfl
  case noneSteady =>
    intro _ hnone
    exact execHoldoverAcquire_none (List.find?_eq_none.mpr fun x hx => mt (hsteady x).mp (hnone x hx))

end Sys2Proof.Machine
end

section
/-!
Time and the frame boundary (ch. 1), the evaluation of the health monitor (ch. 13): what passing time and slips of the postmark's copies
leave, and the settling of O41.
-/
namespace Sys2Proof.Machine

variable {s : State}

/-! ## Time (R35, R36) -/

theorem State.reduce_time {n : Nat} : (s.reduce n).time = s.time := by
  refine foldl_keeps (·.time = s.time) _ (fun t d h => ?_) _ s rfl
  split <;> exact h

theorem State.reduce_now {n : Nat} : (s.reduce n).now = s.now := by
  refine foldl_keeps (·.now = s.now) _ (fun t d h => ?_) _ s rfl
  split <;> exact h

/-- `n` cycles passed, before the registers count them. -/
def State.passed (s : State) (n : Nat) : State :=
  { s with now := s.now + n
           time := { s.time with pm := (s.time.pm + n) % 2 ^ 64, sched := if s.mod = .running then s.time.sched + n else s.time.sched } }

theorem State.Keeps.now {t : State} (h : s.Keeps t) : t.now = s.now := congrArg (·.now) h
theorem State.Keeps.time {t : State} (h : s.Keeps t) : t.time = s.time := congrArg (·.time) h
theorem State.Keeps.count64 {t : State} (h : s.Keeps t) {off n : Nat} : s.Keeps (t.count64 off n) := h.setReg.setReg

/-- The cycles under a brake and the input energy are counted in registers alone. -/
theorem State.timePasses_keeps {n : Nat} : (s.passed n).Keeps (s.timePasses n) := by
  have hbrake : (s.passed n).Keeps (if s.brake = 0 then s.passed n else (s.passed n).count64 Reg.PWR_BRAKE_LO n) := .ite .refl (.count64 .refl)
  exact .ite hbrake hbrake.count64

theorem State.elapse_time {n : Nat} : (s.elapse n).time =
    { s.time with pm := (s.time.pm + n) % 2 ^ 64, sched := if s.mod = .running then s.time.sched + n else s.time.sched } :=
  State.reduce_time.trans State.timePasses_keeps.time

theorem State.elapse_now {n : Nat} : (s.elapse n).now = s.now + n := State.reduce_now.trans State.timePasses_keeps.now

/-- A slip of a copy moves neither the master nor schedule time. -/
theorem State.slips_pm {slips : List (Fin 6 × Nat)} : (slips.foldl State.slip s).time.pm = s.time.pm :=
  foldl_keeps (fun t : State => t.time.pm = s.time.pm) State.slip (fun _ _ h => h) slips s rfl

theorem State.slips_sched {slips : List (Fin 6 × Nat)} : (slips.foldl State.slip s).time.sched = s.time.sched :=
  foldl_keeps (fun t : State => t.time.sched = s.time.sched) State.slip (fun _ _ h => h) slips s rfl

theorem State.slips_now {slips : List (Fin 6 × Nat)} : (slips.foldl State.slip s).now = s.now :=
  foldl_keeps (fun t : State => t.now = s.now) State.slip (fun _ _ h => h) slips s rfl

/-- The rest of a frame leads to the next frame's first cycle. -/
theorem add_rest_of_frame (pm : Nat) : pm + (65536 - pm % 65536) = pm / 65536 * 65536 + 65536 := by omega

/-! ## The frame boundary (R8, R38) -/

theorem State.together_of_gather_none {f : State → State} (h : s.gather = none) :
    s.together f = ({ f { s with gather := some [] } with gather := none } : State).raiseNow ((f { s with gather := some [] }).gather.getD []) := by
  rw [State.together, h]

theorem execFrameBoundary_powered {slips : List (Fin 6 × Nat)} (h : s.powered = true) : execFrameBoundary slips s =
    .next (s.together fun s => (slips.foldl State.slip (s.elapse (65536 - s.pm % 65536))).atBoundary) :=
  congrArg Host.Outcome.next (if_pos h)

theorem execFrameBoundary_unpowered {slips : List (Fin 6 × Nat)} (h : s.powered = false) : execFrameBoundary slips s = .next s :=
  congrArg Host.Outcome.next (if_neg (Bool.eq_false_iff.mp h))

/-! ## The health monitor (R397, R399) -/

/-- The evaluation of the sixteen inputs of a sample. -/
def State.evaluated (s : State) (m : Sample) : State := (List.range 16).foldl (State.evalInput m) (s.sampled m).wearCheck

/-- The sum of the sixteen inputs' risk points. -/
def State.pointSum (s : State) : Nat := ((List.range 16).map fun i => Map.get 0 s.hlt.points i).sum

theorem State.foldl_points : (List.range 16).foldl (fun n i => n + Map.get 0 s.hlt.points i) 0 = s.pointSum := by
  rw [State.pointSum, List.sum_eq_foldl, List.foldl_map]

/-- The due mark and the period's counts cleared. -/
def State.closePeriod (s : State) : State := s.onHlt fun h => { h with due := false, tally := [], sinceLetter := h.sinceLetter + 1 }

/-- An evaluation with its score, before a RISK letter. -/
def State.scored (s : State) (m : Sample) : State :=
  (s.evaluated m).closePeriod.setScore
    (if (s.evaluated m).closePeriod.fld Reg.HLT_CTL 0 0 = 1 then Nat.min 255 (s.evaluated m).pointSum else 0)

theorem execHealthEvaluation_idle {m : Sample} (h : s.hlt.due = false) : execHealthEvaluation m s = .next s :=
  congrArg Host.Outcome.next (if_pos (by rw [h]; rfl))

theorem execHealthEvaluation_due {m : Sample} (h : s.hlt.due = true) : execHealthEvaluation m s =
    let v := s.scored m
    .next (if v.dom.joined && v.fabric && v.riskLetterDue then (v.sendRisk false 0 0).1.seqFull (v.sendRisk false 0 0).2 else v) := by
  rw [execHealthEvaluation, if_neg (by simp [h])]
  dsimp only
  rw [State.scored, ← State.foldl_points]
  rfl

/-- Settles O41 (with the readings of logs 56, 57 and 116): the boundary by its shape and what passes of time, the evaluation by its score. -/
theorem frames : Obligations.Frames := by
  refine ⟨?boundary, fun _ _ => execFrameBoundary_unpowered, fun _ _ => execHealthEvaluation_idle, ?evaluation⟩
  case boundary =>
    intro slips s hp t boundary'
    refine ⟨fun hg => ⟨_, rfl, ?_⟩, ?pm, ?now, ?sched⟩
    · exact (execFrameBoundary_powered hp).trans (congrArg Host.Outcome.next (State.together_of_gather_none hg))
    case pm => rw [State.slips_pm, State.elapse_time, add_rest_of_frame]
    case now => rw [State.slips_now, State.elapse_now]
    case sched => rw [State.slips_sched, State.elapse_time]
  case evaluation =>
    intro m s hdue t sum u v
    have hexec : exec (.healthEvaluation m) s =
        .next (if v.dom.joined && v.fabric && v.riskLetterDue then (v.sendRisk false 0 0).1.seqFull (v.sendRisk false 0 0).2 else v) :=
      execHealthEvaluation_due hdue
    refine ⟨fun hquiet => ?_, fun hletter => ?_⟩
    · rw [hexec, hquiet]
      rfl
    · rw [hexec, hletter]
      rfl

end Sys2Proof.Machine
end

section
/-!
The array slots of a core (ch. 2): how their instructions are issued, the tiles they read, the groups, and resident loads with the settling
of O15.
-/
namespace Sys2Proof.Machine

variable {s : State} {c : Core} {e : Env}

/-! ## Formats, issue and the core's own stream -/

/-- An instruction whose format's code stands for one that it may name is carried out (R83, R85). -/
theorem withFmt_some {name : String} {code : Nat} {t : FmtInfo} {ok : Bool} {f : FmtInfo → State} (ht : s.fmt code = some t) (hok : ok = true) :
    withFmt s name code ok f = .next (f t) := by
  rw [withFmt, ht]
  exact if_pos hok

theorem arrayCode_iff {code : Nat} : arrayCode code = true ↔ code ≤ 6 ∨ 10 ≤ code := by simp [arrayCode]

/-- A check that holds does not refuse. -/
theorem check_passes {b : Bool} (h : b = true) : ¬ (!b) = true := by
  rw [h]
  exact Bool.false_ne_true

/-- An instruction refused with a fault leaves its core as it is. -/
theorem State.takeCore_refused {g : Nat} {i : Instr} {code : Nat} :
    s.takeCore g i ((s.env g).done (s.core g) [.fault code]) = (s.setCore g (s.core g)).raise code (faultInst code g) :=
  State.takeCore_fault _ _ _ _ _ rfl rfl rfl

/-- What is given as a command uses no port for a number of cycles: ports are the core's own stream's (R229). -/
theorem Core.usePorts_untimed (he : e.timed = false) {acc write runs : Bool} {delay : Nat} {banks : List (List Nat)} :
    c.usePorts e acc write runs delay banks = c := by
  rw [Core.usePorts, he, Bool.false_and, if_neg Bool.false_ne_true]

/-- Given as a command, a load fills the back set at once. -/
theorem Core.fillBack_untimed (he : e.timed = false) {arr : Arr} {byCol : Bool} {set rem : ResSet} :
    c.fillBack e arr byCol set rem = c.setBack arr set rem := by
  rw [Core.fillBack, he, if_neg Bool.false_ne_true]

/-- Given as a command, a swap meets no load under way. -/
theorem Core.swapNow_untimed (he : e.timed = false) {arr : Arr} {on : Bool} : c.swapNow e arr on = c.swap arr on := by
  rw [Core.swapNow, he, Bool.false_and, if_neg Bool.false_ne_true]

/-- Given as a command, result rows are added at once. -/
theorem Core.placeRows_untimed (he : e.timed = false) {arr : Arr} {g delay : Nat} {runs : Bool} {rows : List (Nat × (Nat → Nat) × Bool)} :
    c.placeRows e arr g runs delay rows = Core.addRows arr g rows c := by
  rw [Core.placeRows, he, if_neg Bool.false_ne_true]

/-- How long an instruction's units are occupied holds nothing up. -/
theorem Core.Clear.lasting {u : Uses} (h : c.Clear u) (n : Nat) : c.Clear { u with lasts := n } := h

/-! ## Tables and lists of tiles -/

theorem get_tab {α : Type} [DecidableEq α] (d : α) {n k : Nat} (f : Nat → α) (h : k < n) : Map.get d (Map.tab d n f) k = f k := by
  rw [Map.tab, Map.get_block, if_pos ⟨k.zero_le, by omega⟩, Nat.sub_zero]

/-- An entry of a table of pairs: a row of `w` entries for each first component. -/
theorem get_tab_row {α : Type} [DecidableEq α] (d : α) {n w i j : Nat} (f : Nat → Nat → α) (hi : i < n) (hj : j < w) :
    Map.get d (Map.tab d (n * w) fun x => f (x / w) (x % w)) (i * w + j) = f i j := by
  have hin : i * w + j < n * w := by nlinarith
  rw [get_tab d _ hin, show (i * w + j) / w = i by rw [Nat.add_comm, Nat.add_mul_div_right _ _ (by omega), Nat.div_eq_of_lt hj, Nat.zero_add],
    Nat.add_comm, Nat.add_mul_mod_self_right, Nat.mod_eq_of_lt hj]

/-- What is read of the `i`-th address of a list. -/
theorem getD_toArray_map {α β : Type} (f : α → β) {l : List α} {i : Nat} (a : α) (b : β) (h : i < l.length) :
    (l.map f).toArray.getD i b = f (l.getD i a) := by
  simp [h]

@[simp] theorem tileAddrs_length (a : Bool × Nat) (stride n : Nat) : (tileAddrs a stride n).length = n := by simp [tileAddrs]

/-! ## Groups -/

@[simp] theorem Core.group_setGroup (c : Core) (h : Nat) (v : Group) : (c.setGroup h v).group h = v := Map.get_set_same ..

theorem Core.group_setGroup_ne (c : Core) {g h : Nat} (v : Group) (n : h ≠ g) : (c.setGroup g v).group h = c.group h :=
  Map.get_set_ne _ _ _ _ _ n

/-! ## Resident loads (R50, R51, R122) -/

/-- The addresses of the tiles that a resident load reads. -/
def ArrDesc.loadAddrs (d : ArrDesc) (t : FmtInfo) (p : Nat) (a : Bool × Nat) : List Nat :=
  tileAddrs a d.stride (if structuredLoad d p then 2 * d.g t else d.g t)

/-- The set that a resident load leaves, and its remainder. -/
def Core.loaded (c : Core) (t : FmtInfo) (d : ArrDesc) (p : Nat) (a : Bool × Nat) : ResSet × ResSet :=
  let tiles := ((d.loadAddrs t p a).map fun o => c.readTile t d.fmt p a.1 o).toArray
  if structuredLoad d p then (structSet t d.fmt (d.g t) tiles false, structSet t d.fmt (d.g t) tiles true)
  else (denseSet d.fmt (d.g t) d.row tiles, {})

variable {t : FmtInfo} {d : ArrDesc} {arr : Arr} {a : Bool × Nat} {x : W64} {core : Nat}

/-- A load that nothing holds up changes its array's back sets alone. -/
theorem Core.rload_clear (he : e.timed = false) (ha : effAddr d.src x = some a)
    (hfit : tilesFit a.1 (d.loadAddrs t (e.policy d.tensor) a) (tileSize t (e.policy d.tensor)) = true)
    (hc : c.Clear { units := [residentOf arr], arrays := [arr]
                    reads := (d.loadAddrs t (e.policy d.tensor) a).map fun o => tileUnits a.1 o (tileSize t (e.policy d.tensor)), lasts := 128 }) :
    c.rload e t core arr d x =
      e.done (c.setBack arr (c.loaded t d (e.policy d.tensor) a).1 (c.loaded t d (e.policy d.tensor) a).2)
        (((d.loadAddrs t (e.policy d.tensor) a).map fun o => corruptEvs 0 core o (c.readTile t d.fmt (e.policy d.tensor) a.1 o)).flatten) := by
  unfold ArrDesc.loadAddrs at hfit hc ⊢
  simp only [Core.rload, ha, hfit, Bool.not_true, Bool.false_eq_true, if_false, hc.issue e he, Core.usePorts_untimed he, Core.fillBack_untimed he,
    Core.loaded, ArrDesc.loadAddrs]
  split <;> rfl

theorem Core.rload_outside (ha : effAddr d.src x = none) : c.rload e t core arr d x = e.done c [.fault 0x1302] := by
  simp only [Core.rload, ha]

/-- Element (k, n) of a dense set from its tiles (R50). -/
theorem denseSet_element {fmt g k n : Nat} {row : Bool} {tiles : Array DTile} (hk : k < 128 * g) (hn : n < 128) :
    let i := if row then n else k % 128
    let j := if row then k % 128 else n
    let tile := tiles.getD (k / 128) ⟨#[], #[], #[], none⟩
    Map.get 0 (denseSet fmt g row tiles).code (k * 128 + n) = tile.code.getD (i * 128 + j) 0
    ∧ Map.get 127 (denseSet fmt g row tiles).scale (k * 128 + n) = tile.scale.getD (i * 4 + j / 32) 127 := by
  dsimp only [denseSet]
  cases row
  · exact ⟨get_tab_row 0 (fun k n => (tiles.getD (k / 128) _).code.getD (k % 128 * 128 + n) 0) hk hn,
      get_tab_row 127 (fun k n => (tiles.getD (k / 128) _).scale.getD (k % 128 * 4 + n / 32) 127) hk hn⟩
  · exact ⟨get_tab_row 0 (fun k n => (tiles.getD (k / 128) _).code.getD (n * 128 + k % 128) 0) hk hn,
      get_tab_row 127 (fun k n => (tiles.getD (k / 128) _).scale.getD (n * 4 + k % 128 / 32) 127) hk hn⟩

theorem execRload_issues {g : Fin 384} {desc : Fin 256} {xa : Fin 32} (hi : s.Issues g 0) (ht : s.fmt ((s.core g).descAt desc).fmt = some t)
    (hcode : ((s.core g).descAt desc).fmt ≤ 6 ∨ 10 ≤ ((s.core g).descAt desc).fmt) :
    exec (.rload g arr desc xa) s = .next (s.takeCore g (.rload g arr desc xa)
      ((s.core g).rload (s.env g) t g arr ((s.core g).descAt desc) ((s.core g).rx xa))) :=
  (withFmt_some ht (arrayCode_iff.mpr hcode)).trans (congrArg _ (hi.issue _ _))

/-- Settles O15: a load that nothing holds up leaves `Core.loaded`, whose elements `denseSet_element` says. -/
theorem residentLoad : Obligations.ResidentLoad := by
  intro g arr desc xa t s hi c x ht hcode p depth out structured
  have hout : out = _ := execRload_issues hi ht hcode
  refine ⟨?_, fun ha => ?_⟩
  · intro a ha as tile hfit hc
    refine ⟨(c.loaded t x p a).1, (c.loaded t x p a).2, c.setBack arr (c.loaded t x p a).1 (c.loaded t x p a).2, _, ?_, rfl, ?_, ?_, ?_⟩
    · rw [hout, Core.rload_clear hi.timed ha hfit (hc.lasting 128)]
      rfl
    · cases arr <;> rfl
    · intro hd
      have hl : c.loaded t x p a = (denseSet x.fmt depth x.row (as.map fun o => c.readTile t x.fmt p a.1 o).toArray, {}) :=
        if_neg (Bool.eq_false_iff.mp hd)
      rw [hl]
      refine ⟨rfl, rfl, rfl, rfl, rfl, rfl, fun k hk n hn => ?_⟩
      have hlen : k / 128 < as.length := by
        rw [tileAddrs_length, hd, if_neg Bool.false_ne_true]
        omega
      have helem := denseSet_element (fmt := x.fmt) (row := x.row) (tiles := (as.map fun o => c.readTile t x.fmt p a.1 o).toArray) hk hn
      dsimp only at helem
      rw [getD_toArray_map _ 0 _ hlen] at helem
      exact helem
    · intro hd
      have hl : c.loaded t x p a = (_, _) := if_pos hd
      rw [hl]
      exact ⟨rfl, rfl⟩
  · rw [hout, Core.rload_outside ha]
    exact congrArg _ State.takeCore_refused

end Sys2Proof.Machine
end

section
/-!
Streams (ch. 2): what adding result rows does to the accumulators, and the settling of O16.
-/
namespace Sys2Proof.Machine

variable {s : State} {c d : Core} {e : Env} {arr : Arr} {g : Nat}

/-! ## The faults among events -/

@[simp] theorem faultsOf_nil : faultsOf [] = [] := rfl

@[simp] theorem faultsOf_append (l r : List Ev) : faultsOf (l ++ r) = faultsOf l ++ faultsOf r := List.filterMap_append

/-- A corrupt tile raises 0x2002 alone (R190). -/
theorem faultsOf_corruptEvs {space core a code : Nat} {tile : DTile} (h : code ∈ faultsOf (corruptEvs space core a tile)) : code = 0x2002 := by
  unfold corruptEvs at h
  split at h
  · cases h
  · simpa [faultsOf] using h

theorem faultsOf_corruptTiles {space core code : Nat} {tile : Nat → DTile} {as : List Nat}
    (h : code ∈ faultsOf (as.map fun o => corruptEvs space core o (tile o)).flatten) : code = 0x2002 := by
  induction as with
  | nil => cases h
  | cons o as ih =>
    rw [List.map_cons, List.flatten_cons, faultsOf_append, List.mem_append] at h
    exact h.elim faultsOf_corruptEvs ih

/-- A cell that fails its parity check raises 0x1101 (R75). -/
theorem faultsOf_parityEvs (unit : Nat) (bad : Option (Nat × Nat)) : faultsOf (parityEvs unit bad) = if bad.isSome then [0x1101] else [] := by
  cases bad <;> rfl

/-! ## Adding result rows (R57, R58, R71) -/

/-- `d` is `c` but for its accumulators and its groups. -/
def Core.AddsTo (c d : Core) : Prop := d = { c with acc := d.acc, accPoison := d.accPoison, groups := d.groups }

theorem Core.AddsTo.trans {u : Core} (h : c.AddsTo d) (k : d.AddsTo u) : c.AddsTo u := by
  rw [Core.AddsTo, k, h]

theorem Core.addAt_addsTo {q : Nat} {row : Nat → Nat} {p : Bool} : c.AddsTo (c.addAt arr q row p).1 := by
  unfold Core.addAt
  dsimp only
  split
  · split <;> rfl
  · rfl

theorem Core.addRows_addsTo {rows : List (Nat × (Nat → Nat) × Bool)} : c.AddsTo (Core.addRows arr g rows c).1 := by
  induction rows generalizing c with
  | nil => rfl
  | cons _ _ ih => exact Core.addAt_addsTo.trans ih

theorem Core.addRows_append {l r : List (Nat × (Nat → Nat) × Bool)} :
    Core.addRows arr g (l ++ r) c =
      ((Core.addRows arr g r (Core.addRows arr g l c).1).1, (Core.addRows arr g l c).2 ++ (Core.addRows arr g r (Core.addRows arr g l c).1).2) := by
  induction l generalizing c with
  | nil => rfl
  | cons _ _ ih => simp only [List.cons_append, Core.addRows, ih, List.append_assoc]

theorem Core.addRows_singleton {r : Nat} {row : Nat → Nat} {p : Bool} :
    Core.addRows arr g [(r, row, p)] c = c.addAt arr ((c.group g).first * 128 + r) row p := by
  simp [Core.addRows, Core.addRow]

/-- Element `j` of the accumulator row `q`, by tile × 128 + row. -/
theorem Core.accGet_row (c : Core) (q j : Nat) : c.accGet (q / 128) (q % 128) j = (Map.get 0#32 c.acc (q * 128 + j)).toNat := by
  rw [Core.accGet, show q / 128 * 16384 + q % 128 * 128 + j = q * 128 + j by omega]

/-- An accumulator row is written whole, with its poison. -/
theorem Core.get_accPutRow {q r j : Nat} {f : Nat → Nat} {p : Bool} (hj : j < 128) :
    Map.get 0#32 (c.accPutRow (q / 128) (q % 128) f p).acc (r * 128 + j) = if r = q then BitVec.ofNat 32 (f j) else Map.get 0#32 c.acc (r * 128 + j) := by
  simp only [Core.accPutRow, Map.get_fill]
  by_cases h : r = q
  · rw [if_pos (by omega), if_pos h]
    congr 2
    omega
  · rw [if_neg (by omega), if_neg h]

theorem Core.poison_accPutRow {q r : Nat} {f : Nat → Nat} {p : Bool} :
    Map.get false (c.accPutRow (q / 128) (q % 128) f p).accPoison r = if r = q then p else Map.get false c.accPoison r := by
  simp only [Core.accPutRow, Map.get_set]
  exact if_congr (by omega) rfl rfl

/-- Two cores agree in the states and tiles of their groups. -/
def Core.SameGroups (c d : Core) : Prop :=
  ∀ h, (d.group h).st = (c.group h).st ∧ (d.group h).first = (c.group h).first ∧ (d.group h).count = (c.group h).count

theorem Core.SameGroups.openOver (h : c.SameGroups d) (tile : Nat) : d.openOver tile = c.openOver tile := by
  unfold Core.openOver
  congr 1
  funext g
  obtain ⟨hst, hfirst, hcount⟩ := h g
  rw [hst, hfirst, hcount]

theorem Core.SameGroups.trans {u : Core} (h : c.SameGroups d) (k : d.SameGroups u) : c.SameGroups u := fun g =>
  ⟨(k g).1.trans (h g).1, (k g).2.1.trans (h g).2.1, (k g).2.2.trans (h g).2.2⟩

/-- The adds of a row count in its group, whose state and tiles stay. -/
theorem Core.addAt_sameGroups {q : Nat} {row : Nat → Nat} {p : Bool} : c.SameGroups (c.addAt arr q row p).1 := by
  intro h
  unfold Core.addAt
  dsimp only
  split
  · split <;> exact ⟨rfl, rfl, rfl⟩
  · next o _ =>
    by_cases ho : h = o
    · subst ho
      rw [Core.group_setGroup]
      exact ⟨rfl, rfl, rfl⟩
    · rw [Core.group_setGroup_ne _ _ ho]
      exact ⟨rfl, rfl, rfl⟩

/-- `d` is `c` with the `n` result rows `row`, of poison `p`, added from the accumulator row `base` on: one FP32 addition an element. -/
structure Core.Added (c d : Core) (base n : Nat) (row : Nat → Nat → Nat) (p : Nat → Bool) : Prop where
  word : ∀ q j, j < 128 → Map.get 0#32 d.acc (q * 128 + j) =
    if base ≤ q ∧ q < base + n then BitVec.ofNat 32 (addF32 (Map.get 0#32 c.acc (q * 128 + j)).toNat (row (q - base) j))
    else Map.get 0#32 c.acc (q * 128 + j)
  poison : ∀ q, Map.get false d.accPoison q =
    if base ≤ q ∧ q < base + n then Map.get false c.accPoison q || p (q - base) else Map.get false c.accPoison q
  groups : c.SameGroups d

theorem Core.Added.zero {base : Nat} {row : Nat → Nat → Nat} {p : Nat → Bool} : c.Added c base 0 row p where
  word q j _ := by rw [if_neg (by omega)]
  poison q := by rw [if_neg (by omega)]
  groups _ := ⟨rfl, rfl, rfl⟩

/-- A row over an open group is added: one FP32 addition an element, and its poison. -/
theorem Core.addAt_open {q o : Nat} {row : Nat → Nat} {p : Bool} (ho : c.openOver (q / 128) = some o) :
    (∀ r j, j < 128 → Map.get 0#32 (c.addAt arr q row p).1.acc (r * 128 + j) =
      if r = q then BitVec.ofNat 32 (addF32 (Map.get 0#32 c.acc (q * 128 + j)).toNat (row j)) else Map.get 0#32 c.acc (r * 128 + j))
    ∧ (∀ r, Map.get false (c.addAt arr q row p).1.accPoison r = if r = q then Map.get false c.accPoison q || p else Map.get false c.accPoison r)
    ∧ faultsOf (c.addAt arr q row p).2 = [] := by
  unfold Core.addAt
  dsimp only
  rw [ho]
  refine ⟨fun r j hj => ?_, fun r => ?_, ?_⟩
  · rw [← Core.accGet_row]
    exact Core.get_accPutRow (p := p) hj
  · rw [show q / 128 * 128 + q % 128 = q by omega]
    exact Core.poison_accPutRow (f := row)
  · cases p <;> rfl

theorem Core.Added.succ {base n o : Nat} {row : Nat → Nat → Nat} {p : Nat → Bool} (h : c.Added d base n row p)
    (ho : c.openOver ((base + n) / 128) = some o) : c.Added (d.addAt arr (base + n) (row n) (p n)).1 base (n + 1) row p := by
  rw [← h.groups.openOver] at ho
  obtain ⟨hword, hpoison, -⟩ := Core.addAt_open (arr := arr) (row := row n) (p := p n) ho
  refine ⟨fun q j hj => ?_, fun q => ?_, h.groups.trans Core.addAt_sameGroups⟩
  · rw [hword q j hj]
    by_cases hq : q = base + n
    · rw [if_pos hq, if_pos (by omega), h.word _ _ hj, if_neg (by omega), hq, Nat.add_sub_cancel_left]
    · rw [if_neg hq, h.word q j hj]
      exact if_congr (by omega) rfl rfl
  · rw [hpoison q]
    by_cases hq : q = base + n
    · rw [if_pos hq, if_pos (by omega), h.poison, if_neg (by omega), hq, Nat.add_sub_cancel_left]
    · rw [if_neg hq, h.poison q]
      exact if_congr (by omega) rfl rfl

/-- Rows over open groups are added one after another, and raise no fault. -/
theorem Core.addRows_open {start n : Nat} {row : Nat → Nat → Nat} {p : Nat → Bool}
    (ho : ∀ r < n, (c.openOver ((c.group g).first + (start + r) / 128)).isSome = true) :
    c.Added (Core.addRows arr g ((List.range n).map fun r => (start + r, row r, p r)) c).1 ((c.group g).first * 128 + start) n row p
    ∧ faultsOf (Core.addRows arr g ((List.range n).map fun r => (start + r, row r, p r)) c).2 = [] := by
  induction n with
  | zero => exact ⟨.zero, rfl⟩
  | succ n ih =>
    obtain ⟨hadded, hquiet⟩ := ih fun r hr => ho r (by omega)
    obtain ⟨o, ho⟩ := Option.isSome_iff_exists.mp (ho n n.lt_succ_self)
    rw [show (c.group g).first + (start + n) / 128 = ((c.group g).first * 128 + start + n) / 128 by omega] at ho
    rw [List.range_succ, List.map_append, List.map_singleton, Core.addRows_append, Core.addRows_singleton, (hadded.groups g).2.1,
      ← Nat.add_assoc]
    refine ⟨hadded.succ ho, ?_⟩
    rw [faultsOf_append, hquiet]
    rw [← hadded.groups.openOver] at ho
    exact (Core.addAt_open ho).2.2

/-! ## Streams against a dense set (R45–R48, R54–R58, R99) -/

/-- Element `k` of streamed row `r` from the row's tiles. -/
def streamElem (t : FmtInfo) (col : Bool) (tile : Nat → DTile) (r k : Nat) : FV :=
  if col then tileVal (tile (k / 128)) t (k % 128) (r % 128) else tileVal (tile (k / 128)) t (r % 128) (k % 128)

/-- Is streamed row `r` of `g` tiles poisoned? -/
def streamPoison (col : Bool) (g : Nat) (tile : Nat → DTile) (r : Nat) : Bool :=
  (List.range g).any fun i => if col then (tile i).poison.any id else (tile i).poison.getD (r % 128) false

/-- The tiles of streamed row `r`, of those that lie at `as`. -/
def Core.streamTiles (c : Core) (t : FmtInfo) (x : ArrDesc) (p : Nat) (acc : Bool) (as : List Nat) (r i : Nat) : DTile :=
  (as.map fun o => c.readTile t x.fmt p acc o).toArray.getD (r / 128 * x.g t + i) ⟨#[], #[], #[], none⟩

/-- The result row of streamed row `r`, whose tiles are `tile r`, against a set. -/
def ArrDesc.resultOf (x : ArrDesc) (t tw : FmtInfo) (set : ResSet) (tile : Nat → Nat → DTile) (r : Nat) : Nat → Nat :=
  resultRow tw set (x.g t) (streamElem t x.colMode (tile r) r)

/-- Its poison (R71, R75). -/
def ArrDesc.poisonOf (x : ArrDesc) (t : FmtInfo) (set : ResSet) (tile : Nat → Nat → DTile) (r : Nat) : Bool :=
  streamPoison x.colMode (x.g t) (tile r) r || set.poison || set.parity.isSome

theorem cellSum_congr {xs ys ws : Nat → FV} {lane g : Nat} (h : ∀ j < g, xs (lane * g + j) = ys (lane * g + j)) :
    cellSum xs ws lane g = cellSum ys ws lane g := by
  unfold cellSum
  rw [List.map_congr_left (g := fun j => (ys (lane * g + j)).mul (ws (lane * g + j)))]
  intro j hj
  rw [h j (List.mem_range.mp hj)]

/-- A result depends on the elements of the streamed row alone. -/
theorem laneChain_congr {xs ys ws : Nat → FV} {g : Nat} (h : ∀ k < 128 * g, xs k = ys k) : laneChain xs ws g = laneChain ys ws g := by
  unfold laneChain
  refine List.foldl_ext _ _ _ fun v lane hl => ?_
  have hlane := List.mem_range.mp hl
  rw [cellSum_congr fun j hj => h _ (by nlinarith)]

/-- A dense set of the pass's own width class gives the lanes' chain (R53). -/
theorem resultRow_dense {tw : FmtInfo} {set : ResSet} {g n : Nat} {xs : Nat → FV} (hs : set.structured = false) (hg : set.g = g)
    (hclash : set.clash = false) : resultRow tw set g xs n = laneChain xs (fun k => set.val tw k n) g := by
  simp [resultRow, ResSet.streamIdx, hs, hg, hclash]

@[simp] theorem Core.swap_readTile (arr : Arr) (on : Bool) (t : FmtInfo) (code p : Nat) (acc : Bool) (a : Nat) :
    (c.swap arr on).readTile t code p acc a = c.readTile t code p acc a := by
  cases on <;> cases arr <;> rfl

theorem Core.swap_sameGroups (arr : Arr) (on : Bool) : c.SameGroups (c.swap arr on) := fun _ => by
  cases on <;> cases arr <;> exact ⟨rfl, rfl, rfl⟩

/-- Neither a swap before the adds nor the count of issued rows touches the accumulators. -/
theorem Core.Added.swap_busy {on : Bool} {base n k : Nat} {row : Nat → Nat → Nat} {p : Nat → Bool} (h : (c.swap arr on).Added d base n row p) :
    c.Added (d.busy arr k) base n row p := by
  cases on <;> cases arr <;> exact ⟨h.word, h.poison, h.groups⟩

/-- Rows over open groups, added behind a swap. -/
theorem Core.addRows_swap_open {on : Bool} {start n : Nat} {row : Nat → Nat → Nat} {p : Nat → Bool}
    (ho : ∀ r < n, (c.openOver ((c.group g).first + (start + r) / 128)).isSome = true) :
    let z := Core.addRows arr g ((List.range n).map fun r => (start + r, row r, p r)) (c.swap arr on)
    c.Added (z.1.busy arr n) ((c.group g).first * 128 + start) n row p ∧ faultsOf z.2 = [] := by
  have hsame : c.SameGroups (c.swap arr on) := c.swap_sameGroups arr on
  have hrows := Core.addRows_open (c := c.swap arr on) (arr := arr) (g := g) (start := start) (n := n) (row := row) (p := p)
  rw [(hsame g).2.1] at hrows
  obtain ⟨hadded, hquiet⟩ := hrows fun r hr => by rw [hsame.openOver]; exact ho r hr
  exact ⟨hadded.swap_busy, hquiet⟩

theorem Core.AddsTo.swap_busy {on : Bool} {k : Nat} (h : (c.swap arr on).AddsTo d) :
    (d.busy arr k).front arr = (c.swap arr on).front arr ∧ (d.busy arr k).ts = c.ts ∧ (d.busy arr k).x = c.x ∧ (d.busy arr k).vreg = c.vreg
    ∧ (d.busy arr k).sdm = c.sdm := by
  rw [h]
  cases on <;> cases arr <;> exact ⟨rfl, rfl, rfl, rfl, rfl⟩

/-- The events of a stream, in their order: the count, the tiles, the set's parity, the added rows. -/
def streamEvs (limit live m unit : Nat) (tiles : List Ev) (parity : Option (Nat × Nat)) (adds : List Ev) : List Ev :=
  (if limit < live then [.fault 0x1106] else []) ++ tiles ++ (if m = 0 then [] else parityEvs unit parity) ++ adds

section
variable {code limit live m unit : Nat} {tiles adds : List Ev} {parity : Option (Nat × Nat)}

theorem mem_faultsOf_streamEvs (hadds : faultsOf adds = []) : code ∈ faultsOf (streamEvs limit live m unit tiles parity adds) ↔
    (limit < live ∧ code = 0x1106) ∨ code ∈ faultsOf tiles ∨ (m ≠ 0 ∧ parity.isSome = true ∧ code = 0x1101) := by
  have hclamp : code ∈ faultsOf (if limit < live then [Ev.fault 0x1106] else []) ↔ limit < live ∧ code = 0x1106 := by
    split <;> simp [faultsOf, *]
  have hparity : code ∈ faultsOf (if m = 0 then [] else parityEvs unit parity) ↔ m ≠ 0 ∧ parity.isSome = true ∧ code = 0x1101 := by
    split
    · simp [*]
    · rw [faultsOf_parityEvs]
      split <;> simp [*]
  rw [streamEvs, faultsOf_append, faultsOf_append, faultsOf_append, hadds, List.append_nil, List.mem_append, List.mem_append, hclamp, hparity,
    or_assoc]

/-- A count above M_max alone raises 0x1106. -/
theorem clamp_mem_faultsOf_streamEvs (hadds : faultsOf adds = []) (htiles : ∀ code, code ∈ faultsOf tiles → code = 0x2002) :
    0x1106 ∈ faultsOf (streamEvs limit live m unit tiles parity adds) ↔ limit < live := by
  have hno : 0x1106 ∉ faultsOf tiles := fun h => absurd (htiles _ h) (by decide)
  simp [mem_faultsOf_streamEvs hadds, hno]

/-- A cell that fails its parity check alone raises 0x1101, where a row is streamed (R75). -/
theorem parity_mem_faultsOf_streamEvs (hadds : faultsOf adds = []) (htiles : ∀ code, code ∈ faultsOf tiles → code = 0x2002) :
    0x1101 ∈ faultsOf (streamEvs limit live m unit tiles parity adds) ↔ m ≠ 0 ∧ parity.isSome = true := by
  have hno : 0x1101 ∉ faultsOf tiles := fun h => absurd (htiles _ h) (by decide)
  simp [mem_faultsOf_streamEvs hadds, hno]

end

variable {t tw : FmtInfo} {x : ArrDesc} {a : Bool × Nat} {xa live : W64} {core start : Nat} {swap : Bool}

/-- What a stream that nothing holds up leaves, against a dense set with no remainder. -/
theorem Core.stream_clear (he : e.timed = false) (ha : effAddr x.src xa = some a) (hw : fmtInfo e.entry ((c.swap arr swap).front arr).fmt = some tw)
    (hs : ((c.swap arr swap).front arr).structured = false) (hr : ((c.swap arr swap).front arr).remainder = false) :
    let p := e.policy x.tensor
    let m := min live.toNat x.mmax
    let as := tileAddrs a x.stride (x.g t * ((m + 127) / 128))
    let set := (c.swap arr swap).front arr
    let tile := c.streamTiles t x p a.1 as
    let z := Core.addRows arr g ((List.range m).map fun r => (start + r, x.resultOf t tw set tile r, x.poisonOf t set tile r)) (c.swap arr swap)
    tilesFit a.1 as (tileSize t p) = true →
    c.Clear { units := [inputOf arr], arrays := [arr], reads := as.map fun o => tileUnits a.1 o (tileSize t p)
              adds := if m = 0 then [] else [(1, (c.group g).first + start / 128, (start + m - 1) / 128 + 1 - start / 128)], lasts := x.mmax } →
    c.stream e t core arr x xa live swap g start = e.done (z.1.busy arr m)
      (streamEvs x.mmax live.toNat m (unitOf arr) (as.map fun o => corruptEvs 0 core o (c.readTile t x.fmt p a.1 o)).flatten set.parity z.2) := by
  intro p m as set tile z hfit hc
  simp only [Core.stream, Core.swapNow_untimed he, ha, hs, hr, hw, Bool.false_eq_true, if_false, Bool.false_and]
  rw [if_neg (check_passes hfit), hc.issue e he]
  simp only [Core.usePorts_untimed he, Core.placeRows_untimed he, Core.swap_readTile, he, Bool.false_eq_true, if_false, List.append_nil]
  rfl

theorem execStream_issues {g : Fin 384} {desc : Fin 256} {xa xn : Fin 32} {grp : Fin 8} {start : Fin 4096} (hi : s.Issues g 0)
    (ht : s.fmt ((s.core g).descAt desc).fmt = some t) (hcode : ((s.core g).descAt desc).fmt ≤ 6 ∨ 10 ≤ ((s.core g).descAt desc).fmt) :
    exec (.stream g arr desc xa xn swap grp start) s = .next (s.takeCore g (.stream g arr desc xa xn swap grp start)
      ((s.core g).stream (s.env g) t g arr ((s.core g).descAt desc) ((s.core g).rx xa) ((s.core g).rx xn) swap grp start)) :=
  (withFmt_some ht (arrayCode_iff.mpr hcode)).trans (congrArg _ (hi.issue _ _))

theorem Core.streamTiles_of_lt {p r i : Nat} {acc : Bool} {as : List Nat} (h : r / 128 * x.g t + i < as.length) :
    c.streamTiles t x p acc as r i = c.readTile t x.fmt p acc (as.getD (r / 128 * x.g t + i) 0) :=
  getD_toArray_map _ 0 _ h

theorem streamPoison_congr {col : Bool} {g r : Nat} {tile tile' : Nat → DTile} (h : ∀ i < g, tile i = tile' i) :
    streamPoison col g tile r = streamPoison col g tile' r := by
  rw [Bool.eq_iff_iff, streamPoison, streamPoison, List.any_eq_true, List.any_eq_true]
  refine exists_congr fun i => and_congr_right fun hi => ?_
  rw [h i (List.mem_range.mp hi)]

/-- Settles O16 (with the reading of log 90): `Core.stream_clear` says which rows are added, `Core.addRows_swap_open` what adding them does; the
values and the poison of the rows are those of their tiles. -/
theorem streamRows : Obligations.StreamRows := by
  intro g arr desc xa xn swap grp start t tw a s hi c x p depth m set as first source ht hcode hw hs hr hg hclash ha hfit hc hopen tile streamed
    result poisoned
  let tiles := c.streamTiles t x p a.1 as
  let z := Core.addRows arr grp ((List.range m).map fun r => (start.val + r, x.resultOf t tw set tiles r, x.poisonOf t set tiles r)) (c.swap arr swap)
  have hrun := Core.stream_clear (g := grp) (live := c.rx xn) (core := g) (start := start) hi.timed ha hw hs hr hfit (hc.lasting x.mmax)
  obtain ⟨hadded, hquiet⟩ : c.Added (z.1.busy arr m) (first * 128 + start) m (x.resultOf t tw set tiles) (x.poisonOf t set tiles)
      ∧ faultsOf z.2 = [] := Core.addRows_swap_open fun r hr => (hopen r hr).2
  have htile : ∀ r < m, ∀ i < depth, tiles r i = c.readTile t x.fmt p a.1 (as.getD (r / 128 * depth + i) 0) := fun r hr i hi =>
    Core.streamTiles_of_lt (by
      rw [tileAddrs_length]
      have hblock : r / 128 < (m + 127) / 128 := by omega
      nlinarith)
  have hresult : ∀ r < m, ∀ n, x.resultOf t tw set tiles r n = result r n := by
    intro r hr n
    rw [ArrDesc.resultOf, resultRow_dense hs hg hclash, laneChain_congr (ys := streamed r)]
    · rfl
    · intro k hk
      rw [streamElem, htile r hr (k / 128) (by omega)]
  have hpoison : ∀ r < m, x.poisonOf t set tiles r = poisoned r := by
    intro r hr
    rw [ArrDesc.poisonOf, Bool.or_assoc, Bool.or_comm, streamPoison_congr (tile' := fun i => tile r (128 * i))]
    · rfl
    · intro i hi
      have hindex : 128 * i / 128 = i := by omega
      dsimp only [tile]
      rw [htile r hr i hi, hindex]
  refine ⟨z.1.busy arr m, _, by rw [execStream_issues hi ht hcode, hrun]; rfl, ?clamp, ?parity, ?word, ?poison, ?others, ?frame⟩
  case clamp => exact clamp_mem_faultsOf_streamEvs hquiet fun _ => faultsOf_corruptTiles
  case parity => exact parity_mem_faultsOf_streamEvs hquiet fun _ => faultsOf_corruptTiles
  case word =>
    intro r hr n hn
    rw [show first + (start.val + r) / 128 = (first * 128 + start.val + r) / 128 by omega,
      show (start.val + r) % 128 = (first * 128 + start.val + r) % 128 by omega, Core.accGet_row, Core.accGet_row, hadded.word _ _ hn,
      if_pos (by omega), BitVec.toNat_ofNat, Nat.add_sub_cancel_left, hresult r hr]
  case poison =>
    intro r hr
    rw [hadded.poison, if_pos (by omega), Nat.add_sub_cancel_left, hpoison r hr]
  case others =>
    intro q n hn hq
    exact ⟨by rw [hadded.word _ _ hn, if_neg hq], by rw [hadded.poison, if_neg hq]⟩
  case frame => exact Core.addRows_addsTo.swap_busy

end Sys2Proof.Machine
end

section
/-!
Twin passes (ch. 2): the width class of a pass, the rows that a refused one poisons, and the settling of O17.
-/
namespace Sys2Proof.Machine

variable {s : State} {c : Core} {e : Env} {x : ArrDesc} {xa live : W64} {swap : Bool} {grp start : Nat}

/-! ## The width class (R67) -/

/-- The widest filled operand has the fewest elements per cell, and gives the pass its class. -/
theorem twinClass_eq {l : List (Bool × FmtInfo)} {g : Nat} (hle : ∀ o ∈ l, o.1 = true → g ≤ o.2.g) (hex : ∃ o ∈ l, o.1 = true ∧ o.2.g = g) :
    twinClass l = g := by
  suffices (l.filterMap fun x => if x.1 then some x.2.g else none).min? = some g by rw [twinClass, this, Option.getD_some]
  rw [List.min?_eq_some_iff]
  simp only [List.mem_filterMap, Option.ite_none_right_eq_some, Option.some.injEq]
  refine ⟨hex, ?_⟩
  rintro b ⟨o, ho, hfilled, rfl⟩
  exact hle o ho hfilled

/-! ## Rows of a refused pass (R67) -/

/-- The poison of the first `n` rows of a refused pass, one after another. -/
theorem Core.get_poisonRows {g n q : Nat} : Map.get false (c.poisonRows g start n).accPoison q =
    (Map.get false c.accPoison q || decide (q / 128 < 32 ∧ (c.group g).first * 128 + start ≤ q ∧ q < (c.group g).first * 128 + start + n)) := by
  unfold Core.poisonRows
  dsimp only
  induction n with
  | zero => simp
  | succ n ih =>
    rw [List.range_succ, List.foldl_append, List.foldl_cons, List.foldl_nil]
    have hrow : ((c.group g).first + (start + n) / 128) * 128 + (start + n) % 128 = (c.group g).first * 128 + start + n := by omega
    split
    · next hin =>
      rw [Map.get_set, hrow, ih]
      by_cases hq : q = (c.group g).first * 128 + start + n
      · rw [if_pos hq, Bool.eq_iff_iff]
        simp
        omega
      · rw [if_neg hq]
        congr 1
        exact decide_eq_decide.mpr (by omega)
    · next hout =>
      rw [ih]
      congr 1
      exact decide_eq_decide.mpr (by omega)

/-! ## Passes (R64, R65) -/

/-- A pass turns to the buffer filled last and swaps the resident sets where it says so. -/
def Core.turned (c : Core) (swap : Bool) : Core :=
  (({ c with twinCur := if c.twinFresh then !c.twinCur else c.twinCur, twinFresh := false } : Core).swap .a swap).swap .b swap

/-- The buffer a pass reads. -/
def Core.block (c : Core) : TwinBuf := if c.twinCur then c.twin1 else c.twin0

/-- The operands of a pass: whether each is filled, and its format. -/
def Core.twinOps (c : Core) (ty ta tb : FmtInfo) : List (Bool × FmtInfo) := [(c.block.filled, ty), (c.frontA.filled, ta), (c.frontB.filled, tb)]

/-- The value at (i, j) of a twin buffer. -/
def TwinBuf.val (b : TwinBuf) (t : FmtInfo) (i j : Nat) : FV := t.value (Map.get 0 b.code (i * b.k + j)) (Map.get 127 b.scale (i * b.k + j))

/-- Is every row that a set gives with a block poisoned (R71, R75)? -/
def TwinBuf.spoils (b : TwinBuf) (z : ResSet) : Bool := z.poison || b.parity.isSome || z.parity.isSome

/-- The rows of array A: the block's first `m` rows. -/
def Core.twinRowsA (c : Core) (ty ta : FmtInfo) (g start m : Nat) : List (Nat × (Nat → Nat) × Bool) :=
  (List.range m).map fun r => (start + r, resultRow ta c.frontA g (fun i => c.block.val ty r i), Map.get false c.block.poison r || c.block.spoils c.frontA)

/-- The rows of array B: the block's columns. -/
def Core.twinRowsB (c : Core) (ty tb : FmtInfo) (g start : Nat) : List (Nat × (Nat → Nat) × Bool) :=
  (List.range (128 * g)).map fun r => (start + r, resultRow tb c.frontB g (fun i => c.block.val ty i r),
    (List.range (128 * g)).any (fun i => Map.get false c.block.poison i) || c.block.spoils c.frontB)

theorem Core.addRows_frontA {arr : Arr} {g : Nat} {rows : List (Nat × (Nat → Nat) × Bool)} : (Core.addRows arr g rows c).1.frontA = c.frontA := by
  rw [Core.addRows_addsTo]

theorem Core.addRows_frontB {arr : Arr} {g : Nat} {rows : List (Nat × (Nat → Nat) × Bool)} : (Core.addRows arr g rows c).1.frontB = c.frontB := by
  rw [Core.addRows_addsTo]

/-- A pass counts the rows of both arrays. -/
theorem Core.busy_both {m n : Nat} : (c.busy .a m).busy .b n = { c with busyA := c.busyA + m, busyB := c.busyB + n } := rfl

theorem Core.twin_outside (ha : effAddr x.src xa = none) : c.twin e x xa live swap grp start = e.done c [.fault 0x1302] := by
  simp only [Core.twin, ha]

/-- Given as a command, a pass meets no load under way. -/
theorem Core.turned_eq (he : e.timed = false) :
    (({ c with twinCur := if c.twinFresh then !c.twinCur else c.twinCur, twinFresh := false } : Core).swapNow e .a swap).swapNow e .b swap
      = c.turned swap := by
  rw [Core.swapNow_untimed he, Core.swapNow_untimed he, Core.turned]

theorem Core.block_turned :
    (if (if c.twinFresh then !c.twinCur else c.twinCur) then (c.turned swap).twin1 else (c.turned swap).twin0) = (c.turned swap).block := by
  cases swap <;> rfl

section
variable {ty ta tb : FmtInfo} {g : Nat} (he : e.timed = false) (ha : effAddr x.src xa ≠ none)
  (hy : fmtInfo e.entry (c.turned swap).block.fmt = some ty) (hta : fmtInfo e.entry (c.turned swap).frontA.fmt = some ta)
  (htb : fmtInfo e.entry (c.turned swap).frontB.fmt = some tb) (hg : twinClass ((c.turned swap).twinOps ty ta tb) = g)
include he ha hy hta htb hg

/-- A pass over 4-bit elements is refused (R67). -/
theorem Core.twin_refused (h4 : ((c.turned swap).twinOps ty ta tb).any (fun o => o.1 && o.2.width == 4) = true) :
    c.twin e x xa live swap grp start =
      e.done ((c.poisonRows grp start (min live.toNat (128 * g))).poisonRows x.groupB x.startB (128 * g)) [.fault 0x1105] := by
  obtain ⟨a, ha⟩ := Option.ne_none_iff_exists'.mp ha
  simp only [Core.twin, Core.turned_eq he, Core.block_turned, ha, hy, hta, htb]
  rw [Core.twinOps] at h4 hg
  rw [if_pos h4, hg]

/-- A pass that nothing holds up adds its rows through both arrays. -/
theorem Core.twin_clear (h4 : ((c.turned swap).twinOps ty ta tb).any (fun o => o.1 && o.2.width == 4) = false)
    (hc : c.Clear { units := [.inputA, .inputB, .twinPass], arrays := [.a, .b]
                    adds := [(1, (c.group grp).first + start / 128, (start + 128 * g - 1) / 128 + 1 - start / 128),
                             (1, (c.group x.groupB).first + x.startB / 128, (x.startB + 128 * g - 1) / 128 + 1 - x.startB / 128)], lasts := 128 * g }) :
    let d := c.turned swap
    let m := min live.toNat (128 * g)
    let a := Core.addRows .a grp (d.twinRowsA ty ta g start m) d
    let b := Core.addRows .b x.groupB (d.twinRowsB ty tb g x.startB) a.1
    c.twin e x xa live swap grp start = e.done { b.1 with busyA := b.1.busyA + m, busyB := b.1.busyB + 128 * g }
      ((if 128 * g < live.toNat then [.fault 0x1106] else []) ++ parityEvs 3 d.block.parity ++ parityEvs 0 d.frontA.parity
        ++ parityEvs 1 d.frontB.parity ++ a.2 ++ b.2) := by
  obtain ⟨a, ha⟩ := Option.ne_none_iff_exists'.mp ha
  intro d m a b
  simp only [Core.twin, Core.turned_eq he, Core.block_turned, ha, hy, hta, htb]
  rw [Core.twinOps] at h4 hg
  rw [if_neg (by simp [h4]), hg, hc.issue e he]
  simp only [Core.turned_eq he, Core.placeRows_untimed he, Core.addRows_frontA, Core.addRows_frontB, he, Bool.false_eq_true, if_false, b, a, d, m,
    Core.twinRowsA, Core.twinRowsB, TwinBuf.spoils, TwinBuf.val, Bool.or_assoc, Core.busy_both]
end

/-- Settles O17 (with the reading of log 90): the width class by `twinClass_eq`, a pass and its refusal by `Core.twin_clear` and `Core.twin_refused`. -/
theorem twinPass : Obligations.TwinPass := by
  intro g desc xa xn swap grp start ty ta tb depth s hi i c x c1 block operands k m value bad rowsA rowsB a b
  have hrun : exec i s = .next (s.takeCore g i (c.twin (s.env g) x (c.rx xa) (c.rx xn) swap grp start)) := congrArg _ (hi.issue _ _)
  refine ⟨fun ha hy hta htb hle hex => ?_, fun ha => ?_⟩
  · have hclass : twinClass (c1.twinOps ty ta tb) = depth := twinClass_eq hle hex
    refine ⟨fun h4 hc => ?_, fun h4 => ?_⟩
    · have h4 : (c1.twinOps ty ta tb).any (fun o => o.1 && o.2.width == 4) = false := by
        rw [List.any_eq_false]
        intro o ho hbad
        rw [Bool.and_eq_true, beq_iff_eq] at hbad
        exact h4 o ho hbad.1 hbad.2
      rw [hrun, Core.twin_clear hi.timed ha hy hta htb hclass h4 (hc.lasting k)]
      rfl
    · have h4 : (c1.twinOps ty ta tb).any (fun o => o.1 && o.2.width == 4) = true := by
        obtain ⟨o, ho, hfilled, hwidth⟩ := h4
        exact List.any_eq_true.mpr ⟨o, ho, by rw [hfilled, hwidth]; rfl⟩
      refine ⟨(c.poisonRows grp start m).poisonRows x.groupB x.startB k, ?_, rfl, fun q => ?_⟩
      · rw [hrun, Core.twin_refused hi.timed ha hy hta htb hclass h4]
        exact congrArg _ (State.takeCore_fault _ _ _ _ _ rfl rfl rfl)
      · rw [Core.get_poisonRows, Core.get_poisonRows, Bool.or_assoc, ← Bool.decide_or]
        congr 1
        exact decide_eq_decide.mpr (and_or_left.symm)
  · rw [hrun, Core.twin_outside ha]
    exact congrArg _ State.takeCore_refused

end Sys2Proof.Machine
end

section
/-!
Groups (ch. 2): what GOPEN, GCLOSE, TFILL and the end of a close leave, and the settling of O18 and O19.
-/
namespace Sys2Proof.Machine

variable {s : State} {c : Core} {e : Env} {t : FmtInfo} {arr : Arr} {grp first count : Nat} {xa : W64}

/-! ## States of groups (R61, R69, R70) -/

/-- A GOPEN is refused for a group in another state, for tiles that do not exist and for tiles that another group holds. -/
theorem Core.openBad_iff : c.openBad grp first count = true ↔ (c.group grp).st ≠ .closed ∨ 32 < first + count ∨
    ∃ h, h < 8 ∧ h ≠ grp ∧ (c.group h).st ≠ .closed ∧ (c.group h).first < first + count ∧ first < (c.group h).first + (c.group h).count := by
  simp [Core.openBad, unitsMeet, or_assoc, and_assoc]

theorem Core.gopenClear_clear (he : e.timed = false) (hb : c.openBad grp first count = false)
    (hc : c.Clear { arrays := [arr], writes := [(1, first, count)] }) :
    c.gopenClear e arr grp first count =
      (e.done ((c.clearAcc first count).setGroup grp { st := .opened, first := first, count := count })).after 1 [.clear first count] := by
  rw [Core.gopenClear, if_neg (Bool.eq_false_iff.mp hb), hc.issue e he]

theorem Core.gopenClear_refused (hb : c.openBad grp first count = true) : c.gopenClear e arr grp first count = e.done c [.fault 0x1103] :=
  if_pos hb

/-- The accumulator words of cleared tiles read +0.0. -/
theorem Core.get_clearAcc (k : Nat) :
    Map.get 0#32 (c.clearAcc first count).acc k = if first ≤ k / 16384 ∧ k / 16384 < first + count then 0#32 else Map.get 0#32 c.acc k :=
  (Map.get_fill ..).trans (if_congr (by omega) rfl rfl)

theorem Core.poison_clearAcc (q : Nat) :
    Map.get false (c.clearAcc first count).accPoison q = if first ≤ q / 128 ∧ q / 128 < first + count then false else Map.get false c.accPoison q :=
  (Map.get_fill ..).trans (if_congr (by omega) rfl rfl)

theorem Core.gcloseKeep_clear (he : e.timed = false) (hg : (c.group grp).st = .opened) (hc : c.Clear { arrays := [arr] }) :
    c.gcloseKeep e arr grp = e.done (c.setGroup grp { c.group grp with st := .closed }) := by
  rw [Core.gcloseKeep, if_neg (by simp [hg]), hc.issue e he]

theorem Core.gcloseKeep_refused (hg : (c.group grp).st ≠ .opened) : c.gcloseKeep e arr grp = e.done c [.fault 0x1103] :=
  if_pos (bne_iff_ne.mpr hg)

theorem Core.gclose_refused {x : ArrDesc} (hg : (c.group grp).st ≠ .opened) : c.gclose e t arr x xa grp = e.done c [.fault 0x1103] :=
  if_pos (bne_iff_ne.mpr hg)

/-- A change of a core lets nothing go on where nothing waits. -/
theorem State.Calm.setCore (h : s.Calm) {g : Nat} {c : Core} : (s.setCore g c).Calm := h

/-- The last write of a close (R69). -/
theorem execGcloseComplete_closing {g : Fin 384} {grp : Fin 8} (hg : ((s.core g).group grp).st = .closing) (h : s.Calm) :
    exec (.gcloseComplete g grp) s =
      .next (s.setCore g ((s.core g).setGroup grp { (s.core g).group grp with st := .closed, dest := [], ends := 0 })) := by
  have hcore : (s.core g).gcloseComplete grp = (s.core g).setGroup grp { (s.core g).group grp with st := .closed, dest := [], ends := 0 } := if_pos hg
  have hexec : exec (.gcloseComplete g grp) s = .next (s.setCore g ((s.core g).gcloseComplete grp)).settle := rfl
  rw [hexec, hcore, h.setCore.settle]

/-! ## Tiles read without a tensor (R62, R65, log 106) -/

@[simp] theorem Core.stackAddrs_length (acc : Bool) (a n : Nat) : (c.stackAddrs e t acc a n).length = n := by
  induction n generalizing a with
  | zero => rfl
  | succ n ih => rw [Core.stackAddrs, List.length_cons, ih]

/-- The tile at the `k`-th address. -/
def Core.stackTile (c : Core) (e : Env) (t : FmtInfo) (code : Nat) (acc : Bool) (as : List Nat) (k : Nat) : DTile :=
  (as.map fun o => c.readMarked e t code acc o).toArray.getD k ⟨#[], #[], #[], none⟩

theorem Core.stackTile_of_lt {code k : Nat} {acc : Bool} {as : List Nat} (h : k < as.length) :
    c.stackTile e t code acc as k = c.readMarked e t code acc (as.getD k 0) :=
  getD_toArray_map _ 0 _ h

/-! ## GOPEN.LOAD (R62, R88) -/

/-- Is row `i` of a tile poisoned, or without a value for one of its elements? -/
def rowSpoilt (t : FmtInfo) (d : DTile) (i : Nat) : Bool :=
  d.poison.getD i false || t.g16 && (List.range 128).any fun j => d.code.getD (i * 128 + j) 0 == 0x8000

/-- A group opened over the widened values of tiles. -/
def Core.groupLoaded (c : Core) (t : FmtInfo) (tile : Nat → DTile) (grp first count : Nat) : Core :=
  ({ c with
      acc := Map.fill 0#32 c.acc (first * 16384) (count * 16384) fun y =>
        BitVec.ofNat 32 (rne32 (tileVal (tile (y / 16384)) t (y % 16384 / 128) (y % 128)))
      accPoison := Map.fill false c.accPoison (first * 128) (count * 128) fun r => rowSpoilt t (tile (r / 128)) (r % 128) } : Core).setGroup grp
    { st := .opened, first := first, count := count }

section
variable {tile : Nat → DTile} {k i j q : Nat}

theorem Core.accGet_groupLoaded (hk : k < count) (hi : i < 128) (hj : j < 128) :
    (c.groupLoaded t tile grp first count).accGet (first + k) i j = rne32 (tileVal (tile k) t i j) % 2 ^ 32 := by
  have hget : Map.get 0#32 (c.groupLoaded t tile grp first count).acc ((first + k) * 16384 + i * 128 + j) =
      BitVec.ofNat 32 (rne32 (tileVal (tile k) t i j)) := by
    refine (Map.get_fill ..).trans ?_
    rw [if_pos (by omega), show (first + k) * 16384 + i * 128 + j - first * 16384 = k * 16384 + i * 128 + j by omega,
      show (k * 16384 + i * 128 + j) / 16384 = k by omega, show (k * 16384 + i * 128 + j) % 16384 / 128 = i by omega,
      show (k * 16384 + i * 128 + j) % 128 = j by omega]
  rw [Core.accGet, hget, BitVec.toNat_ofNat]

theorem Core.poison_groupLoaded (hk : k < count) (hi : i < 128) :
    Map.get false (c.groupLoaded t tile grp first count).accPoison ((first + k) * 128 + i) = rowSpoilt t (tile k) i := by
  refine (Map.get_fill ..).trans ?_
  rw [if_pos (by omega), show (first + k) * 128 + i - first * 128 = k * 128 + i by omega, show (k * 128 + i) / 128 = k by omega,
    show (k * 128 + i) % 128 = i by omega]

theorem Core.get_groupLoaded_other (hq : ¬ (first ≤ q / 16384 ∧ q / 16384 < first + count)) :
    Map.get 0#32 (c.groupLoaded t tile grp first count).acc q = Map.get 0#32 c.acc q :=
  (Map.get_fill ..).trans (if_neg (by omega))

end

/-- A GOPEN.LOAD that nothing holds up leaves its group loaded. -/
theorem Core.gopenLoad_clear {core code addr : Nat} {a : Bool × Nat} (he : e.timed = false) (hb : c.openBad grp first count = false)
    (ha : effAddr addr xa = some a) :
    let as := c.stackAddrs e t a.1 a.2 count
    c.stackFits e t a.1 as = true →
    c.Clear { units := [.tileMove], reads := c.stackUnits e t a.1 as, writes := [(1, first, count)], lasts := 128 * count } →
    ∃ flights : List Flight, c.gopenLoad e t core code grp addr xa first count =
      { e.done (c.groupLoaded t (c.stackTile e t code a.1 as) grp first count)
          (as.map fun o => corruptEvs 0 core o (c.readMarked e t code a.1 o)).flatten with flights := flights } := by
  intro as hfit hc
  rw [Core.gopenLoad, if_neg (Bool.eq_false_iff.mp hb), ha]
  dsimp only
  rw [if_neg (check_passes hfit), hc.issue e he]
  simp only [Core.usePorts_untimed he]
  exact ⟨_, rfl⟩

/-! ## TFILL (R65) -/

/-- A block of elements of more than 4 bits is one tile or two by two. -/
theorem FmtInfo.g_of_width_ne (h : t.width ≠ 4) : t.g = 1 ∨ t.g = 2 := by
  rw [FmtInfo.g, if_neg h]
  split <;> simp

/-- Element (i, j) of a twin buffer from its block's tiles. -/
theorem twinBlock_element {fmt i j : Nat} {ds : Array DTile} (h : t.g ≠ 4) (hi : i < 128 * t.g) (hj : j < 128 * t.g) :
    let tile := ds.getD (i / 128 * t.g + j / 128) ⟨#[], #[], #[], none⟩
    Map.get 0 (twinBlock t fmt ds).code (i * (128 * t.g) + j) = tile.code.getD (i % 128 * 128 + j % 128) 0
    ∧ Map.get 127 (twinBlock t fmt ds).scale (i * (128 * t.g) + j) = tile.scale.getD (i % 128 * 4 + j % 128 / 32) 127 := by
  dsimp only [twinBlock]
  rw [if_neg h]
  exact ⟨get_tab_row 0 (fun i j => (ds.getD (i / 128 * t.g + j / 128) _).code.getD (i % 128 * 128 + j % 128) 0) hi hj,
    get_tab_row 127 (fun i j => (ds.getD (i / 128 * t.g + j / 128) _).scale.getD (i % 128 * 4 + j % 128 / 32) 127) hi hj⟩

theorem twinBlock_shape {fmt : Nat} {ds : Array DTile} :
    (twinBlock t fmt ds).fmt = fmt ∧ (twinBlock t fmt ds).k = 128 * t.g ∧ (twinBlock t fmt ds).filled = true := by
  unfold twinBlock
  dsimp only
  split <;> exact ⟨rfl, rfl, rfl⟩

/-- The buffer that no pass reads is filled. -/
def Core.twinFilled (c : Core) (b : TwinBuf) : Core :=
  if c.twinCur then { c with twin0 := b, twinFresh := true } else { c with twin1 := b, twinFresh := true }

/-- A TFILL that nothing holds up fills a buffer. -/
theorem Core.tfill_clear {core fmt addr : Nat} {a : Bool × Nat} (he : e.timed = false) (hw : t.width ≠ 4) (ha : effAddr addr xa = some a) :
    let as := c.stackAddrs e t a.1 a.2 (t.g * t.g)
    c.stackFits e t a.1 as = true →
    c.Clear { units := [.twinFill], reads := c.stackUnits e t a.1 as, lasts := 128 * t.g } →
    ∃ writes : List Write, c.tfill e t core fmt addr xa =
      (e.done (c.twinFilled (twinBlock t fmt (as.map fun o => c.readMarked e t fmt a.1 o).toArray))
          (as.map fun o => corruptEvs 0 core o (c.readMarked e t fmt a.1 o)).flatten).after (128 * t.g) writes := by
  intro as hfit hc
  have htiles : (if t.g = 1 then 1 else if t.g = 2 then 4 else 0) = t.g * t.g := by
    obtain hg | hg := FmtInfo.g_of_width_ne hw <;> rw [hg] <;> rfl
  rw [Core.tfill, ha]
  dsimp only
  rw [htiles, if_neg (check_passes hfit), hc.issue e he]
  simp only [Core.usePorts_untimed he]
  exact ⟨_, rfl⟩

/-! ## The instructions of groups, where a core issues them -/

section
variable {g : Fin 384} {desc : Fin 256} {fmt : Fin 16} {addr : Fin 32768} {xa : Fin 32} {grp : Fin 8}

theorem execGopenClear_issues (hi : s.Issues g 0) : exec (.gopenClear g arr desc grp) s = .next (s.takeCore g (.gopenClear g arr desc grp)
    ((s.core g).gopenClear (s.env g) arr grp ((s.core g).descAt desc).first ((s.core g).descAt desc).count)) :=
  congrArg _ (hi.issue _ _)

theorem execGcloseKeep_issues (hi : s.Issues g 0) : exec (.gcloseKeep g arr grp) s = .next (s.takeCore g (.gcloseKeep g arr grp)
    ((s.core g).gcloseKeep (s.env g) arr grp)) :=
  congrArg _ (hi.issue _ _)

theorem execGclose_issues (hi : s.Issues g 0) (ht : s.fmt ((s.core g).descAt desc).dfmt = some t) (hcode : ((s.core g).descAt desc).dfmt ≠ 9) :
    exec (.gclose g arr desc xa grp) s = .next (s.takeCore g (.gclose g arr desc xa grp)
      ((s.core g).gclose (s.env g) t arr ((s.core g).descAt desc) ((s.core g).rx xa) grp)) :=
  (withFmt_some ht (bne_iff_ne.mpr hcode)).trans (congrArg _ (hi.issue _ _))

theorem execGopenLoad_issues {count first : Fin 32} (hi : s.Issues g 0) (ht : s.fmt fmt = some t)
    (hcode : fmt.val = 0 ∨ fmt.val = 1 ∨ fmt.val = 7 ∨ fmt.val = 8) :
    exec (.gopenLoad g fmt grp addr xa count first) s = .next (s.takeCore g (.gopenLoad g fmt grp addr xa count first)
      ((s.core g).gopenLoad (s.env g) t g fmt grp addr ((s.core g).rx xa) first (count.val + 1))) :=
  (withFmt_some ht (by obtain h | h | h | h := hcode <;> rw [h] <;> rfl)).trans (congrArg _ (hi.issue _ _))

theorem execTfill_issues (hi : s.Issues g 0) (ht : s.fmt fmt = some t) (hcode : fmt.val ≤ 6 ∨ 10 ≤ fmt.val) : exec (.tfill g fmt addr xa) s =
    .next (s.takeCore g (.tfill g fmt addr xa) ((s.core g).tfill (s.env g) t g fmt addr ((s.core g).rx xa))) :=
  (withFmt_some ht (arrayCode_iff.mpr hcode)).trans (congrArg _ (hi.issue _ _))

end

/-- Settles O18 (with the readings of logs 17 and 106): the openings and closes by the group's state, and what GOPEN.LOAD and TFILL read of their tiles. -/
theorem groupOpenings : Obligations.GroupOpenings := by
  refine ⟨fun g arr desc xa grp s => ?states, ?load, ?fill⟩
  case states =>
    intro c x refused meets
    refine ⟨fun hi hst hfit hfree hc => ?clear, fun hi hbad => ?notClear, fun hi hst hc => ?keep, fun hi hst => ?notKeep,
      fun hi t ht hcode hst => ?notClose, fun hst hcalm => ?complete⟩
    case clear =>
      have hb : c.openBad grp x.first x.count = false := by
        rw [Bool.eq_false_iff, ne_eq, Core.openBad_iff]
        rintro (h | h | ⟨h, hm⟩)
        · exact h hst
        · omega
        · exact hfree h hm
      refine ⟨(c.clearAcc x.first x.count).setGroup grp { st := .opened, first := x.first, count := x.count }, ?_, Core.group_setGroup ..,
        Core.get_clearAcc, Core.poison_clearAcc, fun h hne => Core.group_setGroup_ne _ _ hne, rfl⟩
      rw [execGopenClear_issues hi, Core.gopenClear_clear hi.timed hb hc, State.takeCore_quiet _ _ _ _ rfl rfl rfl]
      rfl
    case notClear => rw [execGopenClear_issues hi, Core.gopenClear_refused (Core.openBad_iff.mpr hbad), State.takeCore_refused]
    case keep =>
      refine ⟨c.setGroup grp { c.group grp with st := .closed }, ?_, Core.group_setGroup .., fun h hne => Core.group_setGroup_ne _ _ hne, rfl⟩
      rw [execGcloseKeep_issues hi, Core.gcloseKeep_clear hi.timed hst hc, State.takeCore_quiet _ _ _ _ rfl rfl rfl]
      rfl
    case notKeep => rw [execGcloseKeep_issues hi, Core.gcloseKeep_refused hst, State.takeCore_refused]
    case notClose => rw [execGclose_issues hi ht hcode, Core.gclose_refused hst, State.takeCore_refused]
    case complete =>
      exact ⟨_, execGcloseComplete_closing hst hcalm, Core.group_setGroup .., fun h hne => Core.group_setGroup_ne _ _ hne, rfl⟩
  case load =>
    intro g fmt grp addr xa count first t a s hi ht hcode c n as tile hb ha hfit hc
    obtain ⟨flights, hrun⟩ := Core.gopenLoad_clear (core := g) (code := fmt) hi.timed hb ha hfit (hc.lasting (128 * n))
    have htile : ∀ k < n, c.stackTile (s.env g) t fmt a.1 as k = tile k := fun k hk => Core.stackTile_of_lt (by rwa [Core.stackAddrs_length])
    refine ⟨c.groupLoaded t (c.stackTile (s.env g) t fmt a.1 as) grp first n, _, ?_, rfl, Core.group_setGroup .., fun k hk i hi j hj => ?_,
      fun k hk i hi => ?_, fun q => Core.get_groupLoaded_other, rfl⟩
    · rw [execGopenLoad_issues hi ht hcode, hrun]
      rfl
    · rw [Core.accGet_groupLoaded hk hi hj, htile k hk]
    · rw [Core.poison_groupLoaded hk hi, htile k hk, rowSpoilt]
  case fill =>
    intro g fmt addr xa t a s hi ht hcode hw c depth as tile ha hfit hc
    obtain ⟨writes, hrun⟩ := Core.tfill_clear (core := g) (fmt := fmt) hi.timed hw ha hfit (hc.lasting (128 * depth))
    obtain ⟨hfmt, hk, hfilled⟩ := twinBlock_shape (t := t) (fmt := fmt) (ds := (as.map fun o => c.readMarked (s.env g) t fmt a.1 o).toArray)
    refine ⟨twinBlock t fmt (as.map fun o => c.readMarked (s.env g) t fmt a.1 o).toArray, _, ?_, rfl, hfmt, hk, hfilled, fun i hi j hj => ?_⟩
    · rw [execTfill_issues hi ht hcode, hrun]
      rfl
    · have hdepth : depth ≠ 4 := by obtain h | h := FmtInfo.g_of_width_ne hw <;> omega
      have helem := twinBlock_element (fmt := fmt) (ds := (as.map fun o => c.readMarked (s.env g) t fmt a.1 o).toArray) hdepth hi hj
      dsimp only at helem
      rw [getD_toArray_map _ 0 _ (by
        rw [Core.stackAddrs_length]
        have hrow : i / 128 < depth := by omega
        have hcol : j / 128 < depth := by omega
        nlinarith)] at helem
      exact helem

/-! ## GCLOSE (R61, R72–R74, R98) -/

section
variable {x : ArrDesc} {a : Bool × Nat} (hg : (c.group grp).st = .opened) (ha : effAddr x.dst xa = some a)
  (hfit : tilesFit a.1 (tileAddrs a x.stride (c.group grp).count) (tileSize t (e.policy x.tensor)) = true)
include hg ha hfit

/-- A close that nothing holds up carries out its plan. -/
theorem Core.gclose_clear (he : e.timed = false) :
    let p := e.policy x.tensor
    let n := (c.group grp).count
    let as := tileAddrs a x.stride n
    let dest := as.map fun o => tileUnits a.1 o (tileSize t p)
    let h := Map.get {} e.stamps x.tensor
    let z := c.closePlan t x p (c.noise e x.tensor x.xb) a.1 ((List.range n).map fun i => ((c.group grp).first + i, as.getD i 0)) h
    ((t.hasScale || x.sr || (h.valid && h.grad)) = true → e.updating = false) →
    c.Clear { units := [converterOf arr], arrays := [arr], reads := [(1, (c.group grp).first, n)], writes := dest, lasts := 128 * n } →
    ∃ (flights : List Flight) (more : Nat), c.gclose e t arr x xa grp =
      { core := (c.lands (z.writes.map (·.write))).setGroup grp
          { c.group grp with st := .closing, dest := dest, ends := c.run + 128 * z.passes.length + 6 }
        stamps := Map.set {} e.stamps x.tensor z.stamp
        evs := z.evs ++ if z.dirty then [.fault 0x1204] else []
        flights := flights, more := more } := by
  intro p n as dest h z hwait hc
  have hgo : ¬ ((t.hasScale || x.sr || (h.valid && h.grad)) && e.updating) = true := by
    rw [Bool.and_eq_true]
    rintro ⟨hdraws, hupdating⟩
    rw [hwait hdraws] at hupdating
    cases hupdating
  rw [Core.gclose, if_neg (by simp [hg])]
  dsimp only
  rw [ha]
  dsimp only
  rw [if_neg (check_passes hfit), if_neg hgo, hc.issue e he]
  simp only [Core.usePorts_untimed he]
  exact ⟨_, _, rfl⟩

/-- A close that draws noise or uses a stamp waits for an awaited decision (R98, R164). -/
theorem Core.gclose_awaits (hdraws : (t.hasScale || x.sr || ((Map.get {} e.stamps x.tensor).valid && (Map.get {} e.stamps x.tensor).grad)) = true)
    (hu : e.updating = true) : c.gclose e t arr x xa grp = { core := c, stamps := e.stamps, stalled := some 11 } := by
  rw [Core.gclose, if_neg (by simp [hg])]
  dsimp only
  rw [ha]
  dsimp only
  rw [if_neg (check_passes hfit), if_pos (by rw [hdraws, hu]; rfl)]

end

/-- Settles O19: a close carries out its plan (`Core.gclose_clear`) or waits (`Core.gclose_awaits`). -/
theorem groupClose : Obligations.GroupClose := by
  intro g arr desc xa grp t a s hi c x p n as size dest stamps h i tiles z ht hcode hg ha hfit
  have hrun : exec i s = _ := execGclose_issues hi ht hcode
  refine ⟨fun hwait hc => ?_, fun hdraws hu => ?_⟩
  · obtain ⟨flights, more, hclose⟩ := Core.gclose_clear (e := s.env g) hg ha hfit hi.timed hwait (hc.lasting (128 * n))
    rw [hrun, hclose]
    rfl
  · rw [hrun, Core.gclose_awaits (e := s.env g) hg ha hfit hdraws hu]
    exact congrArg _ (State.takeCore_stall _ _ _ _ _ rfl rfl rfl)

end Sys2Proof.Machine
end

section
/-!
Conversions in the vector slot (ch. 3 and 4): what VCVT leaves in its register, the tile a VCVTS writes, its dirty mark and its tensor's
history, and the settling of O9.
-/
namespace Sys2Proof.Machine

variable {s : State} {c : Core} {e : Env}

/-! ## A vector register written by a conversion (R124, R126) -/

/-- Lanes are read from the register file alone. -/
theorem Core.vlane_congr {d : Core} {ty : VTy} {r i : Nat} (h : d.vreg = c.vreg) : d.vlane ty r i = c.vlane ty r i := by
  simp only [Core.vlane, Core.vh, Core.vw, h]

/-- A register written from its lanes holds their low bits. -/
theorem Core.vlane_putV_laneWord {ty : VTy} {r i : Nat} {f : Nat → Nat} {p : Nat → Bool} (hi : i < ty.lanes) :
    (c.putV r (laneWord ty f) p).vlane ty r i = f i % 2 ^ ty.width := by
  have hreg : (c.putV r (laneWord ty f) p).vreg = (c.vset ty r [] f).vreg := rfl
  rw [Core.vlane_congr hreg, (c.vset_writes ty r [] f).1 i hi]

theorem Core.vp_putV_same {r k : Nat} {f : Nat → Nat} {p : Nat → Bool} (hk : k < 32) : (c.putV r f p).vp r k = p k := by
  rw [Core.vp_putV _ _ _ _ _ _ hk, if_pos rfl]

/-- Writing a vector register changes no other register and nothing else of the core. -/
theorem Core.putV_keeps {r : Nat} {f : Nat → Nat} {p : Nat → Bool} :
    (∀ q : Nat, q ≠ r → ∀ w < 2048, (c.putV r f p).vw q w = c.vw q w) ∧ (∀ q : Nat, q ≠ r → ∀ k < 32, (c.putV r f p).vp q k = c.vp q k)
    ∧ c.putV r f p = { c with vreg := (c.putV r f p).vreg, vPoison := (c.putV r f p).vPoison } := by
  refine ⟨fun q hq w hw => ?_, fun q hq k hk => ?_, rfl⟩
  · rw [Core.vw_putV _ _ _ _ _ _ hw, if_neg hq]
  · rw [Core.vp_putV _ _ _ _ _ _ hk, if_neg hq]

/-- A register written without a fault leaves its core alone changed. -/
theorem State.takeCore_wroteV {g vd lat : Nat} {i : Instr} {d : Core} :
    s.takeCore g i ((s.env g).wroteV d vd lat) = s.setCore g d :=
  State.takeCore_quiet _ _ _ _ rfl rfl rfl

theorem State.takeCore_wroteV_fault {g vd lat code : Nat} {i : Instr} {d : Core} :
    s.takeCore g i ((s.env g).wroteV d vd lat [.fault code]) = (s.setCore g d).raise code (faultInst code g) :=
  State.takeCore_fault _ _ _ _ _ rfl rfl rfl

/-! ## VCVT (R89, R90, R99, R129, R164) -/

section
variable {free : Nat → Nat} {vd va vb tensor xs : Nat} {sr upper : Bool}

/-- Lane `i` of a VCVT to BF16: the lanes of VA, then those of VB, rounded with noise or to nearest. -/
def Core.roundedLane (c : Core) (noisy : Bool) (k : NoiseKey) (va vb i : Nat) : Nat :=
  FFmt.bf16.encode (if noisy then .sr (k.at (i / 128) (i % 128)) else .rne)
    (FFmt.f32.decode (if i < 2048 then c.vlane .f32 va i else c.vlane .f32 vb (i - 2048)))

/-- Poison of granule `k` of a VCVT to BF16: that of the two granules of the FP32 row it holds. -/
def Core.roundedPoison (c : Core) (va vb k : Nat) : Bool :=
  (if k < 16 then [c.vp va (2 * k), c.vp va (2 * k + 1)] else [c.vp vb (2 * k - 32), c.vp vb (2 * k - 31)]).any id

theorem Core.roundedPoison_eq {k : Nat} : c.roundedPoison va vb k =
    if k < 16 then c.vp va (2 * k) || c.vp va (2 * k + 1) else c.vp vb (2 * k - 32) || c.vp vb (2 * k - 31) := by
  unfold Core.roundedPoison
  split <;> simp

theorem execVcvt_issues {g : Fin 384} {vd va vb xs : Fin 32} {tensor : Fin 4096} {ty : VTy} (hi : s.Issues g 0) :
    exec (.vcvt g ty vd va vb sr tensor xs upper) s = .next ((s.takeCore g (.vcvt g ty vd va vb sr tensor xs upper)
      ((s.core g).vcvt (s.env g) s.freeAt ty vd va vb sr tensor xs upper)).freeSkip 2048) :=
  congrArg (fun t : State => (.next (t.freeSkip 2048) : Ans)) (hi.issue _ _)

variable (he : e.timed = false) (hc : c.Clear (vecUses vd))
include he hc

/-- To BF16, where no decision is awaited and a named id is VALID: the rounded lanes, each row's poison with it. -/
theorem Core.vcvt_toBf16 :
    let x := Map.get {} e.stamps tensor
    let noisy := sr || (x.valid && x.grad)
    (noisy = true → e.updating = false) → (sr = true → x.valid = true) →
    c.vcvt e free .f32 vd va vb sr tensor xs upper =
      e.wroteV (c.putV vd (laneWord .bf16 (c.roundedLane noisy (c.noise e tensor xs) va vb)) (c.roundedPoison va vb)) vd 6 := by
  intro x noisy hwait hvalid
  have hgo : ¬ (VTy.f32 = .f32 ∧ noisy = true ∧ e.updating = true) := fun ⟨_, hn, hu⟩ => Bool.false_ne_true ((hwait hn).symm.trans hu)
  have hok : ¬ (sr && !x.valid) = true := by
    rw [Bool.and_eq_true]
    exact fun ⟨hsr, hx⟩ => check_passes (hvalid hsr) hx
  rw [Core.vcvt, if_neg hgo, hc.issue e he]
  exact if_neg hok

/-- To BF16 with SR under an id that is not VALID: all poisoned, and 0x1203 (R99). -/
theorem Core.vcvt_toBf16_notValid (hu : e.updating = false) (hx : (Map.get {} e.stamps tensor).valid = false) :
    c.vcvt e free .f32 vd va vb true tensor xs upper =
      e.wroteV (c.putV vd (laneWord .bf16 (c.roundedLane true (c.noise e tensor xs) va vb)) fun _ => true) vd 6 [.fault 0x1203] := by
  rw [Core.vcvt, if_neg (by simp [hu]), hc.issue e he]
  exact if_pos (by rw [hx]; rfl)

/-- To FP32: half of VA, widened. -/
theorem Core.vcvt_toF32 : c.vcvt e free .bf16 vd va vb sr tensor xs upper =
    e.wroteV (c.putV vd (fun i => rne32 (FFmt.bf16.decode (c.vlane .bf16 va ((if upper then 2048 else 0) + i))))
      fun k => c.vp va ((if upper then 2048 else 0) / 128 + k / 2)) vd 6 := by
  rw [Core.vcvt, if_neg (by simp), hc.issue e he]
  rfl

/-- From INT32 each lane takes a free value (log 3). -/
theorem Core.vcvt_ofInt32 : c.vcvt e free .int32 vd va vb sr tensor xs upper = e.wroteV (c.vset .int32 vd [va, vb] free) vd 6 := by
  rw [Core.vcvt, if_neg (by simp), hc.issue e he]

end

/-! ## The writes of a converted tile (R82, R107, R152) -/

/-- A converted tile is written as bytes, with the mark of a compressed one. -/
theorem tileWrites_mem {t : FmtInfo} {code tensor p a : Nat} {acc : Bool} {o : TileOut} {w : Nat × Write}
    (hw : w ∈ (tileWrites t code tensor p acc a o).1) : (∃ b data bad, w.2 = .bytes acc b data bad) ∨ w.2 = .carried acc a tensor := by
  unfold tileWrites at hw
  dsimp only at hw
  split at hw
  case isTrue =>
    obtain hspan | hmark := List.mem_append.mp hw
    · obtain ⟨b, -, rfl⟩ := List.mem_map.mp hspan
      exact .inl ⟨_, _, _, rfl⟩
    · rw [List.mem_singleton.mp hmark]
      exact .inr rfl
  case isFalse =>
    obtain ⟨b, -, rfl⟩ := List.mem_map.mp hw
    exact .inl ⟨_, _, _, rfl⟩

/-- Writing a converted tile leaves the scalar words as they are. -/
theorem Core.putTile_sdm {t : FmtInfo} {code tensor p a : Nat} {acc : Bool} {o : TileOut} :
    (c.putTile t code tensor p acc a o).1.sdm = c.sdm := by
  refine List.foldlRecOn (motive := fun d : Core => d.sdm = c.sdm) _ _ rfl fun d hd w hw => ?_
  obtain ⟨v, hv, rfl⟩ := List.mem_map.mp hw
  obtain ⟨b, data, bad, h⟩ | h := tileWrites_mem hv
  · rw [h]
    cases acc <;> exact hd
  · rw [h]
    exact hd

/-- The writes of a conversion: the tile, then its dirty mark. -/
theorem Core.lands_tileWrites_dirty {t : FmtInfo} {code tensor p a : Nat} {acc on : Bool} {o : TileOut} :
    c.lands ((tileWrites t code tensor p acc a o).1.map (·.2) ++ [.dirty acc a on]) =
      (c.putTile t code tensor p acc a o).1.markDirty acc a on :=
  List.foldl_append

/-- A conversion's dirty mark, and beside it the scalar words as they are then. -/
theorem Core.markDirty_putTile {t : FmtInfo} {code tensor p a : Nat} {on : Bool} {o : TileOut} :
    let d := (c.putTile t code tensor p false a o).1
    d.markDirty false a on =
      { d with dirtyTiles := Map.set false d.dirtyTiles (a / 512) on, tileSdm := Map.set [] d.tileSdm (a / 512) c.sdm } := by
  intro d
  rw [← Core.putTile_sdm (c := c) (t := t) (code := code) (tensor := tensor) (p := p) (acc := false) (a := a) (o := o)]
  rfl

/-! ## VCVTS (R91, R98, R104–R108, R129, R164) -/

section
variable {t : FmtInfo} {fmt va tensor xs : Nat} {ty : VTy} {sr : Bool}

theorem execVcvts_issues {g : Fin 384} {va xs : Fin 32} {tensor : Fin 4096} {fmt : Fin 16} (hi : s.Issues g 0) (ht : s.fmt fmt = some t)
    (hcode : fmt.val ≠ 9) (hregs : (ty = .f32 ∧ va.val % 8 = 0) ∨ (ty = .bf16 ∧ va.val % 4 = 0)) :
    exec (.vcvts g ty va sr tensor xs fmt) s = .next (s.takeCore g (.vcvts g ty va sr tensor xs fmt)
      ((s.core g).vcvts (s.env g) t fmt ty va sr tensor xs)) :=
  (withFmt_some ht (by simp [hcode, hregs])).trans (congrArg _ (hi.issue _ _))

theorem Core.vcvts_outside (hout : spaceBytes false < (c.rx ((xs + 3) % 32)).toNat + tileSize t (e.policy tensor)) :
    c.vcvts e t fmt ty va sr tensor xs = e.done c [.fault 0x1302] :=
  if_pos hout

variable (hfit : (c.rx ((xs + 3) % 32)).toNat + tileSize t (e.policy tensor) ≤ spaceBytes false)
include hfit

/-- A conversion that draws noise or uses a stamp waits for an awaited decision (R98, R164). -/
theorem Core.vcvts_awaits
    (hdraws : (t.hasScale || sr || ((Map.get {} e.stamps tensor).valid && (Map.get {} e.stamps tensor).grad)) = true)
    (hu : e.updating = true) : c.vcvts e t fmt ty va sr tensor xs = { core := c, stamps := e.stamps, stalled := some 11 } :=
  (if_neg (Nat.not_lt.mpr hfit)).trans (if_pos (by rw [hdraws, hu]; rfl))

/-- A conversion that nothing holds up writes the converted tile, its dirty mark and its tensor's history. -/
theorem Core.vcvts_clear (he : e.timed = false) :
    let a := (c.rx ((xs + 3) % 32)).toNat
    let p := e.policy tensor
    let x := Map.get {} e.stamps tensor
    let z := convertOne t x sr (c.noise e tensor xs) (c.vecTileIn ty va)
    let dirty := dirtyTile t x z.1
    let w := c.putTile t fmt tensor p false a z.1
    ((t.hasScale || sr || (x.valid && x.grad)) = true → e.updating = false) →
    c.Clear { units := [.vcvts], writes := [granules a (tileSize t p)], lasts := 8 } →
    ∃ (flights : List Flight) (more : Nat), c.vcvts e t fmt ty va sr tensor xs =
      { core := { w.1 with dirtyTiles := Map.set false w.1.dirtyTiles (a / 512) dirty, tileSdm := Map.set [] w.1.tileSdm (a / 512) c.sdm }
        stamps := Map.set {} e.stamps tensor z.2.1
        evs := z.2.2 ++ w.2 ++ if dirty then [.fault 0x1204] else []
        flights := flights, more := more } := by
  intro a p x z dirty w hwait hc
  have hgo : ¬ ((t.hasScale || sr || (x.valid && x.grad)) && e.updating) = true := by
    rw [Bool.and_eq_true]
    exact fun ⟨hdraws, hu⟩ => Bool.false_ne_true ((hwait hdraws).symm.trans hu)
  rw [Core.vcvts, if_neg (Nat.not_lt.mpr hfit), if_neg hgo, hc.issue e he]
  simp only [Core.converts, he, Bool.false_eq_true, if_false, Core.lands_tileWrites_dirty, Core.markDirty_putTile]
  exact ⟨_, _, rfl⟩

end

/-- Settles O9 (with the reading of logs 3 and 91): VCVT by its source type, VCVTS as carried out, awaiting a decision, or past the tile store. -/
theorem vectorConversions : Obligations.VectorConversions := by
  refine ⟨fun g vd va vb xs sr upper tensor s hi hc => ?vcvt, fun g ty va xs sr tensor fmt t s hi ht hcode hregs => ?vcvts⟩
  case vcvt =>
    intro c x useSr noise next src half keeps
    refine ⟨fun hwait hvalid => ?toBf16, ?toF32, ?ofInt32, fun hsr hinvalid hu => ?notValid⟩
    case toBf16 =>
      refine ⟨c.putV vd (laneWord .bf16 (c.roundedLane useSr noise va vb)) (c.roundedPoison va vb), ?_, Core.putV_keeps,
        fun i hi => Core.vlane_putV_laneWord hi, fun k hk => (Core.vp_putV_same hk).trans Core.roundedPoison_eq⟩
      rw [execVcvt_issues hi, Core.vcvt_toBf16 hi.timed hc hwait hvalid, State.takeCore_wroteV]
      rfl
    case toF32 =>
      refine ⟨_, ?_, Core.putV_keeps, fun i hi => (Core.vw_putV _ _ _ _ _ _ hi).trans (if_pos rfl), fun k hk => Core.vp_putV_same hk⟩
      rw [execVcvt_issues hi, Core.vcvt_toF32 hi.timed hc, State.takeCore_wroteV]
      rfl
    case ofInt32 =>
      refine ⟨c.vset .int32 vd [va, vb] s.freeAt, ?_, Core.putV_keeps, (c.vset_writes .int32 vd [va, vb] s.freeAt).1⟩
      rw [execVcvt_issues hi, Core.vcvt_ofInt32 hi.timed hc, State.takeCore_wroteV]
      rfl
    case notValid =>
      subst hsr
      refine ⟨c.putV vd (laneWord .bf16 (c.roundedLane true noise va vb)) fun _ => true, ?_, Core.putV_keeps, fun k hk => Core.vp_putV_same hk⟩
      rw [execVcvt_issues hi, Core.vcvt_toBf16_notValid hi.timed hc hu hinvalid, State.takeCore_wroteV_fault]
  case vcvts =>
    have hrun := execVcvts_issues (sr := sr) (tensor := tensor) (xs := xs) hi ht hcode hregs
    refine ⟨fun hfit hwait hc => ?clear, fun hfit hdraws hu => ?awaits, fun hout => ?outside⟩
    case clear =>
      obtain ⟨flights, more, hconv⟩ := Core.vcvts_clear (e := s.env g) (fmt := fmt) hfit hi.timed hwait (hc.lasting 8)
      rw [hrun, hconv]
      rfl
    case awaits =>
      rw [hrun, Core.vcvts_awaits (e := s.env g) hfit hdraws hu]
      exact congrArg _ (State.takeCore_stall _ _ _ _ _ rfl rfl rfl)
    case outside => rw [hrun, Core.vcvts_outside (e := s.env g) hout, State.takeCore_refused]

end Sys2Proof.Machine
end

section
/-!
The encodings of the slots and of a bundle (R114, R122, R125, R126, R131, R132, R136, R137): each field of a word is read back from where it
stands, and the settling of O59.
-/
namespace Sys2Proof.Machine

/-! ## Fields -/

theorem fin5_val {w lo : Nat} : (fin5 w lo).val = w / 2 ^ lo % 32 := rfl
theorem finN_eq {n w lo : Nat} {x : Fin (2 ^ n)} (h : w / 2 ^ lo % 2 ^ n = x) : finN n w lo = x := Fin.ext h
theorem finN_val {n w lo : Nat} : (finN n w lo).val = w / 2 ^ lo % 2 ^ n := rfl
theorem imm19_toNat {w : Nat} : (imm19 w).toNat = w % 2 ^ 19 := BitVec.toNat_ofNat ..

theorem bit_eq {w i : Nat} {b : Bool} (h : w / 2 ^ i % 2 = b.toNat) : bit w i = b := by
  rw [bit, Nat.testBit_eq_decide_div_mod_eq, h]
  cases b <;> rfl

/-- What an encoder with a condition on the operands yields. -/
theorem word_of_ite {p : Prop} {_ : Decidable p} {v w : Nat} (h : (if p then some v else none) = some w) : p ∧ v = w :=
  (Option.ite_none_right_eq_some.mp h).imp_right Option.some.inj

/-! ## Scalar instructions (R136) -/

section
variable {op xd a b : Nat} {imm : BitVec 19}

@[simp] theorem op_scalarWord (hop : op < 64) (hxd : xd < 32) (ha : a < 32) (hb : b < 32) : bits (scalarWord op xd a b) 39 34 = op := by
  unfold bits scalarWord
  omega

@[simp] theorem xd_scalarWord (hxd : xd < 32) (ha : a < 32) (hb : b < 32) : fin5 (scalarWord op xd a b) 29 = ⟨xd, hxd⟩ := by
  simp only [Fin.ext_iff, fin5_val, scalarWord]
  omega

@[simp] theorem a_scalarWord (ha : a < 32) (hb : b < 32) : fin5 (scalarWord op xd a b) 24 = ⟨a, ha⟩ := by
  simp only [Fin.ext_iff, fin5_val, scalarWord]
  omega

@[simp] theorem b_scalarWord (hb : b < 32) : fin5 (scalarWord op xd a b) 19 = ⟨b, hb⟩ := by
  simp only [Fin.ext_iff, fin5_val, scalarWord]
  omega

/-- The immediate leaves the other fields of a word as they are. -/
@[simp] theorem bits_scalarWord_add : bits (scalarWord op xd a b + imm.toNat) 39 34 = bits (scalarWord op xd a b) 39 34 := by
  unfold bits scalarWord
  omega

@[simp] theorem fin5_scalarWord_add {lo : Nat} (hlo : 19 ≤ lo) : fin5 (scalarWord op xd a b + imm.toNat) lo = fin5 (scalarWord op xd a b) lo := by
  have hfew : (scalarWord op xd a b + imm.toNat) / 2 ^ 19 = scalarWord op xd a b / 2 ^ 19 := by
    unfold scalarWord
    omega
  simp only [Fin.ext_iff, fin5_val]
  rw [← Nat.sub_add_cancel hlo, Nat.add_comm _ 19, Nat.pow_add, ← Nat.div_div_eq_div_mul, ← Nat.div_div_eq_div_mul, hfew]

@[simp] theorem imm_scalarWord_add : imm19 (scalarWord op xd a b + imm.toNat) = imm := by
  apply BitVec.eq_of_toNat_eq
  rw [imm19_toNat]
  unfold scalarWord
  omega

end

theorem scalarSlot_of_encodeScalar {i : Instr} {w : Nat} {t : Fin 4} (h : encodeScalar t i = some w) :
    w < 2 ^ 40 ∧ ∃ g, scalarSlot g t w = .instr i := by
  unfold encodeScalar at h
  split at h
  case h_27 => contradiction
  all_goals
    obtain ⟨rfl, rfl⟩ := word_of_ite h
    refine ⟨?_, ?_⟩
    · simp only [scalarImm, scalarWord]
      omega
    · simp [scalarSlot, scalarImm]

/-! ## The vector slot (R125, R126) -/

section
variable {op vd va vb vc n : Nat} {ty : VTy}

theorem typeField_lt : typeField ty < 3 := by cases ty <;> decide

@[simp] theorem op_vectorWord (hop : op < 256) (hvd : vd < 32) (hva : va < 32) (hvb : vb < 32) (hvc : vc < 32) :
    bits (vectorWord op ty vd va vb vc) 63 56 = op := by
  have hty := typeField_lt (ty := ty)
  unfold bits vectorWord
  omega

@[simp] theorem vtype_vectorWord (hvd : vd < 32) (hva : va < 32) (hvb : vb < 32) (hvc : vc < 32) :
    vtype (vectorWord op ty vd va vb vc) = some ty := by
  have hbits : bits (vectorWord op ty vd va vb vc) 55 54 = typeField ty := by
    have hty := typeField_lt (ty := ty)
    unfold bits vectorWord
    omega
  rw [vtype, hbits]
  cases ty <;> rfl

@[simp] theorem vd_vectorWord (hvd : vd < 32) (hva : va < 32) (hvb : vb < 32) (hvc : vc < 32) :
    fin5 (vectorWord op ty vd va vb vc) 49 = ⟨vd, hvd⟩ := by
  simp only [Fin.ext_iff, fin5_val, vectorWord]
  omega

@[simp] theorem va_vectorWord (hva : va < 32) (hvb : vb < 32) (hvc : vc < 32) : fin5 (vectorWord op ty vd va vb vc) 44 = ⟨va, hva⟩ := by
  simp only [Fin.ext_iff, fin5_val, vectorWord]
  omega

@[simp] theorem vb_vectorWord (hvb : vb < 32) (hvc : vc < 32) : fin5 (vectorWord op ty vd va vb vc) 39 = ⟨vb, hvb⟩ := by
  simp only [Fin.ext_iff, fin5_val, vectorWord]
  omega

@[simp] theorem vc_vectorWord (hvc : vc < 32) : fin5 (vectorWord op ty vd va vb vc) 34 = ⟨vc, hvc⟩ := by
  simp only [Fin.ext_iff, fin5_val, vectorWord]
  omega

@[simp] theorem spare_vectorWord : bits (vectorWord op ty vd va vb vc) 33 30 = 0 := by
  unfold bits vectorWord
  omega

/-- What is left of a vector word below its registers: the SR flag, a tensor id, a scalar register and the immediate (R126, R129, R130). -/
def lowWord (sr : Bool) (tensor : Fin 4096) (xs : Fin 32) (imm : Fin 2048) : Nat :=
  sr.toNat * 2 ^ 28 + (tensor * 2 ^ 16 + (xs * 2 ^ 11 + imm))

variable {sr : Bool} {tensor : Fin 4096} {xs : Fin 32} {imm : Fin 2048}

theorem lowWord_lt : lowWord sr tensor xs imm < 2 ^ 29 := by
  have hsr := sr.toNat_le
  unfold lowWord
  omega

theorem vectorWord_add_lt (hop : op < 256) (hvd : vd < 32) (hva : va < 32) (hvb : vb < 32) (hvc : vc < 32) :
    vectorWord op ty vd va vb vc + lowWord sr tensor xs imm < 2 ^ 64 := by
  have hlow := lowWord_lt (sr := sr) (tensor := tensor) (xs := xs) (imm := imm)
  have hty := typeField_lt (ty := ty)
  unfold vectorWord
  omega

theorem vectorWord_lt (hop : op < 256) (hvd : vd < 32) (hva : va < 32) (hvb : vb < 32) (hvc : vc < 32) :
    vectorWord op ty vd va vb vc < 2 ^ 64 :=
  Nat.lt_of_le_of_lt (Nat.le_add_right ..) (vectorWord_add_lt (sr := false) (tensor := 0) (xs := 0) (imm := 0) hop hvd hva hvb hvc)

theorem vectorWord_add_div {lo : Nat} (hlo : 30 ≤ lo) :
    (vectorWord op ty vd va vb vc + lowWord sr tensor xs imm) / 2 ^ lo = vectorWord op ty vd va vb vc / 2 ^ lo := by
  have hlow := lowWord_lt (sr := sr) (tensor := tensor) (xs := xs) (imm := imm)
  have hdiv : (vectorWord op ty vd va vb vc + lowWord sr tensor xs imm) / 2 ^ 30 = vectorWord op ty vd va vb vc / 2 ^ 30 := by
    unfold vectorWord
    omega
  rw [← Nat.sub_add_cancel hlo, Nat.add_comm _ 30, Nat.pow_add, ← Nat.div_div_eq_div_mul, ← Nat.div_div_eq_div_mul, hdiv]

@[simp] theorem bits_vectorWord_add {hi lo : Nat} (hlo : 30 ≤ lo) :
    bits (vectorWord op ty vd va vb vc + lowWord sr tensor xs imm) hi lo = bits (vectorWord op ty vd va vb vc) hi lo := by
  rw [bits, bits, vectorWord_add_div hlo]

@[simp] theorem fin5_vectorWord_add {lo : Nat} (hlo : 30 ≤ lo) :
    fin5 (vectorWord op ty vd va vb vc + lowWord sr tensor xs imm) lo = fin5 (vectorWord op ty vd va vb vc) lo := by
  rw [Fin.ext_iff, fin5_val, fin5_val, vectorWord_add_div hlo]

@[simp] theorem vtype_vectorWord_add :
    vtype (vectorWord op ty vd va vb vc + lowWord sr tensor xs imm) = vtype (vectorWord op ty vd va vb vc) := by
  rw [vtype, vtype, bits_vectorWord_add (by decide)]

@[simp] theorem bit29_vectorWord_add : bit (vectorWord op ty vd va vb vc + lowWord sr tensor xs imm) 29 = false := bit_eq (by
  have hlow := lowWord_lt (sr := sr) (tensor := tensor) (xs := xs) (imm := imm)
  unfold vectorWord
  simp only [Bool.toNat_false]
  omega)

@[simp] theorem sr_vectorWord_add : bit (vectorWord op ty vd va vb vc + lowWord sr tensor xs imm) 28 = sr := bit_eq (by
  have hsr := sr.toNat_le
  unfold vectorWord lowWord
  omega)

@[simp] theorem tensor_vectorWord_add : finN 12 (vectorWord op ty vd va vb vc + lowWord sr tensor xs imm) 16 = tensor := by
  simp only [Fin.ext_iff, finN_val, vectorWord, lowWord]
  omega

@[simp] theorem xs_vectorWord_add : fin5 (vectorWord op ty vd va vb vc + lowWord sr tensor xs imm) 11 = xs := by
  simp only [Fin.ext_iff, fin5_val, vectorWord, lowWord]
  omega

@[simp] theorem imm_vectorWord_add : (vectorWord op ty vd va vb vc + lowWord sr tensor xs imm) % 2048 = imm := by
  unfold vectorWord lowWord
  omega

end

theorem vectorSlot_of_encodeVector {i : Instr} {w : Nat} (h : encodeVector i = some w) :
    w < 2 ^ 64 ∧ ∃ g, vectorSlot g w = .instr i := by
  unfold encodeVector at h
  split at h
  case h_23 => contradiction
  case h_13 g ty vd xs =>
    obtain rfl : vectorWord 0x0D ty vd 0 0 0 + lowWord false 0 xs 0 = w := by simpa [lowWord] using h
    exact ⟨vectorWord_add_lt (by omega) (by omega) (by omega) (by omega) (by omega), by simp [vectorSlot]⟩
  case h_14 g ty vd va vb sr tensor xs upper =>
    have hup := upper.toNat_lt
    have hbit : bit upper.toNat 0 = upper := bit_eq (by omega)
    obtain rfl : vectorWord 0x0E ty vd va vb 0 + lowWord sr tensor xs ⟨upper.toNat, by omega⟩ = w := by
      simpa [lowWord, Nat.add_assoc] using h
    exact ⟨vectorWord_add_lt (by omega) (by omega) (by omega) (by omega) (by omega), by simp [vectorSlot, hbit]⟩
  case h_15 g ty va sr tensor xs fmt =>
    have hfmt : finN 4 fmt 0 = fmt := by
      rw [Fin.ext_iff, finN_val]
      omega
    obtain rfl : vectorWord 0x0F ty 0 va 0 0 + lowWord sr tensor xs ⟨fmt, by omega⟩ = w := by
      simpa [lowWord, Nat.add_assoc] using h
    exact ⟨vectorWord_add_lt (by omega) (by omega) (by omega) (by omega) (by omega), by simp [vectorSlot, hfmt]⟩
  case h_22 g ty xs k l =>
    have hk : finN 4 (k * 128 + l) 7 = k := by
      rw [Fin.ext_iff, finN_val]
      omega
    have hl : finN 7 (k * 128 + l) 0 = l := by
      rw [Fin.ext_iff, finN_val]
      omega
    obtain rfl : vectorWord 0x16 ty 0 0 0 0 + lowWord false 0 xs ⟨k * 2 ^ 7 + l, by omega⟩ = w := by
      simpa [lowWord, Nat.add_assoc] using h
    exact ⟨vectorWord_add_lt (by omega) (by omega) (by omega) (by omega) (by omega), by simp [vectorSlot, hk, hl]⟩
  all_goals
    obtain rfl := Option.some.inj h
    exact ⟨vectorWord_lt (by omega) (by omega) (by omega) (by omega) (by omega), by simp [vectorSlot]⟩

/-! ## Array slots (R122) -/

section
variable {op d xa xn grp start : Nat} {swap : Bool}

/-- The word of an array slot from all its fields. -/
def arrayWord (op d xa xn : Nat) (swap : Bool) (grp start : Nat) : Nat :=
  op * 2 ^ 36 + d * 2 ^ 28 + xa * 2 ^ 23 + xn * 2 ^ 18 + swap.toNat * 2 ^ 17 + grp * 2 ^ 14 + start * 2 ^ 2

theorem arrayWord_lt (hop : op < 16) (hd : d < 256) (hxa : xa < 32) (hxn : xn < 32) (hgrp : grp < 8) (hstart : start < 4096) :
    arrayWord op d xa xn swap grp start < 2 ^ 40 := by
  have hswap := swap.toNat_le
  unfold arrayWord
  omega

@[simp] theorem spare_arrayWord : arrayWord op d xa xn swap grp start % 4 = 0 := by
  unfold arrayWord
  omega

@[simp] theorem op_arrayWord (hop : op < 16) (hd : d < 256) (hxa : xa < 32) (hxn : xn < 32) (hgrp : grp < 8) (hstart : start < 4096) :
    bits (arrayWord op d xa xn swap grp start) 39 36 = op := by
  have hswap := swap.toNat_le
  unfold bits arrayWord
  omega

@[simp] theorem desc_arrayWord (hd : d < 256) (hxa : xa < 32) (hxn : xn < 32) (hgrp : grp < 8) (hstart : start < 4096) :
    finN 8 (arrayWord op d xa xn swap grp start) 28 = ⟨d, hd⟩ := by
  have hswap := swap.toNat_le
  simp only [Fin.ext_iff, finN_val, arrayWord]
  omega

@[simp] theorem xa_arrayWord (hxa : xa < 32) (hxn : xn < 32) (hgrp : grp < 8) (hstart : start < 4096) :
    fin5 (arrayWord op d xa xn swap grp start) 23 = ⟨xa, hxa⟩ := by
  have hswap := swap.toNat_le
  simp only [Fin.ext_iff, fin5_val, arrayWord]
  omega

@[simp] theorem xn_arrayWord (hxn : xn < 32) (hgrp : grp < 8) (hstart : start < 4096) :
    fin5 (arrayWord op d xa xn swap grp start) 18 = ⟨xn, hxn⟩ := by
  have hswap := swap.toNat_le
  simp only [Fin.ext_iff, fin5_val, arrayWord]
  omega

@[simp] theorem swap_arrayWord (hgrp : grp < 8) (hstart : start < 4096) : bit (arrayWord op d xa xn swap grp start) 17 = swap := bit_eq (by
  have hswap := swap.toNat_le
  unfold arrayWord
  omega)

@[simp] theorem grp_arrayWord (hgrp : grp < 8) (hstart : start < 4096) : finN 3 (arrayWord op d xa xn swap grp start) 14 = ⟨grp, hgrp⟩ := by
  simp only [Fin.ext_iff, finN_val, arrayWord]
  omega

@[simp] theorem start_arrayWord (hstart : start < 4096) : finN 12 (arrayWord op d xa xn swap grp start) 2 = ⟨start, hstart⟩ := by
  simp only [Fin.ext_iff, finN_val, arrayWord]
  omega

end

theorem arraySlot_of_encodeArray {i : Instr} {w : Nat} {arr : Arr} (h : encodeArray arr i = some w) :
    w < 2 ^ 40 ∧ ∃ g, arraySlot g arr w = .instr i := by
  unfold encodeArray at h
  split at h
  case h_1 g slot d xa =>
    obtain ⟨rfl, rfl⟩ : slot = arr ∧ arrayWord 1 d xa 0 false 0 0 = w := by simpa [arrayWord] using h
    exact ⟨arrayWord_lt (by omega) (by omega) (by omega) (by omega) (by omega) (by omega), by simp [arraySlot]⟩
  case h_2 g slot d xa xn swap grp start =>
    obtain ⟨rfl, rfl⟩ : slot = arr ∧ arrayWord 2 d xa xn swap grp start = w := word_of_ite h
    exact ⟨arrayWord_lt (by omega) (by omega) (by omega) (by omega) (by omega) (by omega), by simp [arraySlot]⟩
  case h_3 g d xa xn swap grp start =>
    obtain ⟨rfl, rfl⟩ : arr = .a ∧ arrayWord 3 d xa xn swap grp start = w := word_of_ite h
    exact ⟨arrayWord_lt (by omega) (by omega) (by omega) (by omega) (by omega) (by omega), by simp [arraySlot]⟩
  case h_4 g slot d grp =>
    obtain ⟨rfl, rfl⟩ : slot = arr ∧ arrayWord 4 d 0 0 false grp 0 = w := by simpa [arrayWord] using h
    exact ⟨arrayWord_lt (by omega) (by omega) (by omega) (by omega) (by omega) (by omega), by simp [arraySlot]⟩
  case h_5 g slot d xa grp =>
    obtain ⟨rfl, rfl⟩ : slot = arr ∧ arrayWord 5 d xa 0 false grp 0 = w := by simpa [arrayWord] using h
    exact ⟨arrayWord_lt (by omega) (by omega) (by omega) (by omega) (by omega) (by omega), by simp [arraySlot]⟩
  case h_6 g slot grp =>
    obtain ⟨rfl, rfl⟩ : slot = arr ∧ arrayWord 6 0 0 0 false grp 0 = w := by simpa [arrayWord] using h
    exact ⟨arrayWord_lt (by omega) (by omega) (by omega) (by omega) (by omega) (by omega), by simp [arraySlot]⟩
  case h_7 => contradiction

/-! ## The tile-move slot (R131, R132) -/

section
variable {op v : Nat} {fmt : Fin 16} {addr : Fin 32768} {xa xc : Fin 32} {tr : Bool} {aux : Fin 512}

/-- A move word from all its fields. -/
def moveFields (op : Nat) (fmt : Fin 16) (v : Nat) (addr : Fin 32768) (xa xc : Fin 32) (tr : Bool) (aux : Fin 512) : Nat :=
  moveWord op fmt v addr xa + xc * 2 ^ 10 + tr.toNat * 2 ^ 9 + aux

theorem moveFields_lt (hop : op < 16) (hv : v < 32) : moveFields op fmt v addr xa xc tr aux < 2 ^ 48 := by
  have htr := tr.toNat_le
  unfold moveFields moveWord
  omega

@[simp] theorem op_moveFields (hop : op < 16) (hv : v < 32) : bits (moveFields op fmt v addr xa xc tr aux) 47 44 = op := by
  have htr := tr.toNat_le
  unfold bits moveFields moveWord
  omega

@[simp] theorem fmt_moveFields (hv : v < 32) : finN 4 (moveFields op fmt v addr xa xc tr aux) 40 = fmt := by
  have htr := tr.toNat_le
  simp only [Fin.ext_iff, finN_val, moveFields, moveWord]
  omega

@[simp] theorem v_moveFields (hv : v < 32) : fin5 (moveFields op fmt v addr xa xc tr aux) 35 = ⟨v, hv⟩ := by
  have htr := tr.toNat_le
  simp only [Fin.ext_iff, fin5_val, moveFields, moveWord]
  omega

@[simp] theorem group_moveFields (hv : v < 8) : finN 3 (moveFields op fmt v addr xa xc tr aux) 35 = ⟨v, hv⟩ := by
  have htr := tr.toNat_le
  simp only [Fin.ext_iff, finN_val, moveFields, moveWord]
  omega

@[simp] theorem courier_moveFields (hv : v < 4) : finN 2 (moveFields op fmt v addr xa xc tr aux) 35 = ⟨v, hv⟩ := by
  have htr := tr.toNat_le
  simp only [Fin.ext_iff, finN_val, moveFields, moveWord]
  omega

@[simp] theorem addr_moveFields : finN 15 (moveFields op fmt v addr xa xc tr aux) 20 = addr := by
  have htr := tr.toNat_le
  simp only [Fin.ext_iff, finN_val, moveFields, moveWord]
  omega

@[simp] theorem xa_moveFields : fin5 (moveFields op fmt v addr xa xc tr aux) 15 = xa := by
  have htr := tr.toNat_le
  simp only [Fin.ext_iff, fin5_val, moveFields, moveWord]
  omega

@[simp] theorem xc_moveFields : fin5 (moveFields op fmt v addr xa xc tr aux) 10 = xc := by
  have htr := tr.toNat_le
  simp only [Fin.ext_iff, fin5_val, moveFields, moveWord]
  omega

@[simp] theorem tr_moveFields : bit (moveFields op fmt v addr xa xc tr aux) 9 = tr := bit_eq (by
  have htr := tr.toNat_le
  unfold moveFields moveWord
  omega)

@[simp] theorem aux_moveFields : finN 9 (moveFields op fmt v addr xa xc tr aux) 0 = aux := by
  simp only [Fin.ext_iff, finN_val, moveFields, moveWord]
  omega

@[simp] theorem low_moveFields (haux : aux.val < 32) : fin5 (moveFields op fmt v addr xa xc tr aux) 0 = ⟨aux, haux⟩ := by
  simp only [Fin.ext_iff, fin5_val, moveFields, moveWord]
  omega

end

theorem moveSlot_of_encodeMove {i : Instr} {w : Nat} (h : encodeMove i = some w) : w < 2 ^ 48 ∧ ∃ g, moveSlot g w = .instr i := by
  unfold encodeMove at h
  split at h
  case h_1 g fmt v addr xa tr aux =>
    obtain rfl : moveFields 1 fmt v addr xa 0 tr aux = w := by simpa [moveFields] using h
    exact ⟨moveFields_lt (by omega) (by omega), by simp [moveSlot]⟩
  case h_2 g fmt v addr xa aux =>
    obtain rfl : moveFields 2 fmt v addr xa 0 false aux = w := by simpa [moveFields] using h
    exact ⟨moveFields_lt (by omega) (by omega), by simp [moveSlot]⟩
  case h_3 g fmt addr xa xc tr =>
    obtain rfl : moveFields 3 fmt 0 addr xa xc tr 0 = w := by simpa [moveFields] using h
    exact ⟨moveFields_lt (by omega) (by omega), by simp [moveSlot]⟩
  case h_4 g fmt addr xa =>
    obtain rfl : moveFields 4 fmt 0 addr xa 0 false 0 = w := by simpa [moveFields] using h
    exact ⟨moveFields_lt (by omega) (by omega), by simp [moveSlot]⟩
  case h_5 g fmt grp addr xa count first =>
    have hgrp : grp.val < 32 := by omega
    obtain rfl : moveFields 5 fmt grp addr xa count false ⟨first, by omega⟩ = w := by simpa [moveFields] using h
    exact ⟨moveFields_lt (by omega) hgrp, by simp [moveSlot, hgrp]⟩
  case h_6 g k xa d =>
    have hk : k.val < 32 := by omega
    obtain rfl : moveFields 6 0 k 0 xa 0 false d = w := by simpa [moveFields] using h
    exact ⟨moveFields_lt (by omega) hk, by simp [moveSlot, hk]⟩
  case h_7 => contradiction

/-! ## The sync slot (R137) -/

theorem syncSlot_of_encodeSync {i : Instr} {w : Nat} (h : encodeSync i = some w) : w < 2 ^ 24 ∧ ∃ g, syncSlot g w = .instr i := by
  unfold encodeSync at h
  split at h
  case h_7 => contradiction
  all_goals obtain rfl := Option.some.inj h
  case h_1 g count len =>
    have hop : bits (1 * 2 ^ 20 + count * 2 ^ 8 + len) 23 20 = 1 := by
      unfold bits
      omega
    have hcount : finN 12 (1 * 2 ^ 20 + count * 2 ^ 8 + len) 8 = count := finN_eq (by omega)
    have hlen : finN 8 (1 * 2 ^ 20 + count * 2 ^ 8 + len) 0 = len := finN_eq (by omega)
    exact ⟨by omega, g, by simp only [syncSlot, hop, hcount, hlen]⟩
  case h_2 g => exact ⟨by decide, g, rfl⟩
  case h_3 g space entry =>
    have hop : bits (3 * 2 ^ 20 + space * 2 ^ 18 + entry * 2 ^ 8) 23 20 = 3 := by
      unfold bits
      omega
    have hspace : finN 2 (3 * 2 ^ 20 + space * 2 ^ 18 + entry * 2 ^ 8) 18 = space := finN_eq (by omega)
    have hentry : finN 10 (3 * 2 ^ 20 + space * 2 ^ 18 + entry * 2 ^ 8) 8 = entry := finN_eq (by omega)
    exact ⟨by omega, g, by simp only [syncSlot, hop, hspace, hentry]⟩
  case h_4 g thread word =>
    have hop : bits (4 * 2 ^ 20 + thread * 2 ^ 18 + word) 23 20 = 4 := by
      unfold bits
      omega
    have hthread : finN 2 (4 * 2 ^ 20 + thread * 2 ^ 18 + word) 18 = thread := finN_eq (by omega)
    have hword : finN 10 (4 * 2 ^ 20 + thread * 2 ^ 18 + word) 0 = word := finN_eq (by omega)
    exact ⟨by omega, g, by simp only [syncSlot, hop, hthread, hword]⟩
  case h_5 g => exact ⟨by decide, g, rfl⟩
  case h_6 g => exact ⟨by decide, g, rfl⟩

/-! ## Bundles (R114) -/

section
variable {a b v m c y : Nat}

/-- The 256 bits of a bundle from its six slot words. -/
def bundleWord (a b v m c y : Nat) : Nat := a * 2 ^ 216 + b * 2 ^ 176 + v * 2 ^ 112 + m * 2 ^ 64 + c * 2 ^ 24 + y

/-- A bundle's words lie one above the other. -/
theorem bits_bundleWord (ha : a < 2 ^ 40) (hb : b < 2 ^ 40) (hv : v < 2 ^ 64) (hm : m < 2 ^ 48) (hc : c < 2 ^ 40) (hy : y < 2 ^ 24) :
    let x := bundleWord a b v m c y
    bits x 255 216 = a ∧ bits x 215 176 = b ∧ bits x 175 112 = v ∧ bits x 111 64 = m ∧ bits x 63 24 = c ∧ bits x 23 0 = y := by
  unfold bits bundleWord
  refine ⟨?_, ?_, ?_, ?_, ?_, ?_⟩ <;> omega

end

/-- A TWIN that a core's slot holds is that core's. -/
theorem twin_of_arraySlot {g h : Fin 384} {arr : Arr} {w : Nat} {d : Fin 256} {xa xn : Fin 32} {swap : Bool} {grp : Fin 8} {start : Fin 4096}
    (hs : arraySlot g arr w = .instr (.twin h d xa xn swap grp start)) : h = g := by
  unfold arraySlot at hs
  dsimp only at hs
  split at hs
  · contradiction
  · split at hs
    case h_4 =>
      split at hs
      · exact ((Instr.twin.injEq ..).mp (Slot.instr.inj hs)).1.symm
      · contradiction
    all_goals cases hs

/-- Settles O59: each slot's words by `…Slot_of_encode…`, a bundle by the places of its words. -/
theorem slotEncodings : Obligations.SlotEncodings := by
  refine ⟨fun i w => ⟨fun _ => arraySlot_of_encodeArray, vectorSlot_of_encodeVector, moveSlot_of_encodeMove,
    fun _ => scalarSlot_of_encodeScalar, syncSlot_of_encodeSync⟩, fun g a b v m c y ha hb hv hm hc hy => ?_⟩
  obtain ⟨hA, hB, hV, hM, hC, hY⟩ := bits_bundleWord ha hb hv hm hc hy
  unfold bundleWord at hA hB hV hM hC hY
  simp only [bundle, hA, hB, hV, hM, hC, hY, true_and]
  refine ⟨fun hno => ?alone, fun d xa xn sw gr st htwin => ?twin⟩
  case alone =>
    split
    case h_1 h d xa xn sw gr st htwin _ =>
      obtain rfl := twin_of_arraySlot htwin
      exact (hno _ _ _ _ _ _ htwin).elim
    case h_2 h d xa xn sw gr st htwin _ =>
      obtain rfl := twin_of_arraySlot htwin
      exact (hno _ _ _ _ _ _ htwin).elim
    case h_3 => rfl
  case twin =>
    rw [htwin]
    cases arraySlot g .b b <;> rfl
end Sys2Proof.Machine
end

section
/-!
The ranking of VTOPK (R130): values in their order, columns ranked by insertion, and the settling of O10.
-/
namespace Sys2Proof.Machine

/-! ## The order of values -/

/-- The extended real that a value other than a NaN stands for. -/
noncomputable def realOf : FV → EReal
  | .nan => 0
  | .inf neg => if neg then ⊥ else ⊤
  | .fin neg m e => (((if neg then -1 else 1) * m * 2 ^ e : ℝ) : EReal)

theorem scaled_mul {neg : Bool} {m : Nat} {e e0 : Int} (h : e0 ≤ e) : (scaled neg m e e0 : ℝ) * 2 ^ e0 = (if neg then -1 else 1) * m * 2 ^ e := by
  have hpow : (2 : ℝ) ^ e = 2 ^ (e - e0).toNat * 2 ^ e0 := by
    rw [← zpow_natCast, ← zpow_add₀ two_ne_zero, Int.toNat_of_nonneg (by omega), Int.sub_add_cancel]
  cases neg <;> simp [scaled, hpow, mul_assoc]

/-- The comparison of R126 is that of the numbers. -/
theorem lt_iff_realOf {a b : FV} (ha : a ≠ .nan) (hb : b ≠ .nan) : FV.lt a b = true ↔ realOf a < realOf b := by
  match a, b with
  | .nan, _ => contradiction
  | _, .nan => contradiction
  | .inf x, .inf y => cases x <;> cases y <;> simp [FV.lt, realOf]
  | .inf x, .fin .. => cases x <;> simp [FV.lt, realOf, EReal.bot_lt_coe]
  | .fin .., .inf y => cases y <;> simp [FV.lt, realOf, EReal.coe_lt_top]
  | .fin x m e, .fin y k f =>
    rw [realOf, realOf, EReal.coe_lt_coe_iff, ← scaled_mul (min_le_left e f), ← scaled_mul (min_le_right e f),
      mul_lt_mul_iff_left₀ (by positivity), Int.cast_lt]
    exact decide_eq_true_iff

/-! ## The rank of a column -/

section
variable {v : Nat → FV} {i j : Nat} {l : List Nat}

/-- Columns in rank order: numbers before NaNs, the greater value first, of equal values the lower column. -/
noncomputable def rankKey (v : Nat → FV) (i : Nat) : Bool ×ₗ ERealᵒᵈ ×ₗ Nat :=
  toLex (decide (v i = .nan), toLex (OrderDual.toDual (realOf (v i)), i))

theorem rankKey_injective : Function.Injective (rankKey v) := fun i j h => by
  simp only [rankKey, EmbeddingLike.apply_eq_iff_eq, Prod.mk.injEq] at h
  exact h.2.2

theorem rankKey_lt_iff : rankKey v i < rankKey v j ↔ (v i ≠ .nan ∧ v j = .nan) ∨ (v i = .nan ∧ v j = .nan ∧ i < j)
    ∨ (v i ≠ .nan ∧ v j ≠ .nan ∧ (FV.lt (v j) (v i) = true ∨ (FV.lt (v i) (v j) = false ∧ FV.lt (v j) (v i) = false ∧ i < j))) := by
  simp only [rankKey, Prod.Lex.toLex_lt_toLex, OrderDual.toDual_lt_toDual]
  by_cases hi : v i = .nan <;> by_cases hj : v j = .nan
  · simp [hi, hj]
  · simp [hi, hj]
  · simp [hi, hj]
  · simp only [← Bool.not_eq_true, lt_iff_realOf hi hj, lt_iff_realOf hj hi, EmbeddingLike.apply_eq_iff_eq, not_lt]
    simp [hi, hj, le_antisymm_iff, and_left_comm, and_assoc]

/-- A column is inserted where its rank puts it among those of lower number. -/
theorem rankInsert_eq (h : ∀ j ∈ l, j < i) : rankInsert v i l = l.orderedInsert (rankKey v · ≤ rankKey v ·) i := by
  induction l with
  | nil => rfl
  | cons j l ih =>
    have hji : j < i := h j List.mem_cons_self
    have habove : rankKey v i ≤ rankKey v j ↔ v i ≠ .nan ∧ (v j = .nan ∨ FV.lt (v j) (v i) = true) := by
      rw [le_iff_lt_or_eq, rankKey_injective.eq_iff, rankKey_lt_iff]
      have : ¬ i < j := by omega
      have : i ≠ j := by omega
      tauto
    rw [rankInsert, List.orderedInsert, ← ih fun x hx => h x (List.mem_cons_of_mem _ hx)]
    by_cases hv : v i = .nan
    · simp [habove, hv]
    · by_cases hj : v j = .nan
      · simp [habove, hv, hj]
      · cases hlt : FV.lt (v j) (v i) <;> simp [habove, hv, hj, hlt]

/-- Only the first `k` of a list decide the first `k` once a column is inserted. -/
theorem take_rankInsert_take (k : Nat) : (rankInsert v i (l.take k)).take k = (rankInsert v i l).take k := by
  induction l generalizing k with
  | nil => rw [List.take_nil]
  | cons j l ih =>
    cases k with
    | zero => rw [List.take_zero, List.take_zero]
    | succ k =>
      obtain ⟨below, hinsert⟩ : ∃ below : Bool, ∀ l, rankInsert v i (j :: l) = if below then j :: rankInsert v i l else i :: j :: l :=
        ⟨_, fun _ => rfl⟩
      rw [List.take_succ_cons, hinsert, hinsert]
      cases below with
      | true => exact congrArg (j :: ·) (ih k)
      | false => exact congrArg (i :: ·) (by cases k <;> simp [List.take_take])

/-- All columns below `n` in rank order. -/
noncomputable def ranking (v : Nat → FV) (n : Nat) : List Nat := (List.range n).reverse.insertionSort (rankKey v · ≤ rankKey v ·)

theorem mem_ranking {n : Nat} : i ∈ ranking v n ↔ i < n := by simp [ranking]

theorem topK_eq_take (k n : Nat) : topK v k n = (ranking v n).take k := by
  induction n with
  | zero => simp [topK, ranking]
  | succ n ih =>
    have hstep : topK v k (n + 1) = (rankInsert v n (topK v k n)).take k := by simp [topK, List.range_succ]
    have hsort : ranking v (n + 1) = rankInsert v n (ranking v n) := by
      rw [rankInsert_eq fun j hj => mem_ranking.mp hj]
      simp [ranking, List.range_succ]
    rw [hstep, ih, take_rankInsert_take, hsort]

theorem ranking_nodup {n : Nat} : (ranking v n).Nodup :=
  (List.perm_insertionSort ..).nodup_iff.mpr (List.nodup_reverse.mpr List.nodup_range)

theorem ranking_pairwise {n : Nat} : (ranking v n).Pairwise (rankKey v · < rankKey v ·) := by
  have htotal : Std.Total (rankKey v · ≤ rankKey v ·) := ⟨fun i j => le_total (rankKey v i) (rankKey v j)⟩
  have htrans : IsTrans Nat (rankKey v · ≤ rankKey v ·) := ⟨fun _ _ _ => le_trans⟩
  have hsorted : (ranking v n).Pairwise (rankKey v · ≤ rankKey v ·) := List.pairwise_insertionSort ..
  exact (hsorted.and ranking_nodup).imp fun ⟨hle, hne⟩ => lt_of_le_of_ne hle (rankKey_injective.ne hne)

end

/-- Settles O10: the columns taken are the first of all columns in rank order. -/
theorem topkRanking : Obligations.TopkRanking := by
  intro v k n hk above
  have habove : ∀ i j, rankKey v i < rankKey v j ↔ above i j := fun i j => rankKey_lt_iff
  have hlength : (ranking v n).length = n := by simp [ranking]
  have hsorted : (ranking v n).Pairwise above := ranking_pairwise.imp fun h => (habove _ _).mp h
  rw [topK_eq_take]
  refine ⟨by simp [hlength, hk], ranking_nodup.sublist (List.take_sublist ..), fun i hi => mem_ranking.mp (List.mem_of_mem_take hi),
    hsorted.sublist (List.take_sublist ..), fun i hi hnot j hj => ?_⟩
  have hsplit : (ranking v n).take k ++ (ranking v n).drop k = ranking v n := List.take_append_drop ..
  rw [← hsplit, List.pairwise_append] at hsorted
  have hmem : i ∈ (ranking v n).take k ++ (ranking v n).drop k := by
    rw [hsplit]
    exact mem_ranking.mpr hi
  have hdrop : i ∈ (ranking v n).drop k := (List.mem_append.mp hmem).resolve_left hnot
  exact hsorted.2.2 j hj i hdrop

end Sys2Proof.Machine
end

section
/-!
The vector unit lane by lane and row by row (R89, R107, R124–R128), and the settling of O7 and O8.
-/
namespace Sys2Proof.Machine

variable {s : State} {c : Core} {ty : VTy}

/-! ## Lanes -/

theorem Core.vlane_int32_lt {r i : Nat} : c.vlane .int32 r i < 2 ^ 32 := (Map.get 0#32 c.vreg (r * 2048 + i)).isLt

theorem laneInt_eq {x : Nat} : laneInt x = (BitVec.ofNat 32 x).toInt := by
  simp only [laneInt, signed, BitVec.toInt_eq_toNat_cond, BitVec.toNat_ofNat]
  split <;> split <;> omega

theorem toInt_ofNat_inj {x y : Nat} (hx : x < 2 ^ 32) (hy : y < 2 ^ 32) : (BitVec.ofNat 32 x).toInt = (BitVec.ofNat 32 y).toInt ↔ x = y := by
  rw [BitVec.toInt_inj, ← BitVec.toNat_inj, BitVec.toNat_ofNat, BitVec.toNat_ofNat, Nat.mod_eq_of_lt hx, Nat.mod_eq_of_lt hy]

theorem laneSub_int32 {x y : Nat} (hy : y < 2 ^ 32) : laneSub .int32 x y = (BitVec.ofNat 32 x - BitVec.ofNat 32 y).toNat := by
  simp only [laneSub, BitVec.toNat_sub, BitVec.toNat_ofNat, if_true]
  omega

/-- The results of R126 for FP32 and BF16: exact, rounded once to FP32, and for BF16 once more. -/
theorem laneRound_f32 {v : FV} : laneRound .f32 v = rne32 v := rfl
theorem laneRound_bf16 {v : FV} : laneRound .bf16 v = FFmt.bf16.encode .rne (FFmt.f32.decode (rne32 v)) := rfl

/-! ## Instructions of the vector unit -/

section
variable {g : Fin 384} {vd va vb : Fin 32} {i : Instr} {lat : Nat} {f : Core → Core} {rs : List Nat} {h : Nat → Nat}

/-- A vector instruction writes the lanes that its operation on the core writes. -/
theorem exec_vec (hi : s.Issues g 0) (hc : (s.core g).Clear (vecUses vd)) (hexec : exec i s = .next (s.vec g i vd lat f))
    (hw : WritesLanes (s.core g) (f (s.core g)) ty vd rs h) :
    ∃ d : Core, exec i s = .next (s.setCore g d) ∧ WritesLanes (s.core g) d ty vd rs h :=
  ⟨_, hexec.trans (congrArg _ (hi.vec i vd lat f hc)), hw⟩

/-- A two-operand instruction, by what it makes of a lane; lanes of INT32 have 32 bits. -/
theorem exec_vec2 {p q : Nat → Nat → Nat} (hi : s.Issues g 0) (hc : (s.core g).Clear (vecUses vd))
    (hexec : exec i s = .next (s.vec g i vd lat (Core.vec2 ty p vd va vb)))
    (hpq : ∀ x y, (ty = .int32 → x < 2 ^ 32 ∧ y < 2 ^ 32) → p x y % 2 ^ ty.width = q x y % 2 ^ ty.width) :
    ∃ d : Core, exec i s = .next (s.setCore g d)
      ∧ WritesLanes (s.core g) d ty vd [va, vb] fun k => q ((s.core g).vlane ty va k) ((s.core g).vlane ty vb k) :=
  exec_vec hi hc hexec ((Core.vset_writes ..).congr fun k _ => hpq _ _ fun hty => by
    subst hty
    exact ⟨Core.vlane_int32_lt, Core.vlane_int32_lt⟩)

end

/-- An instruction whose unit is occupied raises 0x1301 (R138). -/
theorem Core.issue_busy {e : Env} {u : Uses} {body : Core → CRes} (he : e.timed = false) (hb : c.blocked u = none)
    (ha : (u.reads ++ u.writes).findSome? c.asleep = none) (ht : (u.reads ++ u.writes).any c.testHit = false)
    (hbusy : u.units.any (fun x => c.busyUnit x) = true) : c.issue e u body = e.done c [.fault 0x1301] := by
  unfold Core.issue Core.onUnits
  rw [hb, ha]
  simp only [he, ht, hbusy, Bool.false_eq_true, if_false, if_true]

/-! ## Special functions (R127, R138) -/

section
variable {g : Fin 384} {vd va : Fin 32} {i : Instr} {f : FV → FV}

/-- The special-function unit where it is free: the register written, and the counter of free values moved on. -/
theorem State.special_free (hi : s.Issues g 0) (hc : (s.core g).Clear (vecUses vd)) (hfree : (s.core g).busyUnit .special = false) :
    s.special g i f ty vd va = (s.setCore g ((s.core g).vspecial s.freeAt f ty vd va)).freeSkip 2048 := by
  obtain ⟨hblocked, hasleep, htest, -⟩ := hc
  have hclear : (s.core g).Clear { units := [.special], writes := [(5, vd, 1)], lasts := if ty = .bf16 then 8 else 4 } :=
    ⟨hblocked, hasleep, htest, by simp [hfree]⟩
  rw [State.special, hi.issue, hclear.issue _ hi.timed, State.takeCore_wroteV]

/-- Where it is occupied, 0x1301. -/
theorem State.special_busy (hi : s.Issues g 0) (hc : (s.core g).Clear (vecUses vd)) (hbusy : (s.core g).busyUnit .special = true) :
    s.special g i f ty vd va = ((s.setCore g (s.core g)).raise 0x1301 g).freeSkip 2048 := by
  obtain ⟨hblocked, hasleep, htest, -⟩ := hc
  have hunits : ([Unit'.special].any fun x => (s.core g).busyUnit x) = true := by simp [hbusy]
  have hrefused : (s.core g).issue (s.env g) { units := [.special], writes := [(5, vd, 1)], lasts := if ty = .bf16 then 8 else 4 }
      (fun c => (s.env g).wroteV (c.vspecial s.freeAt f ty vd va) vd (if ty = .bf16 then 20 else 16)) = (s.env g).done (s.core g) [.fault 0x1301] :=
    Core.issue_busy hi.timed hblocked hasleep htest hunits
  rw [State.special, hi.issue, hrefused, State.takeCore_refused]
  rfl

end

/-- Settles O7: each operation by what it makes of a lane of each type. -/
theorem vectorLanewise : Obligations.VectorLanewise := by
  refine ⟨fun g ty vd va vb s hi hc => ?two, fun g ty vd va vb vc xs s hi hc => ?three, fun g ty vd va s hi hc => ?special⟩
  case two =>
    intro c writes real test
    refine ⟨exec_vec2 hi hc rfl fun x y h => ?add, exec_vec2 hi hc rfl fun x y h => ?sub, exec_vec2 hi hc rfl fun x y h => ?mul,
      exec_vec2 hi hc rfl fun x y h => ?min, exec_vec2 hi hc rfl fun x y h => ?max, exec_vec2 hi hc rfl fun x y h => ?lt,
      exec_vec2 hi hc rfl fun x y h => ?eq, exec_vec2 hi hc rfl fun x y h => rfl, exec_vec2 hi hc rfl fun x y h => rfl,
      exec_vec2 hi hc rfl fun x y h => rfl⟩
    all_goals cases ty
    case add.int32 => exact Nat.mod_mod ..
    case sub.int32 => exact congrArg (· % 2 ^ 32) (laneSub_int32 (h rfl).2)
    case mul.int32 => exact Nat.mod_mod ..
    case min.int32 => simp only [laneMin, laneInt_eq, if_true, real]
    case max.int32 => simp only [laneMax, laneInt_eq, if_true, real]
    case lt.int32 => simp only [laneLt, laneMask, laneInt_eq, if_true, test]
    case eq.int32 => simp only [laneEq, laneMask, toInt_ofNat_inj (h rfl).1 (h rfl).2, if_true, test, beq_eq_decide]
    all_goals rfl
  case three =>
    intro c
    refine ⟨exec_vec hi hc rfl ((Core.vset_writes ..).congr fun i _ => ?fma), exec_vec hi hc rfl (Core.vset_writes ..),
      exec_vec hi hc rfl ((Core.vset_writes ..).congr fun i _ => Nat.mod_mod ..)⟩
    cases ty
    · rfl
    · rfl
    · exact Nat.mod_mod ..
  case special =>
    intro c lane does
    have hdoes : ∀ (i : Instr) (f : FV → FV), exec i s = .next (s.special g i f ty vd va) → does (exec i s) f := fun i f hexec => by
      rw [hexec]
      refine ⟨fun hfree => ⟨c.vspecial s.freeAt f ty vd va, ?_, ?_⟩, fun hbusy => ?_⟩
      · rw [State.special_free hi hc hfree]
        rfl
      · refine (Core.vset_writes ..).congr fun k _ => ?_
        cases ty <;> rfl
      · rw [State.special_busy hi hc hbusy]
        rfl
    exact ⟨hdoes _ _ rfl, hdoes _ _ rfl, hdoes _ _ rfl, hdoes _ _ rfl⟩

/-! ## Rows (R128) -/

/-- The 128 lanes of the row that lane `i` is in. -/
def Core.laneRow (c : Core) (ty : VTy) (r i : Nat) : List Nat := (List.range 128).map fun j => c.vlane ty r (i / 128 * 128 + j)

theorem Core.vrow_writes {f : List Nat → Nat} {vd va : Nat} : WritesLanes c (c.vrow ty f vd va) ty vd [va] fun i => f (c.laneRow ty va i) := by
  refine (Core.vset_writes ..).congr fun i hi => ?_
  have hrow : i / 128 < ty.lanes / 128 := by cases ty <;> simp only [VTy.lanes] at * <;> omega
  simp [hrow, Core.laneRow, Nat.mul_comm]

theorem rowMax_eq {l : List Nat} (h : l ≠ []) : rowMax ty l = l.tail.foldl (laneMax ty) (laneMax ty (l.headD 0) (l.headD 0)) := by
  cases l with
  | nil => contradiction
  | cons x l => rfl

/-- Settles O8: a row reduction by its lanes, its sum level by level. -/
theorem vectorRows : Obligations.VectorRows := by
  intro g ty vd va s hi hc c row level tree
  refine ⟨exec_vec hi hc rfl (Core.vrow_writes.congr fun i _ => ?sum), exec_vec hi hc rfl (Core.vrow_writes.congr fun i _ => ?max)⟩
  case sum =>
    cases ty
    · rfl
    · rfl
    · exact Nat.mod_mod ..
  case max =>
    have hrow : (s.core g).laneRow ty va i ≠ [] := by simp [Core.laneRow]
    rw [rowMax_eq hrow]
    rfl

end Sys2Proof.Machine
end

section
/-!
The scalar processor of a core (R134–R136): registers of its threads, results, accesses to the scalar data memory, hand-off registers and
branches, and the settling of O1 to O4.
-/
namespace Sys2Proof.Machine

variable {s : State} {c : Core} {e : Env}

/-! ## Registers (R134) -/

section
variable {t u xd r : Nat} {v : W64}

@[simp] theorem Core.thread_setThread {w : Thread} : (c.setThread t w).thread t = w := Map.get_set_same ..

theorem Core.thread_setThread_ne {w : Thread} (h : u ≠ t) : (c.setThread t w).thread u = c.thread u := Map.get_set_ne _ _ _ _ _ h

theorem Core.rx_wx : (c.wx xd v).rx r = if r = 0 then 0#64 else if r = xd then v else c.rx r := by
  unfold Core.wx Core.rx
  by_cases hr : r = 0
  · simp [hr]
  · by_cases hxd : xd = 0
    · have hne : r ≠ xd := fun h => hr (h.trans hxd)
      simp only [hr, hne, if_pos hxd, if_false]
    · simp only [hr, hxd, if_false, Map.get_set]

theorem Core.wx_eq : c.wx xd v = { c with x := (c.wx xd v).x } := by
  unfold Core.wx
  split <;> rfl

/-- A result of thread 0 changes its registers alone. -/
theorem Core.scalar_zero : c.scalar 0 xd v = c.wx xd v := rfl

/-- The registers of a thread 1–3 after a result. -/
def Thread.put (w : Thread) (xd : Nat) (v : W64) : Thread := if xd = 0 then w else { w with x := Map.set 0#64 w.x xd v }

/-- A result of a thread 1–3 changes that thread alone: the register, and it goes on. -/
theorem Core.scalar_thread (ht : t ≠ 0) :
    c.scalar t xd v = c.setThread t { (c.thread t).put xd v with pc := (c.thread t).pc + 1, stalled := false } := by
  unfold Core.scalar Core.nextWord Core.wt Thread.put
  rw [if_neg ht, if_neg ht]
  split
  · rfl
  · simp [Core.setThread, Map.set_set, Core.thread]

theorem Core.rt_zero : c.rt 0 r = c.rx r := rfl
theorem Core.rt_thread (ht : t ≠ 0) : c.rt t r = if r = 0 then 0#64 else Map.get 0#64 (c.thread t).x r := if_neg ht

theorem Thread.get_put {w : Thread} (hr : r ≠ 0) : Map.get 0#64 (w.put xd v).x r = if r = xd then v else Map.get 0#64 w.x r := by
  unfold Thread.put
  split
  next hxd => rw [if_neg fun h => hr (h.trans hxd)]
  next => exact Map.get_set ..

/-- A result stands in its register; x0 reads 0. -/
theorem Core.rt_scalar : (c.scalar t xd v).rt t r = if r = 0 then 0#64 else if r = xd then v else c.rt t r := by
  by_cases ht : t = 0
  · subst ht
    exact Core.rx_wx
  · rw [Core.scalar_thread ht, Core.rt_thread ht, Core.rt_thread ht, Core.thread_setThread]
    by_cases hr : r = 0
    · rw [if_pos hr, if_pos hr]
    · simp only [if_neg hr, Thread.get_put hr]

theorem Core.thread_scalar_ne (hu : u ≠ t) : (c.scalar t xd v).thread u = c.thread u := by
  by_cases ht : t = 0
  · subst ht
    rw [Core.scalar_zero, Core.wx_eq]
    rfl
  · rw [Core.scalar_thread ht, Core.thread_setThread_ne hu]

theorem Core.rx_scalar_thread (ht : t ≠ 0) : (c.scalar t xd v).rx r = c.rx r := by
  rw [Core.scalar_thread ht]
  rfl

end

/-- Settles O2: thread 0 by `Core.scalar_zero`, the others by `Core.scalar_thread`. -/
theorem scalarResult : Obligations.ScalarResult := by
  intro t xd r v c d
  refine ⟨?own, fun u hu => ?others, fun u _ hu => Core.thread_scalar_ne (Fin.val_ne_of_ne hu),
    fun ht => ?goes, ?frame, fun ht => ?th, fun ht => ?x⟩
  case own =>
    simp only [← Fin.val_inj]
    exact Core.rt_scalar
  case others =>
    have hthread : d.thread u = c.thread u := Core.thread_scalar_ne (Fin.val_ne_of_ne hu)
    by_cases h0 : u.val = 0
    · rw [h0]
      exact Core.rx_scalar_thread fun ht => hu (Fin.ext (h0.trans ht.symm))
    · rw [Core.rt_thread h0, Core.rt_thread h0, hthread]
  case goes =>
    have hd : d = _ := Core.scalar_thread ht
    rw [hd, Core.thread_setThread]
    unfold Thread.put
    split <;> rfl
  case frame =>
    by_cases ht : t.val = 0
    · obtain rfl : t = 0 := Fin.ext ht
      have hd : d = _ := Core.wx_eq
      rw [hd]
    · have hd : d = _ := Core.scalar_thread ht
      rw [hd]
      rfl
  case th =>
    obtain rfl : t = 0 := Fin.ext ht
    have hd : d = _ := Core.wx_eq
    rw [hd]
  case x =>
    have hd : d = _ := Core.scalar_thread ht
    rw [hd]
    rfl

/-! ## Arithmetic (R136, R138) -/

/-- A result is what the instruction writes. -/
theorem exec_alu {g : Fin 384} {t : Fin 4} {xd : Fin 32} {i : Instr} {f : Core → W64} {lat : Nat} {v : W64} (hi : s.Issues g t)
    (hexec : exec i s = .next (s.alu g t i xd f lat)) (hv : f (s.core g) = v) :
    exec i s = .next (s.setCore g ((s.core g).scalar t xd v)) := by
  rw [hexec, hi.alu, hv]

theorem shiftBy_eq {imm : BitVec 19} : shiftBy imm = (imm.extractLsb' 0 6).toNat := by simp [shiftBy]

theorem mul_eq_ofNat (x y : W64) : x * y = BitVec.ofNat 64 (x.toNat * y.toNat) := rfl

theorem smin_eq (x y : W64) : smin x y = BitVec.ofInt 64 (min x.toInt y.toInt) := by
  rw [smin, BitVec.sle_eq_decide]
  by_cases h : x.toInt ≤ y.toInt
  · simp [h]
  · simp [h, Int.le_of_lt (Int.not_le.mp h)]

theorem smax_eq (x y : W64) : smax x y = BitVec.ofInt 64 (max x.toInt y.toInt) := by
  rw [smax, BitVec.sle_eq_decide]
  by_cases h : x.toInt ≤ y.toInt
  · simp [h]
  · simp [h, Int.le_of_lt (Int.not_le.mp h)]

theorem slt64_eq (x y : W64) : slt64 x y = if x.toInt < y.toInt then 1#64 else 0#64 := by
  rw [slt64, BitVec.slt_eq_decide]
  simp only [decide_eq_true_eq]

theorem divu_eq (x y : W64) : divu x y = if y = 0#64 then 0xFFFFFFFFFFFFFFFF#64 else BitVec.ofNat 64 (x.toNat / y.toNat) := by
  unfold divu
  split
  · rfl
  · apply BitVec.eq_of_toNat_eq
    have := x.isLt
    have := Nat.div_le_self x.toNat y.toNat
    rw [BitVec.toNat_udiv, BitVec.toNat_ofNat, Nat.mod_eq_of_lt (by omega)]

/-- A thread 1–3 divides by itself. -/
theorem Core.divide_thread {t xd a b : Nat} (ht : t ≠ 0) :
    let d := c.scalar t xd (divu (c.rt t a) (c.rt t b))
    c.divide e t xd a b = e.done (d.setThread t { d.thread t with busy := 20 }) := if_neg ht

/-- Thread 0 divides where the divider is free. -/
theorem Core.divide_free {t xd a b : Nat} (ht : t = 0) (he : e.timed = false) (hfree : c.busyUnit .divider = false) :
    let q := divu (c.rt t a) (c.rt t b)
    c.divide e t xd a b = (e.done (c.scalar t xd q)).after 20 [.x xd q] := by
  subst ht
  have hc : c.Clear { units := [.divider], lasts := 20 } := ⟨rfl, rfl, rfl, by simp [hfree]⟩
  unfold Core.divide
  rw [if_pos rfl, hc.issue e he]
  rfl

/-- Thread 0 finds the divider occupied (R138). -/
theorem Core.divide_busy {t xd a b : Nat} (ht : t = 0) (he : e.timed = false) (hbusy : c.busyUnit .divider = true) :
    c.divide e t xd a b = e.done c [.fault 0x1301] := by
  have hunits : ([Unit'.divider].any fun x => c.busyUnit x) = true := by simp [hbusy]
  exact (if_pos ht).trans (Core.issue_busy he rfl rfl rfl hunits)

/-- Settles O1: each row by its result; a division by where its thread divides. -/
theorem scalarArithmetic : Obligations.ScalarArithmetic := by
  refine ⟨fun g t xd a b imm s hi => ?_, fun g t xd a b s hi => ?_⟩
  · intro c wrote
    exact ⟨exec_alu hi rfl rfl, exec_alu hi rfl rfl, exec_alu hi rfl rfl, exec_alu hi rfl rfl, exec_alu hi rfl rfl, exec_alu hi rfl rfl,
      exec_alu hi rfl (congrArg (c.rt t a <<< ·) shiftBy_eq), exec_alu hi rfl (congrArg (c.rt t a >>> ·) shiftBy_eq),
      exec_alu hi rfl (congrArg (c.rt t a).sshiftRight shiftBy_eq), exec_alu hi rfl rfl, exec_alu hi rfl rfl,
      exec_alu hi rfl (smin_eq ..), exec_alu hi rfl (smax_eq ..), exec_alu hi rfl (slt64_eq ..), exec_alu hi rfl rfl⟩
  · intro c q d
    have hq : divu (c.rt t a) (c.rt t b) = q := divu_eq ..
    have hexec : exec (.divu g t xd a b) s = .next (s.takeCore g (.divu g t xd a b) (c.divide (s.env g) t xd a b)) :=
      congrArg Host.Outcome.next (hi.runs ..)
    rw [hexec]
    refine ⟨fun ht => ?thread, fun ht hfree => ?free, fun ht hbusy => ?busy⟩
    case thread =>
      rw [Core.divide_thread ht, hq]
      exact congrArg _ (State.takeCore_quiet _ _ _ _ rfl rfl rfl)
    case free =>
      rw [Core.divide_free ht hi.timed hfree, hq]
      exact congrArg _ (State.takeCore_quiet _ _ _ _ rfl rfl rfl)
    case busy =>
      rw [Core.divide_busy ht hi.timed hbusy]
      exact congrArg _ State.takeCore_refused

/-! ## The scalar data memory (R107, R135, R143) -/

section
variable {t a n : Nat}

theorem sdmMayRead_iff : sdmMayRead t a n = true ↔ MayReadSdm t a n := by
  simp only [sdmMayRead, MayReadSdm, Bool.or_eq_true, Bool.and_eq_true, decide_eq_true_eq, bne_iff_ne]
  omega

theorem sdmMayWrite_iff : sdmMayWrite t a n = true ↔ MayWriteSdm t a n := by
  unfold sdmMayWrite MayWriteSdm
  split
  · simp_all
  · simp only [Bool.and_eq_true, decide_eq_true_eq]
    omega

/-- An access that its thread may not make is not made (R135). -/
theorem Core.load_refused {xd b : Nat} {imm : BitVec 19} (h : ¬ MayReadSdm t (c.sdmAddr t b imm) n) :
    c.load e n t xd b imm = c.sdmRefuse e t :=
  if_pos (by rw [if_neg Bool.false_ne_true, Bool.eq_false_iff.mpr (mt sdmMayRead_iff.mp h)]; rfl)

theorem Core.store_refused {b v : Nat} {imm : BitVec 19} (h : ¬ MayWriteSdm t (c.sdmAddr t b imm) n) :
    c.store e n t b v imm = c.sdmRefuse e t :=
  if_pos (by rw [if_pos rfl, Bool.eq_false_iff.mpr (mt sdmMayWrite_iff.mp h)]; rfl)

theorem Core.clear_sdm {u : Uses} (hunits : u.units = []) (hspace : ∀ r ∈ u.reads ++ u.writes, r.1 = 2) (hb : c.blocked u = none) :
    c.Clear u := by
  refine ⟨hb, ?_, ?_, by rw [hunits]; rfl⟩
  · rw [List.findSome?_eq_none_iff]
    intro r hr
    exact if_neg fun h => by rw [hspace r hr] at h; omega
  · rw [List.any_eq_false]
    intro r hr
    unfold Core.testHit unitsMeet
    split <;> simp [hspace r hr]

/-- An access allowed, of released words: carried out, and a thread 1–3 goes on. -/
theorem Core.sdmAccess_clear {write : Bool} {body : Core → CRes} (he : e.timed = false)
    (hmay : (if write then sdmMayWrite t a n else sdmMayRead t a n) = true) (hread : c.blocked { reads := [sdmUnits a n] } = none)
    (hwrite : write = true → c.blocked { writes := [sdmUnits a n] } = none) :
    c.sdmAccess e t a n write body = { body c with core := (body c).core.nextWord t } := by
  unfold Core.sdmAccess
  rw [if_neg (by rw [hmay]; decide)]
  by_cases ht : t = 0
  · have hc : c.Clear (if write then { writes := [sdmUnits a n] } else { reads := [sdmUnits a n] }) := by
      cases write
      · exact Core.clear_sdm rfl (by simp [sdmUnits]) hread
      · exact Core.clear_sdm rfl (by simp [sdmUnits]) (hwrite rfl)
    rw [if_pos ht, hc.issue e he, ht]
    rfl
  · rw [if_neg ht, if_neg (by simp [hread])]

theorem unitsMeet_iff {x y : Nat × Nat × Nat} : unitsMeet x y = true ↔ x.1 = y.1 ∧ x.2.1 < y.2.1 + y.2.2 ∧ y.2.1 < x.2.1 + x.2.2 := by
  simp only [unitsMeet, Bool.and_eq_true, beq_iff_eq, decide_eq_true_eq, and_assoc]

theorem Core.sdmFails_iff : c.sdmFails a n = true ↔ ∃ w ∈ c.sdmBad, a / 8 ≤ w ∧ w < (a + n + 7) / 8 := by
  simp only [Core.sdmFails, List.any_eq_true, unitsMeet_iff, sdmUnits, true_and]
  refine exists_congr fun w => and_congr_right fun _ => ?_
  omega

/-- A write of fewer bytes than a unit has covers none, and clean data leaves all poison as it is (R107). -/
theorem get_mergePoison_part {m : Map Bool} {u a n k : Nat} (hn : n < u) : Map.get false (mergePoison m u a n false) k = Map.get false m k := by
  unfold mergePoison
  split
  · rfl
  · rw [Map.get_fill]
    split
    · next h =>
      rw [Nat.add_sub_cancel' h.1]
      have : ¬ (a ≤ k * u ∧ (k + 1) * u ≤ a + n) := fun ⟨_, _⟩ => by nlinarith
      rw [if_neg this, Bool.false_or]
    · rfl

/-- What a load that its thread may make leaves of the core, of released words. -/
theorem Core.load_clear {xd b : Nat} {imm : BitVec 19} (he : e.timed = false) (hmay : MayReadSdm t (c.sdmAddr t b imm) n)
    (hread : c.blocked { reads := [sdmUnits (c.sdmAddr t b imm) n] } = none) :
    let a := c.sdmAddr t b imm
    let v := if c.sdmFails a n then 0#64 else BitVec.ofNat 64 (c.sdmRead a n)
    c.load e n t xd b imm = (e.done (c.scalar t xd v) (if c.sdmFails a n then [.fault 0x1305] else [])).after 3 [.x xd v] :=
  Core.sdmAccess_clear he (sdmMayRead_iff.mpr hmay) hread fun h => absurd h Bool.false_ne_true

/-- What a store that its thread may make leaves of the core, to released words. -/
theorem Core.store_clear {b v : Nat} {imm : BitVec 19} (he : e.timed = false) (hmay : MayWriteSdm t (c.sdmAddr t b imm) n)
    (hread : c.blocked { reads := [sdmUnits (c.sdmAddr t b imm) n] } = none)
    (hwrite : c.blocked { writes := [sdmUnits (c.sdmAddr t b imm) n] } = none) :
    let a := c.sdmAddr t b imm
    c.store e n t b v imm = (e.done ((c.sdmWrite a n (c.rt t v).toNat).nextWord t)).after 1 [.sdm a n (c.rt t v).toNat] :=
  Core.sdmAccess_clear he (sdmMayWrite_iff.mpr hmay) hread fun _ => hwrite

theorem Core.sdmByte_sdmWrite {v k : Nat} :
    (c.sdmWrite a n v).sdmByte k = if a ≤ k ∧ k < a + n then byteAt (leBytes n v) (k - a) else c.sdmByte k := Map.get_fill ..

theorem Core.request_beside (h : serviceIn a n = none) : c.request a n = c := by
  unfold Core.request
  rw [h]

/-- A store beside the service slots, in a core that asks for no service, changes nothing further (R419). -/
theorem State.storeDone_beside {g : Nat} (h : serviceIn a n = none) (hs : t = 0 → c.services = []) :
    (s.setCore g c).storeDone g t a n = s.setCore g c := by
  unfold State.storeDone
  split
  · next hdone =>
    have hnone : ∀ i, c.service i = none := fun i => by rw [Core.service, hs hdone.1]; rfl
    have hsame : (s.setCore g c).onCore g (Core.request a n) = s.setCore g c := by
      rw [State.onCore, State.core_setCore, Core.request_beside h, State.setCore_setCore]
    rw [hsame, State.serveUnknown]
    split
    · have hfold : (List.range 4).foldl (fun c i => match c.service i with
        | some v => if 1 ≤ v.kind ∧ v.kind ≤ 3 then c else c.serve i (2 ^ 64 - 1)
        | none => c) c = c := foldl_same _ _ _ fun i _ => by rw [hnone]
      rw [State.onCore, State.core_setCore, State.setCore_setCore]
      exact congrArg _ hfold
    · rfl
  · rfl

end

section
variable {g : Fin 384} {t : Fin 4} {i : Instr} {n : Nat} {imm : BitVec 19}

theorem exec_load {xd b : Fin 32} (hi : s.Issues g t)
    (hexec : exec i s = .next (s.scalar g t i fun e c => c.load e n t xd b imm)) :
    let c := s.core g
    let a := (c.rt t b + imm.signExtend 64).toNat
    let bad := ∃ w ∈ c.sdmBad, a / 8 ≤ w ∧ w < (a + n + 7) / 8
    MayReadSdm t a n → c.blocked { reads := [sdmUnits a n] } = none →
    (¬ bad → exec i s = .next (s.setCore g (c.scalar t xd (BitVec.ofNat 64 (c.sdmRead a n)))))
    ∧ (bad → exec i s = .next ((s.setCore g (c.scalar t xd 0#64)).raise 0x1305 g)) := by
  intro c a bad hmay hread
  rw [hexec, hi.runs, Core.load_clear hi.timed hmay hread]
  have hbad : (s.core g).sdmFails ((s.core g).sdmAddr t b imm) n = true ↔ bad := Core.sdmFails_iff
  refine ⟨fun h => ?_, fun h => ?_⟩
  · rw [if_neg (mt hbad.mp h), if_neg (mt hbad.mp h)]
    exact congrArg _ (State.takeCore_quiet _ _ _ _ rfl rfl rfl)
  · rw [if_pos (hbad.mpr h), if_pos (hbad.mpr h)]
    exact congrArg _ (State.takeCore_fault _ _ _ _ 0x1305 rfl rfl rfl)

theorem exec_store {b v : Fin 32} (hi : s.Issues g t) (hn : n < 64)
    (hexec : exec i s = .next ((s.scalar g t i fun e c => c.store e n t b v imm).storeDone g t ((s.core g).sdmAddr t b imm) n)) :
    let c := s.core g
    let a := (c.rt t b + imm.signExtend 64).toNat
    (t.val = 0 → c.services = []) → MayWriteSdm t a n → c.blocked { reads := [sdmUnits a n] } = none →
    c.blocked { writes := [sdmUnits a n] } = none → serviceIn a n = none →
    ∃ d : Core, exec i s = .next (s.setCore g (d.nextWord t))
      ∧ (∀ k, d.sdmByte k = if a ≤ k ∧ k < a + n then byteAt (leBytes n (c.rt t v).toNat) (k - a) else c.sdmByte k)
      ∧ (∀ u, Map.get false d.sdmPoison u = Map.get false c.sdmPoison u)
      ∧ d = { c with sdm := d.sdm, sdmPoison := d.sdmPoison, sdmBad := d.sdmBad } := by
  intro c a hserv hmay hread hwrite hbeside
  refine ⟨c.sdmWrite a n (c.rt t v).toNat, ?_, fun k => Core.sdmByte_sdmWrite, fun u => get_mergePoison_part hn, rfl⟩
  have hquiet : s.takeCore g i ((s.core g).store (s.env g) n t b v imm) = s.setCore g ((c.sdmWrite a n (c.rt t v).toNat).nextWord t) := by
    rw [Core.store_clear hi.timed hmay hread hwrite]
    exact State.takeCore_quiet _ _ _ _ rfl rfl rfl
  rw [hexec, hi.runs, hquiet]
  refine congrArg _ (State.storeDone_beside hbeside fun ht => ?_)
  rw [ht]
  exact hserv ht

/-- The core after an access that thread `t` may not make: a thread 1–3 halts (R135). -/
def Core.haltedAfter (c : Core) (t : Nat) : Core := if t = 0 then c else c.setThread t { c.thread t with running := false }

theorem State.takeCore_sdmRefuse : s.takeCore g i ((s.core g).sdmRefuse (s.env g) t) = (s.setCore g ((s.core g).haltedAfter t)).raise 0x1303 g :=
  State.takeCore_fault _ _ _ _ 0x1303 rfl rfl rfl

theorem exec_load_refused {xd b : Fin 32} (hi : s.Issues g t)
    (hexec : exec i s = .next (s.scalar g t i fun e c => c.load e n t xd b imm))
    (h : ¬ MayReadSdm t ((s.core g).sdmAddr t b imm) n) : exec i s = .next ((s.setCore g ((s.core g).haltedAfter t)).raise 0x1303 g) := by
  rw [hexec, hi.runs, Core.load_refused h, State.takeCore_sdmRefuse]

theorem exec_store_refused {b v : Fin 32} (hi : s.Issues g t)
    (hexec : exec i s = .next ((s.scalar g t i fun e c => c.store e n t b v imm).storeDone g t ((s.core g).sdmAddr t b imm) n))
    (h : ¬ MayWriteSdm t ((s.core g).sdmAddr t b imm) n) : exec i s = .next ((s.setCore g ((s.core g).haltedAfter t)).raise 0x1303 g) := by
  have hmay : ∀ u, ¬ (t.val = 0 ∧ sdmMayWrite 0 ((s.core g).sdmAddr t b imm) n = true ∧ u) := fun u ⟨ht, hw, _⟩ =>
    h (sdmMayWrite_iff.mp (ht ▸ hw))
  rw [hexec, hi.runs, Core.store_refused h, State.takeCore_sdmRefuse, State.storeDone, if_neg (hmay _)]

end

/-- Settles O3: loads and stores by what is left of the core, refused ones by the refusal. -/
theorem scalarMemory : Obligations.ScalarMemory := by
  refine ⟨fun g t xd b imm s hi => ?load, fun g t b v imm s hi => ?store, fun g t xd b v imm s hi => ?refused⟩
  case load => exact ⟨exec_load hi rfl, exec_load hi rfl⟩
  case store => exact fun hserv => ⟨exec_store hi (by decide) rfl hserv, exec_store hi (by decide) rfl hserv⟩
  case refused =>
    exact ⟨exec_load_refused hi rfl, exec_load_refused hi rfl, exec_store_refused hi rfl, exec_store_refused hi rfl⟩

/-! ## Hand-off registers, branches and halts (R134–R136) -/

section
variable {g : Fin 384} {t : Fin 4} {i : Instr}

/-- An instruction of a thread 1–3 that changes its core alone. -/
theorem exec_thread {f : Core → Core} {d : Core} (hi : s.Issues g t) (ht : t.val ≠ 0)
    (hexec : exec i s = if t.val = 0 then illegal name else .next (s.runThread g i fun e c => e.done (f c))) (hd : f (s.core g) = d) :
    exec i s = .next (s.setCore g d) := by
  rw [hexec, if_neg ht, hi.thread, ← hd]
  exact congrArg _ (State.takeCore_quiet _ _ _ _ rfl rfl rfl)

theorem handOff_toNat {imm : BitVec 19} : (imm.extractLsb' 0 2).toNat = imm.toNat % 4 := by simp

theorem Core.branch_eq {taken leaps : Bool} {imm : BitVec 19} (ht : t.val ≠ 0) (hleaps : taken = leaps) :
    let p : Int := ((c.thread t).pc : Int) + imm.toInt
    c.branch t taken imm = c.setThread t { c.thread t with
      pc := if leaps then (if 0 ≤ p ∧ p < 1024 then p.toNat else 1024) else (c.thread t).pc + 1, stalled := false } := by
  subst hleaps
  cases taken
  · exact if_neg ht
  · rfl

end

/-- Settles O4 (branch targets and BLT as logs 76 and 88 choose). -/
theorem threadControl : Obligations.ThreadControl := by
  refine ⟨fun g xd imm s hi himm => ?geth, fun g t a imm s hi ht => ?puth, fun g t a b imm s hi ht => ?branch⟩
  case geth =>
    intro c
    have hexec : exec (.geth g 0 xd imm) s = .next (s.takeCore g (.geth g 0 xd imm) (c.geth (s.env g) xd imm.toNat)) :=
      (if_pos ⟨rfl, himm⟩).trans (congrArg _ (hi.issue _ _))
    rw [hexec]
    refine ⟨fun hfull => ?_, fun hempty => ?_⟩
    · rw [Core.geth, if_pos hfull]
      exact congrArg _ (State.takeCore_quiet _ _ _ _ rfl rfl rfl)
    · rw [Core.geth, if_neg (Bool.eq_false_iff.mp hempty)]
      exact congrArg _ (State.takeCore_stall _ _ _ _ _ rfl rfl rfl)
  case puth =>
    intro c h
    exact exec_thread hi ht rfl (by rw [← handOff_toNat]; rfl)
  case branch =>
    intro c p q at'
    have hbeq : (c.rt t a == c.rt t b) = decide (c.rt t a = c.rt t b) := beq_eq_decide ..
    have hbne : (c.rt t a != c.rt t b) = decide (c.rt t a ≠ c.rt t b) := by rw [bne, beq_eq_decide, decide_not]
    exact ⟨exec_thread hi ht rfl (Core.branch_eq ht hbeq), exec_thread hi ht rfl (Core.branch_eq ht hbne),
      exec_thread hi ht rfl (Core.branch_eq ht BitVec.slt_eq_decide), exec_thread hi ht rfl rfl⟩

end Sys2Proof.Machine
end

section
/-!
Bytes of the tile spaces (R43, R44, R107): what writes leave of them, alone and in lists.
-/
namespace Sys2Proof.Machine

variable {c d : Core} {acc p : Bool} {a n k : Nat} {f : Nat → Byte}

/-! ## Bytes of words -/

/-- A byte of a word put together from four bytes. -/
theorem byte_of_word (b : Nat → Byte) (i : Nat) (hi : i < 4) :
    BitVec.ofNat 8 ((BitVec.ofNat 32 ((b 0).toNat + 256 * (b 1).toNat + 65536 * (b 2).toNat + 16777216 * (b 3).toNat)).toNat / 256 ^ i) = b i := by
  have h0 := (b 0).isLt
  have h1 := (b 1).isLt
  have h2 := (b 2).isLt
  have h3 := (b 3).isLt
  apply BitVec.eq_of_toNat_eq
  rw [BitVec.toNat_ofNat, BitVec.toNat_ofNat]
  interval_cases i <;> omega

theorem byteAt_map {k : Nat} (h : k < n) : byteAt ((List.range n).map f) k = f k := by simp [byteAt, h]

/-! ## One write -/

/-- A write of whole words to the accumulator store, of any bytes to the tile store. -/
theorem Core.tileByte_putBytes (hw : acc = true → a % 4 = 0 ∧ n % 4 = 0) :
    (c.putBytes acc a n f p).tileByte acc k = if a ≤ k ∧ k < a + n then f (k - a) else c.tileByte acc k := by
  cases acc with
  | false => exact Map.get_fill ..
  | true =>
    obtain ⟨ha, hn⟩ := hw rfl
    simp only [Core.tileByte, Core.accByte, Core.putBytes, if_true, Map.get_fill]
    by_cases h : a ≤ k ∧ k < a + n
    · have hword : 4 * (k / 4 - a / 4) + k % 4 = k - a := by omega
      rw [if_pos h, if_pos (by omega), ← hword]
      exact byte_of_word (fun i => f (4 * (k / 4 - a / 4) + i)) (k % 4) (by omega)
    · rw [if_neg h, if_neg (by omega)]

theorem Core.tileByte_putBytes_other : (c.putBytes acc a n f p).tileByte (!acc) k = c.tileByte (!acc) k := by
  cases acc <;> rfl

/-- `d` is `c` but for the tile spaces, with their poison and the record of compressed tiles. -/
def Core.TilesOnly (c d : Core) : Prop :=
  d = { c with ts := d.ts, tsPoison := d.tsPoison, acc := d.acc, accPoison := d.accPoison, carried := d.carried }

theorem Core.TilesOnly.trans {u : Core} (h : c.TilesOnly d) (k : d.TilesOnly u) : c.TilesOnly u := by
  unfold Core.TilesOnly at *
  rw [k, h]

theorem Core.putBytes_tilesOnly : c.TilesOnly (c.putBytes acc a n f p) := by cases acc <;> rfl

/-! ## Lists of writes -/

/-- The byte that a write puts at `k` of a tile space, if it puts one there. -/
def Write.byteAt? (acc : Bool) (k : Nat) : Write → Option Byte
  | .bytes acc' a data _ => if acc' = acc ∧ a ≤ k ∧ k < a + data.length then some (byteAt data (k - a)) else none
  | _ => none

/-- A write of bytes to one tile space, of whole words to the accumulator store, or the mark of a compressed tile. -/
def Write.toTiles (acc : Bool) : Write → Prop
  | .bytes acc' a data _ => acc' = acc ∧ (acc = true → a % 4 = 0 ∧ data.length % 4 = 0)
  | .carried .. => True
  | _ => False

theorem Core.tileByte_land {w : Write} (hw : w.toTiles acc) : (c.land w).tileByte acc k = (w.byteAt? acc k).getD (c.tileByte acc k) := by
  match w, hw with
  | .bytes _ a data p, ⟨rfl, hwords⟩ =>
    rw [Core.land, Core.tileByte_putBytes hwords, Write.byteAt?]
    simp only [true_and]
    split <;> rfl
  | .carried .., _ => rfl

theorem Core.tileByte_land_other {w : Write} (hw : w.toTiles acc) : (c.land w).tileByte (!acc) k = c.tileByte (!acc) k := by
  match w, hw with
  | .bytes _ a data p, ⟨rfl, _⟩ => exact Core.tileByte_putBytes_other
  | .carried .., _ => rfl

theorem Core.land_tilesOnly {w : Write} (hw : w.toTiles acc) : c.TilesOnly (c.land w) := by
  match w, hw with
  | .bytes _ a data p, ⟨rfl, _⟩ => exact Core.putBytes_tilesOnly
  | .carried .., _ => rfl

section
variable {ws : List Write} (hws : ∀ w ∈ ws, w.toTiles acc)
include hws

theorem Core.tileByte_lands_other : (c.lands ws).tileByte (!acc) k = c.tileByte (!acc) k :=
  List.foldlRecOn (motive := fun d : Core => d.tileByte (!acc) k = c.tileByte (!acc) k) _ _ rfl
    fun _ hd w hw => (Core.tileByte_land_other (hws w hw)).trans hd

theorem Core.lands_tilesOnly : c.TilesOnly (c.lands ws) :=
  List.foldlRecOn (motive := c.TilesOnly) _ _ rfl fun _ hd w hw => hd.trans (Core.land_tilesOnly (hws w hw))

/-- A byte that no write touches stays. -/
theorem Core.tileByte_lands_beside (h : ∀ w ∈ ws, w.byteAt? acc k = none) : (c.lands ws).tileByte acc k = c.tileByte acc k :=
  List.foldlRecOn (motive := fun d : Core => d.tileByte acc k = c.tileByte acc k) _ _ rfl fun _ hd w hw => by
    rw [Core.tileByte_land (hws w hw), h w hw]
    exact hd

/-- A byte that some write puts, and every write that puts one puts the same. -/
theorem Core.tileByte_lands {x : Byte} (hsame : ∀ w ∈ ws, ∀ y ∈ w.byteAt? acc k, y = x) (hsome : ∃ w ∈ ws, w.byteAt? acc k ≠ none) :
    (c.lands ws).tileByte acc k = x := by
  induction ws generalizing c with
  | nil => simp at hsome
  | cons w ws ih =>
    have htail := fun v hv => hws v (List.mem_cons_of_mem w hv)
    have hland := Core.tileByte_land (c := c) (k := k) (hws w List.mem_cons_self)
    by_cases hmore : ∃ v ∈ ws, v.byteAt? acc k ≠ none
    · exact ih (c := c.land w) htail (fun v hv => hsame v (List.mem_cons_of_mem w hv)) hmore
    · push Not at hmore
      have hhead : w.byteAt? acc k ≠ none := by
        obtain ⟨v, hv, hne⟩ := hsome
        obtain rfl | hv := List.mem_cons.mp hv
        · exact hne
        · exact absurd (hmore v hv) hne
      obtain ⟨y, hy⟩ := Option.ne_none_iff_exists'.mp hhead
      have hlast : (c.lands (w :: ws)).tileByte acc k = (c.land w).tileByte acc k := Core.tileByte_lands_beside htail hmore
      rw [hlast, hland, hy, hsame w List.mem_cons_self y hy]
      rfl

end

/-! ## A range written piece by piece -/

/-- The writes of `n` bytes from `a`, `u` at a time. -/
def pieceWrites (acc : Bool) (a n u m : Nat) (f : Nat → Byte) (p : Nat → Bool) : List Write :=
  (List.range m).map fun i => .bytes acc (a + i * u) ((List.range (min u (n - i * u))).map fun b => f (i * u + b)) (p i)

/-- Pieces that fill the range are all of one length. -/
theorem pieceWrites_full {u m : Nat} {p : Nat → Bool} : pieceWrites acc a (m * u) u m f p =
    (List.range m).map fun i => .bytes acc (a + i * u) ((List.range u).map fun b => f (i * u + b)) (p i) := by
  refine List.map_congr_left fun i hi => ?_
  have hlen : min u (m * u - i * u) = u := by
    rw [← Nat.sub_mul]
    exact Nat.min_eq_left (Nat.le_mul_of_pos_left u (Nat.sub_pos_of_lt (List.mem_range.mp hi)))
  rw [hlen]

section
variable {u m : Nat} {p : Nat → Bool} (hw : acc = true → a % 4 = 0 ∧ n % 4 = 0 ∧ u % 4 = 0)
include hw

theorem pieceWrites_toTiles : ∀ w ∈ pieceWrites acc a n u m f p, w.toTiles acc := by
  intro w hmem
  obtain ⟨i, -, rfl⟩ := List.mem_map.mp hmem
  refine ⟨rfl, fun h => ?_⟩
  obtain ⟨ha, hn, hu⟩ := hw h
  have hiu : i * u % 4 = 0 := by rw [Nat.mul_mod, hu, Nat.mul_zero, Nat.zero_mod]
  rw [List.length_map, List.length_range]
  omega

omit hw in
/-- The byte that a piece puts at `k` is that of the range. -/
theorem byteAt?_pieceWrites {w : Write} {y : Byte} (hmem : w ∈ pieceWrites acc a n u m f p) (hy : y ∈ w.byteAt? acc k) :
    y = f (k - a) ∧ a ≤ k ∧ k < a + n := by
  obtain ⟨i, -, rfl⟩ := List.mem_map.mp hmem
  simp only [Write.byteAt?, true_and, List.length_map, List.length_range, Option.mem_def, Option.ite_none_right_eq_some,
    Option.some.injEq] at hy
  obtain ⟨⟨hlo, hhi⟩, rfl⟩ := hy
  refine ⟨?_, by omega, by omega⟩
  rw [byteAt_map (by omega)]
  exact congrArg f (by omega)

/-- A range is written by its pieces where they reach to its end. -/
theorem Core.tileByte_lands_pieces (hm : n ≤ m * u) :
    (c.lands (pieceWrites acc a n u m f p)).tileByte acc k = if a ≤ k ∧ k < a + n then f (k - a) else c.tileByte acc k := by
  have hws := pieceWrites_toTiles (f := f) (p := p) (m := m) hw
  split
  case isTrue h =>
    have hu : 0 < u := Nat.pos_of_ne_zero fun hu => by simp [hu] at hm; omega
    have hlo := Nat.div_mul_le_self (k - a) u
    have hhi := Nat.lt_div_mul_add (a := k - a) hu
    refine Core.tileByte_lands hws (fun w hmem y hy => (byteAt?_pieceWrites hmem hy).1) ⟨_, List.mem_map.mpr ⟨(k - a) / u, ?_, rfl⟩, ?_⟩
    · exact List.mem_range.mpr (Nat.div_lt_of_lt_mul (by rw [Nat.mul_comm]; omega))
    · simp only [Write.byteAt?, true_and, List.length_map, List.length_range, ne_eq, ite_eq_right_iff, reduceCtorEq, imp_false, not_not]
      omega
  case isFalse h =>
    refine Core.tileByte_lands_beside hws fun w hmem => Option.eq_none_iff_forall_not_mem.mpr fun y hy => h (byteAt?_pieceWrites hmem hy).2

end

end Sys2Proof.Machine
end

section
/-!
The tile-move path of a core (R65, R88, R109, R131–R133, R180): vector loads and stores and tile moves, and the settling of O12, O13 and O14.
-/
namespace Sys2Proof.Machine

variable {s : State} {c : Core} {e : Env}

/-! ## Vector stores (R132) -/

section
variable {opt : Nat → Bool} {code v addr aux base : Nat} {x : W64} {acc : Bool}

/-- Byte `k` of the raw bits of a vector register. -/
def Core.vbyte (c : Core) (v k : Nat) : Byte := BitVec.ofNat 8 (c.vw v (k / 4) / 256 ^ (k % 4))

/-- Poison of piece `i` of a register stored in pieces of `u` bytes. -/
def Core.piecePoison (c : Core) (v u i : Nat) : Bool := (List.range (u / 256)).any fun g => c.vp v (i * (u / 256) + g)

/-- The writes of a vector store at `a`: rows of 128 FP32 words in the accumulator store, granules of 256 bytes in the tile store. -/
def Core.storeWrites (c : Core) (acc : Bool) (v a : Nat) : List Write :=
  let u := if acc then 512 else 256
  pieceWrites acc a (8192 / u * u) u (8192 / u) (c.vbyte v) (c.piecePoison v u)

/-- A store that lies in its space and that nothing holds up. -/
theorem Core.vst_clear (he : e.timed = false) (ha : effAddr addr x = some (acc, base)) :
    let a := base + aux * 128 * (if code = 7 then 4 else 2)
    a + 8192 ≤ spaceBytes acc → c.Clear { units := [.tileMove], writes := [tileUnits acc a 8192], lasts := 2 } →
    ∃ dirty : Bool, c.vst e opt code v addr x aux =
      (e.done (c.lands (c.storeWrites acc v a)) (if dirty then [.dirty] else [])).after 4 (c.storeWrites acc v a) false true := by
  intro a hfit hc
  unfold Core.vst Core.storeWrites
  rw [ha, pieceWrites_full]
  dsimp only
  rw [if_neg (Nat.not_lt.mpr hfit), hc.issue e he, Core.usePorts_untimed he]
  exact ⟨_, rfl⟩

variable {k : Nat}

theorem Core.tileByte_storeWrites {a : Nat} (ha : acc = true → a % 4 = 0) : (c.lands (c.storeWrites acc v a)).tileByte acc k =
    if a ≤ k ∧ k < a + 8192 then c.vbyte v (k - a) else c.tileByte acc k := by
  have hn : 8192 / (if acc then 512 else 256) * (if acc then 512 else 256) = 8192 := by cases acc <;> rfl
  unfold Core.storeWrites
  dsimp only
  rw [Core.tileByte_lands_pieces (fun h => ⟨ha h, by rw [hn], by rw [h]; rfl⟩) (Nat.le_refl _), hn]

theorem Core.storeWrites_toTiles {a : Nat} (ha : acc = true → a % 4 = 0) : ∀ w ∈ c.storeWrites acc v a, w.toTiles acc := by
  have hn : 8192 / (if acc then 512 else 256) * (if acc then 512 else 256) = 8192 := by cases acc <;> rfl
  exact pieceWrites_toTiles fun h => ⟨ha h, by rw [hn], by rw [h]; rfl⟩

end

/-- An effective address in the accumulator store is that of a tile (R131). -/
theorem effAddr_acc {addr : Nat} {x : W64} {a : Nat} (h : effAddr addr x = some (true, a)) : a % 65536 = 0 := by
  unfold effAddr at h
  dsimp only at h
  split at h
  · split at h
    · simp at h
      omega
    · contradiction
  · split at h
    · simp at h
    · contradiction

/-- An instruction that tells of a dirty step alone. -/
theorem State.takeCore_dirty {g : Nat} {i : Instr} {r : CRes} (h1 : r.evs = [.dirty]) (h2 : r.stalled = none)
    (h3 : r.stamps = (s.die (g / 96)).stamps) : s.takeCore g i r = (s.setCore g r.core).dirty 0 := by
  simp [State.takeCore, h1, h2, h3, State.tells, faultsOf, State.coreEv]

/-- Settles O13 (the dirty step as log 9 reads it): the bytes that the writes of a store put. -/
theorem vectorStore : Obligations.VectorStore := by
  intro g fmt v xa addr aux s acc base hi hfmt c ha a hfit hc
  have hword : acc = true → a % 4 = 0 := by
    intro h
    subst h
    have hbase := effAddr_acc ha
    unfold a
    split <;> omega
  have hexec : exec (.vst g fmt v addr xa aux) s = .next (s.takeCore g (.vst g fmt v addr xa aux)
      (c.vst (s.env g) (s.optimizer g) fmt v addr (c.rx xa) aux)) := (if_pos hfmt).trans (congrArg _ (hi.issue _ _))
  obtain ⟨dirty, hvst⟩ := Core.vst_clear (opt := s.optimizer g) (v := v) hi.timed ha hfit (hc.lasting 2)
  have hws := Core.storeWrites_toTiles (c := c) (v := v) hword
  refine ⟨c.lands (c.storeWrites acc v a), ?_, fun k => Core.tileByte_storeWrites hword,
    fun k => Core.tileByte_lands_other hws, Core.lands_tilesOnly hws⟩
  rw [hexec, hvst]
  cases dirty
  · exact .inl (congrArg _ (State.takeCore_quiet _ _ _ _ rfl rfl rfl))
  · exact .inr (congrArg _ (State.takeCore_dirty rfl rfl rfl))

/-! ## Tile moves (R65, R132, R180) -/

section
variable {t : FmtInfo} {core code addr src dst : Nat} {x xc : W64} {sacc dacc : Bool}

theorem tileBytes_mod (t : FmtInfo) : t.tileBytes % 4 = 0 := by
  unfold FmtInfo.tileBytes FmtInfo.elemBytes
  split <;> omega

theorem reservation_mod (t : FmtInfo) (p : Nat) : reservation t p % 4 = 0 := by
  have htile := tileBytes_mod t
  have hbody : structBody t % 4 = 0 := by
    unfold structBody
    split <;> omega
  unfold reservation
  split
  · omega
  · split <;> omega

theorem Core.markedSize_mod (c : Core) (e : Env) (t : FmtInfo) (acc : Bool) (a : Nat) : c.markedSize e t acc a % 4 = 0 := by
  unfold Core.markedSize
  split
  · exact reservation_mod ..
  · exact tileBytes_mod t

/-- A copy's bytes are written 64 at a time in the tile store and 512 at a time in the accumulator store. -/
theorem Core.copyWrites_eq {n : Nat} : c.copyWrites sacc src dacc dst n =
    let u := if dacc then 512 else 64
    pieceWrites dacc dst n u ((n + u - 1) / u) (fun k => c.tileByte sacc (src + k)) fun i => c.anyPoison sacc (src + i * u) (min u (n - i * u)) := by
  simp only [Core.copyWrites, pieceWrites, Nat.add_assoc]

/-- Byte `k` of an unscaled tile transposed: element (i, j) of the destination is element (j, i). -/
def transposedByte (t : FmtInfo) (tile : DTile) (k : Nat) : Byte :=
  let w := t.width / 8
  let b := k % (128 * w)
  BitVec.ofNat 8 (tile.code.getD (b / w * 128 + k / (128 * w)) 0 / 256 ^ (b % w))

theorem row_div_mod {i b n : Nat} (hb : b < n) : (i * n + b) / n = i ∧ (i * n + b) % n = b := by
  rw [Nat.mul_comm, Nat.mul_add_div (by omega), Nat.mul_add_mod, Nat.div_eq_of_lt hb, Nat.mod_eq_of_lt hb]
  exact ⟨rfl, rfl⟩

theorem transposedByte_element {tile : DTile} {i j b : Nat} (hj : j < 128) (hb : b < t.width / 8) :
    transposedByte t tile ((i * 128 + j) * (t.width / 8) + b) = BitVec.ofNat 8 (tile.code.getD (j * 128 + i) 0 / 256 ^ b) := by
  have hrow : j * (t.width / 8) + b < 128 * (t.width / 8) := by nlinarith
  have hbyte : (i * 128 + j) * (t.width / 8) + b = i * (128 * (t.width / 8)) + (j * (t.width / 8) + b) := by ring
  obtain ⟨hi, hin⟩ := row_div_mod (i := i) hrow
  obtain ⟨hjd, hbm⟩ := row_div_mod (i := j) hb
  simp only [transposedByte, hbyte, hi, hin, hjd, hbm]

theorem transposeWrites_eq {tile : DTile} : transposeWrites t tile dacc dst =
    pieceWrites dacc dst (128 * (128 * (t.width / 8))) (128 * (t.width / 8)) 128 (transposedByte t tile) fun _ => tile.poison.any id := by
  rw [pieceWrites_full]
  refine List.map_congr_left fun i _ => ?_
  have hrow : ∀ k < 128 * (t.width / 8), transposedByte t tile (i * (128 * (t.width / 8)) + k) =
      BitVec.ofNat 8 (tile.code.getD (k / (t.width / 8) * 128 + i) 0 / 256 ^ (k % (t.width / 8))) := fun k hk => by
    obtain ⟨hi, hin⟩ := row_div_mod (i := i) hk
    simp only [transposedByte, hi, hin]
  rw [List.map_congr_left fun k hk => hrow k (List.mem_range.mp hk), Nat.mul_assoc]

/-- The writes of a tile move of `size` bytes. -/
def Core.moveWrites (c : Core) (t : FmtInfo) (tile : DTile) (sacc : Bool) (src : Nat) (dacc : Bool) (dst size : Nat) (tr : Bool) : List Write :=
  if tr then transposeWrites t tile dacc dst
  else c.copyWrites sacc src dacc dst size ++ match c.carriedAt sacc src with
    | some tensor => [.carried dacc dst tensor]
    | none => []

/-- A move between addresses that lie in their spaces, which nothing holds up. -/
theorem Core.tmov_clear {tr : Bool} (he : e.timed = false) (ha : effAddr addr x = some (sacc, src)) (hd : regAddr xc = some (dacc, dst)) :
    let size := c.markedSize e t sacc src
    let out := if tr then t.tileBytes else size
    let tile := c.readMarked e t code sacc src
    let ws := c.moveWrites t tile sacc src dacc dst size tr
    src + size ≤ spaceBytes sacc → dst + out ≤ spaceBytes dacc →
    c.Clear { units := [.tileMove], reads := [tileUnits sacc src size], writes := [tileUnits dacc dst out] } →
    ∃ lat, c.tmov e t core code addr x xc tr = (e.done (c.lands ws) (if tr then corruptEvs 0 core src tile else [])).after lat ws false true := by
  intro size out tile ws hsrc hdst hc
  have hfit : ¬ (spaceBytes sacc < src + size ∨ spaceBytes dacc < dst + out) := by omega
  unfold Core.tmov
  rw [ha, hd]
  dsimp only
  rw [if_neg hfit, (hc.lasting _).issue e he, Core.usePorts_untimed he, Core.usePorts_untimed he]
  exact ⟨_, rfl⟩

theorem Core.tmov_outside {tr : Bool} (h : effAddr addr x = none ∨ regAddr xc = none) :
    c.tmov e t core code addr x xc tr = e.done c [.fault 0x1302] := by
  unfold Core.tmov
  split
  · next ha hd => simp [ha, hd] at h
  · rfl

section
variable {tile : DTile} {size k : Nat} (hdst : dacc = true → dst % 4 = 0)
include hdst

theorem Core.moveWrites_toTiles {tr : Bool} (hsize : size % 4 = 0) : ∀ w ∈ c.moveWrites t tile sacc src dacc dst size tr, w.toTiles dacc := by
  unfold Core.moveWrites
  cases tr
  · rw [if_neg Bool.false_ne_true, Core.copyWrites_eq]
    intro w hw
    obtain hw | hw := List.mem_append.mp hw
    · exact pieceWrites_toTiles (fun h => ⟨hdst h, hsize, by rw [h]; rfl⟩) w hw
    · split at hw
      · rw [List.mem_singleton.mp hw]
        trivial
      · contradiction
  · rw [if_pos rfl, transposeWrites_eq]
    exact pieceWrites_toTiles fun h => ⟨hdst h, by omega, by omega⟩

/-- A plain move copies the bytes. -/
theorem Core.tileByte_moveWrites (hsize : size % 4 = 0) : (c.lands (c.moveWrites t tile sacc src dacc dst size false)).tileByte dacc k =
    if dst ≤ k ∧ k < dst + size then c.tileByte sacc (src + (k - dst)) else c.tileByte dacc k := by
  have hmark : ∀ d : Core, (d.lands (match c.carriedAt sacc src with
      | some tensor => [.carried dacc dst tensor]
      | none => [])).tileByte dacc k = d.tileByte dacc k := fun d => by split <;> rfl
  have hreach : size ≤ (size + (if dacc then 512 else 64) - 1) / (if dacc then 512 else 64) * if dacc then 512 else 64 := by
    cases dacc <;> simp only [Bool.false_eq_true, if_false, if_true] <;> omega
  rw [Core.moveWrites, if_neg Bool.false_ne_true, Core.lands, List.foldl_append]
  refine (hmark _).trans ?_
  rw [Core.copyWrites_eq]
  exact Core.tileByte_lands_pieces (fun h => ⟨hdst h, hsize, by rw [h]; rfl⟩) hreach

/-- A transposing move writes the elements, transposed. -/
theorem Core.tileByte_moveWrites_transposed : (c.lands (c.moveWrites t tile sacc src dacc dst size true)).tileByte dacc k =
    if dst ≤ k ∧ k < dst + 128 * (128 * (t.width / 8)) then transposedByte t tile (k - dst) else c.tileByte dacc k := by
  rw [Core.moveWrites, if_pos rfl, transposeWrites_eq]
  exact Core.tileByte_lands_pieces (fun h => ⟨hdst h, by omega, by omega⟩) (Nat.le_refl _)

end

end

theorem regAddr_acc {xc : W64} {a : Nat} (h : regAddr xc = some (true, a)) : a % 65536 = 0 := by
  unfold regAddr at h
  split at h
  · exact effAddr_acc h
  · contradiction

theorem execTmov_issues {g : Fin 384} {fmt : Fin 16} {addr : Fin 32768} {xa xc : Fin 32} {tr : Bool} {t : FmtInfo} (hi : s.Issues g 0)
    (ht : s.fmt fmt = some t) (htr : tr = true → t.hasScale = false) : exec (.tmov g fmt addr xa xc tr) s =
    .next (s.takeCore g (.tmov g fmt addr xa xc tr) ((s.core g).tmov (s.env g) t g fmt addr ((s.core g).rx xa) ((s.core g).rx xc) tr)) := by
  have hok : ¬ (tr && t.hasScale) = true := by
    rw [Bool.and_eq_true]
    exact fun ⟨h, hs⟩ => Bool.false_ne_true ((htr h).symm.trans hs)
  change execTmov g fmt addr xa xc tr s = _
  unfold execTmov
  rw [ht]
  dsimp only
  rw [if_neg hok, hi.issue]

/-- Settles O14 (the form of x[XC] as log 92 chooses): the bytes of a plain and of a transposing move, or the refusal. -/
theorem tileMove : Obligations.TileMove := by
  intro g fmt addr xa xc tr t s hi ht htr c out
  have hexec : out = _ := execTmov_issues hi ht htr
  refine ⟨?moves, fun h => ?outside⟩
  case moves =>
    intro sacc src dacc dst ha hd size out' tile hsrc hdst hc
    have hword : dacc = true → dst % 4 = 0 := by
      intro h
      subst h
      have haddr := regAddr_acc hd
      omega
    have hsize : size % 4 = 0 := Core.markedSize_mod ..
    obtain ⟨lat, htmov⟩ := Core.tmov_clear (core := g) (code := fmt) hi.timed ha hd hsrc hdst hc
    rw [htmov] at hexec
    have hws := Core.moveWrites_toTiles (c := c) (t := t) (tile := tile) (sacc := sacc) (src := src) (tr := tr) hword hsize
    refine ⟨c.lands (c.moveWrites t tile sacc src dacc dst size tr), fun h => ⟨?copied, fun k hk => ?bytes⟩,
      fun h => ⟨?transposed, fun i hi j hj b hb => ?elements⟩, fun k hk => ?beside,
      fun k => Core.tileByte_lands_other hws, Core.lands_tilesOnly hws⟩
    case copied =>
      subst h
      exact hexec.trans (congrArg _ (State.takeCore_quiet _ _ _ _ rfl rfl rfl))
    case bytes =>
      subst h
      rw [Core.tileByte_moveWrites hword hsize, if_pos (by omega), Nat.add_sub_cancel_left]
    case transposed =>
      subst h
      exact hexec
    case elements =>
      subst h
      have hin : (i * 128 + j) * (t.width / 8) + b < 128 * (128 * (t.width / 8)) := by nlinarith
      rw [Core.tileByte_moveWrites_transposed hword, if_pos (by omega), Nat.add_assoc, Nat.add_sub_cancel_left]
      exact transposedByte_element hj hb
    case beside =>
      cases tr
      · rw [Core.tileByte_moveWrites hword hsize]
        exact if_neg hk
      · have hin : 128 * (128 * (t.width / 8)) ≤ t.tileBytes := by
          unfold FmtInfo.tileBytes FmtInfo.elemBytes
          omega
        have hout : out' = t.tileBytes := rfl
        rw [Core.tileByte_moveWrites_transposed hword, if_neg (by omega)]
  case outside =>
    rw [hexec, Core.tmov_outside h]
    exact congrArg _ State.takeCore_refused

/-! ## Vector loads (R88, R109, R131–R133) -/

section
variable {free : Nat → Nat} {opt : Nat → Bool} {t : FmtInfo} {core code v addr aux a : Nat} {x : W64} {acc tr : Bool}

/-- The type a load gives the lanes: BF16 for BF16 and G16, FP32 for every other format (R132). -/
def loadTy (code : Nat) : VTy := if code = 0 ∨ code = 8 then .bf16 else .f32

theorem loadTy_lanes : (loadTy code).lanes = if code = 0 ∨ code = 8 then 4096 else 2048 := by
  unfold loadTy
  split <;> rfl

theorem loadTy_width : (loadTy code).width = if code = 0 ∨ code = 8 then 16 else 32 := by
  unfold loadTy
  split <;> rfl

theorem loadsBf16_iff : loadsBf16 code = true ↔ code = 0 ∨ code = 8 := by simp [loadsBf16]

/-- Lane `i` of a loaded band: past the tile's edge a free value (log 3). -/
def loadedLane (free : Nat → Nat) (t : FmtInfo) (code : Nat) (tile : DTile) (tr : Bool) (aux i : Nat) : Nat :=
  if aux + i / 128 ≥ 128 then free (i / 128 * 128 + i % 128)
  else if tr then loadElem t code tile (i % 128) (aux + i / 128) else loadElem t code tile (aux + i / 128) (i % 128)

/-- A load of a band that lies in its space and that nothing holds up. -/
theorem Core.vld_clear (he : e.timed = false) (ha : effAddr addr x = some (acc, a)) :
    let band := c.bandBytes e t acc a tr aux (if code = 0 ∨ code = 8 then 32 else 16)
    let tile := c.readMarked e t code acc a
    (∀ b ∈ band, b.1 + b.2 ≤ spaceBytes acc) →
    c.Clear { units := [.tileMove], reads := band.map (fun b => tileUnits acc b.1 b.2), writes := [(5, v, 1)], lasts := 2 } →
    ∃ (p : Nat → Bool) (dirty : Bool), c.vld e free opt t core code v addr x tr aux =
      e.wroteV (c.putV v (laneWord (loadTy code) (loadedLane free t code tile tr aux)) p) v 6
        (corruptEvs 0 core a tile ++ if dirty then [.dirty] else []) := by
  intro band tile hfit hc
  have hin : ¬ (band.any fun b => decide (spaceBytes acc < b.1 + b.2)) = true := by simpa using hfit
  unfold Core.vld
  rw [ha]
  dsimp only
  by_cases hcode : code = 0 ∨ code = 8
  · have hrows : band = c.bandBytes e t acc a tr aux 32 := by
      unfold band
      rw [if_pos hcode]
    have hty : loadTy code = .bf16 := if_pos hcode
    rw [hrows] at hin hc
    rw [loadsBf16_iff.mpr hcode, hty, if_pos rfl, if_neg hin, hc.issue e he, Core.usePorts_untimed he]
    exact ⟨_, _, rfl⟩
  · have hrows : band = c.bandBytes e t acc a tr aux 16 := by
      unfold band
      rw [if_neg hcode]
    have hty : loadTy code = .f32 := if_neg hcode
    rw [hrows] at hin hc
    rw [Bool.eq_false_iff.mpr (mt loadsBf16_iff.mp hcode), hty, if_neg Bool.false_ne_true, if_neg hin, hc.issue e he, Core.usePorts_untimed he]
    exact ⟨_, _, rfl⟩

/-- A load of an address, or of a band, that does not lie in its space. -/
theorem Core.vld_outside (h : effAddr addr x = none ∨ ∃ acc a, effAddr addr x = some (acc, a)
    ∧ ∃ b ∈ c.bandBytes e t acc a tr aux (if code = 0 ∨ code = 8 then 32 else 16), spaceBytes acc < b.1 + b.2) :
    c.vld e free opt t core code v addr x tr aux = (e.done (c.poisonV v) [.fault 0x1302]).after 6 [.vecPoison v] := by
  unfold Core.vld
  obtain ha | ⟨acc, a, ha, b, hb, hout⟩ := h
  · rw [ha]
  · have hrows : (if loadsBf16 code = true then 32 else 16) = if code = 0 ∨ code = 8 then 32 else 16 := by simp only [loadsBf16_iff]
    rw [ha]
    dsimp only
    rw [hrows]
    exact if_pos (List.any_eq_true.mpr ⟨b, hb, decide_eq_true hout⟩)

theorem Core.vp_poisonV {r k : Nat} (hk : k < 32) : (c.poisonV v).vp r k = if r = v then true else c.vp r k := by
  simp only [Core.vp, Core.poisonV, Map.get_fill]
  exact if_congr (by omega) rfl rfl

end

theorem execVld_issues {g : Fin 384} {fmt : Fin 16} {v xa : Fin 32} {addr : Fin 32768} {tr : Bool} {aux : Fin 512} {t : FmtInfo} (hi : s.Issues g 0)
    (ht : s.fmt fmt = some t) : exec (.vld g fmt v addr xa tr aux) s = .next ((s.takeCore g (.vld g fmt v addr xa tr aux)
      ((s.core g).vld (s.env g) s.freeAt (s.optimizer g) t g fmt v addr ((s.core g).rx xa) tr aux)).freeSkip 4096) :=
  (withFmt_some ht rfl).trans (congrArg (fun u : State => (.next (u.freeSkip 4096) : Ans)) (hi.issue _ _))

/-- G16 is the format of code 8 alone (R83). -/
theorem fmtInfo_g16 {entry : Nat → Nat} {code : Nat} {t : FmtInfo} (h : fmtInfo entry code = some t) : t.g16 = decide (code = 8) := by
  unfold fmtInfo at h
  split at h
  case h_11 h8 _ =>
    split at h
    · obtain rfl := Option.some.inj h
      exact (decide_eq_false h8).symm
    · contradiction
  all_goals
    obtain rfl := Option.some.inj h
    rfl

/-- Settles O12 (positions past the edge as log 3 has them, bands past the end as log 91): a load by what it puts in each lane, or the refusal. -/
theorem vectorLoad : Obligations.VectorLoad := by
  intro g fmt v xa addr tr aux t s hi ht c out elem
  have hexec : out = _ := execVld_issues hi ht
  refine ⟨?loads, fun h => ?outside⟩
  case loads =>
    intro acc a ha band tile hfit hc
    obtain ⟨p, dirty, hvld⟩ := Core.vld_clear (free := s.freeAt) (opt := s.optimizer g) (core := g) hi.timed ha hfit (hc.lasting 2)
    rw [hvld] at hexec
    have helem : ∀ i j, loadElem t fmt tile i j = elem tile i j := fun i j => by
      simp only [loadElem, fmtInfo_g16 ht, decide_eq_true_eq, tileVal, elem]
    refine ⟨_, _, hexec, ?_, fun i hi hrow => ?_, ?_⟩
    · cases dirty
      · exact .inl (List.append_nil _)
      · exact .inr rfl
    · have hlane := Core.vlane_putV_laneWord (c := c) (r := v) (f := loadedLane s.freeAt t fmt tile tr aux) (p := p) (loadTy_lanes.symm ▸ hi)
      rw [loadTy_width, loadedLane, if_neg (Nat.not_le.mpr hrow), helem, helem] at hlane
      exact hlane
    · exact Core.putV_keeps
  case outside =>
    rw [hexec, Core.vld_outside h]
    refine ⟨c.poisonV v, ?_, fun k hk => by rw [Core.vp_poisonV hk, if_pos rfl], fun r hr k hk => by rw [Core.vp_poisonV hk, if_neg hr], rfl⟩
    exact congrArg (fun u : State => (.next (u.freeSkip 4096) : Ans)) (State.takeCore_fault _ _ _ _ 0x1302 rfl rfl rfl)

end Sys2Proof.Machine
end

section
/-!
VTOPK (R130, R138): its writes, what each byte of the two outputs becomes, and the settling of O11.
-/
namespace Sys2Proof.Machine

variable {s : State} {c : Core} {e : Env} {va ia p m k n t r : Nat} {val : Nat → Nat → FV} {pz : Nat → Bool}

/-- The number that the low bytes of `x` spell. -/
theorem leNat_bytes {x : Nat} : leNat ((List.range n).map fun b => BitVec.ofNat 8 (x / 256 ^ b)) = x % 256 ^ n := by
  induction n generalizing x with
  | zero => exact (Nat.mod_one x).symm
  | succ n ih =>
    have htail : ∀ b, x / 256 ^ (b + 1) = x / 256 / 256 ^ b := fun b => by rw [Nat.pow_succ', Nat.div_div_eq_div_mul]
    rw [List.range_succ_eq_map, List.map_cons, List.map_map, leNat, Nat.pow_succ', Nat.mod_mul]
    simp only [Function.comp_def, htail, ih, Nat.pow_zero, Nat.div_one, BitVec.toNat_ofNat]

/-! ## The writes of the rows -/

/-- The column at rank `r` of a row. -/
def rankCol (val : Nat → Nat → FV) (k n t r : Nat) : Nat := (topK (val t) k n).getD r 0

/-- The writes of `m` rows of VTOPK. -/
def topkWrites (va ia p m k : Nat) (val : Nat → Nat → FV) (n : Nat) (pz : Nat → Bool) : List Write :=
  (List.range m).flatMap fun t => topkRow va ia p t k (val t) n (pz t)

/-- The value written for rank `r` of row `t`. -/
def valueWrite (va p k : Nat) (val : Nat → Nat → FV) (n : Nat) (pz : Nat → Bool) (t r : Nat) : Write :=
  .bytes false (va + 4 * (r * p + t)) ((List.range 4).map fun b => BitVec.ofNat 8 (rne32 (val t (rankCol val k n t r)) / 256 ^ b)) (pz t)

/-- The column written for rank `r` of row `t`. -/
def colWrite (ia p k : Nat) (val : Nat → Nat → FV) (n : Nat) (pz : Nat → Bool) (t r : Nat) : Write :=
  .bytes false (ia + 2 * (r * p + t)) ((List.range 2).map fun b => BitVec.ofNat 8 (rankCol val k n t r / 256 ^ b)) (pz t)

theorem mem_topkWrites {w : Write} : w ∈ topkWrites va ia p m k val n pz ↔
    ∃ t < m, ∃ r < k, w = valueWrite va p k val n pz t r ∨ w = colWrite ia p k val n pz t r := by
  simp only [topkWrites, topkRow, List.mem_flatMap, List.mem_range, List.mem_cons, List.not_mem_nil, or_false]
  rfl

theorem topkWrites_toTiles : ∀ w ∈ topkWrites va ia p m k val n pz, w.toTiles false := by
  intro w hw
  obtain ⟨t, -, r, -, rfl | rfl⟩ := mem_topkWrites.mp hw <;> exact ⟨rfl, nofun⟩

/-- Rank `r` of row `t` has its place within the output. -/
theorem place_lt (ht : t < m) (hr : r < k) : r * p + t < (k - 1) * p + m := by
  have hrank : r * p ≤ (k - 1) * p := Nat.mul_le_mul_right p (Nat.le_sub_one_of_lt hr)
  omega

/-- No two outputs share a place where the planes do not overlap. -/
theorem place_inj {t' r' : Nat} (hp : k = 1 ∨ m ≤ p) (ht : t < m) (hr : r < k) (ht' : t' < m) (hr' : r' < k)
    (h : r' * p + t' = r * p + t) : t' = t ∧ r' = r := by
  obtain rfl | hp := hp
  · obtain rfl := Nat.lt_one_iff.mp hr
    obtain rfl := Nat.lt_one_iff.mp hr'
    exact ⟨by omega, rfl⟩
  · obtain ⟨hd, hm⟩ := row_div_mod (i := r) (Nat.lt_of_lt_of_le ht hp)
    obtain ⟨hd', hm'⟩ := row_div_mod (i := r') (Nat.lt_of_lt_of_le ht' hp)
    rw [h] at hd' hm'
    exact ⟨hm'.symm.trans hm, hd'.symm.trans hd⟩

section
variable {a x : Nat} {q : Bool}

theorem byteAt?_number (hx : a ≤ x ∧ x < a + n) {v : Nat} :
    (Write.bytes false a ((List.range n).map fun b => BitVec.ofNat 8 (v / 256 ^ b)) q).byteAt? false x =
      some (BitVec.ofNat 8 (v / 256 ^ (x - a))) := by
  simp only [Write.byteAt?, true_and, List.length_map, List.length_range]
  rw [if_pos hx, byteAt_map (by omega)]

theorem byteAt?_number_outside (hx : ¬ (a ≤ x ∧ x < a + n)) {f : Nat → Byte} :
    (Write.bytes false a ((List.range n).map f) q).byteAt? false x = none := by
  simp only [Write.byteAt?, true_and, List.length_map, List.length_range]
  exact if_neg hx

end

section
variable (hp : k = 1 ∨ m ≤ p) (ht : t < m) (hr : r < k)
  (hout : va + 4 * ((k - 1) * p + m) ≤ ia ∨ ia + 2 * ((k - 1) * p + m) ≤ va)
include hp ht hr hout

/-- The bytes of the value at rank `r` of row `t`. -/
theorem Core.tileByte_topkWrites_value {b : Nat} (hb : b < 4) :
    (c.lands (topkWrites va ia p m k val n pz)).tileByte false (va + 4 * (r * p + t) + b) =
      BitVec.ofNat 8 (rne32 (val t (rankCol val k n t r)) / 256 ^ b) := by
  have hplace := place_lt (p := p) ht hr
  have hown := byteAt?_number (a := va + 4 * (r * p + t)) (x := va + 4 * (r * p + t) + b) (n := 4) (q := pz t)
    (v := rne32 (val t (rankCol val k n t r))) (by omega)
  rw [Nat.add_sub_cancel_left] at hown
  refine Core.tileByte_lands topkWrites_toTiles (fun w hw y hy => ?_)
    ⟨_, mem_topkWrites.mpr ⟨t, ht, r, hr, .inl rfl⟩, fun hnone => Option.some_ne_none _ (hown.symm.trans hnone)⟩
  obtain ⟨t', ht', r', hr', rfl | rfl⟩ := mem_topkWrites.mp hw
  · by_cases hsame : r' * p + t' = r * p + t
    · obtain ⟨rfl, rfl⟩ := place_inj hp ht hr ht' hr' hsame
      exact (Option.some.inj (hown.symm.trans hy)).symm
    · rw [valueWrite, byteAt?_number_outside (by omega)] at hy
      contradiction
  · have hplace' := place_lt (p := p) ht' hr'
    rw [colWrite, byteAt?_number_outside (by omega)] at hy
    contradiction

/-- The bytes of the column at rank `r` of row `t`. -/
theorem Core.tileByte_topkWrites_col {b : Nat} (hb : b < 2) :
    (c.lands (topkWrites va ia p m k val n pz)).tileByte false (ia + 2 * (r * p + t) + b) = BitVec.ofNat 8 (rankCol val k n t r / 256 ^ b) := by
  have hplace := place_lt (p := p) ht hr
  have hown := byteAt?_number (a := ia + 2 * (r * p + t)) (x := ia + 2 * (r * p + t) + b) (n := 2) (q := pz t)
    (v := rankCol val k n t r) (by omega)
  rw [Nat.add_sub_cancel_left] at hown
  refine Core.tileByte_lands topkWrites_toTiles (fun w hw y hy => ?_)
    ⟨_, mem_topkWrites.mpr ⟨t, ht, r, hr, .inr rfl⟩, fun hnone => Option.some_ne_none _ (hown.symm.trans hnone)⟩
  obtain ⟨t', ht', r', hr', rfl | rfl⟩ := mem_topkWrites.mp hw
  · have hplace' := place_lt (p := p) ht' hr'
    rw [valueWrite, byteAt?_number_outside (by omega)] at hy
    contradiction
  · by_cases hsame : r' * p + t' = r * p + t
    · obtain ⟨rfl, rfl⟩ := place_inj hp ht hr ht' hr' hsame
      exact (Option.some.inj (hown.symm.trans hy)).symm
    · rw [colWrite, byteAt?_number_outside (by omega)] at hy
      contradiction

end

/-- No byte outside the two outputs changes. -/
theorem Core.tileByte_topkWrites_beside {a : Nat} (hv : m ≠ 0 → ¬ (va ≤ a ∧ a < va + 4 * ((k - 1) * p + m)))
    (hc : m ≠ 0 → ¬ (ia ≤ a ∧ a < ia + 2 * ((k - 1) * p + m))) :
    (c.lands (topkWrites va ia p m k val n pz)).tileByte false a = c.tileByte false a := by
  refine Core.tileByte_lands_beside topkWrites_toTiles fun w hw => ?_
  obtain ⟨t, ht, r, hr, rfl | rfl⟩ := mem_topkWrites.mp hw
  · have hplace := place_lt (p := p) ht hr
    have hbeside := hv (by omega)
    exact byteAt?_number_outside (by omega)
  · have hplace := place_lt (p := p) ht hr
    have hbeside := hc (by omega)
    exact byteAt?_number_outside (by omega)

theorem Core.lands_topkWrites_keeps : let d := c.lands (topkWrites va ia p m k val n pz)
    d = { c with ts := d.ts, tsPoison := d.tsPoison, carried := d.carried } := by
  refine List.foldlRecOn (motive := fun d : Core => d = { c with ts := d.ts, tsPoison := d.tsPoison, carried := d.carried }) _ _ rfl
    fun d hd w hw => ?_
  obtain ⟨t, -, r, -, rfl | rfl⟩ := mem_topkWrites.mp hw <;>
  · simp only [valueWrite, colWrite, Core.land, Core.putBytes, Bool.false_eq_true, if_false]
    rw [hd]

/-! ## The instruction -/

section
variable {ty : VTy} {xs l : Nat}

/-- The value of column `i` of row `t` of a source at `a`. -/
def Core.rowValue (c : Core) (ty : VTy) (a n t i : Nat) : FV :=
  let w := if ty = .bf16 then 2 else 4
  laneVal ty (leNat ((List.range w).map fun b => c.tileByte false (a + (t * n + i) * w + b)))

/-- A VTOPK whose arrays lie in the tile store and that nothing holds up. -/
theorem Core.vtopk_clear (he : e.timed = false) :
    let x := fun i => (c.rx ((xs + i) % 32)).toNat
    let w := if ty = .bf16 then 2 else 4
    let ext := if x 3 = 0 then 0 else (k - 1) * x 4 + x 3
    let val := c.rowValue ty (x 0) l
    x 0 + x 3 * l * w ≤ 12288 * 512 → x 1 + 4 * ext ≤ 12288 * 512 → x 2 + 2 * ext ≤ 12288 * 512 →
    c.Clear { units := [.topk], reads := [granules (x 0) (x 3 * l * w)], writes := [granules (x 1) (4 * ext), granules (x 2) (2 * ext)] } →
    ∃ (pz : Nat → Bool) (lat : Nat), c.vtopk e ty xs k l = (e.done (c.lands (topkWrites (x 1) (x 2) (x 4) (x 3) k val l pz))
      (if (List.range (x 3)).any fun t => (List.range l).any fun i => val t i == .nan then [.fault 0x1306] else [])).after lat
      (topkWrites (x 1) (x 2) (x 4) (x 3) k val l pz) true := by
  intro x w ext val hsrc hval hidx hc
  have hfit : ¬ (12288 * 512 < x 0 + x 3 * l * w ∨ 12288 * 512 < x 1 + 4 * ext ∨ 12288 * 512 < x 2 + 2 * ext) := by omega
  have hstart : c.vtopk e ty xs k l = c.issue e _ _ := if_neg hfit
  rw [hstart, (hc.lasting _).issue e he]
  simp only [Core.converts, he, Bool.false_eq_true, if_false]
  exact ⟨_, _, rfl⟩

end

/-- Settles O11: the outputs by the writes of the rows, the fault by the NaN that `Core.vtopk_clear` asks for. -/
theorem vectorTopk : Obligations.VectorTopk := by
  intro g ty xs k l s hi hty c x n m w ext value nan hsrc hval hidx hp hout hc
  obtain ⟨pz, lat, hrun⟩ := Core.vtopk_clear (k := k.val + 1) hi.timed hsrc hval hidx hc
  have hexec : exec (.vtopk g ty xs k l) s = .next (s.takeCore g (.vtopk g ty xs k l) (c.vtopk (s.env g) ty xs (k.val + 1) n)) :=
    (if_neg hty).trans (congrArg _ (hi.issue _ _))
  have hnan : ((List.range m).any fun t => (List.range n).any fun i => c.rowValue ty (x 0) n t i == .nan) = true ↔ nan := by
    simp only [List.any_eq_true, List.mem_range, beq_iff_eq]
    rfl
  have hext : m ≠ 0 → ext = k.val * x 4 + m := fun h => if_neg h
  have hplanes : k.val + 1 = 1 ∨ m ≤ x 4 := hp.imp_left fun h => by omega
  rw [hexec, hrun]
  refine ⟨c.lands (topkWrites (x 1) (x 2) (x 4) m (k.val + 1) (c.rowValue ty (x 0) n) n pz), fun h => ?_, fun h => ?_,
    fun t ht r hr => ?_, fun a hv hx => ?_, Core.lands_topkWrites_keeps⟩
  · exact congrArg _ (State.takeCore_quiet _ _ _ _ (if_neg (mt hnan.mp h)) rfl rfl)
  · exact congrArg _ (State.takeCore_fault _ _ _ _ _ (if_pos (hnan.mpr h)) rfl rfl)
  · have hapart := hext (by omega) ▸ hout
    constructor
    · refine (congrArg leNat (List.map_congr_left fun b hb => ?_)).trans (leNat_bytes (n := 4))
      exact Core.tileByte_topkWrites_value hplanes ht hr hapart (List.mem_range.mp hb)
    · refine (congrArg leNat (List.map_congr_left fun b hb => ?_)).trans (leNat_bytes (n := 2))
      exact Core.tileByte_topkWrites_col hplanes ht hr hapart (List.mem_range.mp hb)
  · exact Core.tileByte_topkWrites_beside (fun h => hext h ▸ hv) fun h => hext h ▸ hx

end Sys2Proof.Machine
end

section
/-!
Posting of descriptors (R119, R132, R243, R357): what each kind of CPOST does, and the settling of O20.
-/
namespace Sys2Proof.Machine

variable {s : State}

/-! ## Claims keep the queues -/

theorem State.claimRng_clusters {src ident : Nat} {r : Rng} : (s.claimRng src ident r).clusters = s.clusters := by
  unfold State.claimRng
  split
  · rfl
  · split
    · exact State.onDie_clusters ..
    · exact State.onCore_clusters ..

theorem State.claimPost_clusters {g v x : Nat} : (s.claimPost g v x).clusters = s.clusters := by
  have hclaims : ∀ (t : State) (src ident : Nat) (l : List Rng), (l.foldl (State.claimRng src ident) t).clusters = t.clusters :=
    fun t src ident l => foldl_keeps (fun u : State => u.clusters = t.clusters) _ (fun _ _ h => State.claimRng_clusters.trans h) l t rfl
  exact (hclaims ..).trans (hclaims ..)

theorem State.takeUse_clusters {g e : Nat} : (s.takeUse g e).1.clusters = s.clusters := by
  unfold State.takeUse
  dsimp only
  split
  · exact State.setCore_clusters ..
  · rfl

/-! ## The cases of a post -/

/-- A returning operation has its destination outside the cores (R271, R320), so that its side fits. -/
theorem CDesc.fits_eq (d : CDesc) : d.fits = (sideFits d.srcSpace d.src d.rows d.rowLen d.srcPitch
    && (d.allocDst || sideFits d.dstSpace d.dst d.rows d.rowLen d.dstPitch)) := by
  have hret : d.isReturning = true → sideFits d.dstSpace d.dst d.rows d.rowLen d.dstPitch = true := by
    intro h
    simp only [CDesc.isReturning, Bool.and_eq_true, Bool.or_eq_true, beq_iff_eq] at h
    exact if_neg (by omega)
  unfold CDesc.fits
  cases hr : d.isReturning
  · rw [Bool.or_false]
  · rw [hret hr, Bool.or_true, Bool.or_true]

/-- A descriptor put at the end of a courier's queue. -/
def State.enqueue (s : State) (n k : Nat) (q : QEnt) : State := s.setCluster n ((s.cluster n).setQueue k ((s.cluster n).queue k ++ [q]))

section
variable {g k xa i : Nat}

/-- The descriptor that a CPOST of core `g` names, with the addresses it gives. -/
def State.posted (s : State) (g xa i : Nat) : CDesc := (cdesc (s.descOf g i)).withOff ((s.core g).rx xa).toNat

/-- What a post takes: its claims, and a use of its release entry where it has one. -/
def State.postTaken (s : State) (g xa i : Nat) : State × Option (Nat × Nat) :=
  let d := s.posted g xa i
  let t := s.claimPost g (s.descOf g i) ((s.core g).rx xa).toNat
  if d.kind = 0 ∧ d.remote = true ∧ d.release ≠ 0xFFFF then t.takeUse g d.release else (t, some (0, 0))

/-- A post that has room: it stalls at a claim, is dropped where the uses of its entry are spent, or is queued with what it took. -/
def State.postRoomy (s : State) (g k xa i : Nat) : State × Bool :=
  match s.postBlocked g (s.descOf g i) ((s.core g).rx xa).toNat with
  | some cause => (s.stallCore g cause, true)
  | none =>
    match s.postTaken g xa i with
    | (t, none) => (t.raise 0x7307 0, false)
    | (t, some (_, rel)) =>
      (t.enqueue (g / 8) k { desc := i, off := ((s.core g).rx xa).toNat, core := g, ident := s.nextPost, rel := rel }, false)

theorem State.cpost_bank (h : (s.posted g xa i).kind = 3) : let cl := s.cluster (g / 8)
    s.cpost g k xa i =
      (s.setCluster (g / 8) { cl with banks := cl.banks ++ [{ desc := i, off := ((s.core g).rx xa).toNat, core := g, ident := 0 }] }, false) :=
  if_pos h

theorem State.cpost_outside (h : (s.posted g xa i).kind = 0) (hfit : (s.posted g xa i).fits = false) :
    s.cpost g k xa i = (s.raise 0x1302 g, false) := by
  have hkind : (s.posted g xa i).kind ≠ 3 := by omega
  have hout : (s.posted g xa i).kind = 0 ∧ (!(s.posted g xa i).fits) = true := ⟨h, by rw [hfit]; rfl⟩
  exact (if_neg hkind).trans (if_pos hout)

section
variable (hkind : (s.posted g xa i).kind ≠ 3) (hfit : (s.posted g xa i).kind = 0 → (s.posted g xa i).fits = true) (hb : s.inBundle = false)
include hkind hfit hb

/-- A post whose sides fit looks at its queue first. -/
theorem State.cpost_full (hq : 32 ≤ ((s.cluster (g / 8)).queue k).length) : s.cpost g k xa i = (s.stallCore g 9, true) := by
  have hin : ¬ ((s.posted g xa i).kind = 0 ∧ (!(s.posted g xa i).fits) = true) := fun ⟨h, hn⟩ => by simp [hfit h] at hn
  exact (if_neg hkind).trans ((if_neg hin).trans (if_pos ⟨by rw [hb]; rfl, hq⟩))

/-- Where there is room it looks at its destination. -/
theorem State.cpost_room (hq : ((s.cluster (g / 8)).queue k).length < 32) : s.cpost g k xa i = s.postRoomy g k xa i := by
  have hin : ¬ ((s.posted g xa i).kind = 0 ∧ (!(s.posted g xa i).fits) = true) := fun ⟨h, hn⟩ => by simp [hfit h] at hn
  have hroom : ¬ ((!s.inBundle) = true ∧ 32 ≤ ((s.cluster (g / 8)).queue k).length) := fun h => absurd h.2 (by omega)
  refine (if_neg hkind).trans ((if_neg hin).trans ((if_neg hroom).trans ?_))
  rw [hb, if_neg Bool.false_ne_true, State.postRoomy]
  cases s.postBlocked g (s.descOf g i) ((s.core g).rx xa).toNat with
  | some cause => rfl
  | none =>
    rcases htaken : s.postTaken g xa i with ⟨t, rel⟩
    unfold State.postTaken State.posted at htaken
    dsimp only at htaken ⊢
    rw [htaken]
    cases rel <;> rfl

end

section
variable {t : State} {n rel cause : Nat}

theorem State.postRoomy_claimed (h : s.postBlocked g (s.descOf g i) ((s.core g).rx xa).toNat = some cause) :
    s.postRoomy g k xa i = (s.stallCore g cause, true) := by
  rw [State.postRoomy, h]

variable (hfree : s.postBlocked g (s.descOf g i) ((s.core g).rx xa).toNat = none)
include hfree

theorem State.postRoomy_spent (h : s.postTaken g xa i = (t, none)) : s.postRoomy g k xa i = (t.raise 0x7307 0, false) := by
  rw [State.postRoomy, hfree, h]

theorem State.postRoomy_queued (h : s.postTaken g xa i = (t, some (n, rel))) (hcl : t.clusters = s.clusters) :
    let cl := s.cluster (g / 8)
    s.postRoomy g k xa i = (t.setCluster (g / 8) (cl.setQueue k (cl.queue k ++
      [{ desc := i, off := ((s.core g).rx xa).toNat, core := g, ident := s.nextPost, rel := rel }])), false) := by
  have hsame : t.cluster (g / 8) = s.cluster (g / 8) := by rw [State.cluster, hcl, State.cluster]
  rw [State.postRoomy, hfree, h]
  dsimp only
  rw [State.enqueue, hsame]

end

end

/-- A CPOST given as a command: what it leaves, waiting where it stalled. -/
theorem State.Issues.cpost {g : Fin 384} (hi : s.Issues g 0) (k : Fin 4) (xa : Fin 32) (i : Fin 512) : exec (.cpost g k xa i) s =
    .next (if (s.cpost g k xa i).2 then (s.cpost g k xa i).1.wait g (.cpost g k xa i) else (s.cpost g k xa i).1) := by
  have hlive : ¬ (!s.live) = true := by
    rw [hi.live]
    exact Bool.false_ne_true
  change execCpost g k xa i s = _
  unfold execCpost
  dsimp only
  rw [if_neg hlive, hi.frozen]

/-- Settles O20 (log 35): a BANK, a side beyond its space, a full queue, and a post that has room by its destination and its release entry. -/
theorem courierPost : Obligations.CourierPost := by
  intro g k xa desc s hi c cl v x d i fits claimed queued
  have hfits : (s.posted g xa desc).fits = fits := CDesc.fits_eq _
  rw [hi.cpost]
  refine ⟨fun hkind hfit hq hfree => ?free, fun h => ?bank, fun h hfit => ?outside, fun hkind hfit hq => ?full,
    fun hkind hfit hq cause hblock => ?claimed⟩
  case free =>
    rw [State.cpost_room hkind (hfits ▸ hfit) hi.timed hq]
    refine ⟨fun huse => ?noUse, fun h0 hrem hrel => ⟨fun t n rel ht => ?use, fun t ht => ?spent⟩⟩
    case noUse =>
      have htaken : s.postTaken g xa desc = (claimed, some (0, 0)) := if_neg fun ⟨h0, hrem, hrel⟩ => by
        obtain h | h | h := huse
        · exact h h0
        · exact Bool.false_ne_true (h.symm.trans hrem)
        · exact hrel h
      rw [State.postRoomy_queued hfree htaken State.claimPost_clusters]
      rfl
    case use =>
      have htaken : s.postTaken g xa desc = (t, some (n, rel)) := (if_pos ⟨h0, hrem, hrel⟩).trans ht
      have hcl : t.clusters = s.clusters := congrArg (fun r => r.1.clusters) ht ▸ State.takeUse_clusters.trans State.claimPost_clusters
      rw [State.postRoomy_queued hfree htaken hcl]
      rfl
    case spent =>
      have htaken : s.postTaken g xa desc = (t, none) := (if_pos ⟨h0, hrem, hrel⟩).trans ht
      rw [State.postRoomy_spent hfree htaken]
      rfl
  case bank =>
    rw [State.cpost_bank h]
    rfl
  case outside =>
    rw [State.cpost_outside h (hfits.trans hfit)]
    rfl
  case full =>
    rw [State.cpost_full hkind (hfits ▸ hfit) hi.timed hq]
    rfl
  case claimed =>
    rw [State.cpost_room hkind (hfits ▸ hfit) hi.timed hq, State.postRoomy_claimed hblock]
    rfl

end Sys2Proof.Machine
end

section
/-!
A courier's COPY whose entry is marked as sent (R244, R320), and the refutation of O21.
-/
namespace Sys2Proof.Machine

/-- An entry that names descriptor 1, marked as one whose requests are all under way. -/
def sentEntry : QEnt := { desc := 1, off := 0, core := 0, ident := 0, sent := true }

/-- A COPY of one row of 64 bytes from tile store 0 at 0 to tile store 1 at 0x1000, the whole row live. -/
def rowCopy : Nat :=
  2 ^ 64 + 2 ^ 96 * 0xFFFF + 2 ^ 192 * (0x1000 + 2 ^ 64 * (64 + 2 ^ 32 * (1 + 2 ^ 32 * (64 + 2 ^ 32 * (64 + 2 ^ 32 * 0xFFFF)))))

/-- The module with that entry at the head of courier 0 of cluster 0. -/
def sentState : State :=
  { fw := { mod := .running, prev := .ready, event := 6, procs := [] }
    clusters := [(0, { desc := [(1, rowCopy)], queues := [(0, [sentEntry])] })] }

theorem sentState_calm : sentState.Calm := by decide

/-- An entry whose requests are under way waits for their responses: running it changes nothing. -/
theorem State.runCopy_sent {s : State} {cl k : Nat} {q : QEnt} {mail : Option MailSpec} (h : q.sent = true) : s.runCopy cl k q mail = s :=
  if_pos h

theorem exec_copy_sent : exec (.copy 0 0 none) sentState = .next sentState := by
  have hrun : exec (.copy 0 0 none) sentState = .next (sentState.runCopy 0 0 sentEntry none).settle := rfl
  rw [hrun, State.runCopy_sent rfl, sentState_calm.settle]

set_option exponentiation.threshold 600 in
/-- The conditions that O21 puts on the COPY and its state. -/
theorem sentState_ready : let d := (cdesc rowCopy).withOff 0
    d.kind = 0 ∧ d.srcSpace = 0 ∧ d.dstSpace = 0 ∧ d.transpose = false ∧ d.allocDst = false ∧ d.releaseSrc = false
    ∧ polForm (Map.get 0 (sentState.die 0).policy d.tensor) = 0 ∧ sentState.srcReady 0 0 d (sentState.liveRows 0 d) = true
    ∧ sentState.dstReady 0 d (sentState.liveRows 0 d) = true ∧ sentState.banksReady d (sentState.liveRows 0 d) = (sentState, true)
    ∧ d.rowLen ≤ d.dstPitch ∧ d.srcCore ≠ d.dstCore ∧ sentState.liveRows 0 d = 1 := by decide

/-- Refutes O21: the statement takes any entry at the head of the queue, also one marked `sent`, whose COPY does nothing and stays in the
queue. The model marks only loads and returning operations so; the statement lacks the premise that the entry is one just posted. -/
theorem not_courierCopy : ¬ Obligations.CourierCopy := by
  unfold Obligations.CourierCopy
  intro h
  obtain ⟨hkind, hsrc, hdst, htr, halloc, hrel, hpol, hread, hwrite, hbanks, hpitch, hapart, -⟩ := sentState_ready
  obtain ⟨hcopy, -⟩ := h 0 0 sentEntry [] sentState rfl rfl sentState_calm rfl hkind
  obtain ⟨t, ht, -, -, hqueue, -⟩ := hcopy (by decide) hsrc hdst htr halloc hrel hpol hread hwrite hbanks hpitch fun hsame => absurd hsame hapart
  obtain rfl := Host.Outcome.next.inj (exec_copy_sent.symm.trans ht)
  exact absurd hqueue (by decide)

end Sys2Proof.Machine
end

section
/-!
Banks of the tile stores (R232–R239): what giving a bank a state changes, and the settling of O22.
-/
namespace Sys2Proof.Machine

variable {s : State} {c d u : Core} {b j st mask n : Nat}

/-! ## Giving one bank a state (R232) -/

/-- A bank that is retained or on its way out of it. -/
abbrev Core.sleeps (c : Core) (b : Nat) : Prop := c.bank b = .retained ∨ c.bank b = .waking

/-- `d` is `c` but for the states of banks and the test under way. -/
def Core.BanksOnly (c d : Core) : Prop :=
  d = { c with
    banks := d.banks, waking := d.waking, retainWait := d.retainWait, bankGoal := d.bankGoal, wakeTold := d.wakeTold, testing := d.testing }

/-- Bank `j` has in `d` the state, the pending retention and the goal of its wake that it has in `c`. -/
def Core.SameBank (j : Nat) (c d : Core) : Prop :=
  d.bank j = c.bank j ∧ (j ∈ d.retainWait ↔ j ∈ c.retainWait) ∧ Map.get 0 d.bankGoal j = Map.get 0 c.bankGoal j

theorem Core.BanksOnly.trans (h : c.BanksOnly d) (k : d.BanksOnly u) : c.BanksOnly u := by
  unfold Core.BanksOnly at *
  rw [k, h]

theorem Core.BanksOnly.bankFree (h : c.BanksOnly d) : d.bankFree b = c.bankFree b := by
  rw [h]
  rfl

theorem Core.SameBank.trans (h : c.SameBank j d) (k : d.SameBank j u) : c.SameBank j u := by
  obtain ⟨hb, hw, hg⟩ := h
  obtain ⟨kb, kw, kg⟩ := k
  exact ⟨kb.trans hb, kw.trans hw, kg.trans hg⟩

/-- The test under way where bank `b` takes state `st`: a test in the bank ends where the bank leaves IDLE (R236). -/
def Core.testKept (c : Core) (b st : Nat) : Option (Nat × List Byte × Bool × Nat) :=
  if c.bank b = .idle ∧ st ≠ 1 then c.testing.filter fun x => decide (x.1 / 48 ≠ b) else c.testing

/-- The core with the test ended and no retention pending, where bank `b` is to take state `st`. -/
def Core.cleared (c : Core) (b st : Nat) : Core := { c with testing := c.testKept b st, retainWait := c.retainWait.filter (· != b) }

theorem Core.stopTest_eq : c.stopTest b = { c with testing := c.testing.filter fun x => decide (x.1 / 48 ≠ b) } := by
  unfold Core.stopTest
  split
  next k r h =>
    rw [h]
    by_cases hk : k / 48 = b
    · rw [if_pos hk, Option.filter_some, if_neg (by simpa using hk)]
    · rw [if_neg hk, Option.filter_some, if_pos (by simpa using hk), ← h]
  next h =>
    rw [h, Option.filter_none, ← h]

/-- A bank waits to be retained. -/
def Core.awaitRetain (c : Core) (b : Nat) : Core := { c with retainWait := c.retainWait ++ [b] }

/-- A bank wakes, or goes on waking, to take a state. -/
def Core.wakeFor (c : Core) (b st : Nat) : Core := { c.wake b with bankGoal := Map.set 0 (c.wake b).bankGoal b st }

theorem Core.toBank_eq : c.toBank b st =
    if st = 2 then (if c.bankFree b then (c.cleared b st).retain b else (c.cleared b st).awaitRetain b)
    else if c.sleeps b then (c.cleared b st).wakeFor b st
    else (c.cleared b st).setBank b (if st = 1 then .idle else .active) := by
  have hstop : (if c.bank b = .idle ∧ st ≠ 1 then c.stopTest b else c) = { c with testing := c.testKept b st } := by
    unfold Core.testKept
    split
    · exact Core.stopTest_eq
    · rfl
  unfold Core.toBank
  rw [hstop]
  rfl

/-! ### What each of them changes -/

/-- `d` is `c` but for bank `b`. -/
def Core.Changes (b : Nat) (c d : Core) : Prop := c.BanksOnly d ∧ d.testing = c.testing ∧ ∀ j ≠ b, c.SameBank j d

theorem Core.setBank_changes {v : Bank} : Core.Changes b c (c.setBank b v) :=
  ⟨rfl, rfl, fun _ hj => ⟨Map.get_set_ne _ _ _ _ _ hj, Iff.rfl, rfl⟩⟩

theorem Core.retain_changes : Core.Changes b c (c.retain b) :=
  ⟨rfl, rfl, fun _ hj => ⟨Map.get_set_ne _ _ _ _ _ hj, by simp [Core.retain, hj], Map.get_set_ne _ _ _ _ _ hj⟩⟩

theorem Core.awaitRetain_changes : Core.Changes b c (c.awaitRetain b) :=
  ⟨rfl, rfl, fun _ hj => ⟨rfl, by simp [Core.awaitRetain, hj], rfl⟩⟩

theorem Core.wakeFor_changes : Core.Changes b c (c.wakeFor b st) := by
  unfold Core.wakeFor Core.wake
  split
  · exact ⟨rfl, rfl, fun _ hj => ⟨Map.get_set_ne _ _ _ _ _ hj, Iff.rfl, Map.get_set_ne _ _ _ _ _ hj⟩⟩
  · exact ⟨rfl, rfl, fun _ hj => ⟨rfl, Iff.rfl, Map.get_set_ne _ _ _ _ _ hj⟩⟩

theorem Core.toBank_changes : Core.Changes b (c.cleared b st) (c.toBank b st) := by
  rw [Core.toBank_eq]
  split
  · split
    · exact Core.retain_changes
    · exact Core.awaitRetain_changes
  · split
    · exact Core.wakeFor_changes
    · exact Core.setBank_changes

theorem Core.cleared_banksOnly : c.BanksOnly (c.cleared b st) := rfl

theorem Core.cleared_same (h : j ≠ b) : c.SameBank j (c.cleared b st) := ⟨rfl, by simp [Core.cleared, h], rfl⟩

theorem Core.toBank_banksOnly : c.BanksOnly (c.toBank b st) := by
  obtain ⟨hrest, -, -⟩ := Core.toBank_changes (c := c) (b := b) (st := st)
  exact Core.cleared_banksOnly.trans hrest

theorem Core.toBank_testing : (c.toBank b st).testing = c.testKept b st := by
  obtain ⟨-, htest, -⟩ := Core.toBank_changes (c := c) (b := b) (st := st)
  exact htest

theorem Core.toBank_same (h : j ≠ b) : c.SameBank j (c.toBank b st) := by
  obtain ⟨-, -, hsame⟩ := Core.toBank_changes (c := c) (b := b) (st := st)
  exact (Core.cleared_same h).trans (hsame j h)

/-! ### What it does to the bank itself -/

theorem Core.wakeFor_sleeping (h : c.sleeps b) : (c.wakeFor b st).bank b = .waking ∧ Map.get 0 (c.wakeFor b st).bankGoal b = st := by
  refine ⟨?_, Map.get_set_same ..⟩
  change (c.wake b).bank b = .waking
  unfold Core.wake
  split
  · exact Map.get_set_same ..
  next hr => exact h.resolve_left hr

/-- Bank `b`, given state `st` in `c`, as `d` has it. -/
def Core.BankTakes (b st : Nat) (c d : Core) : Prop :=
  (st = 2 → c.bankFree b = true → d.bank b = .retained ∧ b ∉ d.retainWait)
  ∧ (st = 2 → c.bankFree b = false → d.bank b = c.bank b ∧ b ∈ d.retainWait)
  ∧ (st ≠ 2 → b ∉ d.retainWait ∧ (c.sleeps b → d.bank b = .waking ∧ Map.get 0 d.bankGoal b = st)
      ∧ (¬ c.sleeps b → d.bank b = if st = 1 then .idle else .active))

theorem Core.toBank_takes : c.BankTakes b st (c.toBank b st) := by
  have hwaits : b ∉ (c.cleared b st).retainWait := by simp [Core.cleared]
  rw [Core.toBank_eq]
  refine ⟨fun h hf => ?_, fun h hf => ?_, fun h => ?_⟩
  · rw [if_pos h, if_pos hf]
    exact ⟨Map.get_set_same .., by simp [Core.retain]⟩
  · rw [if_pos h, hf, if_neg Bool.false_ne_true]
    exact ⟨rfl, by simp [Core.awaitRetain]⟩
  · rw [if_neg h]
    by_cases hs : c.sleeps b
    · have hkeeps : ((c.cleared b st).wakeFor b st).retainWait = (c.cleared b st).retainWait := by
        unfold Core.wakeFor Core.wake
        split <;> rfl
      rw [if_pos hs, hkeeps]
      exact ⟨hwaits, fun _ => Core.wakeFor_sleeping hs, fun hn => absurd hs hn⟩
    · rw [if_neg hs]
      exact ⟨hwaits, fun hn => absurd hn hs, fun _ => Map.get_set_same ..⟩

/-! ## Giving the banks of a mask a state -/

/-- Banks 0 to `n - 1` given the state where the mask holds them. -/
def Core.toBanks (c : Core) (mask st n : Nat) : Core := (List.range n).foldl (fun c b => if bit mask b then c.toBank b st else c) c

theorem Core.toBanks_succ : c.toBanks mask st (n + 1) =
    if bit mask n then (c.toBanks mask st n).toBank n st else c.toBanks mask st n := by
  rw [Core.toBanks, List.range_succ, List.foldl_append]
  rfl

theorem Core.toBanks_banksOnly : c.BanksOnly (c.toBanks mask st n) := by
  induction n with
  | zero => rfl
  | succ n ih =>
    rw [Core.toBanks_succ]
    split
    · exact ih.trans Core.toBank_banksOnly
    · exact ih

/-- A bank out of the mask, or past the banks given a state, stays as it is. -/
theorem Core.toBanks_same (h : bit mask j = false ∨ n ≤ j) : c.SameBank j (c.toBanks mask st n) := by
  induction n with
  | zero => exact ⟨rfl, Iff.rfl, rfl⟩
  | succ n ih =>
    have hbefore := ih (h.imp_right (Nat.le_of_succ_le ·))
    rw [Core.toBanks_succ]
    split
    next hn =>
      refine hbefore.trans (Core.toBank_same fun hj => ?_)
      subst hj
      obtain h | h := h
      · exact Bool.false_ne_true (h.symm.trans hn)
      · omega
    next => exact hbefore

theorem Core.BankTakes.of_same {c' d' : Core} (h : c'.BankTakes b st d) (hfree : c'.bankFree b = c.bankFree b) (hc : c.SameBank b c')
    (hd : d.SameBank b d') : c.BankTakes b st d' := by
  obtain ⟨hb, -, -⟩ := hc
  obtain ⟨kb, kw, kg⟩ := hd
  unfold Core.BankTakes Core.sleeps at *
  rw [kb, kw, kg, ← hb, ← hfree]
  exact h

/-- A bank of the mask takes the state. -/
theorem Core.toBanks_takes (hb : b < n) (hmask : bit mask b = true) : c.BankTakes b st (c.toBanks mask st n) := by
  induction n with
  | zero => exact absurd hb (Nat.not_lt_zero b)
  | succ n ih =>
    rw [Core.toBanks_succ]
    obtain rfl | hlt := Nat.eq_or_lt_of_le (Nat.le_of_lt_succ hb)
    · rw [if_pos hmask]
      exact Core.toBank_takes.of_same Core.toBanks_banksOnly.bankFree (Core.toBanks_same (.inr (Nat.le_refl b))) ⟨rfl, Iff.rfl, rfl⟩
    · have hsame : (c.toBanks mask st n).bankFree b = c.bankFree b := Core.toBanks_banksOnly.bankFree
      split
      · exact (ih hlt).of_same rfl ⟨rfl, Iff.rfl, rfl⟩ (Core.toBank_same (Nat.ne_of_lt hlt))
      · exact ih hlt

/-- A test goes on unless its bank leaves IDLE. -/
theorem Core.toBanks_testing {x : Nat × List Byte × Bool × Nat} (h : c.testing = some x) : (c.toBanks mask st n).testing =
    if x.1 / 48 < n ∧ bit mask (x.1 / 48) = true ∧ c.bank (x.1 / 48) = .idle ∧ st ≠ 1 then none else some x := by
  induction n with
  | zero => exact h.trans (if_neg fun k => absurd k.1 (Nat.not_lt_zero _)).symm
  | succ n ih =>
    obtain ⟨hbank, -, -⟩ := Core.toBanks_same (c := c) (mask := mask) (st := st) (n := n) (j := n) (.inr (Nat.le_refl n))
    have hkept : (c.toBanks mask st (n + 1)).testing =
        if bit mask n = true ∧ c.bank n = .idle ∧ st ≠ 1 then (c.toBanks mask st n).testing.filter fun x => decide (x.1 / 48 ≠ n)
        else (c.toBanks mask st n).testing := by
      rw [Core.toBanks_succ, ite_and]
      split
      · rw [Core.toBank_testing, Core.testKept, hbank]
      · rfl
    rw [hkept, ih]
    by_cases hx : x.1 / 48 = n
    · have hbefore : ¬ (n < n ∧ bit mask n = true ∧ c.bank n = .idle ∧ st ≠ 1) := fun k => absurd k.1 (Nat.lt_irrefl n)
      have hcut : (some x).filter (fun x => decide (x.1 / 48 ≠ n)) = none := by simp [hx]
      rw [hx, if_neg hbefore, hcut]
      simp only [Nat.lt_succ_self, true_and]
    · have hlt : x.1 / 48 < n + 1 ↔ x.1 / 48 < n := by omega
      simp only [hlt]
      split
      · split
        · rfl
        · rw [Option.filter_some, if_pos (by simpa using hx)]
      · rfl

theorem Core.toBanks_untested (h : c.testing = none) : (c.toBanks mask st n).testing = none := by
  induction n with
  | zero => exact h
  | succ n ih =>
    rw [Core.toBanks_succ]
    split
    · rw [Core.toBank_testing, Core.testKept, ih, Option.filter_none, ite_self]
    · exact ih

/-! ## Wakes and tests (R233, R236) -/

/-- A core that counts a wake and tells of it has `TS.WAKE_CNT` counted and 0x4104 raised. -/
theorem State.tells_wake {g : Nat} : s.tells g [.count Reg.TS_WAKE_CNT 1, .fault 0x4104] =
    (s.count (Reg.at Reg.TS_WAKE_CNT g)).raise 0x4104 g := State.raiseAll_one ..

section
variable {g : Nat} {byCore : Bool}

theorem Core.wake_told : (c.wake b).wakeTold = c.wakeTold := by
  unfold Core.wake
  split <;> rfl

/-- An access to a sleeping bank whose wake has not been told of. -/
theorem State.reachBank_untold (h : b ∉ (s.core g).wakeTold) : let d := (s.core g).wake b
    s.reachBank g b byCore = ((s.setCore g { d with
      bankGoal := Map.set 0 d.bankGoal b 0, wakeTold := b :: d.wakeTold, stall := if byCore then 4 else d.stall }).count
      (Reg.at Reg.TS_WAKE_CNT g)).raise 0x4104 g := by
  have htold : ¬ ((s.core g).wake b).wakeTold.contains b = true := by rwa [Core.wake_told, List.contains_iff_mem]
  have hreach : (s.core g).reachBank b = _ := if_neg htold
  unfold State.reachBank
  rw [hreach]
  exact State.tells_wake

/-- An access to one whose wake has been told of. -/
theorem State.reachBank_told (h : b ∈ (s.core g).wakeTold) : let d := (s.core g).wake b
    s.reachBank g b byCore = s.setCore g { d with bankGoal := Map.set 0 d.bankGoal b 0, stall := if byCore then 4 else d.stall } := by
  have htold : ((s.core g).wake b).wakeTold.contains b = true := by rwa [Core.wake_told, List.contains_iff_mem]
  have hreach : (s.core g).reachBank b = _ := if_pos htold
  unfold State.reachBank
  rw [hreach]
  exact State.tells_nil ..

theorem State.finishTest_none (h : (s.core g).testing = none) : s.finishTest g = s := by
  unfold State.finishTest
  rw [h]

end

/-! ## The commands -/

section
variable {g : Fin 384} {b : Fin 32} {byCore : Bool}

/-- BANK gives the banks of its mask their state. -/
theorem exec_bank {cl : Fin 48} {q : QEnt} {rest : List QEnt} (h : (s.cluster cl).banks = q :: rest) :
    let d := (cdesc (Map.get 0 (s.cluster cl).desc q.desc)).withOff q.off
    exec (.bank cl) s = .next ((s.setCluster cl { s.cluster cl with banks := rest }).setCore d.dstCore
      ((s.core d.dstCore).toBanks d.src (d.dst % 4) 32)) := by
  change execBank cl s = _
  unfold execBank
  rw [h]
  rfl

theorem exec_bank_none {cl : Fin 48} (h : (s.cluster cl).banks = []) : exec (.bank cl) s = .next s := by
  change execBank cl s = _
  unfold execBank
  rw [h]

theorem exec_bankRetain (h : b.val ∈ (s.core g).retainWait) (hf : (s.core g).bankFree b = true) :
    exec (.bankRetain g b) s = .next (s.setCore g ((s.core g).retain b)) := by
  have hwaits : ((s.core g).retainWait.contains b.val && (s.core g).bankFree b) = true := by simpa using ⟨h, hf⟩
  exact congrArg _ (if_pos hwaits)

theorem exec_bankRetain_not (h : b.val ∉ (s.core g).retainWait ∨ (s.core g).bankFree b = false) : exec (.bankRetain g b) s = .next s := by
  have hnot : ¬ ((s.core g).retainWait.contains b.val && (s.core g).bankFree b) = true := by
    rw [Bool.and_eq_true, List.contains_iff_mem]
    rintro ⟨hmem, hfree⟩
    exact h.elim (fun hn => hn hmem) fun hn => Bool.false_ne_true (hn.symm.trans hfree)
  exact congrArg _ (if_neg hnot)

theorem exec_testAbort {x : Nat × List Byte × Bool × Nat} (h : (s.core g).testing = some x) : exec (.testAbort g byCore) s =
    .next (((s.setCore g { s.core g with testing := none, stall := if byCore then 4 else (s.core g).stall }).count
      (Reg.at Reg.TS_WAKE_CNT g)).raise 0x4104 g) := by
  have hrun : exec (.testAbort g byCore) s = .next (s.cutTest g byCore) := congrArg _ (if_pos (by rw [h]; rfl))
  exact hrun.trans (congrArg _ State.tells_wake)

theorem exec_testAbort_none (h : (s.core g).testing = none) : exec (.testAbort g byCore) s = .next s :=
  congrArg _ (if_neg (by rw [h]; exact Bool.false_ne_true))

theorem exec_backgroundTest {region : Fin 48} {fails : Bool} (hup : s.ctlUp g = true) (hidle : (s.core g).bank b = .idle)
    (htest : (s.core g).testing = none) : let key := b.val * 48 + region.val
    let saved := (List.range 4096).map fun i => (s.core g).tileByte false (4096 * key + i)
    exec (.backgroundTest g b region fails) s = .next (s.setCore g { s.core g with testing := some (key, saved, fails, s.now) }) := by
  have hrun : (s.ctlUp g && (s.core g).bank b == .idle) = true := by simp [hup, hidle]
  refine congrArg _ ((if_pos hrun).trans ?_)
  rw [State.finishTest_none htest]
  rfl

theorem exec_backgroundTest_not {region : Fin 48} {fails : Bool} (h : s.ctlUp g = false ∨ (s.core g).bank b ≠ .idle) :
    exec (.backgroundTest g b region fails) s = .next s := by
  have hnot : ¬ (s.ctlUp g && (s.core g).bank b == .idle) = true := by
    rw [Bool.and_eq_true, beq_iff_eq]
    rintro ⟨hup, hidle⟩
    exact h.elim (fun hn => Bool.false_ne_true (hn.symm.trans hup)) fun hn => hn hidle
  exact congrArg _ (if_neg hnot)

/-- A window that finds no IDLE bank answers that no region was tested. -/
theorem exec_testWindow_none {slot : Fin 4} {v : Service} (hv : (s.core g).service slot = some v) (hkind : v.kind = 3) (hup : s.ctlUp g = true)
    (htest : (s.core g).testing = none) (hidle : ∀ b < 32, (s.core g).bank b ≠ .idle) :
    exec (.testWindow g slot []) s = .next (s.setCore g { (s.core g).serve slot 0 with tested := 0 }) := by
  have hbanks : ((List.range 32).filter fun b => bit (fieldAt v.arg 0 4) b && (s.core g).bank b == .idle) = [] := by
    refine List.filter_eq_nil_iff.mpr fun b hb => ?_
    rw [Bool.and_eq_true, beq_iff_eq]
    exact fun h => hidle b (List.mem_range.mp hb) h.2
  change execTestWindow g slot [] s = _
  unfold execTestWindow
  rw [hv]
  dsimp only
  have hcount : ∀ a, Nat.min a (48 * ([] : List Nat).length) = 0 := Nat.min_zero
  rw [if_pos ⟨hkind, hup⟩, State.finishTest_none htest, hbanks, hcount]
  rfl

theorem exec_testWindow_no_service {slot : Fin 4} (h : (s.core g).service slot = none) : exec (.testWindow g slot []) s = .next s := by
  change execTestWindow g slot [] s = _
  unfold execTestWindow
  rw [h]

end

/-- Settles O22 (state 3 of a BANK as log 37 has it): BANK by what it does to each bank, the others by their cases. -/
theorem banks : Obligations.Banks := by
  refine ⟨fun cl s => ⟨fun q rest hposted => ?bank, exec_bank_none⟩, fun g b byCore s => ?wakes, fun g unit s => rfl,
    fun g b region fails byCore slot s => ?tests⟩
  case bank =>
    intro d c st sleeps
    refine ⟨c.toBanks d.src st 32, exec_bank hposted, fun b hb hmask => Core.toBanks_takes hb hmask, fun b hb => ?_,
      fun x hx => Core.toBanks_testing hx, Core.toBanks_untested, Core.toBanks_banksOnly⟩
    obtain ⟨hbank, -, -⟩ := Core.toBanks_same (c := c) (st := st) hb
    exact hbank
  case wakes =>
    intro c d access stall
    have hstall : (c.wake b).stall = c.stall := by
      unfold Core.wake
      split <;> rfl
    refine ⟨exec_bankRetain, exec_bankRetain_not, fun hw hcalm => ?woken, fun hw => congrArg _ (if_neg hw), fun hs htold => ?untold,
      fun hs htold => ?told, fun hawake => ?awake⟩
    case woken =>
      refine congrArg _ ((if_pos hw).trans ?_)
      exact hcalm.setCore.settle
    case untold =>
      refine congrArg _ ((if_pos hs).trans ((State.reachBank_untold htold).trans ?_))
      rw [hstall]
      rfl
    case told =>
      refine congrArg _ ((if_pos hs).trans ((State.reachBank_told htold).trans ?_))
      rw [hstall]
      rfl
    case awake =>
      exact congrArg _ (if_neg fun hs => by rcases hawake with h | h <;> simp [c, h] at hs)
  case tests =>
    exact ⟨exec_backgroundTest, exec_backgroundTest_not, fun x hx => exec_testAbort hx, exec_testAbort_none,
      fun v hv hkind hup htest hidle => exec_testWindow_none hv hkind hup htest hidle, exec_testWindow_no_service⟩

end Sys2Proof.Machine
end

section
/-!
MATCH (R191–R194, R233): which pairs it finds and in what order, and the settling of O28.
-/
namespace Sys2Proof.Machine

variable {ka kb : List Nat} {m : MatchDesc} {s : State} {c i j k n : Nat} {a x y : Nat × Nat}

/-! ## When a MATCH runs (R193, R233) -/

theorem exec_matchKeys_wait (h : s.matchReady m = false) : exec (.matchKeys m) s = .next s := by
  change execMatchKeys m s = _
  unfold execMatchKeys State.startMatch
  rw [if_neg (Bool.not_eq_true _ ▸ h)]

theorem exec_matchKeys_run (h : s.matchReady m = true)
    (hbanks : s.reachAll (s.sortIns (m.core / 96) (.pairs m) ++ s.sortOuts (m.core / 96) (.pairs m)) = (s, true)) :
    exec (.matchKeys m) s = .next ((s.popPost m.ident).runMatch m).settle := by
  change execMatchKeys m s = _
  unfold execMatchKeys State.startMatch
  rw [if_pos h, hbanks]

/-! ## The index memory (R192) -/

/-- Keys that an insert refuses are those that a lookup would not reach: the index memory finds for each key what the keys in their
order would. -/
theorem find?_insertKeys (l acc : List (Nat × Nat)) : (insertKeys l acc).2.find? (·.1 == k) = (acc ++ l).find? (·.1 == k) := by
  induction l generalizing acc with
  | nil => rw [List.append_nil]; rfl
  | cons x r ih =>
    obtain ⟨key, pos⟩ := x
    by_cases hdup : (acc.any fun x => x.1 == key) = true
    · have hskip : (insertKeys ((key, pos) :: r) acc).2 = (insertKeys r acc).2 := by simp only [insertKeys, if_pos hdup]
      rw [hskip, ih, List.find?_append, List.find?_append, List.find?_cons]
      split
      next hkey =>
        have hfound : (acc.find? (·.1 == k)).isSome := by
          rw [List.find?_isSome, ← List.any_eq_true, ← eq_of_beq hkey]
          exact hdup
        rw [Option.or_of_isSome hfound, Option.or_of_isSome hfound]
      next => rfl
    · have hput : (insertKeys ((key, pos) :: r) acc).2 = (insertKeys r (acc ++ [(key, pos)])).2 := by simp only [insertKeys, if_neg hdup]
      rw [hput, ih, List.append_assoc, List.singleton_append]

/-- The keys of chunk `c` of A, each with its position in A. -/
def chunkKeys (ka : List Nat) (c : Nat) : List (Nat × Nat) :=
  (((ka.drop (4096 * c)).take 4096).zipIdx).map fun x => (x.1, 4096 * c + x.2)

theorem getElem?_chunkKeys : (chunkKeys ka c)[n]? = if n < 4096 then ka[4096 * c + n]?.map (·, 4096 * c + n) else none := by
  unfold chunkKeys
  rw [List.getElem?_map, List.getElem?_zipIdx, List.getElem?_take]
  split
  · rw [List.getElem?_drop, Option.map_map, Nat.zero_add]
    rfl
  · rfl

theorem getElem?_chunkKeys_eq_some : (chunkKeys ka c)[n]? = some a ↔ n < 4096 ∧ a.2 = 4096 * c + n ∧ ka[a.2]? = some a.1 := by
  obtain ⟨key, pos⟩ := a
  rw [getElem?_chunkKeys]
  by_cases hn : n < 4096
  · rw [if_pos hn, Option.map_eq_some_iff]
    constructor
    · rintro ⟨k, hk, he⟩
      obtain ⟨rfl, rfl⟩ := Prod.mk.inj he
      exact ⟨hn, rfl, hk⟩
    · rintro ⟨-, rfl, hk⟩
      exact ⟨key, hk, rfl⟩
  · simp [hn]

/-- Position `i` of A is the first in its chunk that holds key `k`. -/
def FirstInChunk (ka : List Nat) (k i : Nat) : Prop := ka[i]? = some k ∧ ∀ i' < i, i' / 4096 = i / 4096 → ka[i']? ≠ some k

theorem find?_chunkKeys : (chunkKeys ka c).find? (·.1 == k) = some a ↔ a.1 = k ∧ a.2 / 4096 = c ∧ FirstInChunk ka k a.2 := by
  rw [List.find?_eq_some_iff_getElem]
  constructor
  · rintro ⟨hkey, n, hlen, hget, hbefore⟩
    obtain ⟨hn, hpos, hhas⟩ := getElem?_chunkKeys_eq_some.mp (List.getElem?_eq_some_iff.mpr ⟨hlen, hget⟩)
    have hkey := eq_of_beq hkey
    refine ⟨hkey, by omega, hkey ▸ hhas, fun i' hlt hchunk hi' => ?_⟩
    have hget' : (chunkKeys ka c)[i' - 4096 * c]? = some (k, i') := getElem?_chunkKeys_eq_some.mpr ⟨by omega, by dsimp only; omega, hi'⟩
    obtain ⟨hlen', hget'⟩ := List.getElem?_eq_some_iff.mp hget'
    have hmiss := hbefore (i' - 4096 * c) (by omega)
    rw [hget'] at hmiss
    simp at hmiss
  · rintro ⟨hkey, hchunk, hhas, hfirst⟩
    have hget : (chunkKeys ka c)[a.2 % 4096]? = some a := getElem?_chunkKeys_eq_some.mpr ⟨by omega, by omega, hkey ▸ hhas⟩
    obtain ⟨hlen, hget⟩ := List.getElem?_eq_some_iff.mp hget
    refine ⟨beq_iff_eq.mpr hkey, a.2 % 4096, hlen, hget, fun n hn => ?_⟩
    obtain ⟨hn', hpos', hhas'⟩ := getElem?_chunkKeys_eq_some.mp (List.getElem?_eq_getElem (Nat.lt_trans hn hlen))
    have hother : (chunkKeys ka c)[n].1 ≠ k := fun he => hfirst _ (by omega) (by omega) (he ▸ hhas')
    simpa using hother

/-! ## The pairs (R192) -/

/-- The pairs of the probes of B against chunk `c` of A, in B's order. -/
def chunkPairs (ka kb : List Nat) (c : Nat) : List (Nat × Nat) :=
  kb.zipIdx.filterMap fun b => ((chunkKeys ka c).find? (·.1 == b.1)).map fun x => (x.2, b.2)

theorem matchPairs_eq_flatMap : (matchPairs ka kb).1 = (List.range ((ka.length + 4095) / 4096)).flatMap (chunkPairs ka kb) := by
  refine (List.flatMap_map ..).trans ?_
  refine congrArg (List.flatMap · _) (funext fun c => congrArg (List.filterMap · _) (funext fun b => congrArg _ ?_))
  rw [find?_insertKeys, List.nil_append]
  rfl

theorem mem_chunkPairs : (i, j) ∈ chunkPairs ka kb c ↔ i / 4096 = c ∧ ∃ k, kb[j]? = some k ∧ FirstInChunk ka k i := by
  unfold chunkPairs
  rw [List.mem_filterMap]
  constructor
  · rintro ⟨⟨k, j'⟩, hb, hfind⟩
    obtain ⟨a, ha, he⟩ := Option.map_eq_some_iff.mp hfind
    obtain ⟨rfl, rfl⟩ := Prod.mk.inj he
    obtain ⟨-, hchunk, hfirst⟩ := find?_chunkKeys.mp ha
    exact ⟨hchunk, k, List.mk_mem_zipIdx_iff_getElem?.mp hb, hfirst⟩
  · rintro ⟨hchunk, k, hb, hfirst⟩
    refine ⟨(k, j), List.mk_mem_zipIdx_iff_getElem?.mpr hb, Option.map_eq_some_iff.mpr ⟨(k, i), ?_, rfl⟩⟩
    exact find?_chunkKeys.mpr ⟨rfl, hchunk, hfirst⟩

theorem pairwise_chunkPairs : (chunkPairs ka kb c).Pairwise fun x y => x.2 < y.2 := by
  have hpositions : kb.zipIdx.Pairwise fun x y => x.2 < y.2 := by
    rw [← List.pairwise_map (f := Prod.snd) (R := (· < ·)), List.zipIdx_map_snd]
    exact List.pairwise_lt_range'
  refine List.pairwise_filterMap.mpr (hpositions.imp fun {x y} hlt u hu v hv => ?_)
  obtain ⟨_, -, rfl⟩ := Option.map_eq_some_iff.mp hu
  obtain ⟨_, -, rfl⟩ := Option.map_eq_some_iff.mp hv
  exact hlt

theorem mem_matchPairs : (i, j) ∈ (matchPairs ka kb).1 ↔ ∃ k, kb[j]? = some k ∧ FirstInChunk ka k i := by
  rw [matchPairs_eq_flatMap, List.mem_flatMap]
  constructor
  · rintro ⟨c, -, hpair⟩
    obtain ⟨-, hkey⟩ := mem_chunkPairs.mp hpair
    exact hkey
  · rintro ⟨k, hb, hfirst⟩
    obtain ⟨hlen, -⟩ := List.getElem?_eq_some_iff.mp hfirst.1
    exact ⟨i / 4096, List.mem_range.mpr (by omega), mem_chunkPairs.mpr ⟨rfl, k, hb, hfirst⟩⟩

/-- The order of the pairs: chunk by chunk, and in a chunk in ascending position of B. -/
def PairBefore (x y : Nat × Nat) : Prop := x.1 / 4096 < y.1 / 4096 ∨ (x.1 / 4096 = y.1 / 4096 ∧ x.2 < y.2)

theorem PairBefore.ne (h : PairBefore x y) : x ≠ y := by
  rintro rfl
  unfold PairBefore at h
  omega

theorem pairwise_matchPairs : (matchPairs ka kb).1.Pairwise PairBefore := by
  have hchunk : ∀ {c x}, x ∈ chunkPairs ka kb c → x.1 / 4096 = c := fun hx => (mem_chunkPairs.mp hx).1
  rw [matchPairs_eq_flatMap, List.pairwise_flatMap]
  refine ⟨fun c _ => pairwise_chunkPairs.imp_of_mem fun hx hy hlt => .inr ⟨?_, hlt⟩, ?_⟩
  · rw [hchunk hx, hchunk hy]
  · refine List.pairwise_lt_range.imp fun hlt x hx y hy => .inl ?_
    rwa [hchunk hx, hchunk hy]

end Sys2Proof.Machine

namespace Sys2Proof
open Machine

/-- Settles O28: when a MATCH runs, by its cases; its pairs, chunk by chunk through what the index memory finds. What the run then writes,
counts and raises (the title's other half) is `State.runMatch`, of which the statement says nothing. -/
theorem matchPairs : Obligations.MatchPairs := by
  refine ⟨fun m s => exec_matchKeys_wait, fun m s => exec_matchKeys_run, fun ka kb => ⟨fun i j => mem_matchPairs.trans ?_,
    pairwise_matchPairs.imp PairBefore.ne, pairwise_matchPairs⟩⟩
  exact exists_congr fun k => and_left_comm

end Sys2Proof
end

section
/-!
The slots of a round (R204, R209, R222): the flags of a token's choices, which slot each counted choice takes and which send index, who owns
a slot, and the settling of O24, O25 and O26.
-/
namespace Sys2Proof.Machine

/-! ## Runs of consecutive numbers -/

section
variable {f : Nat → Nat} {m n i j : Nat}

theorem sumTo_succ : sumTo (n + 1) f = sumTo n f + f n := by
  unfold sumTo
  rw [List.range_succ, List.map_append, List.sum_append, List.map_singleton, List.sum_singleton]

theorem sumTo_le_sumTo (h : m ≤ n) : sumTo m f ≤ sumTo n f :=
  monotone_nat_of_le_succ (f := (sumTo · f)) (fun _ => sumTo_succ ▸ Nat.le_add_right ..) h

/-- The runs of lengths `f 0`, `f 1`, … laid end to end: each ends before a later one starts. -/
theorem sumTo_add_le_sumTo (h : i < j) : sumTo i f + f i ≤ sumTo j f := sumTo_succ ▸ sumTo_le_sumTo h

/-- A number below the end of the last run lies in one of them. -/
theorem exists_run_of_lt_sumTo (h : n < sumTo m f) : ∃ i < m, sumTo i f ≤ n ∧ n < sumTo i f + f i := by
  induction m with
  | zero => exact absurd h (Nat.not_lt_zero n)
  | succ m ih =>
    by_cases hm : n < sumTo m f
    · obtain ⟨i, hi, hrun⟩ := ih hm
      exact ⟨i, Nat.lt_succ_of_lt hi, hrun⟩
    · exact ⟨m, Nat.lt_succ_self m, Nat.le_of_not_lt hm, sumTo_succ ▸ h⟩

end

/-! ## The flags (R204) -/

section
variable {experts i : Nat} {l : List Choice} {c : Choice}

/-- A choice of an expert that the layer has not. -/
def Choice.outOfRange (experts : Nat) (c : Choice) : Bool := !c.pad && decide (experts ≤ c.expert)

/-- The list holds a choice that takes its whole token out of the counts. -/
def tokenDead (experts : Nat) (l : List Choice) : Bool := l.any fun c => c.poison || c.outOfRange experts

/-- A choice after `before` in its token's list repeats one of their experts. -/
def Choice.repeats (before : List Choice) (c : Choice) : Bool := !c.pad && before.any fun x => x.expert == c.expert

theorem getElem?_flagToken : (flagToken experts l)[i]? = l[i]?.map fun c => let dup := c.repeats (l.take i)
    { c with range := c.outOfRange experts, duplicate := dup, counted := !c.pad && !tokenDead experts l && !dup } := by
  unfold flagToken
  rw [List.getElem?_mapIdx, List.getElem?_map, Option.map_map, List.any_map]
  refine congrArg (Option.map · _) (funext fun c => ?_)
  dsimp only [Function.comp]
  rw [← List.map_take, List.any_map]
  rfl

theorem length_flagToken : (flagToken experts l).length = l.length := List.length_mapIdx.trans (List.length_map _)

/-- A choice with POISON or RANGE makes its token dead, so that the flags of its own need not be asked again. -/
theorem tokenDead_of_mem (hc : c ∈ l) (h : (c.poison || c.outOfRange experts) = true) : tokenDead experts l = true :=
  List.any_eq_true.mpr ⟨c, hc, h⟩

end

/-- Settles O26, position by position: a choice with POISON or RANGE of its own is one of a dead token. -/
theorem choiceFlags : Obligations.ChoiceFlags := by
  intro experts l out range dead
  refine ⟨length_flagToken, fun i c hc => ?_⟩
  intro dup
  refine getElem?_flagToken.trans ((congrArg (Option.map _) hc).trans (congrArg some ?_))
  have hcounted : (!c.pad && !dead && !dup) = !(c.pad || c.poison || range c || dup || dead) := by
    cases hown : c.poison || range c
    · obtain ⟨hpoison, hrange⟩ := Bool.or_eq_false_iff.mp hown
      rw [hpoison, hrange]
      simp only [Bool.or_false, Bool.not_or]
      ac_rfl
    · have hdead : dead = true := tokenDead_of_mem (List.mem_of_getElem? hc) hown
      simp [hdead]
  exact congrArg (fun b => { c with range := range c, duplicate := dup, counted := b }) hcounted

/-! ## Starts and admissions (R209) -/

section
variable {t : Slots} {q q' r r' e e' s : Nat}

theorem Slots.start_succ : t.start (q + 1) r e = t.start q r e + t.cnt q r e := by
  unfold Slots.start
  rw [sumTo_succ, Nat.add_assoc]

theorem Slots.start_zero_succ : t.start 0 (r + 1) e = t.start t.g r e := sumTo_succ

theorem Slots.start_le_position (h : q ≤ q') : t.start q r e ≤ t.start q' r e := Nat.add_le_add_left (sumTo_le_sumTo h) _

theorem Slots.start_le_rank (h : r ≤ r') : t.start 0 r e ≤ t.start 0 r' e := Nat.add_le_add_right (sumTo_le_sumTo h) _

/-- In a rank, the run of a position ends before that of a later one. -/
theorem Slots.start_add_cnt_le_position (h : q < q') : t.start q r e + t.cnt q r e ≤ t.start q' r e :=
  Slots.start_succ ▸ Slots.start_le_position h

/-- The runs of a rank end before those of a later one. -/
theorem Slots.start_add_cnt_le_rank (hq : q < t.g) (h : r < r') : t.start q r e + t.cnt q r e ≤ t.start q' r' e :=
  calc t.start q r e + t.cnt q r e
    _ ≤ t.start t.g r e := Slots.start_add_cnt_le_position hq
    _ = t.start 0 (r + 1) e := Slots.start_zero_succ.symm
    _ ≤ t.start 0 r' e := Slots.start_le_rank h
    _ ≤ t.start q' r' e := Slots.start_le_position (Nat.zero_le _)

/-- Every slot below the sum of the counts lies in the run of a position and a rank. -/
theorem Slots.exists_run (h : s < t.start 0 t.k e) : ∃ q r, q < t.g ∧ r < t.k ∧ t.start q r e ≤ s ∧ s < t.start q r e + t.cnt q r e := by
  obtain ⟨r, hr, hlow, hhigh⟩ := exists_run_of_lt_sumTo (f := fun r => sumTo t.g fun q => t.cnt q r e) (n := s) (m := t.k) h
  obtain ⟨q, hq, hlow', hhigh'⟩ := exists_run_of_lt_sumTo (f := fun q => t.cnt q r e) (m := t.g) (Nat.sub_lt_left_of_lt_add hlow hhigh)
  refine ⟨q, r, hq, hr, ?_, ?_⟩ <;> unfold Slots.start <;> omega

/-- No slot lies in two runs. -/
theorem Slots.run_unique (hq : q < t.g) (hq' : q' < t.g) (hlow : t.start q r e ≤ s) (hhigh : s < t.start q r e + t.cnt q r e)
    (hlow' : t.start q' r' e ≤ s) (hhigh' : s < t.start q' r' e + t.cnt q' r' e) : q' = q ∧ r' = r := by
  rcases Nat.lt_trichotomy r' r with hr | rfl | hr
  · have := t.start_add_cnt_le_rank (e := e) (q' := q) hq' hr
    omega
  · rcases Nat.lt_trichotomy q' q with hlt | rfl | hlt
    · have := t.start_add_cnt_le_position (r := r') (e := e) hlt
      omega
    · exact ⟨rfl, rfl⟩
    · have := t.start_add_cnt_le_position (r := r') (e := e) hlt
      omega
  · have := t.start_add_cnt_le_rank (e := e) (q' := q') hq hr
    omega

/-- The admitted slots of a run are those below the capacity. -/
theorem Slots.lt_start_add_adm (h : t.start q r e ≤ s) : s < t.start q r e + t.adm q r e ↔ s < t.start q r e + t.cnt q r e ∧ s < t.cap := by
  have hadm : t.adm q r e = min (t.cnt q r e) (t.cap - t.start q r e) := rfl
  omega

/-! ## Send indices (R209) -/

/-- The send indices of a rank for an expert end before those of a later rank. -/
theorem Slots.sendIndex_lt_rank (hlow : t.start q r e ≤ s) (hhigh : s < t.start q r e + t.adm q r e) (h : r < r') :
    t.sendIndex q r e s < t.sendbase q e + sumTo r' fun r2 => t.adm q r2 e := by
  have hrun := sumTo_add_le_sumTo (f := fun r2 => t.adm q r2 e) h
  unfold Slots.sendIndex
  omega

/-- Those of an expert end before those of a later one. -/
theorem Slots.sendIndex_lt_sendbase (hr : r < t.k) (hlow : t.start q r e ≤ s) (hhigh : s < t.start q r e + t.adm q r e) (h : e < e') :
    t.sendIndex q r e s < t.sendbase q e' :=
  Nat.lt_of_lt_of_le (Slots.sendIndex_lt_rank hlow hhigh hr) (sumTo_add_le_sumTo (f := fun e2 => sumTo t.k fun r2 => t.adm q r2 e2) h)

theorem Slots.le_sendIndex : (t.sendbase q e + sumTo r fun r2 => t.adm q r2 e) ≤ t.sendIndex q r e s := Nat.le_add_right ..

theorem Slots.sendbase_le_sendIndex : t.sendbase q e ≤ t.sendIndex q r e s := (Nat.le_add_right ..).trans Slots.le_sendIndex

/-- Every number below A is the send index of a slot that the position's run of some rank and expert admits. -/
theorem Slots.exists_sendIndex {n : Nat} (h : n < t.total q) :
    ∃ e r o, e < t.e ∧ r < t.k ∧ o < t.adm q r e ∧ t.sendIndex q r e (t.start q r e + o) = n := by
  obtain ⟨e, he, hlow, hhigh⟩ := exists_run_of_lt_sumTo (f := fun e => sumTo t.k fun r => t.adm q r e) h
  obtain ⟨r, hr, hlow', hhigh'⟩ := exists_run_of_lt_sumTo (f := fun r => t.adm q r e) (Nat.sub_lt_left_of_lt_add (n := t.sendbase q e) hlow hhigh)
  refine ⟨e, r, n - t.sendbase q e - sumTo r fun r2 => t.adm q r2 e, he, hr, by omega, ?_⟩
  change t.sendbase q e ≤ n at hlow
  unfold Slots.sendIndex
  omega

/-! ## Owners (R222) -/

theorem Slots.ownerOf_eq_some (hq : q < t.g) (hr : r < t.k) (hlow : t.start q r e ≤ s) (hhigh : s < t.start q r e + t.adm q r e) :
    t.ownerOf e s = some (q, r) := by
  have hcounted := ((Slots.lt_start_add_adm hlow).mp hhigh).1
  have hfound : (t.ownerOf e s).isSome := by
    refine List.find?_isSome.mpr ⟨(q, r), ?_, ?_⟩
    · exact List.mem_flatMap.mpr ⟨q, List.mem_range.mpr hq, List.mem_map.mpr ⟨r, List.mem_range.mpr hr, rfl⟩⟩
    · rw [Bool.and_eq_true, decide_eq_true_eq, decide_eq_true_eq]
      exact ⟨hlow, hhigh⟩
  obtain ⟨⟨q', r'⟩, hx⟩ := Option.isSome_iff_exists.mp hfound
  have hholds := List.find?_some hx
  rw [Bool.and_eq_true, decide_eq_true_eq, decide_eq_true_eq] at hholds
  obtain ⟨hlow', hhigh'⟩ := hholds
  obtain ⟨q₁, hq₁, hpair⟩ := List.mem_flatMap.mp (List.mem_of_find?_eq_some hx)
  obtain ⟨r₁, -, heq⟩ := List.mem_map.mp hpair
  obtain ⟨rfl, rfl⟩ := Prod.mk.inj heq
  obtain ⟨rfl, rfl⟩ := Slots.run_unique hq (List.mem_range.mp hq₁) hlow hcounted hlow' ((Slots.lt_start_add_adm hlow').mp hhigh').1
  exact hx

end

/-- Settles O25: the runs of the counts partition the slots below their sum, and below the capacity every slot of a run is admitted. -/
theorem slotOwner : Obligations.SlotOwner := by
  intro t e s he hs owns
  obtain ⟨hsum, hcap⟩ := lt_min_iff.mp hs
  obtain ⟨q, r, hq, hr, hlow, hrun⟩ := Slots.exists_run hsum
  have hhigh := (Slots.lt_start_add_adm hlow).mpr ⟨hrun, hcap⟩
  refine ⟨q, r, ⟨hq, hr, hlow, hhigh⟩, fun q' r' hother => ?_, Slots.ownerOf_eq_some hq hr hlow hhigh, rfl,
    Slots.sendIndex_lt_sendbase hr hlow hhigh he⟩
  obtain ⟨hq', -, hlow', hhigh'⟩ := hother
  exact Slots.run_unique hq hq' hlow hrun hlow' ((Slots.lt_start_add_adm hlow').mp hhigh').1

/-! ## Counted choices in token order -/

section
variable {α : Type} {p : α → Bool} {l : List α} {a : α} {i j n : Nat}

theorem countP_take_lt (ha : l[i]? = some a) (hp : p a = true) (h : i < j) : (l.take i).countP p < (l.take j).countP p := by
  have hnext : (l.take (i + 1)).countP p = (l.take i).countP p + 1 := by
    rw [List.take_add_one, ha, List.countP_append, Option.toList_some, List.countP_singleton, if_pos hp]
  have hmono : (l.take (i + 1)).countP p ≤ (l.take j).countP p := (List.take_sublist_take_left h).countP_le
  omega

/-- For every `n` below their number some element has `n` of its kind before it. -/
theorem exists_countP_take (h : n < l.countP p) : ∃ i a, l[i]? = some a ∧ p a = true ∧ (l.take i).countP p = n := by
  induction l generalizing n with
  | nil => exact absurd h (Nat.not_lt_zero n)
  | cons x l ih =>
    by_cases hx : p x = true
    · cases n with
      | zero => exact ⟨0, x, rfl, hx, rfl⟩
      | succ n =>
        rw [List.countP_cons_of_pos hx] at h
        obtain ⟨i, a, ha, hp, hcount⟩ := ih (Nat.lt_of_succ_lt_succ h)
        exact ⟨i + 1, a, ha, hp, (List.countP_cons_of_pos hx).trans (congrArg (· + 1) hcount)⟩
    · rw [List.countP_cons_of_neg hx] at h
      obtain ⟨i, a, ha, hp, hcount⟩ := ih h
      exact ⟨i + 1, a, ha, hp, (List.countP_cons_of_neg hx).trans hcount⟩

end

/-! ## The assignment (R209) -/

section
variable {t : Slots} {me i j n r e : Nat} {l : List Choice} {c d : Choice}

/-- A choice counts toward rank `r` for expert `e`. -/
def Choice.countsFor (r e : Nat) (c : Choice) : Bool := c.counted && c.rank == r && c.expert == e

theorem Choice.countsFor_iff : c.countsFor r e = true ↔ c.counted = true ∧ c.rank = r ∧ c.expert = e := by
  simp [Choice.countsFor, and_assoc]

theorem countOf_eq_countP : countOf l r e = l.countP (Choice.countsFor r e) := List.countP_eq_length_filter.symm

/-- The slot that the choice at index `i` takes. -/
def Slots.slotAt (t : Slots) (me : Nat) (l : List Choice) (i : Nat) (c : Choice) : Nat :=
  t.start me c.rank c.expert + countOf (l.take i) c.rank c.expert

/-- A counted choice with its slot and whether the capacity admits it. -/
def Slots.place (t : Slots) (s : Nat) (c : Choice) : Choice := { c with slot := s, admitted := decide (s < t.cap), cap := decide (t.cap ≤ s) }

theorem Slots.getElem?_assign : (t.assign me l)[i]? = l[i]?.map fun c => if c.counted then t.place (t.slotAt me l i c) c else c := by
  have hcap : ∀ s, (!decide (s < t.cap)) = decide (t.cap ≤ s) := fun s => by rw [← decide_not, decide_eq_decide, Nat.not_lt]
  unfold Slots.assign
  rw [List.getElem?_mapIdx]
  refine congrArg (Option.map · _) (funext fun c => ?_)
  dsimp only
  rw [hcap]
  rfl

theorem Slots.getElem?_assign_counted (hc : l[i]? = some c) (h : c.counted = true) :
    (t.assign me l)[i]? = some (t.place (t.slotAt me l i c) c) := by
  rw [Slots.getElem?_assign, hc, Option.map_some, if_pos h]

theorem Slots.getElem?_assign_uncounted (hc : l[i]? = some c) (h : c.counted = false) : (t.assign me l)[i]? = some c := by
  rw [Slots.getElem?_assign, hc, Option.map_some, if_neg (by rw [h]; exact Bool.false_ne_true)]

/-- The choice at index `i` of the list is counted, and its slot is below the capacity. -/
structure Slots.Admits (t : Slots) (me : Nat) (l : List Choice) (i : Nat) (c : Choice) : Prop where
  here : l[i]? = some c
  counted : c.counted = true
  slot_lt : t.slotAt me l i c < t.cap

/-- The send index of the choice at index `i`. -/
def Slots.indexAt (t : Slots) (me : Nat) (l : List Choice) (i : Nat) (c : Choice) : Nat := t.sendIndex me c.rank c.expert (t.slotAt me l i c)

/-- A list of a round: no choice of it is admitted yet, those that count have a rank and an expert of the layer, and the own position's counts
are its own. -/
structure Slots.Ingested (t : Slots) (me : Nat) (l : List Choice) : Prop where
  fresh : ∀ c ∈ l, c.admitted = false
  within : ∀ c ∈ l, c.counted = true → c.rank < t.k ∧ c.expert < t.e
  counts : ∀ r e, t.cnt me r e = countOf l r e

/-- The admitted choices of the assigned list are those that the list admits, at their slots. -/
theorem Slots.admits_of_assign (h : t.Ingested me l) (hc : (t.assign me l)[i]? = some c) (hadm : c.admitted = true) :
    ∃ b, t.Admits me l i b ∧ c = t.place (t.slotAt me l i b) b := by
  rw [Slots.getElem?_assign, Option.map_eq_some_iff] at hc
  obtain ⟨b, hb, rfl⟩ := hc
  by_cases hcounted : b.counted = true
  · rw [if_pos hcounted] at hadm ⊢
    exact ⟨b, ⟨hb, hcounted, of_decide_eq_true hadm⟩, rfl⟩
  · rw [if_neg hcounted, h.fresh b (List.mem_of_getElem? hb)] at hadm
    exact absurd hadm Bool.false_ne_true

theorem Slots.Admits.start_le : t.start me c.rank c.expert ≤ t.slotAt me l i c := Nat.le_add_right ..

section
variable (h : t.Ingested me l)
include h

theorem Slots.Admits.within (ha : t.Admits me l i c) : c.rank < t.k ∧ c.expert < t.e := h.within c (List.mem_of_getElem? ha.here) ha.counted

/-- An admitted choice is one of its run's counted ones. -/
theorem Slots.Admits.slot_lt_cnt (ha : t.Admits me l i c) :
    t.slotAt me l i c < t.start me c.rank c.expert + t.cnt me c.rank c.expert := by
  obtain ⟨hlen, -⟩ := List.getElem?_eq_some_iff.mp ha.here
  have hbefore := countP_take_lt ha.here (Choice.countsFor_iff.mpr ⟨ha.counted, rfl, rfl⟩) hlen
  rw [List.take_length, ← countOf_eq_countP, ← countOf_eq_countP, ← h.counts] at hbefore
  exact Nat.add_lt_add_left hbefore _

theorem Slots.Admits.slot_lt_adm (ha : t.Admits me l i c) : t.slotAt me l i c < t.start me c.rank c.expert + t.adm me c.rank c.expert :=
  (Slots.lt_start_add_adm Slots.Admits.start_le).mpr ⟨ha.slot_lt_cnt h, ha.slot_lt⟩

theorem Slots.Admits.indexAt_lt_total (ha : t.Admits me l i c) : t.indexAt me l i c < t.total me := by
  obtain ⟨hr, he⟩ := ha.within h
  exact Slots.sendIndex_lt_sendbase hr Slots.Admits.start_le (ha.slot_lt_adm h) he

theorem Slots.Admits.indexAt_lt_of_expert (ha : t.Admits me l i c) (hlt : c.expert < d.expert) : t.indexAt me l i c < t.indexAt me l j d := by
  obtain ⟨hr, -⟩ := ha.within h
  exact Nat.lt_of_lt_of_le (Slots.sendIndex_lt_sendbase hr Slots.Admits.start_le (ha.slot_lt_adm h) hlt) Slots.sendbase_le_sendIndex

/-- For one expert the send index rises with the slot: a later slot is of a later rank, or of the same and further on. -/
theorem Slots.Admits.indexAt_lt_of_slot (hme : me < t.g) (ha : t.Admits me l i c) (hd : t.Admits me l j d) (he : c.expert = d.expert)
    (hlt : t.slotAt me l i c < t.slotAt me l j d) : t.indexAt me l i c < t.indexAt me l j d := by
  have hlow := Slots.Admits.start_le (t := t) (me := me) (l := l) (i := i) (c := c)
  have hhigh := ha.slot_lt_adm h
  rcases Nat.lt_trichotomy c.rank d.rank with hr | hr | hr
  · refine Nat.lt_of_lt_of_le (Slots.sendIndex_lt_rank hlow hhigh hr) ?_
    rw [he]
    exact Slots.le_sendIndex
  · unfold Slots.indexAt Slots.sendIndex
    rw [hr, he] at hlow ⊢
    omega
  · have hafter := t.start_add_cnt_le_rank (e := d.expert) (q' := me) hme hr
    have hcnt := hd.slot_lt_cnt h
    rw [he] at hlow
    omega

/-- No two choices have one slot of an expert. -/
theorem Slots.Admits.eq_of_slot (hme : me < t.g) (ha : t.Admits me l i c) (hd : t.Admits me l j d) (he : c.expert = d.expert)
    (hs : t.slotAt me l i c = t.slotAt me l j d) : i = j := by
  have hlow := Slots.Admits.start_le (t := t) (me := me) (l := l) (i := i) (c := c)
  have hhigh := ha.slot_lt_cnt h
  rw [hs, he] at hlow hhigh
  obtain ⟨-, hr⟩ := Slots.run_unique hme hme hlow hhigh Slots.Admits.start_le (hd.slot_lt_cnt h)
  have hcount : (l.take i).countP (Choice.countsFor c.rank c.expert) = (l.take j).countP (Choice.countsFor c.rank c.expert) := by
    unfold Slots.slotAt at hs
    rw [hr, he] at hs
    rw [← countOf_eq_countP, ← countOf_eq_countP, he]
    exact Nat.add_left_cancel hs
  rcases Nat.lt_trichotomy i j with hij | hij | hij
  · have := countP_take_lt ha.here (Choice.countsFor_iff.mpr ⟨ha.counted, rfl, rfl⟩) hij
    omega
  · exact hij
  · have := countP_take_lt hd.here (Choice.countsFor_iff.mpr ⟨hd.counted, hr, he.symm⟩) hij
    omega

theorem Slots.Admits.eq_of_indexAt (hme : me < t.g) (ha : t.Admits me l i c) (hd : t.Admits me l j d)
    (hn : t.indexAt me l i c = t.indexAt me l j d) : i = j := by
  rcases Nat.lt_trichotomy c.expert d.expert with he | he | he
  · exact absurd hn (Nat.ne_of_lt (ha.indexAt_lt_of_expert h he))
  · rcases Nat.lt_trichotomy (t.slotAt me l i c) (t.slotAt me l j d) with hs | hs | hs
    · exact absurd hn (Nat.ne_of_lt (ha.indexAt_lt_of_slot h hme hd he hs))
    · exact ha.eq_of_slot h hme hd he hs
    · exact absurd hn (Nat.ne_of_gt (hd.indexAt_lt_of_slot h hme ha he.symm hs))
  · exact absurd hn (Nat.ne_of_gt (hd.indexAt_lt_of_expert h he))

theorem Slots.exists_admits (hn : n < t.total me) : ∃ i c, t.Admits me l i c ∧ t.indexAt me l i c = n := by
  obtain ⟨e, r, o, -, -, ho, hindex⟩ := Slots.exists_sendIndex hn
  obtain ⟨hcnt, hcap⟩ := (Slots.lt_start_add_adm (Nat.le_add_right ..)).mp (Nat.add_lt_add_left ho (t.start me r e))
  rw [h.counts, countOf_eq_countP] at hcnt
  obtain ⟨i, c, hc, hfor, hbefore⟩ := exists_countP_take (Nat.lt_of_add_lt_add_left hcnt)
  obtain ⟨hcounted, rfl, rfl⟩ := Choice.countsFor_iff.mp hfor
  have hslot : t.slotAt me l i c = t.start me c.rank c.expert + o := congrArg _ (countOf_eq_countP.trans hbefore)
  exact ⟨i, c, ⟨hc, hcounted, hslot ▸ hcap⟩, (congrArg _ hslot).trans hindex⟩

end

end

/-- Settles O24: the admitted choices of the assigned list are those that the list admits (`Slots.admits_of_assign`), whose send indices rise
with expert and slot and reach every number below A. -/
theorem slotLayout : Obligations.SlotLayout := by
  intro t me l hme hl hcnt out sent
  have h : t.Ingested me l := ⟨fun c hc => (hl c hc).1, fun c hc => (hl c hc).2, hcnt⟩
  have hsent : ∀ {i n}, sent i n → ∃ b, t.Admits me l i b ∧ t.indexAt me l i b = n := by
    rintro i n ⟨c, hc, hadm, rfl⟩
    obtain ⟨b, hb, rfl⟩ := Slots.admits_of_assign h hc hadm
    exact ⟨b, hb, rfl⟩
  refine ⟨fun e => rfl, fun q r e => Slots.start_succ, fun r e => Slots.start_zero_succ, fun q r e => rfl, fun e => rfl,
    List.length_mapIdx, fun i c => Slots.getElem?_assign_uncounted, fun i c hc hcounted => Slots.getElem?_assign_counted hc hcounted,
    fun i n hi => ?below, fun n hn => ?bijective, fun i j c d hc hd hcadm hdadm horder => ?ascending⟩
  case below =>
    obtain ⟨b, hb, rfl⟩ := hsent hi
    exact hb.indexAt_lt_total h
  case bijective =>
    obtain ⟨i, b, hb, hindex⟩ := Slots.exists_admits h hn
    have hplaced := Slots.getElem?_assign_counted (t := t) (me := me) hb.here hb.counted
    refine ⟨i, ⟨_, hplaced, decide_eq_true hb.slot_lt, hindex⟩, fun j hj => ?_⟩
    obtain ⟨b', hb', hindex'⟩ := hsent hj
    exact hb'.eq_of_indexAt h hme hb (hindex'.trans hindex.symm)
  case ascending =>
    obtain ⟨b, hb, rfl⟩ := Slots.admits_of_assign h hc hcadm
    obtain ⟨b', hb', rfl⟩ := Slots.admits_of_assign h hd hdadm
    change t.indexAt me l i b < t.indexAt me l j b'
    exact horder.elim (fun he => hb.indexAt_lt_of_expert h he) fun ⟨he, hs⟩ => hb.indexAt_lt_of_slot h hme hb' he hs

end Sys2Proof.Machine
end

section
/-!
The engines of a die (R197–R200, R208, R211, R217, R220, R223, R233): when a job starts and what a posted operation then does, SLOT_ASSIGNMENT and
LAND_RELEASE, and the settling of O27.
-/
namespace Sys2Proof.Machine

variable {s t : State}

/-! ## The engines' queues alone changed -/

/-- The state with the queues of a die's two engines as given. -/
def State.withQueues (s : State) (d : Nat) (adm par : List SortJob) : State := s.onDie d fun x => { x with admQ := adm, parQ := par }

section
variable {d e n addr : Nat} {adm adm' par par' : List SortJob}

theorem State.withQueues_die : (s.withQueues d adm par).die d = { s.die d with admQ := adm, parQ := par } := State.die_onDie ..

theorem State.withQueues_admQ : ((s.withQueues d adm par).die d).admQ = adm := congrArg Die.admQ State.withQueues_die

theorem State.withQueues_parQ : ((s.withQueues d adm par).die d).parQ = par := congrArg Die.parQ State.withQueues_die

/-- What looks at neither queue of a die finds it as before. -/
theorem State.withQueues_reads {α : Type} (f : Die → α) (hf : ∀ x adm par, f { x with admQ := adm, parQ := par } = f x) :
    f ((s.withQueues d adm par).die e) = f (s.die e) := by
  by_cases he : e = d
  · rw [he, State.withQueues_die, hf]
  · exact congrArg f (State.die_setDie_ne s _ he)

theorem State.withQueues_withQueues : (s.withQueues d adm par).withQueues d adm' par' = s.withQueues d adm' par' := by
  simp [State.withQueues, State.onDie, State.setDie, State.die, Map.set_set, Map.get_set_same]

theorem State.onDie_admQ {f : Die → Die} (hf : f (s.die d) = { s.die d with admQ := adm }) : s.onDie d f = s.withQueues d adm (s.die d).parQ :=
  congrArg (s.setDie d) hf

theorem State.onDie_parQ {f : Die → Die} (hf : f (s.die d) = { s.die d with parQ := par }) : s.onDie d f = s.withQueues d (s.die d).admQ par :=
  congrArg (s.setDie d) hf

theorem State.withQueues_order : ((s.withQueues d adm par).die e).order = (s.die e).order := State.withQueues_reads _ fun _ _ _ => rfl

theorem State.withQueues_landings : ((s.withQueues d adm par).die e).landings = (s.die e).landings :=
  State.withQueues_reads _ fun _ _ _ => rfl

theorem State.withQueues_rounds : ((s.withQueues d adm par).die e).rounds = (s.die e).rounds := State.withQueues_reads _ fun _ _ _ => rfl

theorem State.withQueues_layer : (s.withQueues d adm par).layer e n = s.layer e n :=
  State.withQueues_reads (fun x => Map.get ({} : Layer) x.layers n) fun _ _ _ => rfl

theorem State.withQueues_phys : (s.withQueues d adm par).phys addr = s.phys addr := by
  unfold State.phys
  dsimp only
  rw [State.withQueues_order]

theorem State.withQueues_lostKey : (s.withQueues d adm par).lostKey n = s.lostKey n :=
  State.withQueues_reads (fun x => let c := Map.get ({} : Chan) x.chans (n / 2 ^ 30 % 256); c.state == 1 || c.state == 2) fun _ _ _ => rfl

theorem State.withQueues_bondByte : (s.withQueues d adm par).bondByte addr = s.bondByte addr := by
  unfold State.bondByte
  rw [State.withQueues_phys]
  split
  · rw [State.withQueues_lostKey]
    rfl
  · rfl

theorem State.withQueues_bondNat : (s.withQueues d adm par).bondNat addr n = s.bondNat addr n := by
  unfold State.bondNat State.readBond
  simp only [State.withQueues_bondByte]

theorem State.withQueues_slotsOf {l : Layer} : (s.withQueues d adm par).slotsOf l n = s.slotsOf l n := by
  unfold State.slotsOf
  simp only [State.withQueues_bondNat]

theorem State.withQueues_sendRows {l : Layer} {a : SendDesc} {q : Nat} :
    (s.withQueues d adm par).sendRows l a n q = s.sendRows l a n q := by
  unfold State.sendRows State.envelopeAt
  simp only [State.withQueues_bondNat, State.withQueues_slotsOf]

theorem State.withQueues_placeReady {p : Place} {off : Nat} : (s.withQueues d adm par).placeReady p off n = s.placeReady p off n := by
  have hbond : ∀ addr, (s.withQueues d adm par).bondReadable addr n = s.bondReadable addr n := fun addr =>
    State.withQueues_reads (fun x => !(x.bagHolds (addr % 2 ^ 38) n || x.landHolds (addr % 2 ^ 38) n || x.lockHolds (addr % 2 ^ 38) n))
      fun _ _ _ => rfl
  unfold State.placeReady
  rw [hbond]
  rfl

theorem State.withQueues_nextUse : (s.withQueues d adm par).nextUse n e = s.nextUse n e := by
  unfold State.nextUse State.takeUse
  dsimp only
  rw [apply_ite Prod.snd, apply_ite Prod.snd]
  rfl

theorem State.withQueues_landRoom {a : LandDesc} : (s.withQueues d adm par).landRoom e a = s.landRoom e a := by
  unfold State.landRoom Die.landing
  rw [State.withQueues_landings, State.withQueues_nextUse, State.withQueues_layer]

theorem State.withQueues_jobReady {j : SortJob} : (s.withQueues d adm par).jobReady e j = s.jobReady e j := by
  cases j with
  | admission a => simp only [State.jobReady, State.withQueues_rounds, State.withQueues_layer, State.withQueues_placeReady]
  | scatter a => simp only [State.jobReady, State.withQueues_rounds, State.withQueues_layer, State.withQueues_slotsOf, State.withQueues_placeReady]
  | send a => simp only [State.jobReady, State.withQueues_landings, State.withQueues_layer, State.withQueues_sendRows, State.withQueues_placeReady]
  | land a => simp only [State.jobReady, State.withQueues_landings, State.withQueues_landRoom]

theorem State.withQueues_jobRngs {j : SortJob} : (s.withQueues d adm par).jobRngs e j = s.jobRngs e j := by
  cases j with
  | admission a => simp only [State.jobRngs, State.withQueues_layer]
  | scatter a => simp only [State.jobRngs, State.sortIns, State.sortOuts, State.withQueues_layer]
  | send a =>
    simp only [State.jobRngs, State.sortIns, State.withQueues_layer, State.withQueues_sendRows]
    rfl
  | land a => rfl

end

/-! ## Banks that are awake -/

/-- Ranges whose banks are awake are so in every state with the same cores, and reaching them changes nothing. -/
theorem State.reachBanks_awake {g space a n : Nat} (hc : t.cores = s.cores) (h : (s.reachBanks g space a n).2 = true) :
    t.reachBanks g space a n = (t, true) := by
  have hcore : t.core g = s.core g := congrArg (Map.get ({} : Core) · g) hc
  unfold State.reachBanks at h ⊢
  dsimp only at h ⊢
  rw [hcore]
  split at h
  · exact absurd h Bool.false_ne_true
  · split at h
    · exact absurd h Bool.false_ne_true
    · next hcalm => exact if_neg hcalm

/-- One range of a list: reached if all before it were. -/
def reachNext (r : Tried) (x : Nat × Nat × Nat × Nat) : Tried := if r.2 && x.1 == 0 then r.1.reachBanks x.2.1 0 x.2.2.1 x.2.2.2 else r

theorem foldl_reachNext_failed (l : List (Nat × Nat × Nat × Nat)) {r : Tried} (h : r.2 = false) : l.foldl reachNext r = r :=
  foldl_same _ _ _ fun _ _ => if_neg (by rw [h]; exact Bool.false_ne_true)

theorem reachNext_awake {x : Nat × Nat × Nat × Nat} (hc : t.cores = s.cores) (h : (reachNext (s, true) x).2 = true) :
    reachNext (t, true) x = (t, true) := by
  by_cases hx : (true && x.1 == 0) = true
  · rw [reachNext, if_pos hx] at h
    exact (if_pos hx).trans (State.reachBanks_awake hc h)
  · exact if_neg hx

theorem State.reachAll_awake {l : List (Nat × Nat × Nat × Nat)} (hc : t.cores = s.cores) (h : (s.reachAll l).2 = true) :
    t.reachAll l = (t, true) := by
  change (l.foldl reachNext (s, true)).2 = true at h
  change l.foldl reachNext (t, true) = (t, true)
  induction l with
  | nil => rfl
  | cons x l ih =>
    rw [List.foldl_cons] at h ⊢
    have hnext : (reachNext (s, true) x).2 = true := by
      by_contra hfail
      rw [foldl_reachNext_failed l (Bool.not_eq_true _ ▸ hfail)] at h
      exact hfail h
    rw [reachNext_awake rfl hnext] at h
    rw [reachNext_awake hc hnext]
    exact ih h

/-! ## When a job starts (R198–R200, R233) -/

section
variable {d n : Nat} {j : SortJob} {adm par : List SortJob}

theorem State.startJob_runs (hmod : s.mod ≠ .held) (hready : s.jobReady d j = true) (hbanks : (s.reachAll (s.jobRngs d j)).2 = true) :
    (s.withQueues d adm par).startJob d j = (s.withQueues d adm par, true) := by
  have hstarts : (s.mod != .held && s.jobReady d j) = true := by simp [hmod, hready]
  unfold State.startJob
  rw [State.withQueues_jobReady, State.withQueues_jobRngs]
  exact (if_pos hstarts).trans (State.reachAll_awake (s := s) rfl hbanks)

theorem State.startJob_held (h : s.mod = .held) : s.startJob d j = (s, false) := if_neg (by simp [h])

theorem State.runAdm_held (h : s.mod = .held) : State.runAdm d n s = s := by
  cases n with
  | zero => rfl
  | succ n =>
    unfold State.runAdm
    split
    · rw [State.startJob_held h]
    · rfl

theorem State.runPar_held (h : s.mod = .held) : State.runPar d n s = s := by
  cases n with
  | zero => rfl
  | succ n =>
    unfold State.runPar
    split
    · rw [State.startJob_held h]
    · rfl

/-- In HELD no engine starts a job (R245). -/
theorem State.runOffice_held (h : s.mod = .held) : s.runOffice d = s := by
  unfold State.runOffice
  rw [State.runAdm_held h, State.runPar_held h]

/-- An engine whose one job may start runs it from an empty queue. -/
theorem State.runAdm_single (hq : (s.die d).admQ = [j]) (hstart : s.startJob d j = (s, true)) :
    State.runAdm d 1 s = (s.withQueues d [] (s.die d).parQ).runJob d j := by
  unfold State.runAdm
  rw [hq]
  dsimp only
  rw [hstart]
  rfl

theorem State.runPar_single (hq : (s.die d).parQ = [j]) (hstart : s.startJob d j = (s, true)) :
    State.runPar d 1 s = (s.withQueues d (s.die d).admQ []).runJob d j := by
  unfold State.runPar
  rw [hq]
  dsimp only
  rw [hstart]
  rfl

section
variable (hmod : s.mod ≠ .held) (hready : s.jobReady d j = true) (hbanks : (s.reachAll (s.jobRngs d j)).2 = true)
include hmod hready hbanks

/-- The one job of the admission engine runs; the parcel engine, to which it leaves nothing, stays. -/
theorem State.runOffice_adm (hpar : (((s.withQueues d [] []).runJob d j).die d).parQ = []) :
    (s.withQueues d [j] []).runOffice d = (s.withQueues d [] []).runJob d j := by
  have hrun := State.runAdm_single (s := s.withQueues d [j] []) State.withQueues_admQ (State.startJob_runs hmod hready hbanks)
  rw [State.withQueues_parQ, State.withQueues_withQueues] at hrun
  unfold State.runOffice
  rw [State.withQueues_admQ, List.length_singleton, hrun]
  dsimp only
  rw [hpar]
  rfl

/-- The one job of the parcel engine runs. -/
theorem State.runOffice_par : (s.withQueues d [] [j]).runOffice d = (s.withQueues d [] []).runJob d j := by
  have hrun := State.runPar_single (s := s.withQueues d [] [j]) State.withQueues_parQ (State.startJob_runs hmod hready hbanks)
  rw [State.withQueues_admQ, State.withQueues_withQueues] at hrun
  unfold State.runOffice
  rw [State.withQueues_admQ]
  dsimp only [List.length_nil, State.runAdm]
  rw [State.withQueues_parQ]
  exact hrun

end

end

/-! ## Posted jobs -/

section
variable {d ident : Nat} {j : SortJob} {adm par : List SortJob} {f : Die → Die}

theorem State.popPost_dies : (s.popPost ident).dies = s.dies := by
  unfold State.popPost State.onPost
  split <;> rfl

theorem State.popPost_die : (s.popPost ident).die d = s.die d := congrArg (Map.get ({} : Die) · d) State.popPost_dies

theorem State.popPost_mod : (s.popPost ident).mod = s.mod := by
  unfold State.popPost State.onPost
  split <;> rfl

/-- The job's descriptor heads its courier's queue, nothing waits before it at either engine, and it may start. -/
structure State.JobStarts (s : State) (d ident : Nat) (j : SortJob) : Prop where
  running : s.mod ≠ .held
  heads : s.headsQueue ident 1 = true
  adm_nil : (s.die d).admQ = []
  par_nil : (s.die d).parQ = []
  ready : (s.popPost ident).jobReady d j = true
  awake : ((s.popPost ident).reachAll ((s.popPost ident).jobRngs d j)).2 = true

/-- What a job that starts leaves: its post taken off, and its run. -/
def State.jobRun (s : State) (d ident : Nat) (j : SortJob) : State := ((s.popPost ident).withQueues d [] []).runJob d j

theorem State.sortPost_heads (h : s.headsQueue ident 1 = true) : s.sortPost d ident f = (((s.popPost ident).onDie d f).runOffice d).settle :=
  if_pos h

theorem State.sortPost_behind (h : s.headsQueue ident 1 = false) : s.sortPost d ident f = s := if_neg (by rw [h]; exact Bool.false_ne_true)

theorem State.sortPost_held (hmod : s.mod = .held) (h : s.headsQueue ident 1 = true) :
    s.sortPost d ident f = ((s.popPost ident).onDie d f).settle := by
  have hheld : ((s.popPost ident).onDie d f).mod = .held := State.popPost_mod.trans hmod
  rw [State.sortPost_heads h, State.runOffice_held hheld]

section
variable (h : s.JobStarts d ident j)
include h

theorem State.JobStarts.popped_running : (s.popPost ident).mod ≠ .held := fun hm => h.running (State.popPost_mod.symm.trans hm)

theorem State.JobStarts.admits (hpar : ((s.jobRun d ident j).die d).parQ = []) :
    s.sortPost d ident (fun x => { x with admQ := x.admQ ++ [j] }) = (s.jobRun d ident j).settle := by
  have hqueues : (s.popPost ident).onDie d (fun x => { x with admQ := x.admQ ++ [j] }) = (s.popPost ident).withQueues d [j] [] := by
    rw [State.onDie_admQ rfl, State.popPost_die, h.adm_nil, h.par_nil]
    rfl
  rw [State.sortPost_heads h.heads, hqueues]
  exact congrArg State.settle (State.runOffice_adm h.popped_running h.ready h.awake hpar)

theorem State.JobStarts.parcels : s.sortPost d ident (fun x => { x with parQ := x.parQ ++ [j] }) = (s.jobRun d ident j).settle := by
  have hqueues : (s.popPost ident).onDie d (fun x => { x with parQ := x.parQ ++ [j] }) = (s.popPost ident).withQueues d [] [j] := by
    rw [State.onDie_parQ rfl, State.popPost_die, h.adm_nil, h.par_nil]
    rfl
  rw [State.sortPost_heads h.heads, hqueues]
  exact congrArg State.settle (State.runOffice_par h.popped_running h.ready h.awake)

end

theorem State.die_onDie_popPost : ((s.popPost ident).onDie d f).die d = f (s.die d) := by
  rw [State.die_onDie, State.popPost_die]

end

/-! ## The commands -/

section
variable {d : Fin 4}

theorem exec_admission {a : AdmitDesc} :
    exec (.admission d a) s = .next (s.sortPost d a.ident fun x => { x with admQ := x.admQ ++ [.admission a] }) := rfl

theorem exec_scatter {a : ScatterDesc} :
    exec (.scatter d a) s = .next (s.sortPost d a.ident fun x => { x with admQ := x.admQ ++ [.scatter a] }) := rfl

theorem exec_send {a : SendDesc} : exec (.send d a) s = .next (s.sortPost d a.ident fun x => { x with parQ := x.parQ ++ [.send a] }) := rfl

theorem exec_land {a : LandDesc} : exec (.land d a) s = .next (s.sortPost d a.ident fun x => { x with parQ := x.parQ ++ [.land a] }) := rfl

theorem exec_slotAssignment_due {r : Round} {rest : List Round} (hr : (s.die d).rounds = r :: rest) (hdue : s.assignDue d r = true)
    (hbanks : s.reachAll (admitOuts r.desc d (s.layer d r.desc.layer)) = (s, true)) :
    exec (.slotAssignment d) s = .next ((s.assignRound d r).runOffice d).settle := by
  change execSlotAssignment d s = _
  unfold execSlotAssignment
  rw [hr]
  dsimp only
  rw [if_pos hdue, hbanks]

theorem exec_slotAssignment_waits {r : Round} {rest : List Round} (hr : (s.die d).rounds = r :: rest) (hdue : s.assignDue d r = false) :
    exec (.slotAssignment d) s = .next s := by
  change execSlotAssignment d s = _
  unfold execSlotAssignment
  rw [hr]
  dsimp only
  rw [if_neg (by rw [hdue]; exact Bool.false_ne_true)]

theorem exec_slotAssignment_none (hr : (s.die d).rounds = []) : exec (.slotAssignment d) s = .next s := by
  change execSlotAssignment d s = _
  unfold execSlotAssignment
  rw [hr]

variable {region pf ident : Nat} {c : Landing} {place : Nat × Nat × Nat × Nat}

theorem exec_landRelease_none (h : (s.die d).landing region pf = none) : exec (.landRelease d region pf) s = .next s := by
  change execLandRelease d region pf s = _
  unfold execLandRelease
  rw [h]

theorem exec_landRelease_some (h : (s.die d).landing region pf = some c) :
    exec (.landRelease d region pf) s = .next ((s.settleLanding d c).runOffice d).settle := by
  change execLandRelease d region pf s = _
  unfold execLandRelease
  rw [h]

end

/-- A counter that is complete and due ends, with a late letter where its count was completed after its postmark (R220, R356). -/
theorem State.settleLanding_complete {d ident : Nat} {c : Landing} {place : Nat × Nat × Nat × Nat} (hland : c.land = some (c.bytes, place, ident))
    (hdue : s.relDue c.pf = true) : s.settleLanding d c = if c.pf < c.last then (s.endLanding d c).late c.pf else s.endLanding d c := by
  unfold State.settleLanding
  rw [hland]
  dsimp only
  rw [if_neg (Nat.lt_irrefl _), if_pos ⟨Nat.le_refl _, hdue⟩]

theorem State.endLanding_land {d ident x : Nat} {c : Landing} {place : Nat × Nat × Nat × Nat} (hland : c.land = some (x, place, ident)) :
    s.endLanding d c =
      (s.onDie d fun y => { y with landings := y.landings.filter fun z => !(z.region == c.region && z.pf == c.pf) }).releaseIdent ident := by
  unfold State.endLanding
  rw [hland]

/-- Settles O27: a job that may start is its engine's only one and runs (`State.JobStarts`), in HELD none starts, and the rows of a round and of
a counter by their cases. -/
theorem officeEngines : Obligations.OfficeEngines := by
  intro d s engine die starts
  have job : ∀ {ident j}, starts ident j → s.JobStarts d ident j := fun ⟨hmod, hheads, hadm, hpar, hready, hawake⟩ =>
    ⟨hmod, hheads, hadm, hpar, hready, hawake⟩
  refine ⟨fun a h hpar => exec_admission.trans (congrArg _ ((job h).admits hpar)),
    fun a h hpar => exec_scatter.trans (congrArg _ ((job h).admits hpar)), fun a h => exec_send.trans (congrArg _ (job h).parcels),
    fun a h => exec_land.trans (congrArg _ (job h).parcels), fun a b c e => ⟨fun hmod h => ?heldAdmission, fun hmod h => ?heldSend,
      fun h => exec_admission.trans (congrArg _ (State.sortPost_behind h)), fun h => exec_send.trans (congrArg _ (State.sortPost_behind h)),
      fun h => exec_scatter.trans (congrArg _ (State.sortPost_behind h)), fun h => exec_land.trans (congrArg _ (State.sortPost_behind h))⟩,
    fun r rest => exec_slotAssignment_due, fun r rest => exec_slotAssignment_waits, exec_slotAssignment_none,
    fun region pf => ⟨exec_landRelease_none, fun c place ident hc hland hdue => ?complete⟩⟩
  case heldAdmission =>
    exact ⟨_, exec_admission.trans (congrArg _ (State.sortPost_held hmod h)), congrArg Die.admQ State.die_onDie_popPost⟩
  case heldSend =>
    exact ⟨_, exec_send.trans (congrArg _ (State.sortPost_held hmod h)), congrArg Die.parQ State.die_onDie_popPost⟩
  case complete =>
    intro t
    rw [exec_landRelease_some hc, State.settleLanding_complete hland hdue, State.endLanding_land hland]
    exact ⟨fun hin => by rw [if_neg (Nat.not_lt.mpr hin)], fun hlate => by rw [if_pos hlate]⟩

end Sys2Proof.Machine
end

section
/-!
The pools (R246–R250): what each operation leaves of the state, by the checks it passes, the operands of a caller that has posted a POOL
descriptor, and the settling of O23.
-/
namespace Sys2Proof.Machine

variable {s t : State} {d p caller a : Nat} {v : Pool}

/-! ## A pool read back -/

@[simp] theorem State.pool_setPool : (s.setPool d p v).pool d p = v := by
  unfold State.pool State.setPool
  rw [State.die_onDie]
  exact Map.get_set_same ..

theorem State.writeUnit_dies {lo hi : Nat} {f : Nat → Byte} {poison op : Bool} : (s.writeUnit lo hi f poison op).dies = s.dies := by
  unfold State.writeUnit
  split
  · split <;> rfl
  · rfl

@[simp] theorem State.writeBond_dies {l : List Byte} {poison : Nat} {op : Bool} : (s.writeBond a l poison op).dies = s.dies := by
  unfold State.writeBond
  dsimp only
  split
  · rfl
  · refine foldl_keeps (fun t : State => t.dies = s.dies) _ (fun t i ht => ?_) _ _ rfl
    split
    · exact ht
    · exact State.writeUnit_dies.trans ht

/-- An owner word is bonded memory: writing it changes no pool (R248). -/
@[simp] theorem State.pool_setOwner {st who : Nat} : (s.setOwner v a st who).pool d p = s.pool d p :=
  congrArg (fun dies => (Map.get ({} : Die) dies d).pool p) State.writeBond_dies

/-- The check that an address names a buffer (R249), with the buffer size of the class (R246). -/
theorem Pool.names_iff : v.names a = true ↔
    v.valid = true ∧ v.base ≤ a ∧ a < v.base + v.count * (256 * 2 ^ v.cls) ∧ (a - v.base) % (256 * 2 ^ v.cls) = 0 := by
  simp only [Pool.names, Bool.and_eq_true, decide_eq_true_iff, beq_iff_eq, and_assoc]
  rfl

/-! ## ALLOC (R249, R250) -/

/-- The buffer at HEAD is taken where its link word checks (R247). -/
theorem State.allocHead_linked {w : Nat} (hword : s.poolWord d (s.pool d p) (s.pool d p).head = w)
    (hlink : w / 2 ^ 48 = linkCheck p (s.pool d p).head (w % 2 ^ 48)) :
    s.allocHead d p caller = ((s.setPool d p { s.pool d p with head := w % 2 ^ 48, free := (s.pool d p).free - 1 }).setOwner
      (s.pool d p) (s.pool d p).head 1 caller, some (s.pool d p).head) := by
  subst hword
  exact if_pos hlink

/-- A link word that does not check quarantines the pool (R249). -/
theorem State.allocHead_unlinked {w : Nat} (hword : s.poolWord d (s.pool d p) (s.pool d p).head = w)
    (hlink : w / 2 ^ 48 ≠ linkCheck p (s.pool d p).head (w % 2 ^ 48)) :
    s.allocHead d p caller = ((s.setPool d p { s.pool d p with quarantined := true }).poolRefuse d (s.pool d p).head 0x5004, none) := by
  subst hword
  exact if_neg hlink

/-- From a pool that is not valid nothing comes (log 25, whose refusal count the model does not keep). -/
theorem State.alloc_unused (hvalid : (s.pool d p).valid = false) : s.alloc d p caller = (s, .refused) := by
  simp [State.alloc, hvalid]

section
variable (hvalid : (s.pool d p).valid = true)
include hvalid

theorem State.alloc_quarantined (hquar : (s.pool d p).quarantined = true) :
    s.alloc d p caller = (s.poolRefuse d (s.pool d p).head 0x5005, .refused) := by
  simp [State.alloc, hvalid, hquar]

variable (hquar : (s.pool d p).quarantined = false)
include hquar

theorem State.alloc_empty (hfree : (s.pool d p).free = 0) : s.alloc d p caller = (s, .empty) := by
  simp [State.alloc, hvalid, hquar, hfree]

variable (hfree : (s.pool d p).free ≠ 0)
include hfree

theorem State.alloc_got (h : s.allocHead d p caller = (t, some a)) : s.alloc d p caller = (t, .got a) := by
  simp [State.alloc, hvalid, hquar, hfree, h]

theorem State.alloc_refused (h : s.allocHead d p caller = (t, none)) : s.alloc d p caller = (t, .refused) := by
  simp [State.alloc, hvalid, hquar, hfree, h]

end

/-! ## SHARE and RELEASE (R249) -/

theorem State.serveWaiting_none (h : (s.pool d p).waiting = []) : s.serveWaiting d p = s := by
  unfold State.serveWaiting
  rw [h]

theorem State.shareBuf_unnamed {last : Nat} (hnames : (s.pool d p).names a = false) :
    s.shareBuf d p caller a last = s.poolRefuse d a 0x5001 := by
  simp [State.shareBuf, hnames]

theorem State.releaseBuf_unnamed (hnames : (s.pool d p).names a = false) : s.releaseBuf d p caller a = s.poolRefuse d a 0x5001 := by
  simp [State.releaseBuf, hnames]

section
variable (hnames : (s.pool d p).names a = true)
include hnames

theorem State.shareBuf_holder {last : Nat} (howner : s.owner (s.pool d p) a = 2 ^ 30 + caller) :
    s.shareBuf d p caller a last = s.setOwner (s.pool d p) a 2 last := by
  simp [State.shareBuf, hnames, howner]

theorem State.shareBuf_stranger {last : Nat} (howner : s.owner (s.pool d p) a ≠ 2 ^ 30 + caller) :
    s.shareBuf d p caller a last = s.poolRefuse d a 0x5002 := by
  unfold State.shareBuf
  rw [if_neg (by simp [hnames]), if_neg howner]

theorem State.releaseBuf_quarantined (hquar : (s.pool d p).quarantined = true) : s.releaseBuf d p caller a = s := by
  simp [State.releaseBuf, hnames, hquar]

variable (hquar : (s.pool d p).quarantined = false)
include hquar

/-- A RELEASE that names a buffer of a pool in use goes by the buffer's owner word (R248). -/
theorem State.releaseBuf_named : s.releaseBuf d p caller a =
    if s.owner (s.pool d p) a / 2 ^ 30 = 0 then s.poolRefuse d a 0x5003
    else if s.owner (s.pool d p) a % 65536 ≠ caller then s.poolRefuse d a 0x5002
    else (((s.setPoolWord d (s.pool d p) a (linkWord p a (s.pool d p).head)).setPool d p
      { s.pool d p with head := a, free := (s.pool d p).free + 1 }).setOwner (s.pool d p) a 0 0).serveWaiting d p :=
  (if_neg (by simp [hnames])).trans (if_neg (by simp [hquar]))

theorem State.releaseBuf_free (hstate : s.owner (s.pool d p) a / 2 ^ 30 = 0) : s.releaseBuf d p caller a = s.poolRefuse d a 0x5003 := by
  rw [State.releaseBuf_named hnames hquar, if_pos hstate]

variable (hstate : s.owner (s.pool d p) a / 2 ^ 30 ≠ 0)
include hstate

theorem State.releaseBuf_stranger (howner : s.owner (s.pool d p) a % 65536 ≠ caller) :
    s.releaseBuf d p caller a = s.poolRefuse d a 0x5002 := by
  rw [State.releaseBuf_named hnames hquar, if_neg hstate, if_pos howner]

/-- The holder's or last owner's RELEASE puts the buffer at the head of the free list; with no ALLOC waiting it stays there. -/
theorem State.releaseBuf_owner (howner : s.owner (s.pool d p) a % 65536 = caller) (hwaiting : (s.pool d p).waiting = []) :
    s.releaseBuf d p caller a = ((s.setPoolWord d (s.pool d p) a (linkWord p a (s.pool d p).head)).setPool d p
      { s.pool d p with head := a, free := (s.pool d p).free + 1 }).setOwner (s.pool d p) a 0 0 := by
  rw [State.releaseBuf_named hnames hquar, if_neg hstate, if_neg (not_not.mpr howner),
    State.serveWaiting_none (by rw [State.pool_setOwner, State.pool_setPool]; exact hwaiting)]

end

/-! ## The operands (R248) -/

/-- The operands are those of the caller's POOL descriptor where it has posted one (log 94), and its own else. -/
theorem State.poolOp_eq {own : PoolOp} : s.poolOp caller own =
    { die := match s.poolPost caller with | some _ => caller / 96 | none => own.die
      pool := match s.poolPost caller with | some z => z.2.pool % 64 | none => own.pool
      addr := match s.poolPost caller with | some z => z.2.src % 2 ^ 38 | none => own.addr
      last := match s.poolPost caller with | some z => z.2.dst % 65536 | none => own.last
      res := match s.poolPost caller with | some z => if z.2.result = 0xFFFF then none else some (z.2.dstCore, z.2.result) | none => own.res
      ident := match s.poolPost caller with | some z => z.1.ident | none => own.ident } := by
  unfold State.poolOp
  cases s.poolPost caller <;> rfl

/-- A post through which a core acts does not wait on its pool yet. -/
theorem State.poolPost_not_waiting {z : QEnt × CDesc} (h : s.poolPost caller = some z) :
    (s.pool (caller / 96) (z.2.pool % 64)).waiting.any (fun w => w.ident == z.1.ident) = false := by
  unfold State.poolPost at h
  dsimp only at h
  split at h
  · cases h
  · obtain ⟨k, -, hk⟩ := List.exists_of_findSome?_eq_some h
    split at hk
    · split at hk
      · next hpost =>
        cases hk
        simpa using hpost.2.2
      · cases hk
    · cases hk

theorem State.poolOp_not_waiting {own o : PoolOp} (ho : s.poolOp caller own = o) (hown : own.ident = 0) :
    ¬ (o.ident ≠ 0 ∧ (s.pool o.die o.pool).waiting.any fun w => w.ident == o.ident) := by
  subst ho
  rw [State.poolOp_eq]
  cases hpost : s.poolPost caller with
  | none => exact fun h => h.1 hown
  | some z => exact fun h => Bool.false_ne_true ((State.poolPost_not_waiting hpost).symm.trans h.2)

/-! ## The commands -/

/-- What an ALLOC leaves, by what it came to. -/
def allocAnswer (caller : Nat) (o : PoolOp) : State × Alloc → State
  | (t, .got a) => (t.allocResult o.res a).poolDone o
  | (t, .refused) => t.poolDone o
  | (t, .empty) => t.allocWait o.die o.pool { caller := caller, ident := o.ident, res := o.res }

section
variable {d : Fin 4} {p : Fin 64} {last : Nat} {res : Option (Fin 384 × Nat)} {o : PoolOp}

section
variable (ho : s.poolOp caller { die := d, pool := p, res := res.map fun r => (r.1.val, r.2) } = o)
include ho

theorem exec_alloc : exec (.alloc d p caller res) s = .next (allocAnswer caller o (s.alloc o.die o.pool caller)) := by
  subst ho
  rfl

theorem exec_alloc_got (h : s.alloc o.die o.pool caller = (t, .got a)) :
    exec (.alloc d p caller res) s = .next ((t.allocResult o.res a).poolDone o) := by
  rw [exec_alloc ho, h, allocAnswer]

theorem exec_alloc_refused (h : s.alloc o.die o.pool caller = (t, .refused)) : exec (.alloc d p caller res) s = .next (t.poolDone o) := by
  rw [exec_alloc ho, h, allocAnswer]

/-- On an empty pool the caller waits, counted once. -/
theorem exec_alloc_empty (h : s.alloc o.die o.pool caller = (s, .empty)) :
    exec (.alloc d p caller res) s = .next ((s.setPool o.die o.pool { s.pool o.die o.pool with
      waiting := (s.pool o.die o.pool).waiting ++ [{ caller := caller, ident := o.ident, res := o.res }] }).count
        (Reg.at Reg.PGN_EMPTY_CNT o.die)) := by
  rw [exec_alloc ho, h, allocAnswer]
  exact congrArg _ (if_neg (State.poolOp_not_waiting ho rfl))

end

theorem exec_share (ho : s.poolOp caller { die := d, pool := p, addr := a, last := last } = o) :
    exec (.share d p caller a last) s = .next ((s.shareBuf o.die o.pool caller o.addr o.last).poolDone o) := by
  subst ho
  rfl

section
variable (ho : s.poolOp caller { die := d, pool := p, addr := a } = o)
include ho

theorem exec_drop : exec (.drop d p caller a) s =
    .next ((if (s.pool o.die o.pool).names o.addr then s else s.poolRefuse o.die o.addr 0x5001).poolDone o) := by
  subst ho
  rfl

theorem exec_release : exec (.release d p caller a) s = .next ((s.releaseBuf o.die o.pool caller o.addr).poolDone o) := by
  subst ho
  rfl

end

end

/-- Settles O23 (log 94, and log 25 but for its count): the operands by `State.poolOp_eq`, each row by the checks that its operation passes. -/
theorem pools : Obligations.Pools := by
  intro d0 p0 caller a0 last0 res0 s post of d p a last res ident ends v alloc share drop release word links owner names
  have halloc := State.poolOp_eq (s := s) (caller := caller) (own := { die := d0, pool := p0, res := res0.map fun r => (r.1.val, r.2) })
  have hlast := State.poolOp_eq (s := s) (caller := caller) (own := { die := d0, pool := p0, addr := a0, last := last0 })
  have hbuf := State.poolOp_eq (s := s) (caller := caller) (own := { die := d0, pool := p0, addr := a0 })
  have shared : ∀ {t}, s.shareBuf d p caller a last = t → share = ends t := fun h => (exec_share hlast).trans (congrArg ends h)
  have dropped : ∀ {t}, (if v.names a then s else s.poolRefuse d a 0x5001) = t → drop = ends t :=
    fun h => (exec_drop hbuf).trans (congrArg ends h)
  have released : ∀ {t}, s.releaseBuf d p caller a = t → release = ends t := fun h => (exec_release hbuf).trans (congrArg ends h)
  have hnamed : names → v.names a = true := Pool.names_iff.mpr
  have hunnamed : ¬ names → v.names a = false := fun h => Bool.eq_false_iff.mpr fun hn => h (Pool.names_iff.mp hn)
  refine ⟨fun hvalid hquar hfree hlink => exec_alloc_got halloc (State.alloc_got hvalid hquar hfree (State.allocHead_linked rfl hlink)),
    fun hvalid hquar hfree hlink => exec_alloc_refused halloc (State.alloc_refused hvalid hquar hfree (State.allocHead_unlinked rfl hlink)),
    fun hvalid hquar => exec_alloc_refused halloc (State.alloc_quarantined hvalid hquar),
    fun hvalid hquar hfree => exec_alloc_empty halloc (State.alloc_empty hvalid hquar hfree),
    fun hvalid => exec_alloc_refused halloc (State.alloc_unused hvalid),
    fun h howner => shared (State.shareBuf_holder (hnamed h) howner),
    fun h howner => shared (State.shareBuf_stranger (hnamed h) howner),
    fun h => dropped (if_pos (hnamed h)),
    fun h hquar hstate howner hwaiting => released (State.releaseBuf_owner (hnamed h) hquar hstate howner hwaiting),
    fun h hquar hstate => released (State.releaseBuf_free (hnamed h) hquar hstate),
    fun h hquar hstate howner => released (State.releaseBuf_stranger (hnamed h) hquar hstate howner),
    fun h hquar => released (State.releaseBuf_quarantined (hnamed h) hquar),
    fun h => ⟨shared (State.shareBuf_unnamed (hunnamed h)), dropped (if_neg (Bool.eq_false_iff.mp (hunnamed h))),
      released (State.releaseBuf_unnamed (hunnamed h))⟩⟩

end Sys2Proof.Machine
end

section
/-!
Bonded memory (R256, R257, R263): where an address lies, what a write of one unit and of many leaves of every byte, and the settling of O29.
-/
namespace Sys2Proof.Machine

variable {s t u : State} {a b k lo hi : Nat} {data : List Byte} {poison : Nat}

/-! ## The interleave (R257) -/

theorem State.die_of_dies {d : Nat} (h : t.dies = s.dies) : t.die d = s.die d := congrArg (Map.get ({} : Die) · d) h

/-- The channels in every die's interleave are distinct, of 256. -/
def State.Interleaved (s : State) : Prop := ∀ d : Fin 4, (s.die d).order.Nodup ∧ ∀ c ∈ (s.die d).order, c < 256

theorem State.Interleaved.of_dies (h : s.Interleaved) (e : t.dies = s.dies) : t.Interleaved := by
  intro d
  rw [State.die_of_dies e]
  exact h d

theorem State.Interleaved.at_addr (h : s.Interleaved) (a : Nat) :
    (s.die (a / 2 ^ 38 % 4)).order.Nodup ∧ ∀ c ∈ (s.die (a / 2 ^ 38 % 4)).order, c < 256 :=
  h ⟨a / 2 ^ 38 % 4, Nat.mod_lt _ (by decide)⟩

theorem State.Interleaved.capacity_le (h : s.Interleaved) (a : Nat) : s.capacity (a / 2 ^ 38 % 4) ≤ 2 ^ 38 := by
  obtain ⟨hnodup, hlt⟩ := h.at_addr a
  have hlen := (hnodup.subperm fun c hc => List.mem_range.mpr (hlt c hc)).length_le
  rw [List.length_range] at hlen
  unfold State.capacity
  omega

/-- The channel of an address within its die. -/
def State.chanAt (s : State) (a : Nat) : Nat :=
  (s.die (a / 2 ^ 38 % 4)).order.getD (a % 2 ^ 38 / 4096 % (s.die (a / 2 ^ 38 % 4)).order.length) 0

/-- The byte of an address within its channel. -/
def State.chanByte (s : State) (a : Nat) : Nat :=
  4096 * (a % 2 ^ 38 / 4096 / (s.die (a / 2 ^ 38 % 4)).order.length) + a % 2 ^ 38 % 4096

theorem State.phys_iff : s.phys a = some k ↔
    a % 2 ^ 38 < s.capacity (a / 2 ^ 38 % 4) ∧ k = 2 ^ 30 * (256 * (a / 2 ^ 38 % 4) + s.chanAt a) + s.chanByte a := by
  unfold State.phys State.capacity State.chanAt State.chanByte
  dsimp only
  split
  · next h => simp only [h, true_and, Option.some.injEq, Nat.add_assoc, eq_comm]
  · next h => simp only [h, false_and, reduceCtorEq]

/-- Within the capacity an address has a channel of the interleave, at its place in it. -/
theorem State.chanAt_eq_getElem (h : a % 2 ^ 38 < s.capacity (a / 2 ^ 38 % 4)) :
    ∃ hi : a % 2 ^ 38 / 4096 % (s.die (a / 2 ^ 38 % 4)).order.length < (s.die (a / 2 ^ 38 % 4)).order.length,
      s.chanAt a = (s.die (a / 2 ^ 38 % 4)).order[a % 2 ^ 38 / 4096 % (s.die (a / 2 ^ 38 % 4)).order.length] := by
  have hpos : 0 < (s.die (a / 2 ^ 38 % 4)).order.length := by
    unfold State.capacity at h
    omega
  exact ⟨Nat.mod_lt _ hpos, List.getD_eq_getElem _ _ _⟩

theorem State.Interleaved.chanAt_lt (hs : s.Interleaved) (h : a % 2 ^ 38 < s.capacity (a / 2 ^ 38 % 4)) : s.chanAt a < 256 := by
  obtain ⟨hi, he⟩ := State.chanAt_eq_getElem h
  rw [he]
  exact (hs.at_addr a).2 _ (List.getElem_mem hi)

theorem State.chanByte_lt (h : a % 2 ^ 38 < s.capacity (a / 2 ^ 38 % 4)) : s.chanByte a < 2 ^ 30 := by
  have hrow : a % 2 ^ 38 / 4096 / (s.die (a / 2 ^ 38 % 4)).order.length < 2 ^ 18 := by
    refine Nat.div_lt_of_lt_mul ?_
    unfold State.capacity at h
    omega
  unfold State.chanByte
  omega

/-- Two addresses never share a byte. -/
theorem State.Interleaved.phys_inj (hs : s.Interleaved) (ha : a < 2 ^ 40) (hb : b < 2 ^ 40) (hpa : s.phys a = some k)
    (hpb : s.phys b = some k) : a = b := by
  obtain ⟨hina, hka⟩ := State.phys_iff.mp hpa
  obtain ⟨hinb, hkb⟩ := State.phys_iff.mp hpb
  have hca := hs.chanAt_lt hina
  have hcb := hs.chanAt_lt hinb
  have hba := State.chanByte_lt hina
  have hbb := State.chanByte_lt hinb
  have hdie : a / 2 ^ 38 % 4 = b / 2 ^ 38 % 4 := by omega
  have hchan : s.chanAt a = s.chanAt b := by omega
  have hbyte : s.chanByte a = s.chanByte b := by omega
  obtain ⟨hia, hga⟩ := State.chanAt_eq_getElem hina
  obtain ⟨hib, hgb⟩ := State.chanAt_eq_getElem hinb
  unfold State.chanByte at hbyte
  rw [hga, hgb] at hchan
  simp only [hdie] at hchan hbyte hia
  have hindex := ((hs.at_addr b).1.getElem_inj_iff).mp hchan
  have hrow : a % 2 ^ 38 / 4096 / (s.die (b / 2 ^ 38 % 4)).order.length = b % 2 ^ 38 / 4096 / (s.die (b / 2 ^ 38 % 4)).order.length := by omega
  have hpage : a % 2 ^ 38 / 4096 = b % 2 ^ 38 / 4096 := by
    rw [← Nat.div_add_mod (a % 2 ^ 38 / 4096), hrow, hindex, Nat.div_add_mod]
  omega

/-- Addresses of one unit lie side by side. -/
theorem State.phys_of_unit (hu : b / 64 = a / 64) (hab : a ≤ b) : s.phys b = (s.phys a).map (· + (b - a)) := by
  have hdie : b / 2 ^ 38 % 4 = a / 2 ^ 38 % 4 := by omega
  have hpage : b % 2 ^ 38 / 4096 = a % 2 ^ 38 / 4096 := by omega
  have hin : b % 2 ^ 38 < s.capacity (a / 2 ^ 38 % 4) ↔ a % 2 ^ 38 < s.capacity (a / 2 ^ 38 % 4) := by
    unfold State.capacity
    omega
  have hchan : s.chanAt b = s.chanAt a := by
    unfold State.chanAt
    rw [hdie, hpage]
  have hbyte : s.chanByte b = s.chanByte a + (b - a) := by
    unfold State.chanByte
    rw [hdie, hpage]
    omega
  refine Option.ext fun k => ?_
  simp only [Option.map_eq_some_iff, State.phys_iff, hdie, hin, hchan, hbyte]
  constructor
  · rintro ⟨h, rfl⟩
    exact ⟨_, ⟨h, rfl⟩, Nat.add_assoc ..⟩
  · rintro ⟨_, ⟨h, rfl⟩, rfl⟩
    exact ⟨h, Nat.add_assoc ..⟩

theorem State.lostKey_congr {k' : Nat} (h : k' / 2 ^ 30 = k / 2 ^ 30) : s.lostKey k' = s.lostKey k := by
  unfold State.lostKey
  rw [h]

theorem State.lostKey_of_unit (hp : s.phys a = some k) (hu : b / 64 = a / 64) (hab : a ≤ b) : s.lostKey (k + (b - a)) = s.lostKey k := by
  obtain ⟨-, rfl⟩ := State.phys_iff.mp hp
  refine State.lostKey_congr ?_
  unfold State.chanByte
  omega

/-! ## What a write leaves -/

/-- `t` is `s` but for bonded memory and its poison. -/
def State.BondOnly (s t : State) : Prop := t = { s with bond := t.bond, bondPoison := t.bondPoison }

theorem State.BondOnly.refl : s.BondOnly s := rfl

theorem State.BondOnly.trans (h : s.BondOnly t) (k : t.BondOnly u) : s.BondOnly u := by
  unfold State.BondOnly at *
  rw [k, h]

theorem State.writeUnit_bondOnly {f : Nat → Byte} {p op : Bool} : s.BondOnly (s.writeUnit lo hi f p op) := by
  unfold State.writeUnit
  split
  · split
    · exact .refl
    · rfl
  · exact .refl

/-- The first byte of a write in the `i`-th unit that it reaches, and the byte past its last one there. -/
def shareLo (a i : Nat) : Nat := max a ((a / 64 + i) * 64)
def shareHi (a n i : Nat) : Nat := min (a + n) ((a / 64 + i) * 64 + 64)

/-- One round of a write: its share of the `i`-th unit that it reaches. -/
def writeShare (a : Nat) (data : List Byte) (poison : Nat) (op : Bool) (t : State) (i : Nat) : State :=
  if leavesDie a (shareLo a i) then t
  else t.writeUnit (shareLo a i) (shareHi a data.length i) (fun j => byteAt data (shareLo a i - a + j))
    (piecesBad poison (shareLo a i - a) (shareHi a data.length i - a)) op

/-- The shares of the first `m` units of a write. -/
def State.writeShares (s : State) (a : Nat) (data : List Byte) (poison : Nat) (op : Bool) (m : Nat) : State :=
  (List.range m).foldl (writeShare a data poison op) s

section
variable {op : Bool} {m : Nat}

theorem State.writeBond_eq_shares (h : data.length ≠ 0) :
    s.writeBond a data poison op = s.writeShares a data poison op ((a + data.length - 1) / 64 + 1 - a / 64) := if_neg h

theorem State.writeBond_nil (h : data.length = 0) : s.writeBond a data poison op = s := if_pos h

theorem State.writeShares_succ :
    s.writeShares a data poison op (m + 1) = writeShare a data poison op (s.writeShares a data poison op m) m := by
  simp only [State.writeShares, List.range_succ, List.foldl_append, List.foldl_cons, List.foldl_nil]

theorem State.writeShares_bondOnly : s.BondOnly (s.writeShares a data poison op m) := by
  refine foldl_keeps s.BondOnly _ (fun t i ht => ?_) _ _ .refl
  unfold writeShare
  split
  · exact ht
  · exact ht.trans State.writeUnit_bondOnly

theorem State.writeBond_bondOnly : s.BondOnly (s.writeBond a data poison op) := by
  by_cases h : data.length = 0
  · rw [State.writeBond_nil h]
    exact .refl
  · rw [State.writeBond_eq_shares h]
    exact State.writeShares_bondOnly

end

section
variable (h : s.BondOnly t)
include h

theorem State.BondOnly.dies : t.dies = s.dies := by
  rw [h]

theorem State.BondOnly.phys : t.phys a = s.phys a := by
  unfold State.phys
  simp only [State.die_of_dies h.dies]

theorem State.BondOnly.lostKey : t.lostKey k = s.lostKey k := by
  unfold State.lostKey
  simp only [State.die_of_dies h.dies]

end

/-! ## Bytes read back (R263) -/

/-- Is an address in a channel in service? -/
def State.served (s : State) (b : Nat) : Bool := (s.phys b).any fun k => !s.lostKey k

theorem State.BondOnly.served (h : s.BondOnly t) : t.served b = s.served b := by
  unfold State.served
  simp only [h.phys, h.lostKey]

theorem State.bondByte_of_phys (h : s.phys b = some k) : s.bondByte b = if s.lostKey k then Config.lostByte b else Map.get 0#8 s.bond k := by
  unfold State.bondByte
  rw [h]

/-- A byte whose place holds what it did reads as it did. -/
theorem State.BondOnly.bondByte_eq (h : s.BondOnly t) (hget : ∀ k, s.phys b = some k → Map.get 0#8 t.bond k = Map.get 0#8 s.bond k) :
    t.bondByte b = s.bondByte b := by
  unfold State.bondByte
  rw [h.phys]
  split
  · next k hk => rw [h.lostKey, hget k hk]
  · rfl

theorem State.writeUnit_dropped {f : Nat → Byte} {p op : Bool} (h : s.served lo = false) : s.writeUnit lo hi f p op = s := by
  unfold State.writeUnit State.served at *
  split
  · next k hk =>
    rw [hk, Option.any_some, Bool.not_eq_false'] at h
    exact if_pos h
  · rfl

theorem State.writeUnit_bond {f : Nat → Byte} {p op : Bool} (hp : s.phys lo = some k) (hk : s.lostKey k = false) :
    (s.writeUnit lo hi f p op).bond = Map.fill 0#8 s.bond k (hi - lo) f := by
  unfold State.writeUnit
  rw [hp]
  dsimp only
  rw [hk]
  rfl

/-- A unit is served whole or not at all. -/
theorem State.served_of_unit (hu : b / 64 = a / 64) (hab : a ≤ b) : s.served b = s.served a := by
  unfold State.served
  rw [State.phys_of_unit hu hab]
  cases hp : s.phys a with
  | none => rfl
  | some k => simp only [Option.map_some, Option.any_some, State.lostKey_of_unit hp hu hab]

/-- A write within one unit. -/
theorem State.Interleaved.bondByte_writeUnit (hs : s.Interleaved) {f : Nat → Byte} {p op : Bool} (hhi : hi ≤ lo / 64 * 64 + 64)
    (hmax : hi ≤ 2 ^ 40) (hb : b < 2 ^ 40) :
    (s.writeUnit lo hi f p op).bondByte b = if lo ≤ b ∧ b < hi ∧ s.served b = true then f (b - lo) else s.bondByte b := by
  by_cases hserved : s.served lo = true
  case neg =>
    rw [Bool.not_eq_true] at hserved
    rw [State.writeUnit_dropped hserved, if_neg]
    rintro ⟨hlo, hlt, hsb⟩
    rw [State.served_of_unit (by omega) hlo, hserved] at hsb
    exact Bool.false_ne_true hsb
  obtain ⟨k, hp, hk⟩ := (Option.any_eq_true _ _).mp hserved
  rw [Bool.not_eq_true'] at hk
  have hbond := State.writeUnit_bond (hi := hi) (f := f) (p := p) (op := op) hp hk
  have honly : s.BondOnly (s.writeUnit lo hi f p op) := State.writeUnit_bondOnly
  have hplace : ∀ c, lo ≤ c → c < hi → s.phys c = some (k + (c - lo)) := fun c hlo hlt => by
    rw [State.phys_of_unit (a := lo) (by omega) hlo, hp, Option.map_some]
  by_cases hin : lo ≤ b ∧ b < hi
  · obtain ⟨hlo, hlt⟩ := hin
    have hpb := hplace b hlo hlt
    have hsb := (State.served_of_unit (by omega) hlo).trans hserved
    have hlost := (State.lostKey_of_unit hp (by omega) hlo).trans hk
    rw [if_pos ⟨hlo, hlt, hsb⟩, State.bondByte_of_phys (honly.phys.trans hpb), honly.lostKey, hlost, if_neg Bool.false_ne_true, hbond,
      Map.get_fill, if_pos (by omega), Nat.add_sub_cancel_left]
  · rw [if_neg fun hc => hin ⟨hc.1, hc.2.1⟩]
    refine honly.bondByte_eq fun j hj => ?_
    rw [hbond, Map.get_fill, if_neg]
    rintro ⟨hkj, hjk⟩
    have hpj := hplace (lo + (j - k)) (by omega) (by omega)
    rw [Nat.add_sub_cancel_left, Nat.add_sub_cancel' hkj] at hpj
    have hbj := hs.phys_inj hb (by omega) hj hpj
    omega

section
variable {op : Bool} {m : Nat} (hs : s.Interleaved) (ha : a < 2 ^ 40) (hcap : a % 2 ^ 38 + data.length ≤ s.capacity (a / 2 ^ 38 % 4))
  (hb : b < 2 ^ 40)
include hs ha hcap hb

/-- The shares of the first units of a write within one die leave every byte but theirs. -/
theorem State.Interleaved.bondByte_writeShares (hm : m ≤ (a + data.length - 1) / 64 + 1 - a / 64) :
    (s.writeShares a data poison op m).bondByte b =
      if (a ≤ b ∧ b < min (a + data.length) ((a / 64 + m) * 64)) ∧ s.served b = true then byteAt data (b - a) else s.bondByte b := by
  have hdie := hs.capacity_le a
  induction m with
  | zero =>
    rw [if_neg (by omega)]
    rfl
  | succ m ih =>
    have honly : s.BondOnly (s.writeShares a data poison op m) := State.writeShares_bondOnly
    have hlo : shareLo a m = max a ((a / 64 + m) * 64) := rfl
    have hhi : shareHi a data.length m = min (a + data.length) ((a / 64 + m) * 64 + 64) := rfl
    have hstays : leavesDie a (shareLo a m) = false := by
      unfold leavesDie
      rw [bne_eq_false_iff_eq]
      omega
    rw [State.writeShares_succ, writeShare, if_neg (Bool.eq_false_iff.mp hstays),
      (hs.of_dies honly.dies).bondByte_writeUnit (by omega) (by omega) hb, ih (by omega), honly.served]
    by_cases hserved : s.served b = true
    case neg => rw [if_neg fun hc => hserved hc.2.2, if_neg fun hc => hserved hc.2, if_neg fun hc => hserved hc.2]
    simp only [hserved, and_true]
    by_cases hshare : shareLo a m ≤ b ∧ b < shareHi a data.length m
    · rw [if_pos hshare, if_pos (by omega), show shareLo a m - a + (b - shareLo a m) = b - a by omega]
    · rw [if_neg hshare]
      exact if_congr (by omega) rfl rfl

theorem State.Interleaved.bondByte_writeBond :
    (s.writeBond a data poison op).bondByte b =
      if a ≤ b ∧ b < a + data.length ∧ s.served b = true then byteAt data (b - a) else s.bondByte b := by
  by_cases hn : data.length = 0
  · rw [State.writeBond_nil hn, if_neg (by omega)]
  · have hall : min (a + data.length) ((a / 64 + ((a + data.length - 1) / 64 + 1 - a / 64)) * 64) = a + data.length :=
      Nat.min_eq_left (by omega)
    rw [State.writeBond_eq_shares hn, hs.bondByte_writeShares ha hcap hb (Nat.le_refl _), hall]
    simp only [and_assoc]

end

/-! ## The interleave built -/

theorem State.Keeps.dies (h : s.Keeps t) : t.dies = s.dies := congrArg (·.dies) h
theorem State.Keeps.image (h : s.Keeps t) : t.image = s.image := congrArg (·.image) h

theorem State.showService_keeps {d : Nat} : s.Keeps (s.showService d) := .foldl (fun _ _ ht => ht.setReg) .refl

theorem State.showService_dies {d : Nat} : (s.showService d).dies = s.dies := State.showService_keeps.dies

theorem Die.mem_serving {d : Die} {c : Nat} : c ∈ d.serving ↔ c < 256 ∧ (d.chan c).state ≠ 1 ∧ (d.chan c).state ≠ 2 := by
  simp only [Die.serving, List.mem_filter, List.mem_range, Bool.and_eq_true, bne_iff_ne]

theorem Die.serving_nodup {d : Die} : d.serving.Nodup := List.nodup_range.filter _

theorem State.buildInterleave_order {d : Nat} : ((s.buildInterleave d).die d).order = (s.die d).serving := by
  unfold State.buildInterleave
  dsimp only
  rw [State.die_of_dies State.showService_dies, State.die_of_dies (State.setFld_dies ..), State.die_onDie]

/-- Settles O29: a write goes unit by unit, each unit lies side by side in one channel, and no two addresses share a byte. -/
theorem bondedMemory : Obligations.BondedMemory := by
  refine ⟨fun s a poison l op ha hcap hs => ⟨fun b hb => State.Interleaved.bondByte_writeBond hs ha hcap hb, State.writeBond_wf s a l poison op,
    State.writeBond_poison_wf s a l poison op, State.writeBond_bondOnly⟩, fun s d => ?_, reset_bond_wf, by decide⟩
  rw [State.buildInterleave_order]
  exact ⟨Die.serving_nodup, fun c => Die.mem_serving⟩

end Sys2Proof.Machine
end

section
/-!
Exact accumulation (R277–R279): what one contribution and a chain of them leave of an exact element, and the settling of O31.
-/
namespace Sys2Proof.Machine

variable {A stamp : Int} {m n : Nat} {c : Int × Nat} {l k : List (Int × Nat)}

/-! ## Two's complement of 64 bits -/

theorem unsigned64_lt {x : Int} : unsigned 64 x < 2 ^ 64 := by
  unfold unsigned
  omega

theorem signed64_unsigned64 {x : Int} (h : x.natAbs ≤ 2 ^ 63 - 1) : signed 64 (unsigned 64 x) = x := by
  unfold signed unsigned
  split <;> omega

theorem unsigned64_ne_invalid {x : Int} (h : x.natAbs ≤ 2 ^ 63 - 1) : unsigned 64 x ≠ invalid64 := by
  unfold unsigned invalid64
  omega

theorem signed64_inj (hm : m < 2 ^ 64) (hn : n < 2 ^ 64) (h : signed 64 m = signed 64 n) : m = n := by
  unfold signed at h
  split at h <;> split at h <;> omega

/-! ## One contribution (R278) -/

/-- What a contribution of a stamp and an element adds under the scale `A`, in units of the exact element. -/
def contributed (A : Int) (c : Int × Nat) : Int := signed 16 c.2 * 2 ^ (c.1 - A).toNat

theorem exactElem_to_invalid : (exactElem A stamp n invalid64).1 = invalid64 := by
  unfold exactElem
  rw [if_pos (Or.inr rfl : n = 0x8000 ∨ invalid64 = invalid64)]
  split
  · rfl
  · split <;> rfl

/-- Within the window of stamps and the headroom the sum is exact. -/
theorem exactElem_held (hlo : A ≤ c.1) (hhi : c.1 ≤ A + 24) (hc : c.2 ≠ 0x8000) (hm : m ≠ invalid64)
    (hroom : (signed 64 m + contributed A c).natAbs ≤ 2 ^ 63 - 1) :
    (exactElem A c.1 c.2 m).1 = unsigned 64 (signed 64 m + contributed A c) := by
  unfold exactElem
  rw [if_neg (by omega), if_neg (by omega), if_neg (not_or.mpr ⟨hc, hm⟩)]
  exact congrArg Prod.fst (if_neg (Nat.not_lt.mpr hroom))

/-- A contribution leaves INVALID or the exact sum. -/
theorem exactElem_invalid_or_exact :
    (exactElem A c.1 c.2 m).1 = invalid64 ∨ signed 64 (exactElem A c.1 c.2 m).1 = signed 64 m + contributed A c := by
  by_cases hlo : c.1 < A
  · exact .inl (congrArg Prod.fst (if_pos hlo))
  by_cases hhi : c.1 > A + 24
  · exact .inl (congrArg Prod.fst ((if_neg hlo).trans (if_pos hhi)))
  by_cases hbad : c.2 = 0x8000 ∨ m = invalid64
  · exact .inl (congrArg Prod.fst ((if_neg hlo).trans ((if_neg hhi).trans (if_pos hbad))))
  by_cases hroom : (signed 64 m + contributed A c).natAbs > 2 ^ 63 - 1
  · exact .inl (congrArg Prod.fst ((if_neg hlo).trans ((if_neg hhi).trans ((if_neg hbad).trans (if_pos hroom)))))
  · obtain ⟨hc, hm⟩ := not_or.mp hbad
    rw [exactElem_held (by omega) (by omega) hc hm (by omega), signed64_unsigned64 (by omega)]
    exact .inr rfl

/-! ## A chain of contributions (R279) -/

/-- What a chain of contributions leaves of an exact element. -/
def accumulate (A : Int) (m : Nat) (l : List (Int × Nat)) : Nat := l.foldl (fun v c => (exactElem A c.1 c.2 v).1) m

/-- INVALID is never left. -/
theorem accumulate_invalid : accumulate A invalid64 l = invalid64 := foldl_same _ _ _ fun _ _ => exactElem_to_invalid

theorem accumulate_invalid_append (h : accumulate A m l = invalid64) : accumulate A m (l ++ k) = invalid64 := by
  unfold accumulate at *
  rw [List.foldl_append, h]
  exact accumulate_invalid

theorem accumulate_invalid_or_exact :
    accumulate A m l = invalid64 ∨ signed 64 (accumulate A m l) = signed 64 m + (l.map (contributed A)).sum := by
  induction l generalizing m with
  | nil => exact .inr (Int.add_zero _).symm
  | cons c l ih =>
    rw [List.map_cons, List.sum_cons, ← Int.add_assoc]
    change accumulate A (exactElem A c.1 c.2 m).1 l = _ ∨ signed 64 (accumulate A (exactElem A c.1 c.2 m).1 l) = _
    obtain hinvalid | hexact := exactElem_invalid_or_exact (A := A) (m := m) (c := c)
    · rw [hinvalid]
      exact .inl accumulate_invalid
    · rw [← hexact]
      exact ih

/-- Contributions whose stamps lie in the window and whose elements are valid. -/
def FitsWindow (A : Int) (l : List (Int × Nat)) : Prop := ∀ c ∈ l, A ≤ c.1 ∧ c.1 ≤ A + 24 ∧ c.2 < 65536 ∧ c.2 ≠ 0x8000

/-- The sum of the magnitudes of what contributions add. -/
def magnitude (A : Int) (l : List (Int × Nat)) : Nat := (l.map fun c => (contributed A c).natAbs).sum

/-- Where magnitudes stay within 63 bits, no order meets INVALID. -/
theorem accumulate_held (hlt : m < 2 ^ 64) (hm : m ≠ invalid64) (hfit : FitsWindow A l) (hsum : (signed 64 m).natAbs + magnitude A l < 2 ^ 63) :
    accumulate A m l < 2 ^ 64 ∧ accumulate A m l ≠ invalid64 := by
  induction l generalizing m with
  | nil => exact ⟨hlt, hm⟩
  | cons c l ih =>
    obtain ⟨⟨hlo, hhi, -, hc⟩, hrest⟩ := List.forall_mem_cons.mp hfit
    have hcons : magnitude A (c :: l) = (contributed A c).natAbs + magnitude A l := List.sum_cons
    have hroom : (signed 64 m + contributed A c).natAbs ≤ 2 ^ 63 - 1 := by omega
    change accumulate A (exactElem A c.1 c.2 m).1 l < _ ∧ accumulate A (exactElem A c.1 c.2 m).1 l ≠ _
    rw [exactElem_held hlo hhi hc hm hroom]
    refine ih unsigned64_lt (unsigned64_ne_invalid hroom) hrest ?_
    rw [signed64_unsigned64 hroom]
    omega

theorem accumulate_perm (hlt : m < 2 ^ 64) (hm : m ≠ invalid64) (hfit : FitsWindow A l) (hsum : (signed 64 m).natAbs + magnitude A l < 2 ^ 63)
    (hp : l.Perm k) : accumulate A m l = accumulate A m k ∧ accumulate A m l ≠ invalid64 := by
  have hfit' : FitsWindow A k := fun c hc => hfit c (hp.mem_iff.mpr hc)
  have hsum' : (signed 64 m).natAbs + magnitude A k < 2 ^ 63 := by
    unfold magnitude at *
    rwa [← (hp.map _).sum_eq]
  obtain ⟨hltl, hvl⟩ := accumulate_held hlt hm hfit hsum
  obtain ⟨hltk, hvk⟩ := accumulate_held hlt hm hfit' hsum'
  refine ⟨signed64_inj hltl hltk ?_, hvl⟩
  rw [accumulate_invalid_or_exact.resolve_left hvl, accumulate_invalid_or_exact.resolve_left hvk, (hp.map _).sum_eq]

/-- Settles O31: each contribution leaves INVALID, which stays, or the exact sum, which no order changes. -/
theorem exactAccumulation : Obligations.ExactAccumulation := fun _ _ hlt =>
  ⟨fun _ => accumulate_invalid_or_exact, fun _ _ h => accumulate_invalid_append h, fun _ _ hm hfit hsum hp => accumulate_perm hlt hm hfit hsum hp⟩

end Sys2Proof.Machine
end

section
/-!
Operations at the home (R258, R270–R272, R325, R340): what a queue leaves of the bytes, when an operation of a courier is applied and what one
element, a CAS64 and an EXACT become, and the settling of O30.
-/
namespace Sys2Proof.Machine

variable {s t : State} {op a n v : Nat} {pl : Place} {data : List Byte} {poison : Nat}

/-! ## The queues hold no bytes (R270) -/

/-- What reads of a die nothing that a change of one die touches is as before. -/
theorem State.onDie_reads {β : Type} {d e : Nat} {g : Die → Die} (f : Die → β) (hf : f (g (s.die d)) = f (s.die d)) :
    f ((s.onDie d g).die e) = f (s.die e) := by
  by_cases he : e = d
  · rw [he, State.die_onDie, hf]
  · exact congrArg f (State.die_setDie_ne s _ he)

/-- `t` has the bytes, the interleave and the states of the channels that `s` has. -/
structure State.SameBond (s t : State) : Prop where
  bond : t.bond = s.bond
  order : ∀ d, (t.die d).order = (s.die d).order
  state : ∀ d c, (Map.get ({} : Chan) (t.die d).chans c).state = (Map.get ({} : Chan) (s.die d).chans c).state

theorem State.SameBond.bondByte (h : s.SameBond t) : t.bondByte a = s.bondByte a := by
  unfold State.bondByte State.phys State.lostKey
  simp only [h.bond, h.order, h.state]

theorem State.queueOp_sameBond : s.SameBond (s.queueOp a n) := by
  unfold State.queueOp
  refine foldl_keeps s.SameBond _ ?_ _ _ ⟨rfl, fun _ => rfl, fun _ _ => rfl⟩
  intro t x ht
  refine ⟨ht.bond, fun d => ?_, fun d c => ?_⟩
  · exact (State.onDie_reads Die.order rfl).trans (ht.order d)
  · refine (State.onDie_reads (fun y => (Map.get ({} : Chan) y.chans c).state) ?_).trans (ht.state d c)
    dsimp only
    rw [Map.get_set]
    split
    · next hc => rw [hc]
    · rfl

/-! ## Operands -/

theorem slice_eq_take_drop {o : Nat} (h : o + n ≤ data.length) : slice data o n = (data.drop o).take n := by
  refine List.ext_getElem (by simp [slice, Nat.le_sub_of_add_le' h]) fun i hi _ => ?_
  have hin : o + i < data.length := by
    rw [slice, List.length_map, List.length_range] at hi
    omega
  simp [slice, byteAt, hin]

theorem slice_whole : slice data 0 data.length = data := by
  rw [slice_eq_take_drop (Nat.le_of_eq (Nat.zero_add _)), List.drop_zero, List.take_length]

theorem leavesDie_self : leavesDie a a = false := bne_self_eq_false _

/-- The number that `n` bytes of bonded memory spell. -/
def State.numberAt (s : State) (a n : Nat) : Nat := leNat ((List.range n).map fun i => s.bondByte (a + i))

theorem State.numberAt_queueOp {b m : Nat} : (s.queueOp b m).numberAt a n = s.numberAt a n := by
  unfold State.numberAt
  simp only [State.queueOp_sameBond.bondByte]

theorem State.opElem_fst {x swap : Nat} {p : Bool} : (s.opElem op a x swap p).1 =
    s.writeBond a (leBytes (opSize op) (opApply op (s.numberAt a (opSize op)) x swap)) (if p then 1 else 0) true := rfl

theorem opSize_pos : 0 < opSize op := by
  unfold opSize
  split
  · decide
  · split
    · decide
    · split <;> decide

/-- An operand of one element. -/
theorem State.opRow_one (hlen : data.length = opSize op) :
    s.opRow op a data poison = (s.opElem op a (leNat data) 0 (bit poison 0)).1 := by
  unfold State.opRow
  dsimp only
  rw [← hlen, Nat.div_self (hlen ▸ opSize_pos), List.range_one, List.foldl_cons, List.foldl_nil, Nat.mul_zero, Nat.add_zero, leavesDie_self,
    if_neg Bool.false_ne_true, Nat.zero_div, fieldAt, slice_whole]

theorem iPick_min {w p q : Nat} : iPick w false p q = if signed w p ≤ signed w q then p else q := if_congr (eq_iff_iff.trans (by simp)) rfl rfl

theorem iPick_max {w p q : Nat} : iPick w true p q = if signed w p ≤ signed w q then q else p :=
  (if_congr (eq_iff_iff.trans (by simp)) rfl rfl).trans (ite_not ..)

/-! ## One access at the home -/

theorem State.bondOp_within (hrange : s.opRange op a data.length = false) : s.bondOp op a data poison = s.bondApply op a data poison :=
  if_neg (Bool.eq_false_iff.mp hrange)

/-- An operand that is no whole number of aligned elements is dropped (R272). -/
theorem State.bondOp_misfit (h : opMisfit op a data.length = true) : s.bondOp op a data poison = s.rangeFault a := by
  simp only [State.bondOp, State.bondApply, State.opRange, h, Bool.true_or, if_true]

theorem State.bondOp_write (hpast : s.pastEnd a data.length = false) :
    s.bondOp 0 a data poison = (s.writeBond a data poison).hotCount a data.length := State.bondOp_within hpast

/-- The element of `n` bytes at an address becomes `v`. -/
def State.homeElem (s : State) (a n v poison : Nat) : State :=
  ((s.queueOp a n).writeBond a (leBytes n v) (if bit poison 0 then 1 else 0) true).hotCount a n

section
variable (hop : 0 < op ∧ op < 0xC)
include hop

theorem opTouch_row : opTouch op n = n := by
  unfold opTouch
  rw [if_neg (by omega), if_neg (by omega)]

theorem opMisfit_row : opMisfit op a n = (n % opSize op != 0 || a % opSize op != 0) := by
  unfold opMisfit
  rw [if_neg (by omega), if_neg (by omega), if_neg (by omega)]

/-- A row of R271 on one aligned element. -/
theorem State.bondOp_elem (hlen : data.length = opSize op) (halign : a % opSize op = 0)
    (hpast : s.pastEnd a data.length = false) :
    s.bondOp op a data poison = s.homeElem a data.length (opApply op (s.numberAt a data.length) (leNat data) 0) poison := by
  have hfit : opMisfit op a data.length = false := by
    rw [opMisfit_row hop, hlen, Nat.mod_self, halign]
    rfl
  rw [State.bondOp_within (by rw [State.opRange, hfit, opTouch_row hop]; exact hpast)]
  unfold State.bondApply
  dsimp only
  rw [hfit, if_neg Bool.false_ne_true, if_neg (by omega), if_neg (by omega), if_neg (by omega), State.opRow_one hlen, State.opElem_fst,
    State.numberAt_queueOp, opTouch_row hop, ← hlen]
  rfl

end

theorem opApply_cas {x y z : Nat} : opApply 0xC x y z = if x = y then z else x := rfl

/-- CAS64 (R271): the operand compares in its first half and swaps in its second. -/
theorem State.bondOp_cas (hlen : data.length = 16) (halign : a % 8 = 0) (hpast : s.pastEnd a 8 = false) :
    s.bondOp 0xC a data poison =
      s.homeElem a 8 (if s.numberAt a 8 = leNat (data.take 8) then leNat (data.drop 8) else s.numberAt a 8) poison := by
  have hfit : opMisfit 0xC a data.length = false := by
    simp [opMisfit, hlen, halign]
  have hfirst : fieldAt data 0 8 = leNat (data.take 8) := by
    rw [fieldAt, slice_eq_take_drop (by omega), List.drop_zero]
  have hsecond : fieldAt data 8 8 = leNat (data.drop 8) := by
    rw [fieldAt, slice_eq_take_drop (by omega), List.take_of_length_le (by simp [hlen])]
  rw [State.bondOp_within (by rw [State.opRange, hfit]; exact hpast)]
  unfold State.bondApply
  dsimp only
  rw [hfit, if_neg Bool.false_ne_true, if_neg (by decide), if_neg (by decide), if_pos rfl, hpast, if_neg Bool.false_ne_true, hfirst, hsecond,
    State.opElem_fst, show opSize 0xC = 8 from rfl, show opTouch 0xC data.length = 8 from rfl, State.numberAt_queueOp, opApply_cas]
  rfl

/-- EXACT (R278): whole rows at an aligned address. -/
theorem State.bondOp_exact (hlen : data.length % 260 = 0) (halign : a % 1024 = 0) (hpast : s.pastEnd a (data.length / 260 * 1024) = false) :
    s.bondOp 0xD a data poison =
      ((s.queueOp a (data.length / 260 * 1024)).exactOp a data poison).hotCount a (data.length / 260 * 1024) := by
  have hfit : opMisfit 0xD a data.length = false := by
    simp [opMisfit, hlen, halign]
  rw [State.bondOp_within (by rw [State.opRange, hfit]; exact hpast)]
  unfold State.bondApply
  dsimp only
  rw [hfit]
  rfl

/-! ## When a courier's operation is applied (R244, R245, R270; log 87) -/

theorem State.courierOp_held (hm : s.mod = .held) : s.courierOp op pl data poison = s := if_pos hm

section
variable (hm : s.mod ≠ .held) (hspace : pl.space = 3)
include hm hspace

theorem State.courierOp_home (hwritable : s.bondWritable pl.addr (opTouch op data.length) = true)
    (hroom : s.opRoom op pl.addr data.length = true) : s.courierOp op pl data poison = s.bondOp op pl.addr data poison := by
  unfold State.courierOp
  rw [if_neg hm, if_pos hspace, hwritable, hroom]
  rfl

theorem State.courierOp_row (hop : 0 < op ∧ op < 0xC) (hwritable : s.bondWritable pl.addr data.length = true)
    (hroom : s.queueRoom pl.addr data.length = true) : s.courierOp op pl data poison = s.bondOp op pl.addr data poison := by
  refine State.courierOp_home hm hspace ?_ ?_
  · rwa [opTouch_row hop]
  · rw [State.opRoom, opTouch_row hop, hroom, Bool.or_true]

end

/-- Bytes claimed against writers, or a full queue: the operation waits. -/
theorem State.courierOp_waits (hspace : pl.space = 3)
    (h : s.bondWritable pl.addr (opTouch op data.length) = false ∨ s.opRoom op pl.addr data.length = false) :
    s.courierOp op pl data poison = s := by
  by_cases hm : s.mod = .held
  · exact State.courierOp_held hm
  unfold State.courierOp
  rw [if_neg hm, if_pos hspace, if_neg]
  rw [Bool.and_eq_true]
  rintro ⟨hwritable, hroom⟩
  rw [hwritable, hroom] at h
  exact h.elim Bool.noConfusion Bool.noConfusion

/-- A WRITE at a store of a core. -/
theorem State.courierOp_store (hm : s.mod ≠ .held) (hspace : pl.space ≠ 3)
    (hfree : (s.core pl.unit).writersHeld (spaceUnits pl.space pl.addr data.length) = false)
    (hreach : s.reachBanks pl.unit pl.space pl.addr data.length = (s, true)) :
    s.courierOp 0 pl data poison = s.setCore pl.unit ((s.core pl.unit).writeSpace pl.space pl.addr data poison) := by
  unfold State.courierOp
  rw [if_neg hm, if_neg hspace, hfree, if_pos ⟨rfl, rfl⟩, hreach]
  rfl

/-- What a command answers whose operation leaves `t`. -/
theorem next_settle (h : s.courierOp op pl data poison = t) : (.next (s.courierOp op pl data poison).settle : Ans) = .next t.settle :=
  congrArg (fun u : State => Host.Outcome.next u.settle) h

/-- Settles O30 (log 87): each row is `State.courierOp` of its operation, applied where it need not wait. -/
theorem homeOperations : Obligations.HomeOperations := by
  intro pl data poison s via a n x old old8 bad became min' max' bf
  refine ⟨fun hm hspace hwritable hpast => ?rows, fun hm hspace hwritable hpast hlen halign hroom => ?cas,
    fun hm hspace hwritable hroom => ?exact, fun hm hspace hwritable hroom hmisfit => ?misfit,
    fun hm hspace hfree hreach => next_settle (State.courierOp_store hm hspace hfree hreach),
    fun hwaits => ?claimed, fun hspace hfull => next_settle (State.courierOp_waits hspace (.inr hfull))⟩
  case rows =>
    have row : ∀ {op size v : Nat}, 0 < op ∧ op < 0xC → opSize op = size → n = size → a % size = 0 → s.queueRoom a n = true →
        opApply op old x 0 = v → (.next (s.courierOp op pl data poison).settle : Ans) = became v := by
      intro op size v hop hsize hlen halign hroom hv
      subst hsize hv
      exact next_settle ((State.courierOp_row hm hspace hop hwritable hroom).trans (State.bondOp_elem hop hlen halign hpast))
    refine ⟨next_settle ((State.courierOp_home (op := 0) hm hspace hwritable rfl).trans (State.bondOp_write hpast)), fun hlen halign hroom => ?four,
      fun hlen halign hroom => ?eight, fun hlen halign hroom => ?two⟩
    case four =>
      exact ⟨row (op := 1) (by decide) rfl hlen halign hroom rfl, row (op := 2) (by decide) rfl hlen halign hroom rfl,
        row (op := 4) (by decide) rfl hlen halign hroom rfl, row (op := 5) (by decide) rfl hlen halign hroom rfl,
        row (op := 8) (by decide) rfl hlen halign hroom iPick_min, row (op := 9) (by decide) rfl hlen halign hroom iPick_max⟩
    case eight =>
      exact ⟨row (op := 3) (by decide) rfl hlen halign hroom rfl, row (op := 0xA) (by decide) rfl hlen halign hroom iPick_min,
        row (op := 0xB) (by decide) rfl hlen halign hroom iPick_max⟩
    case two =>
      exact ⟨row (op := 6) (by decide) rfl hlen halign hroom rfl, row (op := 7) (by decide) rfl hlen halign hroom rfl⟩
  case cas =>
    exact next_settle ((State.courierOp_home (op := 0xC) hm hspace hwritable hroom).trans (State.bondOp_cas hlen halign hpast))
  case exact =>
    have hhome := State.courierOp_home (op := 0xD) (poison := poison) hm hspace hwritable hroom
    refine ⟨fun hlen halign hpast => next_settle (hhome.trans (State.bondOp_exact hlen halign hpast)),
      fun hmisfit => next_settle (hhome.trans (State.bondOp_misfit ?_))⟩
    simpa [opMisfit] using hmisfit
  case misfit =>
    have hdrop : ∀ {op : Nat}, 0 < op ∧ op < 0xC → opSize op = 4 →
        (.next (s.courierOp op pl data poison).settle : Ans) = .next (s.rangeFault a).settle := by
      intro op hop h4
      refine next_settle ((State.courierOp_row hm hspace hop hwritable hroom).trans (State.bondOp_misfit ?_))
      rw [opMisfit_row hop, h4]
      simpa using hmisfit
    exact ⟨hdrop (op := 1) (by decide) rfl, hdrop (op := 2) (by decide) rfl⟩
  case claimed =>
    obtain hm | ⟨hspace, hclaimed⟩ := hwaits
    · exact ⟨next_settle (State.courierOp_held hm), next_settle (State.courierOp_held hm)⟩
    · exact ⟨next_settle (State.courierOp_waits hspace (.inl hclaimed)), next_settle (State.courierOp_waits hspace (.inl hclaimed))⟩

end Sys2Proof.Machine
end

section
/-!
Channels of bonded memory (R263, R266, R267, R283, R535): what a map-out leaves, with the channels that `BOND.INSVC` then shows, what an
uncorrectable error leaves, and the settling of O32.
-/
namespace Sys2Proof.Machine

variable {s t : State} {d g k n r : Nat}

/-! ## The channels shown in service (R283) -/

/-- The number whose low `n` bits are set where `p` holds. -/
def maskOf (p : Nat → Bool) (n : Nat) : Nat := (List.range n).foldl (fun v j => if p j then v + 2 ^ j else v) 0

theorem maskOf_succ {p : Nat → Bool} : maskOf p (n + 1) = if p n then maskOf p n + 2 ^ n else maskOf p n := by
  simp only [maskOf, List.range_succ, List.foldl_append, List.foldl_cons, List.foldl_nil]

theorem maskOf_lt {p : Nat → Bool} : maskOf p n < 2 ^ n := by
  induction n with
  | zero => exact Nat.one_pos
  | succ n ih =>
    rw [maskOf_succ, Nat.pow_succ]
    split <;> omega

theorem testBit_maskOf {p : Nat → Bool} {i : Nat} : (maskOf p n).testBit i = (decide (i < n) && p i) := by
  induction n with
  | zero => exact Nat.zero_testBit i
  | succ n ih =>
    have hbit : (maskOf p (n + 1)).testBit i = ((maskOf p n).testBit i || (decide (i = n) && p n)) := by
      rw [maskOf_succ]
      split
      · next hp =>
        rw [Nat.add_comm, ← Nat.mul_one (2 ^ n), Nat.two_pow_add_eq_or_of_lt maskOf_lt, Nat.mul_one, Nat.testBit_or, Nat.testBit_two_pow, hp,
          Bool.or_comm, Bool.and_true, decide_eq_decide.mpr eq_comm]
      · next hp => rw [(Bool.not_eq_true _).mp hp, Bool.and_false, Bool.or_false]
    rw [hbit, ih]
    by_cases hi : i = n
    · simp [hi]
    · simp [hi, Nat.lt_iff_le_and_ne]

/-- The register that shows the channels from 32 `k` on. -/
theorem at_insvc (hk : k < 8) : Reg.at (Reg.BOND_INSVC0 + 4 * k) d = Reg.BOND_INSVC0 + 4 * k + 0x10000 * d := by
  unfold Reg.at Reg.stride Reg.BOND_INSVC0
  rw [if_neg (by omega), if_neg (by omega), if_pos (by omega)]

theorem State.showService_eq : s.showService d =
    (List.range 8).foldl (fun t k => t.setReg (Reg.at (Reg.BOND_INSVC0 + 4 * k) d) (maskOf (fun j => (s.die d).serving.contains (32 * k + j)) 32)) s :=
  rfl

section
variable {off : Nat → Nat} {val : Nat → Nat}

theorem State.reg_setRegs_other (h : ∀ k < n, r ≠ off k) : ((List.range n).foldl (fun t k => t.setReg (off k) (val k)) s).reg r = s.reg r := by
  induction n with
  | zero => rfl
  | succ n ih =>
    rw [List.range_succ, List.foldl_append, List.foldl_cons, List.foldl_nil, State.reg_setReg_ne _ _ (h n (Nat.lt_succ_self n)),
      ih fun k hk => h k (Nat.lt_succ_of_lt hk)]

theorem State.reg_setRegs (hk : k < n) (hinj : ∀ j < n, off k = off j → k = j) :
    ((List.range n).foldl (fun t k => t.setReg (off k) (val k)) s).reg (off k) = val k % 2 ^ 32 := by
  induction n with
  | zero => exact absurd hk (Nat.not_lt_zero k)
  | succ n ih =>
    rw [List.range_succ, List.foldl_append, List.foldl_cons, List.foldl_nil]
    by_cases hkn : k = n
    · rw [hkn, State.reg_setReg]
    · rw [State.reg_setReg_ne _ _ fun e => hkn (hinj n (Nat.lt_succ_self n) e), ih (by omega) fun j hj => hinj j (Nat.lt_succ_of_lt hj)]

end

theorem State.reg_showService_other (h : ∀ k < 8, r ≠ Reg.at (Reg.BOND_INSVC0 + 4 * k) d) : (s.showService d).reg r = s.reg r :=
  State.reg_setRegs_other h

theorem State.testBit_showService {j : Nat} (hk : k < 8) (hj : j < 32) :
    ((s.showService d).reg (Reg.at (Reg.BOND_INSVC0 + 4 * k) d)).testBit j = true ↔ 32 * k + j ∈ (s.die d).serving := by
  have hreg := State.reg_setRegs (s := s) (off := fun k => Reg.at (Reg.BOND_INSVC0 + 4 * k) d)
    (val := fun k => maskOf (fun j => (s.die d).serving.contains (32 * k + j)) 32) hk fun i hi e => by
      rw [at_insvc hk, at_insvc hi] at e
      omega
  rw [State.showService_eq, hreg, Nat.mod_eq_of_lt maskOf_lt, testBit_maskOf, decide_eq_true hj, Bool.true_and, List.contains_iff_mem]

/-! ## A channel mapped out (R266) -/

theorem Die.chan_setChan {x : Die} {c i : Nat} {v : Chan} : (x.setChan c v).chan i = if i = c then v else x.chan i := Map.get_set ..

/-- The channel is out and its queue empty. -/
def State.channelOut (s : State) (g : Nat) : State :=
  s.onDie (g / 256) fun x => x.setChan (g % 256) { x.chan (g % 256) with state := 2, rdu := {} }

/-- The bytes and the poison of a channel are gone, and its map-out waits for the repair table. -/
def State.channelLeft (t : State) (g : Nat) : State :=
  let t := { t with bond := t.bond.filter (fun e => e.1 / 2 ^ 30 != g), bondPoison := t.bondPoison.filter (fun e => e.1 * 64 / 2 ^ 30 != g) }
  let t := (t.queueRepair (t.repairEntry 4 (g / 256) g 0 0)).tally 11
  { t with res := { t.res with cutMapOut := true } }

/-- What a map-out does before its fault. -/
def State.channelGone (s : State) (g : Nat) : State := ((s.channelOut g).showService (g / 256)).channelLeft g

theorem State.channelLeft_dies : (t.channelLeft g).dies = t.dies := rfl
theorem State.channelLeft_mod : (t.channelLeft g).mod = t.mod := rfl
theorem State.channelLeft_cores : (t.channelLeft g).cores = t.cores := rfl
theorem State.channelLeft_image : (t.channelLeft g).image = t.image := rfl
theorem State.channelLeft_reg : (t.channelLeft g).reg r = t.reg r := rfl
theorem State.channelLeft_bond : (t.channelLeft g).bond = t.bond.filter fun e => e.1 / 2 ^ 30 != g := rfl

theorem State.channelOut_die : (s.channelOut g).die (g / 256) =
    (s.die (g / 256)).setChan (g % 256) { (s.die (g / 256)).chan (g % 256) with state := 2, rdu := {} } := State.die_onDie ..

theorem State.channelGone_chan {i : Nat} : ((s.channelGone g).die (g / 256)).chan i =
    if i = g % 256 then { (s.die (g / 256)).chan (g % 256) with state := 2, rdu := {} } else (s.die (g / 256)).chan i := by
  rw [State.channelGone, State.die_of_dies (State.channelLeft_dies.trans State.showService_dies), State.channelOut_die, Die.chan_setChan]

theorem State.channelGone_mod : (s.channelGone g).mod = s.mod := State.channelLeft_mod.trans State.showService_keeps.mod
theorem State.channelGone_cores : (s.channelGone g).cores = s.cores := State.channelLeft_cores.trans State.showService_keeps.cores
theorem State.channelGone_image : (s.channelGone g).image = s.image := State.channelLeft_image.trans State.showService_keeps.image

theorem State.channelGone_bond : Map.get 0#8 (s.channelGone g).bond k = if k / 2 ^ 30 = g then 0#8 else Map.get 0#8 s.bond k := by
  rw [State.channelGone, State.channelLeft_bond, Map.get_filter _ _ fun j => j / 2 ^ 30 != g, State.showService_keeps.bond]
  simp only [bne_iff_ne, ne_eq, ite_not]
  rfl

theorem State.channelGone_reg (h : ∀ k < 8, r ≠ Reg.at (Reg.BOND_INSVC0 + 4 * k) (g / 256)) : (s.channelGone g).reg r = s.reg r :=
  State.channelLeft_reg.trans (State.reg_showService_other h)

/-- The channels shown in service are the others that are. -/
theorem State.channelGone_insvc {j : Nat} (hk : k < 8) (hj : j < 32) :
    ((s.channelGone g).reg (Reg.at (Reg.BOND_INSVC0 + 4 * k) (g / 256))).testBit j = true ↔
      32 * k + j ≠ g % 256 ∧ ((s.die (g / 256)).chan (32 * k + j)).state ≠ 1 ∧ ((s.die (g / 256)).chan (32 * k + j)).state ≠ 2 := by
  rw [State.channelGone, State.channelLeft_reg, State.testBit_showService hk hj, Die.mem_serving, State.channelOut_die, Die.chan_setChan]
  by_cases hc : 32 * k + j = g % 256
  · simp [hc]
  · simp [hc, show 32 * k + j < 256 by omega]

theorem State.mapOut_eq : s.mapOut g =
    if ((s.die (g / 256)).chan (g % 256)).state = 1 ∨ ((s.die (g / 256)).chan (g % 256)).state = 2 ∨
      (!(s.live || s.mod == .parked || s.mod == .ready || s.mod == .fenced)) = true then s
    else if (s.channelGone g).mod = .ready then (((s.channelGone g).discardImage).buildInterleave (g / 256)).raise 0x4302 (g / 256) g
    else if ((s.channelGone g).raise 0x4302 (g / 256) g).parkedYet then ((s.channelGone g).raise 0x4302 (g / 256) g).leaveParked
    else (s.channelGone g).raise 0x4302 (g / 256) g := rfl

theorem State.mapOut_of_out (h : ((s.die (g / 256)).chan (g % 256)).state = 1 ∨ ((s.die (g / 256)).chan (g % 256)).state = 2) : s.mapOut g = s :=
  if_pos (or_assoc.mp (.inl h))

theorem State.mapOut_of_mod (h : s.mod = .off ∨ s.mod = .standby ∨ s.mod = .boot ∨ s.mod = .recovery) : s.mapOut g = s := by
  refine if_pos (.inr (.inr ?_))
  unfold State.live
  obtain h | h | h | h := h <;> rw [h] <;> rfl

/-- With a job or with the fabric stopped the channel goes, and a parked module leaves for READY (R535, R437). -/
theorem State.mapOut_of_job (h1 : ((s.die (g / 256)).chan (g % 256)).state ≠ 1) (h2 : ((s.die (g / 256)).chan (g % 256)).state ≠ 2)
    (hm : s.mod = .running ∨ s.mod = .held ∨ s.mod = .parked ∨ s.mod = .fenced) :
    s.mapOut g = if ((s.channelGone g).raise 0x4302 (g / 256) g).parkedYet then ((s.channelGone g).raise 0x4302 (g / 256) g).leaveParked
      else (s.channelGone g).raise 0x4302 (g / 256) g := by
  have hon : ¬ (!(s.live || s.mod == .parked || s.mod == .ready || s.mod == .fenced)) = true := by
    unfold State.live
    obtain h | h | h | h := hm <;> rw [h] <;> decide
  have hready : ¬ (s.channelGone g).mod = .ready := by
    rw [State.channelGone_mod]
    obtain h | h | h | h := hm <;> rw [h] <;> decide
  rw [State.mapOut_eq, if_neg (not_or.mpr ⟨h1, not_or.mpr ⟨h2, hon⟩⟩), if_neg hready]

/-! ## An uncorrectable error of a unit (R263, R266) -/

theorem State.uncorrectable_of_out (h : ((s.die (g / 256)).chan (g % 256)).state = 1 ∨ ((s.die (g / 256)).chan (g % 256)).state = 2) {u : Nat} :
    s.uncorrectable g u = s := if_pos (or_assoc.mp (.inl h))

/-- The uncorrectable units of a channel within the last second, unit `u` the latest. -/
def State.recentUnits (s : State) (g u : Nat) : List (Nat × Nat) :=
  (((s.die (g / 256)).chan (g % 256)).units.filter fun x => decide (s.now < x.2 + 600000000) && x.1 != u) ++ [(u, s.now)]

/-- The unit poisoned and its address recorded. -/
def State.unitPoisoned (s : State) (g u a : Nat) : State :=
  let p := { s with bondPoison := Map.set false s.bondPoison (g * 2 ^ 24 + u) true }
  (p.setReg (Reg.at Reg.BOND_ERR_ADDR_LO (g / 256)) (a % 2 ^ 32)).setReg (Reg.at Reg.BOND_ERR_ADDR_HI (g / 256)) (a / 2 ^ 32)

/-- A channel with one more uncorrectable error. -/
def Chan.counted (c : Chan) (units : List (Nat × Nat)) : Chan := { c with uncorr := Nat.min 0xFFFFFFFF (c.uncorr + 1), units := units }

/-- The error counted in its channel and raised. -/
def State.unitBad (s : State) (g u a : Nat) : State :=
  (((s.unitPoisoned g u a).onDie (g / 256) fun x =>
    x.setChan (g % 256) (((s.die (g / 256)).chan (g % 256)).counted (s.recentUnits g u))).tally 1).raise 0x4301 (g / 256) g

theorem State.uncorrectable_of_serving {u a : Nat} (h1 : ((s.die (g / 256)).chan (g % 256)).state ≠ 1)
    (h2 : ((s.die (g / 256)).chan (g % 256)).state ≠ 2) (hin : (s.die (g / 256)).order.contains (g % 256) = true)
    (ha : s.unitAddr g (u * 64) = some a) :
    s.uncorrectable g u = if 4 ≤ (s.recentUnits g u).length then (s.unitBad g u a).mapOut g else s.unitBad g u a := by
  have hkey : (2 ^ 30 * g + u * 64) / 64 = g * 2 ^ 24 + u := by omega
  have hat : ({ s with bondPoison := Map.set false s.bondPoison (g * 2 ^ 24 + u) true } : State).unitAddr g (u * 64) = some a := ha
  unfold State.uncorrectable
  dsimp only
  rw [if_neg (by rw [hin]; simp [h1, h2]), hkey, hat]
  simp only [decide_eq_true_eq]
  rfl

/-- Settles O32: a map-out leaves `State.channelGone` and its fault, an uncorrectable error `State.unitBad`, with a map-out at the fourth unit. -/
theorem bondChannels : Obligations.BondChannels := by
  intro g s d c
  refine ⟨fun hout => ⟨congrArg _ (State.mapOut_of_out hout), fun u => congrArg _ (State.uncorrectable_of_out hout)⟩,
    fun h1 h2 hm => ⟨s.channelGone g, congrArg _ (State.mapOut_of_job h1 h2 hm), State.channelGone_chan.trans (if_pos rfl),
      fun k => State.channelGone_bond, fun r hr => State.channelGone_reg hr, fun k hk j hj => State.channelGone_insvc hk hj,
      State.channelGone_cores, State.channelGone_image⟩,
    fun hm => congrArg _ (State.mapOut_of_mod hm), fun h1 h2 hin u a ha => ?_⟩
  have hexec := congrArg (Host.Outcome.next : State → Ans) (State.uncorrectable_of_serving h1 h2 hin ha)
  exact ⟨fun hfew => hexec.trans (congrArg _ (if_neg (Nat.not_le.mpr hfew))), fun hmany => hexec.trans (congrArg _ (if_pos hmany))⟩

end Sys2Proof.Machine
end

section
/-!
Sequence numbers of the ports (R302, R304, R305, R308): what the sequence test says of a SEQ before and after one is accepted, what an ACK
covers and what a GRANT leaves, and the settling of O34.
-/
namespace Sys2Proof.Machine

variable {s : State} {pt : Port} {c c' n p seq src x : Nat} {l l' : List Nat}

/-! ## CUM advances past what is accepted (R302) -/

theorem advanceCum_succ : advanceCum (n + 1) c l =
    if c ∈ l then advanceCum n ((c + 1) % 2 ^ 32) (l.filter (· != c)) else (c, l) := by
  rw [advanceCum]
  simp only [List.contains_iff_mem]

/-- CUM goes on by some `j`, and of the accepted SEQs only those it passes leave the list. -/
theorem exists_of_advanceCum (hc : c < 2 ^ 32) (h : advanceCum n c l = (c', l')) :
    ∃ j ≤ n, c' = (c + j) % 2 ^ 32 ∧ ∀ x ∈ l, x ∈ l' ∨ ∃ i < j, x = (c + i) % 2 ^ 32 := by
  induction n generalizing c l with
  | zero =>
    obtain ⟨rfl, rfl⟩ := Prod.mk.inj h
    exact ⟨0, Nat.le_refl 0, (Nat.mod_eq_of_lt hc).symm, fun x hx => .inl hx⟩
  | succ n ih =>
    rw [advanceCum_succ] at h
    split at h
    case isFalse =>
      obtain ⟨rfl, rfl⟩ := Prod.mk.inj h
      exact ⟨0, Nat.zero_le _, (Nat.mod_eq_of_lt hc).symm, fun x hx => .inl hx⟩
    case isTrue =>
      obtain ⟨j, hj, hcum, hleft⟩ := ih (Nat.mod_lt _ (by decide)) h
      refine ⟨j + 1, Nat.succ_le_succ hj, by omega, fun x hx => ?_⟩
      by_cases hxc : x = c
      · exact .inr ⟨0, Nat.succ_pos j, by omega⟩
      · obtain hx' | ⟨i, hi, hxi⟩ := hleft x (List.mem_filter.mpr ⟨hx, bne_iff_ne.mpr hxc⟩)
        · exact .inl hx'
        · exact .inr ⟨i + 1, Nat.succ_lt_succ hi, by omega⟩

/-- With a round for each accepted SEQ and one more, CUM ends at the first that is not accepted. -/
theorem cum_not_mem_of_advanceCum (hl : l.length < n) (h : advanceCum n c l = (c', l')) : c' ∉ l' := by
  induction n generalizing c l with
  | zero => exact absurd hl (Nat.not_lt_zero _)
  | succ n ih =>
    rw [advanceCum_succ] at h
    split at h
    case isFalse hc =>
      obtain ⟨rfl, rfl⟩ := Prod.mk.inj h
      exact hc
    case isTrue hc =>
      have hshorter : (l.filter (· != c)).length < l.length := List.length_filter_lt_length_iff_exists.mpr ⟨c, hc, by simp⟩
      exact ih (by omega) h

/-! ## The sequence test (R302) -/

/-- The distance of a SEQ from CUM, modulo 2³². -/
def seqGap (cum seq : Nat) : Nat := (seq + 2 ^ 32 - cum) % 2 ^ 32

theorem Port.seqTest_of_used (hused : (pt.rxEnt src).used = true) : pt.seqTest src seq =
    if seqGap (pt.rxEnt src).cum seq < 1024 then (if seq ∈ (pt.rxEnt src).ahead then .seen else .fresh)
    else if seqGap (pt.rxEnt src).cum seq < 2 ^ 31 then .ahead else .seen := by
  unfold Port.seqTest
  simp only [hused, Bool.not_true, Bool.false_and, Bool.false_eq_true, if_false, List.contains_iff_mem]
  rfl

theorem Port.fresh_iff (hused : (pt.rxEnt src).used = true) :
    pt.seqTest src seq = .fresh ↔ seqGap (pt.rxEnt src).cum seq < 1024 ∧ seq ∉ (pt.rxEnt src).ahead := by
  rw [Port.seqTest_of_used hused]
  split_ifs <;> simp_all

/-- A SEQ in the list, or one that CUM has passed, was seen. -/
theorem Port.seen_of_mem (hused : (pt.rxEnt src).used = true) (hx : seq ∈ (pt.rxEnt src).ahead)
    (hgap : seqGap (pt.rxEnt src).cum seq < 1024 ∨ 2 ^ 31 ≤ seqGap (pt.rxEnt src).cum seq) : pt.seqTest src seq = .seen := by
  rw [Port.seqTest_of_used hused, if_pos hx]
  obtain hnear | hpast := hgap
  · rw [if_pos hnear]
  · rw [if_neg (by omega), if_neg (by omega)]

theorem Port.seen_of_past (hused : (pt.rxEnt src).used = true) (hgap : 2 ^ 31 ≤ seqGap (pt.rxEnt src).cum seq) :
    pt.seqTest src seq = .seen := by
  rw [Port.seqTest_of_used hused, if_neg (by omega), if_neg (by omega)]

theorem Port.rxEnt_setRx {e : RxEnt} {other : Nat} : (pt.setRx src e).rxEnt other = if other = src then e else pt.rxEnt other := Map.get_set ..

theorem Port.txEnt_setTx {e : TxEnt} {dst other : Nat} : (pt.setTx dst e).txEnt other = if other = dst then e else pt.txEnt other := Map.get_set ..

theorem Port.acceptSeq_rxEnt {now : Nat} : let e := (pt.acceptSeq now src seq).rxEnt src
    e.used = true ∧ advanceCum 1025 (pt.rxEnt src).cum (seq :: (pt.rxEnt src).ahead) = (e.cum, e.ahead) ∧ e.since = (pt.rxEnt src).since + 1 := by
  unfold Port.acceptSeq
  dsimp only
  rw [Port.rxEnt_setRx, if_pos rfl]
  exact ⟨rfl, rfl, rfl⟩

theorem Port.acceptSeq_rxEnt_other {now other : Nat} (h : other ≠ src) : (pt.acceptSeq now src seq).rxEnt other = pt.rxEnt other :=
  Port.rxEnt_setRx.trans (if_neg h)

/-- Different SEQs within 1,024 of CUM are at most 1,024. -/
theorem length_le_of_seqGap (hc : c < 2 ^ 32) (hl : ∀ x ∈ l, x < 2 ^ 32 ∧ seqGap c x < 1024) (hnodup : l.Nodup) : l.length ≤ 1024 := by
  have hinj : ∀ x ∈ l, ∀ y ∈ l, seqGap c x = seqGap c y → x = y := fun x hx y hy e => by
    have hx' := (hl x hx).1
    have hy' := (hl y hy).1
    unfold seqGap at e
    omega
  have hsub : ∀ k ∈ l.map (seqGap c), k ∈ List.range 1024 := by
    simp only [List.forall_mem_map, List.mem_range]
    exact fun x hx => (hl x hx).2
  have hlen := ((hnodup.map_on hinj).subperm hsub).length_le
  rwa [List.length_map, List.length_range] at hlen

/-- The accepted SEQ and those accepted before are seen from then on, and CUM is none of them. -/
theorem Port.acceptSeq_seen {now : Nat} (hused : (pt.rxEnt src).used = true) (hseq : seq < 2 ^ 32) (hc : (pt.rxEnt src).cum < 2 ^ 32)
    (hahead : ∀ x ∈ (pt.rxEnt src).ahead, x < 2 ^ 32 ∧ seqGap (pt.rxEnt src).cum x < 1024) (hnodup : (pt.rxEnt src).ahead.Nodup)
    (hfresh : pt.seqTest src seq = .fresh) :
    let q := pt.acceptSeq now src seq
    (∀ x ∈ seq :: (pt.rxEnt src).ahead, q.seqTest src x = .seen) ∧ (q.rxEnt src).cum ∉ (q.rxEnt src).ahead := by
  obtain ⟨hnear, hnew⟩ := (Port.fresh_iff hused).mp hfresh
  have hall : ∀ x ∈ seq :: (pt.rxEnt src).ahead, x < 2 ^ 32 ∧ seqGap (pt.rxEnt src).cum x < 1024 :=
    List.forall_mem_cons.mpr ⟨⟨hseq, hnear⟩, hahead⟩
  have hlen := length_le_of_seqGap hc hall (List.nodup_cons.mpr ⟨hnew, hnodup⟩)
  obtain ⟨hused', hcl, -⟩ := Port.acceptSeq_rxEnt (pt := pt) (src := src) (seq := seq) (now := now)
  refine ⟨fun x hx => ?_, cum_not_mem_of_advanceCum (Nat.lt_succ_of_le hlen) hcl⟩
  obtain ⟨hx32, hgap⟩ := hall x hx
  obtain ⟨j, hj, hcum, hleft⟩ := exists_of_advanceCum hc hcl
  unfold seqGap at hgap
  obtain hin | ⟨i, hi, hpassed⟩ := hleft x hx
  · refine Port.seen_of_mem hused' hin ?_
    unfold seqGap
    omega
  · refine Port.seen_of_past hused' ?_
    unfold seqGap
    omega

/-! ## ACK and CREDIT (R304, R305, R308) -/

theorem covers_iff {cum map : Nat} (hcum : cum < 2 ^ 32) (hseq : seq < 2 ^ 32) : covers cum map seq = true ↔
    (∃ k, 1 ≤ k ∧ k < 2 ^ 31 ∧ (seq + k) % 2 ^ 32 = cum) ∨ ∃ j < 64, map.testBit j = true ∧ seq = (cum + 1 + j) % 2 ^ 32 := by
  unfold covers bit
  simp only [Bool.or_eq_true, Bool.and_eq_true, decide_eq_true_eq]
  refine or_congr ⟨fun ⟨hpos, hlt⟩ => ⟨_, hpos, hlt, by omega⟩, fun ⟨k, hpos, hlt, hk⟩ => by omega⟩
    ⟨fun ⟨hlt, hbit⟩ => ⟨_, hlt, hbit, by omega⟩, fun ⟨j, hlt, hbit, hj⟩ => ?_⟩
  have hplace : (seq + 2 ^ 32 - cum - 1) % 2 ^ 32 = j := by omega
  rw [hplace]
  exact ⟨hlt, hbit⟩

theorem State.setPort_fabric {v : Port} : (s.setPort p v).fabric = s.fabric := rfl

theorem State.drainN_of_down (h : (s.port p).link ≠ 2) : State.drainN p n s = s := by
  cases n with
  | zero => rfl
  | succ n => rw [State.drainN, if_neg h]

/-- A port that is down, or without fabric traffic, sends nothing. -/
theorem State.drain_of_down (h : s.fabric = false ∨ (s.port p).link ≠ 2) : s.drain p = s := by
  unfold State.drain
  obtain hoff | hdown := h
  · rw [hoff, if_neg Bool.false_ne_true]
  · dsimp only
    rw [State.drainN_of_down hdown, ite_self]

/-- An update of a transmit entry of such a port lets nothing go. -/
theorem State.drain_setTx_of_down {dst : Nat} {e : TxEnt} (h : s.fabric = false ∨ (s.port p).link ≠ 2) :
    (s.onPort p fun t => t.setTx dst e).drain p = s.onPort p fun t => t.setTx dst e := by
  refine State.drain_of_down (h.imp State.setPort_fabric.trans fun hdown => ?_)
  rw [State.onPort, State.port_setPort]
  exact hdown

theorem TxEnt.ite_grant {e : TxEnt} {b : Prop} {_ : Decidable b} {g : Nat} :
    (if b then { e with grant := g } else e) = { e with grant := if b then g else e.grant } := by
  split <;> rfl

theorem State.applyCredit_of_down {pay : List Byte} (h : s.fabric = false ∨ (s.port p).link ≠ 2) :
    let e := (s.port p).txEnt src
    s.applyCredit p src pay = s.onPort p fun t => t.setTx src { e with
      grant := if (fieldAt pay 0 4 + 2 ^ 32 - e.grant) % 2 ^ 32 < 2 ^ 31 then fieldAt pay 0 4 else e.grant } := by
  unfold State.applyCredit State.onPort
  dsimp only
  rw [TxEnt.ite_grant]
  exact State.drain_setTx_of_down h

/-- Settles O34: CUM passes accepted SEQs alone (`exists_of_advanceCum`) and ends at the first that is not (`cum_not_mem_of_advanceCum`). -/
theorem sequencing : Obligations.Sequencing := by
  refine ⟨fun pt now src seq hused hseq hc hahead _ hnodup hfresh => ?_, fun cum map seq => covers_iff,
    fun s p src pay hdown => ⟨State.drain_setTx_of_down hdown, State.applyCredit_of_down hdown⟩⟩
  obtain ⟨hseen, hcum⟩ := Port.acceptSeq_seen (now := now) hused hseq hc hahead hnodup hfresh
  obtain ⟨hnew, hold⟩ := List.forall_mem_cons.mp hseen
  obtain ⟨-, -, hsince⟩ := Port.acceptSeq_rxEnt (pt := pt) (src := src) (seq := seq) (now := now)
  exact ⟨hnew, hcum, hold, hsince, fun other => Port.acceptSeq_rxEnt_other⟩

end Sys2Proof.Machine
end

section
/-!
Received packets (R288, R296, R302, R304, R328, R334, R335): what each check of a packet leaves, in the order of the checks, which packet each
row brings, and the settling of O33.
-/
namespace Sys2Proof.Machine

variable {s t v w : State} {p : Nat} {k : Packet} {consume again : State → State}

/-! ## The checks of a received packet, one equation for each outcome (R296, R302) -/

theorem State.receive_of_down (h : ¬ (s.fabric = true ∧ (s.port p).link = 2)) : s.receive p k consume again = s := by
  refine if_pos ?_
  simpa [imp_iff_not_or] using h

section
variable (hup : s.fabric = true ∧ (s.port p).link = 2) (ht : s.count64 (Reg.at Reg.PORT_RX_LO p) = t)
include hup ht

theorem State.receive_bad_header (hk : headerOk k = false) : s.receive p k consume again = t.dropFrame p Reg.POST_BAD_CNT 0x6201 := by
  simp [State.receive, hup, ht, hk]

variable (hk : headerOk k = true)
include hk

theorem State.receive_foreign (hm : t.mine k = false) : s.receive p k consume again = t.dropFrame p Reg.POST_BAD_CNT 0x6203 := by
  simp [State.receive, hup, ht, hk, hm]

variable (hm : t.mine k = true)
include hm

theorem State.receive_unsequenced (hty : sequenced k.ty = false) : s.receive p k consume again = consume t := by
  simp [State.receive, hup, ht, hk, hm, hty]

variable (hty : sequenced k.ty = true)
include hty

theorem State.receive_ahead (hseq : (t.port p).seqTest k.src k.seq = .ahead) : s.receive p k consume again = t.count Reg.POST_DUP_CNT := by
  simp [State.receive, hup, ht, hk, hm, hty, hseq]

theorem State.receive_full (hseq : (t.port p).seqTest k.src k.seq = .full) : s.receive p k consume again = t.raise 0x6204 p := by
  simp [State.receive, hup, ht, hk, hm, hty, hseq]

/-- One seen before is acknowledged again; a REQUEST with RETRY is asked for its answer beside. -/
theorem State.receive_seen (hseq : (t.port p).seqTest k.src k.seq = .seen) (hreq : k.ty ≠ Ty.request ∨ k.retry = false) :
    s.receive p k consume again = (t.count Reg.POST_DUP_CNT).sendAck p k.src := by
  have hplain : ¬ (k.ty = Ty.request ∧ k.retry = true) := by
    rintro ⟨h3, hr⟩
    simp [h3, hr] at hreq
  simp [State.receive, hup, ht, hk, hm, hty, hseq, hplain]

variable (hseq : (t.port p).seqTest k.src k.seq = .fresh)
include hseq

theorem State.receive_dropped (hfull : t.rxFull p k = true) :
    s.receive p k consume again = (t.count Reg.RMT_RX_DROP_CNT).raise 0x6306 0 := by
  simp [State.receive, hup, ht, hk, hm, hty, hseq, hfull]

/-- A fresh one for which there is room, a buffer and a receipt is accepted, acknowledged in its turn and handed on. -/
theorem State.receive_accepted (hfull : t.rxFull p k = false) (hbuf : (if k.cls = 3 then t.takeBuffer p k else (t, true)) = (v, true))
    (hreceipt : v.takeReceipt p k = (w, true)) :
    let u := w.onPort p fun q => q.acceptSeq w.now k.src k.seq
    s.receive p k consume again = consume (if 32 ≤ ((u.port p).rxEnt k.src).since then u.sendAck p k.src else u) := by
  simp [State.receive, hup, ht, hk, hm, hty, hseq, hfull, hbuf, hreceipt]

end

/-! ## The packet of each row (R271, R325, R328) -/

section
variable {op : Nat}

/-- An operation that may return its operand's old value is a REQUEST where it came as one, else DATA. -/
theorem State.operate_returning (p : Fin 8) (hret : returningOp op = true) (hop : op ≠ 0xC) :
    s.operate op (.packet p k) = s.arrive p { k with ty := if k.ty = 3 then 3 else 1, op := op } := by
  simp [State.operate, hret, hop]

theorem State.operate_posted (p : Fin 8) (hret : returningOp op = false) (hop : op ≠ 0xC) :
    s.operate op (.packet p k) = s.arrive p { k with ty := 1, op := op } := by
  simp [State.operate, hret, hop]

end

/-- Settles O33: each row is a packet that arrives (`State.arrive`), and each clause one outcome of `State.receive`. -/
theorem receivedPackets : Obligations.ReceivedPackets := by
  intro p k0 s ret via rows
  have hret : 1 ≤ ret := by
    unfold ret
    split <;> decide
  have returning : ∀ op, returningOp op = true → op ≠ 0xC →
      (.next (s.operate op via) : Ans) = .next (s.arrive p { k0 with ty := ret, op := op }) ∧ 1 ≤ ret := fun op h hop =>
    ⟨congrArg _ (State.operate_returning p h hop), hret⟩
  have posted : ∀ op, returningOp op = false → op ≠ 0xC →
      (.next (s.operate op via) : Ans) = .next (s.arrive p { k0 with ty := 1, op := op }) ∧ 1 ≤ 1 := fun op h hop =>
    ⟨congrArg _ (State.operate_posted p h hop), Nat.le_refl 1⟩
  have hrows : ∀ r ∈ rows, exec r.1 s = .next (s.arrive p r.2) ∧ 1 ≤ r.2.ty := by
    simp only [rows, List.forall_mem_cons]
    refine ⟨⟨rfl, by decide⟩, ⟨rfl, by decide⟩, ⟨rfl, by decide⟩, ⟨rfl, by decide⟩, ⟨rfl, by decide⟩, ⟨rfl, by decide⟩, ⟨rfl, by decide⟩,
      ⟨rfl, by decide⟩, ⟨rfl, by decide⟩, ⟨rfl, by decide⟩, ⟨rfl, by decide⟩, ⟨rfl, by decide⟩, ⟨rfl, by decide⟩,
      posted 0 rfl (by decide), returning 1 rfl (by decide), returning 2 rfl (by decide), returning 3 rfl (by decide),
      returning 4 rfl (by decide), returning 5 rfl (by decide), posted 6 rfl (by decide), posted 7 rfl (by decide),
      returning 8 rfl (by decide), returning 9 rfl (by decide), returning 10 rfl (by decide), returning 11 rfl (by decide), ⟨rfl, by decide⟩,
      posted 13 rfl (by decide), List.forall_mem_nil _⟩
  intro r hr k t isUp
  obtain ⟨hexec, hpos⟩ := hrows r hr
  have ends : ∀ {u : State}, s.receive p k (fun x => x.consume p k) (fun x => if x.regionCheck k = 0 then (x.applyRequest p k).1 else x) = u →
      exec r.1 s = .next u.settle := fun h => hexec.trans (congrArg (fun u : State => (.next u.settle : Ans)) h)
  refine ⟨fun hdown => ends (State.receive_of_down hdown), fun hup hk => ends (State.receive_bad_header hup rfl hk),
    fun hup hk hm => ends (State.receive_foreign hup rfl hk hm), fun hup hk hm => ⟨fun hty => ?_, fun hty => ?_⟩⟩
  · have hunseq : sequenced k.ty = false := decide_eq_false (by omega)
    exact ends (State.receive_unsequenced hup rfl hk hm hunseq)
  · have hsequenced : sequenced k.ty = true := decide_eq_true ⟨hpos, hty⟩
    exact ⟨fun hseq => ends (State.receive_ahead hup rfl hk hm hsequenced hseq),
      fun hseq hreq => ends (State.receive_seen hup rfl hk hm hsequenced hseq hreq),
      fun hseq => ends (State.receive_full hup rfl hk hm hsequenced hseq),
      fun hseq hfull v w hbuf hreceipt => ends (State.receive_accepted hup rfl hk hm hsequenced hseq hfull hbuf hreceipt),
      fun hseq hfull => ends (State.receive_dropped hup rfl hk hm hsequenced hseq hfull)⟩

end Sys2Proof.Machine
end

section
/-!
Frames and the ports' own events (R286, R288, R289, R296, R298–R300, R304–R306, R308, R309, R392): what the bytes of a frame make of it, what a
PFC frame does, what a retransmission leaves of its port, when it and the other events of a port take place, and the settling of O35.
-/
namespace Sys2Proof.Machine

variable {s : State} {p : Fin 8}

/-! ## Frames (R288, R296) -/

theorem State.inspect_bad {p k : Nat} {f : RxFrame} (h : f.fecBad = true ∨ f.bytes.length < 64 ∨ 9216 < f.bytes.length) :
    s.inspect p k f = .drop .fcs := by
  refine if_pos ?_
  obtain hfec | hshort | hlong := h
  · exact .inl hfec
  · exact .inr (.inl hshort)
  · exact .inr (.inr (.inl hlong))

theorem execDiscardedFrame_down {f : RxFrame}
    (h : ¬ (s.fabric = true ∧ (s.port p).link = 2 ∧ bit (s.port p).subUp (s.rxSub p f.lane) = true)) :
    execDiscardedFrame p f s = .next s := by
  refine congrArg Host.Outcome.next (if_pos ?_)
  simpa [imp_iff_not_or, or_assoc] using h

/-- What a frame counted as received leaves at sub-port `k`, by what its bytes make of it. -/
def State.takeIn (s : State) (p k : Nat) : RxKind → State
  | .drop c => (s.count64 (Reg.at Reg.PORT_RX_LO p)).dropped p c
  | .packet q => s.arrive p q
  | .arp => (s.count64 (Reg.at Reg.PORT_RX_LO p)).arpReply p k
  | .solicit => (s.count64 (Reg.at Reg.PORT_RX_LO p)).advertise p k true

theorem execDiscardedFrame_up {f : RxFrame}
    (h : s.fabric = true ∧ (s.port p).link = 2 ∧ bit (s.port p).subUp (s.rxSub p f.lane) = true) :
    execDiscardedFrame p f s = .next (s.takeIn p (s.rxSub p f.lane) (s.inspect p (s.rxSub p f.lane) f)) := by
  obtain ⟨hfabric, hlink, hsub⟩ := h
  refine congrArg Host.Outcome.next ((if_neg ?_).trans ?_)
  · simp [hfabric, hlink, hsub]
  · cases s.inspect p (s.rxSub p f.lane) f <;> rfl

/-! ## PFC (R288, R309) -/

/-- Without the bit of priority 3, some other priority is named. -/
theorem and_others_ne_zero : ∀ pri : BitVec 8, pri.getLsbD 3 = false → pri ≠ 0#8 → pri &&& 0xF7#8 ≠ 0#8 := by decide

theorem State.fld_count_ne {off o n hi lo : Nat} (h : o ≠ off) : (s.count off n).fld o hi lo = s.fld o hi lo :=
  congrArg (bits · hi lo) (State.reg_setReg_ne s _ h)

theorem portCtl_ne_pfcRxCnt : Reg.at Reg.PORT_CTL p ≠ Reg.at Reg.PORT_PFC_RX_CNT p := by
  have hstride : Reg.stride Reg.PORT_CTL = Reg.stride Reg.PORT_PFC_RX_CNT := by decide
  rw [Reg.at, Reg.at, hstride]
  exact fun h => absurd (Nat.add_right_cancel h) (by decide)

section
variable {pri : BitVec 8} {xoff : Bool}

theorem execPfcFrame_down (h : ¬ (s.fabric = true ∧ (s.port p).link = 2)) : execPfcFrame p pri xoff s = .next s := by
  refine congrArg Host.Outcome.next (if_pos ?_)
  simpa [imp_iff_not_or] using h

variable (h : s.fabric = true ∧ (s.port p).link = 2)
include h

theorem execPfcFrame_up : execPfcFrame p pri xoff s =
    let t := if pri.getLsbD 3 then
        if s.fld (Reg.at Reg.PORT_CTL p) 9 9 = 1 then
          ((s.count (Reg.at Reg.PORT_PFC_RX_CNT p)).onPort p fun q => { q with paused3 := xoff }).drain p
        else s.count (Reg.at Reg.PORT_PFC_RX_CNT p)
      else s
    .next (if pri &&& 0xF7#8 ≠ 0#8 then (t.count (Reg.at Reg.PORT_PFC_OTHER_CNT p)).event (Reg.at Reg.PORT_STAT p) 17 else t) := by
  obtain ⟨hfabric, hlink⟩ := h
  refine congrArg Host.Outcome.next ((if_neg ?_).trans ?_)
  · simp [hfabric, hlink]
  · dsimp only
    rw [State.fld_count_ne portCtl_ne_pfcRxCnt]

theorem execPfcFrame_three : execPfcFrame p 0x08#8 xoff s = .next
    (if s.fld (Reg.at Reg.PORT_CTL p) 9 9 = 1 then
      ((s.count (Reg.at Reg.PORT_PFC_RX_CNT p)).onPort p fun q => { q with paused3 := xoff }).drain p
    else s.count (Reg.at Reg.PORT_PFC_RX_CNT p)) := execPfcFrame_up h

theorem execPfcFrame_none : execPfcFrame p 0#8 xoff s = .next s := execPfcFrame_up h

theorem execPfcFrame_others (h3 : pri.getLsbD 3 = false) (h0 : pri ≠ 0#8) : execPfcFrame p pri xoff s =
    .next ((s.count (Reg.at Reg.PORT_PFC_OTHER_CNT p)).event (Reg.at Reg.PORT_STAT p) 17) := by
  rw [execPfcFrame_up h, h3]
  exact congrArg Host.Outcome.next (if_pos (and_others_ne_zero pri h3 h0))

end

/-! ## A frame sent again (R300, R305) -/

section
variable {q : Port} {v4 : Bool} {k : Packet} {x : Sent} {n seq : Nat}

theorem Port.charge_tx : (q.charge v4 k).tx = q.tx := by
  unfold Port.charge
  dsimp only
  split <;> split <;> rfl

theorem Port.charge_nextSub : (q.charge v4 k).nextSub = (q.nextUp + 1) % 4 := by
  unfold Port.charge
  dsimp only
  split <;> split <;> rfl

theorem Port.charge_remainder :
    (q.charge v4 k).remainder = if 6 ≤ k.cls ∧ q.txTable ≠ [] then q.remainder - wireBytes v4 k else q.remainder := by
  unfold Port.charge
  simp only [apply_ite Port.remainder, ite_self, ge_iff_le, Bool.not_eq_true', List.isEmpty_eq_false_iff]

theorem Port.windowFits_iff : q.windowFits v4 k = true ↔ q.txTable ≠ [] ∧ (wireBytes v4 k : Int) ≤ q.remainder := by
  unfold Port.windowFits
  simp only [Bool.and_eq_true, Bool.not_eq_true', List.isEmpty_eq_false_iff, decide_eq_true_eq]

/-- A transmit entry whose frame `seq` is sent once more. -/
def TxEnt.retried (e : TxEnt) (seq : Nat) : TxEnt :=
  { e with unacked := e.unacked.map fun y => if y.pkt.seq = seq then { y with tries := y.tries + 1 } else y }

/-- A port that sends a frame of node `n` once more: charged for it, and its try counted. -/
def Port.resent (q : Port) (v4 : Bool) (n seq : Nat) (k : Packet) : Port := (q.charge v4 k).setTx n ((q.txEnt n).retried seq)

/-- The state from which the frame then goes. -/
def State.resent (s : State) (p n seq : Nat) (k : Packet) : State :=
  ((s.setPort p ((s.port p).resent s.v4 n seq k)).count Reg.POST_RETX_CNT).tally 4

/-- May a frame be sent again now (R300, log 105)? -/
def State.MayResend (s : State) (q : Port) (k : Packet) : Prop :=
  k.cls ≠ 6 ∨ s.mod = .held ∨ s.mod = .parked ∨ (q.txTable ≠ [] ∧ (wireBytes s.v4 k : Int) ≤ q.remainder)

theorem State.mayResend_iff : s.MayResend q k ↔ (s.sendEnv.held || k.cls != 6 || q.windowFits s.v4 k) = true := by
  simp only [State.MayResend, State.sendEnv, Bool.or_eq_true, beq_iff_eq, bne_iff_ne, Port.windowFits_iff, ne_eq, or_assoc]
  tauto

theorem State.resent_port {p : Nat} : (s.resent p n seq k).port p = (s.port p).resent s.v4 n seq k := State.port_setPort ..

theorem State.resent_reg {p : Nat} : (s.resent p n seq k).reg Reg.POST_RETX_CNT = Nat.min (s.reg Reg.POST_RETX_CNT + 1) 0xFFFFFFFF :=
  (State.reg_setReg ..).trans (Nat.mod_eq_of_lt (Nat.lt_succ_of_le (Nat.min_le_right ..)))

theorem Port.resent_unacked : ((q.resent v4 n seq k).txEnt n).unacked =
    (q.txEnt n).unacked.map fun y => if y.pkt.seq = seq then { y with tries := y.tries + 1 } else y := by
  rw [Port.resent, Port.txEnt_setTx, if_pos rfl, TxEnt.retried]

theorem Port.resent_txEnt_other {o : Nat} (h : o ≠ n) : (q.resent v4 n seq k).txEnt o = q.txEnt o := by
  rw [Port.resent, Port.txEnt_setTx, if_neg h, Port.txEnt, Port.charge_tx, Port.txEnt]

variable {dst : Fin 65536}

theorem execRetransmit_none (h : s.unackedOf p dst seq = none) : execRetransmit p dst seq s = .next s := by
  unfold execRetransmit
  rw [h]

theorem execRetransmit_waits (h : s.unackedOf p dst seq = some x) (hmay : ¬ s.MayResend (s.port p) x.pkt) :
    execRetransmit p dst seq s = .next s := by
  unfold execRetransmit
  rw [h]
  refine congrArg Host.Outcome.next (if_neg fun hc => hmay ?_)
  exact State.mayResend_iff.mpr (Bool.and_eq_true_iff.mp hc).2

theorem execRetransmit_sends (h : s.unackedOf p dst seq = some x) (hfabric : s.fabric = true) (hlink : (s.port p).link = 2)
    (hmay : s.MayResend (s.port p) x.pkt) :
    execRetransmit p dst seq s = .next ((s.resent p dst seq x.pkt).sendFrame p (s.port p).nextUp { x.pkt with retry := true } x.check) := by
  unfold execRetransmit
  rw [h]
  refine congrArg Host.Outcome.next (if_pos ?_)
  rw [hfabric, hlink, State.mayResend_iff.mp hmay]
  rfl

end

/-! ## The other events of a port (R298–R300, R304, R306, R308) -/

theorem Port.openWindow_of_entry {q : Port} {i : Nat} {e : Nat × Nat} (h : q.txTable[i]? = some e) :
    q.openWindow i = { q with window := i, remainder := e.2 + min q.remainder 0 } := by
  have hmin : min q.remainder 0 = if q.remainder < 0 then q.remainder else 0 := by
    split <;> omega
  unfold Port.openWindow
  rw [h, hmin]

section
variable {dst : Fin 65536}

theorem execAckTimer_not (h : s.fabric = false ∨ ((s.port p).rxEnt dst).since = 0) : execAckTimer p dst s = .next s := by
  refine congrArg Host.Outcome.next (if_neg ?_)
  obtain hoff | hnone := h
  · simp [hoff]
  · simp [hnone]

theorem execCreditTimer_not (h : s.fabric = false ∨ ((s.port p).rxEnt dst).riseAt = none) : execCreditTimer p dst s = .next s := by
  refine congrArg Host.Outcome.next (if_neg ?_)
  obtain hoff | hnone := h
  · simp [hoff]
  · simp [hnone]

theorem execPostUnreachable_marks (hfabric : s.fabric = true) (hmark : ((s.port p).txEnt dst).unreachable = false)
    (hlast : (((s.port p).txEnt dst).unacked.any fun x => decide (s.retryMax ≤ x.tries)) = true) :
    let t := (s.setPort p ((s.port p).setTx dst { (s.port p).txEnt dst with unreachable := true })).raise 0x6205 p
    execPostUnreachable p dst s = .next (if t.partner = some dst.val then t.loseMirror else t) :=
  congrArg Host.Outcome.next (if_pos (by rw [hfabric, hmark, hlast]; rfl))

theorem execPostUnreachable_not (h : ((s.port p).txEnt dst).unreachable = true ∨
    (((s.port p).txEnt dst).unacked.any fun x => decide (s.retryMax ≤ x.tries)) = false) : execPostUnreachable p dst s = .next s := by
  refine congrArg Host.Outcome.next (if_neg ?_)
  obtain hmarked | hfew := h
  · simp [hmarked]
  · simp [hfew]

end

/-- Settles O35 (lengths at check 1 as log 102 reads them, retransmissions in a hold as log 105): a frame by what `State.inspect` makes of it,
the events of a port case by case. -/
theorem portEvents : Obligations.PortEvents := by
  refine ⟨fun p f s => ⟨execDiscardedFrame_down, fun h => ?frames, fun code => rfl⟩, fun p pri xoff sub s => ?pfc, fun p n s => ?timers⟩
  case frames =>
    have taken : ∀ r, s.inspect p (s.rxSub p f.lane) f = r → exec (.discardedFrame p f) s = .next (s.takeIn p (s.rxSub p f.lane) r) :=
      fun r hr => hr ▸ execDiscardedFrame_up h
    exact ⟨fun hbad => taken _ (State.inspect_bad hbad), taken (.drop .fcs), fun hr => hr.elim (taken (.drop .address)) (taken (.drop .header)),
      taken (.drop .crc), taken (.drop .foreign), taken (.drop .icmp), taken (.drop .silent), fun q => taken (.packet q), taken .arp, taken .solicit⟩
  case pfc =>
    intro isUp mac ip6 ip4
    refine ⟨execPfcFrame_down, fun h h8 h1 => ?_, fun h h8 h0 => ?_, fun h h0 => ?_, fun h h3 h0 => execPfcFrame_others h h3 h0,
      fun hon hsub => ⟨?_, ?_⟩, fun hsub => ⟨?_, ?_⟩⟩
    · subst h8
      exact (execPfcFrame_three h).trans (congrArg _ (if_pos h1))
    · subst h8
      exact (execPfcFrame_three h).trans (congrArg _ (if_neg (by rw [h0]; decide)))
    · subst h0
      exact execPfcFrame_none h
    · exact congrArg Host.Outcome.next (if_pos (by rw [hon, bit, hsub]; rfl))
    · refine congrArg Host.Outcome.next (if_congr ?_ rfl rfl)
      rw [hon, bit, hsub]
      exact beq_iff_eq
    all_goals exact congrArg Host.Outcome.next (if_neg (by simp [bit, hsub]))
  case timers =>
    intro q rx tx put
    refine ⟨fun hf hs => ?_, fun hf hr => ?_, execAckTimer_not, execCreditTimer_not, fun seq x hx hf hl => ⟨fun hmay => ?_, fun h6 hh hp hr => ?_⟩,
      fun seq => execRetransmit_none, execPostUnreachable_marks, execPostUnreachable_not, fun e he hm => ?_, fun hm => ?_, fun hf => ?_⟩
    · exact congrArg Host.Outcome.next (if_pos (by rw [hf, decide_eq_true hs]; rfl))
    · exact congrArg Host.Outcome.next (if_pos (by rw [hf, hr]; rfl))
    · refine ⟨s.resent p n seq x.pkt, execRetransmit_sends hx hf hl hmay, ?_⟩
      rw [State.resent_port]
      exact ⟨Port.resent_unacked, fun o => Port.resent_txEnt_other, Port.charge_nextSub, Port.charge_remainder, State.resent_reg, rfl, rfl, rfl⟩
    · refine execRetransmit_waits hx fun hmay => ?_
      obtain h | h | h | ⟨htab, hfits⟩ := hmay
      · exact h h6
      · exact hh h
      · exact hp h
      · exact hr.elim htab fun hlt => absurd hfits (Int.not_le.mpr hlt)
    · refine congrArg Host.Outcome.next ((if_pos hm).trans (congrArg (State.drain · p) ?_))
      exact congrArg (s.setPort p) (Port.openWindow_of_entry he)
    · exact congrArg Host.Outcome.next (if_neg hm)
    · exact congrArg Host.Outcome.next (if_pos hf)

end Sys2Proof.Machine
end

section
/-!
The link of a port (R286, R313–R316, R318): when each step of its bring-up is taken, what an UP port sends first, and the settling of O36.
-/
namespace Sys2Proof.Machine

variable {s : State} {p : Fin 8}

/-! ## Bring-up (R314, R315) -/

/-- The advertisements of `n` sub-ports stand in the output list, the latest first. -/
theorem State.foldl_advertise {p n : Nat} : (List.range n).foldl (fun (t : State) k => t.advertise p k false) s =
    { s with out := ((List.range n).map fun k => Out.neighbour p k false (s.mac p k) (s.ip6 s.node p k)).reverse ++ s.out } := by
  induction n with
  | zero => rfl
  | succ n ih =>
    rw [List.range_succ, List.foldl_append, ih, List.map_append, List.reverse_append]
    rfl

theorem State.sendEsmc_up {p : Nat} (h : (s.port p).link = 2) :
    s.sendEsmc p = s.emit (.esmc p (if s.activeRef = 8 + p then 15 else s.quality)) := if_pos h

section
variable (hon : s.portsOn = true)
include hon

theorem execPortBringup_on (henabled : s.portEnabled p = true) (hlink : (s.port p).link = 0) : execPortBringup p s =
    .next (s.setPort p { s.port p with link := 1, step := 1, subUp := 0, retrain := false }) :=
  congrArg Host.Outcome.next (if_pos (by rw [hon, henabled, hlink]; rfl))

theorem execPortRetry_on (hlink : (s.port p).link = 4) : execPortRetry p s =
    .next (s.setPort p { s.port p with link := 1, step := 1, subUp := 0, retrain := false }) :=
  congrArg Host.Outcome.next (if_pos (by rw [hon, hlink]; rfl))

theorem execPortLinkLost_on (hlink : (s.port p).link = 2) : execPortLinkLost p s = .next
    ((((s.setPort p { s.port p with link := 3, step := 3, subUp := 0, retrain := true, lost := true }).count
      (Reg.at Reg.PORT_FLAP_CNT p)).tally 3).raise 0x6101 p) :=
  congrArg Host.Outcome.next (if_pos (by rw [hon, hlink]; rfl))

theorem execPortBringupStepDone_on (h0 : (s.port p).step ≠ 0) : execPortBringupStepDone p s = .next
    (if (s.port p).step < 5 then s.setPort p { s.port p with step := (s.port p).step + 1 }
    else
      let u := s.setPort p { s.port p with
        link := 2, step := 0, retrain := false, lost := false, subUp := 2 ^ s.subPorts p - 1, nextSub := 0 }
      ((List.range (s.subPorts p)).foldl (fun (t : State) k => t.advertise p k false) (u.sendEsmc p)).drain p) :=
  congrArg Host.Outcome.next (if_neg (by simp [hon, h0]))

/-- The fifth step done, the port is UP and tells it. -/
theorem execPortBringupStepDone_last (h5 : (s.port p).step = 5) : execPortBringupStepDone p s = .next
    (({ s.setPort p { s.port p with
        link := 2, step := 0, retrain := false, lost := false, subUp := 2 ^ s.subPorts p - 1, nextSub := 0 } with
      out := ((List.range (s.subPorts p)).map fun k => Out.neighbour p k false (s.mac p k) (s.ip6 s.node p k)).reverse
        ++ Out.esmc p (if s.activeRef = 8 + p.val then 15 else s.quality) :: s.out } : State).drain p) := by
  rw [execPortBringupStepDone_on hon (by omega), if_neg (by omega)]
  dsimp only
  rw [State.sendEsmc_up (by rw [State.port_setPort]), State.foldl_advertise]
  rfl

end

/-! ## Events that a port does not take -/

theorem execPortBringup_not (h : s.portsOn = false ∨ s.portEnabled p = false ∨ (s.port p).link ≠ 0) : execPortBringup p s = .next s := by
  refine congrArg Host.Outcome.next (if_neg ?_)
  obtain h | h | h := h <;> simp [h]

theorem execPortRetry_not (h : s.portsOn = false ∨ (s.port p).link ≠ 4) : execPortRetry p s = .next s := by
  refine congrArg Host.Outcome.next (if_neg ?_)
  obtain h | h := h <;> simp [h]

theorem execPortLinkLost_not (h : s.portsOn = false ∨ (s.port p).link ≠ 2) : execPortLinkLost p s = .next s := by
  refine congrArg Host.Outcome.next (if_neg ?_)
  obtain h | h := h <;> simp [h]

theorem execPortBringupStepDone_not (h : s.portsOn = false ∨ (s.port p).step = 0) : execPortBringupStepDone p s = .next s := by
  refine congrArg Host.Outcome.next (if_pos ?_)
  obtain h | h := h <;> simp [h]

/-! ## Steps past their limit (R315) and sub-ports (R316) -/

theorem execPortBringupFailed_on (h0 : (s.port p).step ≠ 0) : execPortBringupFailed p s = .next
    (if (s.port p).retrain then s.setPort p { s.port p with step := 1, retrain := false }
    else (s.setPort p { s.port p with link := 4, step := 0, subUp := 0 }).raise 0x6103 p) :=
  congrArg Host.Outcome.next (if_neg h0)

theorem State.subPorts_cases {p : Nat} : s.subPorts p = 1 ∨ s.subPorts p = 2 ∨ s.subPorts p = 4 := by
  unfold State.subPorts
  dsimp only
  split
  · exact .inr (.inl rfl)
  · split
    · exact .inr (.inr rfl)
    · exact .inl rfl

/-- Settles O36 (the ESMC message of a port that comes up as log 103 has it): each event of the link by when its port takes it. -/
theorem portLinks : Obligations.PortLinks := by
  intro p n s q put subs
  refine ⟨fun hon => ⟨execPortBringup_on hon, fun h => execPortBringup_not (.inr h), fun h1 h5 => ?step, execPortBringupStepDone_last hon,
      execPortRetry_on hon, fun h => execPortRetry_not (.inr h), execPortLinkLost_on hon⟩,
    fun hoff => ⟨execPortBringup_not (.inl hoff), execPortBringupStepDone_not (.inl hoff), execPortRetry_not (.inl hoff),
      execPortLinkLost_not (.inl hoff)⟩,
    fun h0 => ⟨execPortBringupStepDone_not (.inr h0), congrArg Host.Outcome.next (if_pos h0)⟩,
    fun h0 hagain => (execPortBringupFailed_on h0).trans (congrArg _ (if_pos hagain)),
    fun h0 hfirst => (execPortBringupFailed_on h0).trans (congrArg _ (if_neg (Bool.eq_false_iff.mp hfirst))),
    fun hdown => ⟨execPortLinkLost_not (.inr hdown), congrArg Host.Outcome.next (if_pos (.inr hdown))⟩,
    fun hlost => congrArg Host.Outcome.next (if_pos hlost), fun hkept => congrArg Host.Outcome.next (if_neg (Bool.eq_false_iff.mp hkept)),
    fun hup hn => congrArg Host.Outcome.next (if_neg (not_or.mpr ⟨hn, not_not_intro hup⟩)), State.subPorts_cases⟩
  case step => exact (execPortBringupStepDone_on hon (Nat.ne_of_gt h1)).trans (congrArg _ (if_pos h5))

end Sys2Proof.Machine
end

section
/-!
Dead letters (R233, R333, R336, R337): the tag table under the operations that free an entry and raise a fault, what each path of a dead letter
does, and the settling of O37.
-/
namespace Sys2Proof.Machine

variable {s t : State}

/-! ## The tag table under sending and faults (R7, R296, R402) -/

theorem State.Keeps.tags (h : s.Keeps t) : t.tags = s.tags := congrArg (·.tags) h

theorem State.drainN_tags {p : Nat} (n : Nat) : (State.drainN p n s).tags = s.tags := by
  induction n generalizing s with
  | zero => rfl
  | succ n ih =>
    rw [State.drainN]
    dsimp only
    split
    · rfl
    · exact ih

@[simp] theorem State.drain_tags {p : Nat} : (s.drain p).tags = s.tags := by
  unfold State.drain
  split
  · exact State.drainN_tags _
  · rfl

@[simp] theorem State.handOver_tags {p : Nat} {k : Packet} : (s.handOver p k).1.tags = s.tags := by
  unfold State.handOver
  dsimp only
  split
  · simp
  · split <;> simp

@[simp] theorem State.sendLetter_tags {ty dst release : Nat} {payload : List Byte} : (s.sendLetter ty dst release payload).1.tags = s.tags := by
  unfold State.sendLetter
  cases s.lowestUp 0 4 <;> cases s.lowestUp 4 4 <;> simp

@[simp] theorem State.sendAll_tags {ty release : Nat} {payload : List Byte} : (s.sendAll ty release payload).1.tags = s.tags := by
  unfold State.sendAll
  exact foldl_keeps (fun x : State × Bool => x.1.tags = s.tags) _ (fun _ _ h => by exact State.sendLetter_tags.trans h) _ _ rfl

@[simp] theorem State.sendRisk_tags {park : Bool} {cut cause : Nat} : (s.sendRisk park cut cause).1.tags = s.tags := by
  unfold State.sendRisk
  dsimp only
  split <;> simp

@[simp] theorem State.settleCut_tags {cause cut : Nat} : (s.settleCut cause cut).1.tags = s.tags := State.sendRisk_tags

@[simp] theorem State.discardStep_tags : s.discardStep.tags = s.tags := by
  unfold State.discardStep
  exact foldl_keeps (fun u : State => u.tags = s.tags) _ (fun _ _ h => by exact h) _ _ rfl

@[simp] theorem State.holdCause_tags {cause : Nat} : (s.holdCause cause).1.tags = s.tags := by
  unfold State.holdCause
  split
  · split <;> rfl
  · split
    · exact State.sendAll_tags
    · rfl

@[simp] theorem State.beginPark_tags {cause : Nat} : (s.beginPark cause).1.tags = s.tags := by
  unfold State.beginPark
  dsimp only
  split
  · rfl
  · split <;> simp

theorem State.enter_tags {ev : Nat} {before dest : Mod} : (s.enter ev before dest).tags = s.tags := State.enter_keeps.tags

@[simp] theorem State.transition_tags {ev : Nat} {dest : Mod} : (s.transition ev dest).tags = s.tags := by
  have hrecord : (s.record 2 0xFF 0 0 ev).tags = s.tags := (State.Keeps.record .refl).tags
  unfold State.transition
  split
  · split
    · split <;> simp [State.enter_tags, hrecord]
    · split <;> simp [State.enter_tags]
  · split <;> simp [State.enter_tags]

@[simp] theorem State.act_tags {code : Nat} (sev : Sev) : (s.act code sev).1.tags = s.tags := by
  cases sev with
  | notice => rfl
  | hold => exact State.holdCause_tags
  | park => exact State.beginPark_tags
  | stop =>
    unfold State.act
    dsimp only
    split <;> exact State.transition_tags

@[simp] theorem State.recordFault_tags {code inst ident : Nat} : (s.recordFault code inst ident).tags = s.tags :=
  (State.Keeps.recordFault .refl).tags

theorem State.note?_tags {code inst ident : Nat} (h : t.tags = s.tags) : ((s.note? code inst ident).getD t).tags = s.tags := by
  unfold State.note?
  cases s.gather with
  | none => exact h
  | some l => rfl

@[simp] theorem State.seqFull_tags {ok : Bool} : (s.seqFull ok).tags = s.tags := by
  unfold State.seqFull
  split
  · rfl
  · exact State.note?_tags (by simp)

/-- A fault has no entry of the tag table made or freed. -/
@[simp] theorem State.raise_tags {code inst ident : Nat} : (s.raise code inst ident).tags = s.tags := State.note?_tags (by simp)

/-! ## A freed entry (R320) -/

@[simp] theorem State.releaseIdent_tags {ident : Nat} : (s.releaseIdent ident).tags = s.tags := by
  unfold State.releaseIdent
  split <;> rfl

@[simp] theorem State.endPost_tags {cl k : Nat} {q : QEnt} : (s.endPost cl k q).tags = s.tags := by
  unfold State.endPost
  dsimp only
  split <;> simp [State.rangeFault, State.popQueue]

theorem State.freeTag_tags {d e : Nat} {x : Tag} : (s.freeTag d e x).tags = (s.setTag d e {}).tags := by
  unfold State.freeTag
  dsimp only
  split
  · rfl
  · split
    · split <;> simp
    · simp

@[simp] theorem State.tag_freeTag {d e : Nat} {x : Tag} : (s.freeTag d e x).tag d e = {} := by
  rw [State.tag, State.freeTag_tags]
  exact s.tag_setTag d e {}

/-! ## Bytes that never came (R337) -/

theorem Core.tileByte_writeSpace_tiles {c : Core} {a k poison : Nat} {data : List Byte} :
    (c.writeSpace 0 a data poison).tileByte false k = if a ≤ k ∧ k < a + data.length then byteAt data (k - a) else c.tileByte false k :=
  Core.tileByte_putBytes (acc := false) (p := false) (by simp)

theorem State.core_putRng_tiles {g a n poison : Nat} {data : List Byte} :
    (s.putRng (0, g, a, n) data poison).core g = (s.core g).writeSpace 0 a data poison := by
  rw [State.putRng, if_neg (by simp), State.core_onCore]

theorem State.tileByte_putDead {g a n i : Nat} (h : i < n) :
    ((s.putDead (0, g, a, n)).core g).tileByte false (a + i) = if (a + i) % 2 = 0 then 0xBD#8 else 0x7F#8 := by
  have hlen : (deadBytes a n).length = n := by rw [deadBytes, List.length_map, List.length_range]
  rw [State.putDead, State.core_putRng_tiles, Core.tileByte_writeSpace_tiles, hlen, if_pos (by omega), Nat.add_sub_cancel_left]
  exact byteAt_map h

/-- A LOAD that is not kept in pieces has its destination dead as soon as its banks are awake (R233). -/
theorem State.landLoad_dead {q : ReqDest} {data : List (Byte × Bool)} (hwhole : q.whole = false) (hawake : s.reachAll [destRng q] = (s, true)) :
    s.landLoad q data 1 = (s.putDead (destRng q), true) := by
  unfold State.landLoad
  rw [if_neg (by simp [hwhole]), hawake]
  rfl

/-! ## Each path of a dead letter -/

section
variable {d : Fin 4} {e : Fin 4096}

theorem execDeadLetter_not (h : (s.tag d e).used = false ∨ s.mod = .held) : execDeadLetter d e s = .next s :=
  congrArg Host.Outcome.next (if_pos (by simpa using h))

variable (hused : (s.tag d e).used = true) (hmod : s.mod ≠ .held)
include hused hmod

theorem deadLetter_taken : ¬ (!(s.tag d e).used || s.mod == .held) = true := by simp [hused, hmod]

theorem execDeadLetter_word (hload : (s.tag d e).dest.load = false) : execDeadLetter d e s = .next
    ((((s.count Reg.RMT_DEAD_CNT).destWord (s.tag d e).dest lostWord).freeTag d e (s.tag d e)).raise 0x6303 0) :=
  congrArg Host.Outcome.next ((if_neg (deadLetter_taken hused hmod)).trans (if_neg (Bool.eq_false_iff.mp hload)))

/-- A LOAD's entry is done once its data has landed; until then it stays. -/
theorem execDeadLetter_load (hload : (s.tag d e).dest.load = true) :
    let lands := s.landLoad (s.tag d e).dest (noData (s.tag d e).dest.size) 1
    execDeadLetter d e s = .next
      (if lands.2 then ((lands.1.count Reg.RMT_DEAD_CNT).freeTag d e (s.tag d e)).raise 0x6302 0 else lands.1) := by
  unfold execDeadLetter
  dsimp only
  rw [if_neg (deadLetter_taken hused hmod), if_pos hload]
  obtain ⟨u, ok⟩ := s.landLoad (s.tag d e).dest (noData (s.tag d e).dest.size) 1
  cases ok <;> rfl

end

/-- Settles O37: a LOAD by what its landing answers (`execDeadLetter_load`), a returning operation by its word (`execDeadLetter_word`); nothing that
follows the freeing of the entry makes another (`State.freeTag_tags`). -/
theorem deadLetters : Obligations.DeadLetters := by
  intro d e s x r ends lands
  refine ⟨execDeadLetter_not, fun hused hmod hload => ?_, execDeadLetter_word, fun _ => State.tag_freeTag,
    fun _ _ _ _ _ _ => State.tileByte_putDead⟩
  have landed : exec (.deadLetter d e) s = .next (if lands.2 then ends lands.1 else lands.1) := execDeadLetter_load hused hmod hload
  refine ⟨fun hwhole hawake => ?_, fun hok => landed.trans (congrArg _ (if_pos hok)),
    fun hwait => landed.trans (congrArg _ (if_neg (Bool.eq_false_iff.mp hwait)))⟩
  have hdead : lands = (s.putDead r, true) := State.landLoad_dead hwhole hawake
  rw [landed, hdead]
  rfl

end Sys2Proof.Machine
end

section
/-!
One step of the block and the state that reset leaves, and the settling of O57 and O60.
-/
namespace Sys2Proof.Machine

/-- Settles O57: the queue decides which branch of `step` runs. -/
theorem stepTakesFront : Obligations.StepTakesFront := by
  intro c r s hfront
  rw [step, hfront]

/-- The processors that no reset starts stand still: reset lists SEC on both hubs alone. -/
theorem proc_reset {p : Nat} (h0 : p ≠ 0) (h4 : p ≠ 4) : State.reset.proc p = {} :=
  Map.get_absent _ _ _ (by simp [State.reset, h0.symm, h4.symm])

/-- Settles O60: each field as `State.reset` gives it; the processors other than SEC by `proc_reset`. -/
theorem resetState : Obligations.ResetState := by
  refine ⟨rfl, rfl, rfl, rfl, rfl, rfl, rfl, fun p _ h0 h4 => ?_, rfl, rfl, rfl, rfl, fun _ => rfl, fun _ => rfl, rfl⟩
  rw [proc_reset h0 h4]

end Sys2Proof.Machine
end

section
/-!
The risk points of a value (R398): the point of the curve at or below it, the line from there, and the settling of O42.
-/
namespace Sys2Proof.Machine

/-- The point of a curve that a value is looked up from: the last one at or below it. -/
def pointBelow (x : Nat → Nat) (v : Nat) : Nat := ((List.range 8).filter fun j => decide (x j ≤ v)).foldl Nat.max 0

/-- The X of a curve's eight points ascend strictly. -/
def Ascending (x : Nat → Nat) : Prop := ∀ i j, i < j → j < 8 → x i < x j

variable {x y : Nat → Nat} {v i : Nat}

theorem foldl_max_points_upto : ∀ i < 7, ((List.range 8).filter fun j => decide (j ≤ i)).foldl Nat.max 0 = i := by decide

theorem Ascending.pointBelow_eq (h : Ascending x) (hi : i < 7) (hlow : x i ≤ v) (hhigh : v < x (i + 1)) : pointBelow x v = i := by
  refine Eq.trans (congrArg (·.foldl Nat.max 0) (List.filter_congr fun j hj => ?_)) (foldl_max_points_upto i hi)
  have hj8 : j < 8 := List.mem_range.mp hj
  refine decide_eq_decide.mpr ⟨fun hxj => ?_, fun hji => ?_⟩
  · by_contra hlt
    obtain hlast | hbeyond := Nat.eq_or_lt_of_le (Nat.not_le.mp hlt)
    · exact absurd hxj (Nat.not_le.mpr ((show i + 1 = j from hlast) ▸ hhigh))
    · exact absurd hxj (Nat.not_le.mpr (hhigh.trans (h _ _ hbeyond hj8)))
  · obtain rfl | hlt := Nat.eq_or_lt_of_le hji
    · exact hlow
    · exact (h _ _ hlt (by omega)).le.trans hlow

theorem curve_below (h : v ≤ x 0) : curve x y v = y 0 := if_pos h

theorem Ascending.curve_above (h : Ascending x) (hv : x 7 ≤ v) : curve x y v = y 7 := by
  have hfirst : ¬ v ≤ x 0 := Nat.not_le.mpr ((h 0 7 (by decide) (by decide)).trans_le hv)
  exact (if_neg hfirst).trans (if_pos hv)

/-- The points of a value on the line from point `i` to the next. -/
def linePoints (x y : Nat → Nat) (v i : Nat) : Nat :=
  ((y i : Int) + (((v - x i : Nat) : Int) * ((y (i + 1) : Int) - (y i : Int))).tdiv ((x (i + 1) - x i : Nat) : Int)).toNat

theorem curve_inside (hfirst : ¬ v ≤ x 0) (hlast : ¬ x 7 ≤ v) : curve x y v = linePoints x y v (pointBelow x v) :=
  (if_neg hfirst).trans (if_neg hlast)

theorem linePoints_start (h : v ≤ x i) : linePoints x y v i = y i := by
  rw [linePoints, Nat.sub_eq_zero_of_le h]
  simp

theorem Ascending.curve_segment (h : Ascending x) (hi : i < 7) (hlow : x i ≤ v) (hhigh : v < x (i + 1)) :
    curve x y v = linePoints x y v i := by
  have hlast : ¬ x 7 ≤ v := by
    obtain rfl | hlt := Nat.eq_or_lt_of_le (Nat.le_of_lt_succ hi)
    · exact Nat.not_le.mpr hhigh
    · exact Nat.not_le.mpr (hhigh.trans (h _ _ (by omega) (by decide)))
  by_cases hfirst : v ≤ x 0
  · obtain rfl | hpos := Nat.eq_zero_or_pos i
    · rw [curve_below hfirst, linePoints_start hfirst]
    · exact absurd (hlow.trans hfirst) (Nat.not_le.mpr (h 0 i hpos (by omega)))
  · rw [curve_inside hfirst hlast, h.pointBelow_eq hi hlow hhigh]

theorem Ascending.curve_point (h : Ascending x) (hi : i < 8) : curve x y (x i) = y i := by
  obtain rfl | hlt := Nat.eq_or_lt_of_le (Nat.le_of_lt_succ hi)
  · exact h.curve_above le_rfl
  · rw [h.curve_segment hlt le_rfl (h _ _ (Nat.lt_succ_self i) (by omega)), linePoints_start le_rfl]

theorem linePoints_rising (h : y i ≤ y (i + 1)) : linePoints x y v i = y i + (v - x i) * (y (i + 1) - y i) / (x (i + 1) - x i) := by
  rw [linePoints, ← Int.ofNat_sub h, ← Int.natCast_mul, ← Int.ofNat_tdiv, ← Int.natCast_add, Int.toNat_natCast]

theorem linePoints_falling (h : y (i + 1) ≤ y i) : linePoints x y v i = y i - (v - x i) * (y i - y (i + 1)) / (x (i + 1) - x i) := by
  rw [linePoints, ← Int.neg_sub, ← Int.ofNat_sub h, Int.mul_neg, Int.neg_tdiv, ← Int.natCast_mul, ← Int.ofNat_tdiv, ← Int.sub_eq_add_neg, Int.toNat_sub]

/-- Settles O42: within a segment by its line (`Ascending.curve_segment`), at its upper end by the next point. -/
theorem riskCurve : Obligations.RiskCurve := by
  intro x y hx
  have h : Ascending x := hx
  refine ⟨fun _ => curve_below, fun _ => h.curve_above, fun _ => h.curve_point, fun i v hi hlow hhigh => ?_⟩
  have hstep : 0 < x (i + 1) - x i := Nat.sub_pos_of_lt (h _ _ (Nat.lt_succ_self i) (by omega))
  obtain rfl | hlt := Nat.eq_or_lt_of_le hhigh
  · rw [h.curve_point (by omega), Nat.mul_div_cancel_left _ hstep, Nat.mul_div_cancel_left _ hstep]
    omega
  · rw [h.curve_segment hi hlow hlt]
    exact ⟨linePoints_rising, linePoints_falling⟩

end Sys2Proof.Machine
end

section
/-!
The supply, the brakes and the resets by pin (ch. 17): each event of the input, its switch and its limits, and the settling of O38.
-/
namespace Sys2Proof.Machine

variable {s : State}

theorem State.inputLost_off (h : s.mod = .off) : s.inputLost = s := if_pos h
theorem State.inputLost_on (h : s.mod ≠ .off) : s.inputLost = s.goOff := if_neg h

/-- The switch opens and a trip latches, before the loss of the input is felt (R505). -/
def State.switchOpen (s : State) (latched : Bool) : State :=
  s.onPwr fun p => { p with switch := false, ramping := false, latched := latched }

theorem State.openSwitch_unlatched : s.openSwitch false = (s.switchOpen s.pwr.latched).inputLost := by
  simp [State.openSwitch, State.switchOpen, State.onPwr]

theorem State.openSwitch_latched : s.openSwitch true = (s.switchOpen true).inputLost := by
  simp [State.openSwitch, State.switchOpen, State.onPwr]

/-- Each event that takes the input away, in OFF. -/
theorem inputLoss_off (h : s.mod = .off) :
    execSupplyReset s = .next s ∧ execOverVoltage s = .next (s.switchOpen s.pwr.latched)
    ∧ execShortCircuit s = .next (s.switchOpen true) ∧ execThermalTrip s = .next (s.switchOpen true) := by
  have hlatched : s.openSwitch true = s.switchOpen true := State.openSwitch_latched.trans (State.inputLost_off h)
  exact ⟨congrArg _ (State.inputLost_off h), congrArg _ (State.openSwitch_unlatched.trans (State.inputLost_off h)),
    congrArg _ hlatched, congrArg _ hlatched⟩

/-- The same with power: the module goes to OFF. -/
theorem inputLoss_on (h : s.mod ≠ .off) :
    execSupplyReset s = .next s.goOff ∧ execOverVoltage s = .next (s.switchOpen s.pwr.latched).goOff
    ∧ execShortCircuit s = .next (s.switchOpen true).goOff ∧ execThermalTrip s = .next (s.switchOpen true).goOff := by
  have hlatched : s.openSwitch true = (s.switchOpen true).goOff := State.openSwitch_latched.trans (State.inputLost_on h)
  exact ⟨congrArg _ (State.inputLost_on h), congrArg _ (State.openSwitch_unlatched.trans (State.inputLost_on h)),
    congrArg _ hlatched, congrArg _ hlatched⟩

/-- In the states of start-up and of a job RESET_N low is a stop (R521). -/
theorem not_quiet_of_working (h : s.mod = .boot ∨ s.mod = .ready ∨ s.mod = .running ∨ s.mod = .held ∨ s.mod = .parked) :
    ¬ (s.mod = .off ∨ s.mod = .standby ∨ s.mod = .fenced ∨ s.mod = .recovery) := by
  rcases h with h | h | h | h | h <;> simp [h]

theorem not_true_of_eq_false {b : Bool} (h : b = false) : ¬ b = true := Bool.eq_false_iff.mp h

/-- RESET_N rises with the module in `m`: BOOT from STANDBY, and from FENCED and RECOVERY after a low (R521). -/
theorem execResetNRelease_standby (h : s.mod = .standby) :
    execResetNRelease s = .next ((s.onPwr fun p => { p with resetLow := false }).enterBoot 0x02) := congrArg _ (if_pos h)

theorem execResetNRelease_shut (h : s.mod = .fenced ∨ s.mod = .recovery) (hlow : s.pwr.resetLow = true) :
    execResetNRelease s = .next ((s.onPwr fun p => { p with resetLow := false }).enterBoot 0x0D) := by
  have hstandby : ¬ s.mod = .standby := by rcases h with h | h <;> simp [h]
  exact congrArg _ ((if_neg hstandby).trans (if_pos ⟨hlow, h⟩))

theorem execResetNRelease_idle (h : s.mod ≠ .standby) (hlow : s.pwr.resetLow = false) :
    execResetNRelease s = .next (s.onPwr fun p => { p with resetLow := false }) :=
  congrArg _ ((if_neg h).trans (if_neg fun hshut => not_true_of_eq_false hlow hshut.1))

/-- Settles O38: each event by the branch of its operation that its condition takes. -/
theorem supply : Obligations.Supply := by
  intro strap s w p
  refine ⟨?closes, ?latched, ?valid, ?again, inputLoss_off, inputLoss_on, rfl, ?warns, ?known, ?guard, rfl, ?parks, ?parked, ?limits, rfl,
    ?low, ?stops, execResetNRelease_standby, execResetNRelease_shut, execResetNRelease_idle, ?rails, ?dark, rfl⟩
  case closes => exact fun hoff hfree => congrArg _ (if_pos ⟨hoff, congrArg not hfree⟩)
  case latched => exact fun hlatch => congrArg _ (if_neg fun h => Bool.false_ne_true ((congrArg not hlatch).symm.trans h.2))
  case valid => exact fun hoff hswitch hramp => congrArg _ (if_pos ⟨hoff, hswitch, hramp⟩)
  case again => exact fun hon => congrArg _ (if_neg fun h => hon h.1)
  case warns => exact fun hon hwarn => congrArg _ (if_neg (not_or.mpr ⟨hon, not_true_of_eq_false hwarn⟩))
  case known => exact fun h => congrArg _ (if_pos h)
  case guard => rfl
  case parks => exact fun hwarn hpark => congrArg _ (if_pos ⟨hwarn, congrArg not hpark⟩)
  case parked =>
    rintro (hwarn | hpark)
    · exact congrArg _ (if_neg fun h => not_true_of_eq_false hwarn h.1)
    · exact congrArg _ (if_neg fun h => Bool.false_ne_true ((congrArg not hpark).symm.trans h.2))
  case limits => exact fun hon hhalf => congrArg _ (if_neg (not_or.mpr ⟨hon, not_true_of_eq_false hhalf⟩))
  case low => exact fun h => congrArg _ (if_pos h)
  case stops => exact fun h => congrArg _ (if_neg (not_quiet_of_working h))
  case rails => exact fun h => congrArg _ (if_pos h)
  case dark => exact fun h => congrArg _ (if_neg (not_true_of_eq_false h))

end Sys2Proof.Machine
end

section
/-!
Temperatures, refresh, margin scans and the spine (R514–R518, R262–R269, R20): each event, and the settling of O39.
-/
namespace Sys2Proof.Machine

variable {s : State}

/-! ## Readings, warnings and limits -/

theorem State.tempWarning_new {b code : Nat} (h : s.fld Reg.THM_STAT b b = 0) : s.tempWarning b code =
    (((s.onPwr fun p => { p with tempWarn := true }).setFld Reg.THM_STAT b b 1).count Reg.THM_WARN_CNT).raise code 0 :=
  if_neg (by omega)

theorem State.tempWarning_known {b code : Nat} (h : s.fld Reg.THM_STAT b b = 1) : s.tempWarning b code = s := if_pos h

/-! ## Sensors and refresh -/

/-- A sensor is taken out of service (R518). -/
def State.sensorOut (s : State) (place : Fin 22) (sensor : Fin 13) : State :=
  let b := if place.val < 6 then 16 + place.val else place.val - 6
  ((s.onPwr fun p => { p with deadSensors := p.deadSensors ++ [(place.val, sensor.val)] }).setFld Reg.THM_FAILED b b 1).raise 0x9305 0

section
variable {place : Fin 22} {sensor : Fin 13}

theorem execSensorFault_new (hon : s.powered = true) (hnew : (place.val, sensor.val) ∉ s.pwr.deadSensors) (hplace : sensor.val < sensorsAt place) :
    execSensorFault place sensor s = .next
      (if 6 ≤ place.val ∧ (s.sensorOut place sensor).stackBlind (place - 6) then (s.sensorOut place sensor).refreshDouble (place - 6)
       else s.sensorOut place sensor) := by
  have hgoes : ¬ (!s.powered || decide (sensorsAt place ≤ sensor) || s.pwr.deadSensors.contains (place.val, sensor.val)) = true := by
    simp [hon, hnew, hplace]
  exact congrArg Host.Outcome.next (if_neg hgoes)

theorem execSensorFault_known (h : (place.val, sensor.val) ∈ s.pwr.deadSensors) : execSensorFault place sensor s = .next s := by
  have hstays : (!s.powered || decide (sensorsAt place ≤ sensor) || s.pwr.deadSensors.contains (place.val, sensor.val)) = true := by
    simp [h]
  exact congrArg Host.Outcome.next (if_pos hstays)

end

theorem State.refreshDouble_first {k : Nat} (h : s.fld (Reg.at Reg.BOND_REFRESH (k / 4)) (k % 4) (k % 4) = 0) :
    s.refreshDouble k = (s.setDoubled k 1).raise 0x4305 (k / 4) := if_neg (by simp [State.doubled, h])

theorem State.refreshDouble_again {k : Nat} (h : s.fld (Reg.at Reg.BOND_REFRESH (k / 4)) (k % 4) (k % 4) = 1) :
    s.refreshDouble k = s := if_pos (by simp [State.doubled, h])

/-! ## Margin scans -/

section
variable {d : Nat} {v : BitVec 32}

/-- `BOND.MARGIN_CTL` as a write leaves it. -/
def State.marginKept (s : State) (d : Nat) (v : BitVec 32) : State := s.setReg (Reg.at Reg.BOND_MARGIN_CTL d) (Nat.land v.toNat 0x3F03)

theorem State.marginWrite_idle (h : v.getLsbD 31 = false) : s.marginWrite d v.toNat = s.marginKept d v := if_pos (congrArg not h)

theorem State.marginWrite_start (h : v.getLsbD 31 = true) : s.marginWrite d v.toNat =
    if s.mod = .ready ∧ (s.die d).margin.isNone then
      let c := (s.marginKept d v).fld (Reg.at Reg.BOND_CH_SEL d) 7 0
      (((s.marginKept d v).discardImage.setFld (Reg.at Reg.BOND_MARGIN_RES d) 31 31 0).onDie d fun x =>
        { x with margin := some (c, bits v.toNat 1 0, Nat.max 1 (bits v.toNat 13 8)) }).scanFill ((d * 256 + c) * 2 ^ 30)
    else (s.marginKept d v).event (Reg.at Reg.BOND_STAT d) 20 :=
  if_neg (not_true_of_eq_false (congrArg not h))

theorem State.marginResult_eq {c kind lo hi : Nat} : s.marginResult d c kind lo hi =
    (s.setReg (Reg.at Reg.BOND_MARGIN_RES d) (2 ^ 31 + (if marginLeast kind ≤ lo ∧ marginLeast kind ≤ hi then 2 ^ 30 else 0) + kind * 2 ^ 28
      + c * 2 ^ 16 + lo * 2 ^ 8 + hi)).record 8 0xFF 0 0 (d * 256 + c) := by
  simp only [State.marginResult, marginPass, Bool.and_eq_true, decide_eq_true_eq]

theorem execMarginScanDone_running {d : Fin 4} {low high c kind range : Nat} (h : (s.die d).margin = some (c, kind, range)) :
    execMarginScanDone d low high s = .next
      ((s.onDie d fun x => { x with margin := none }).marginResult d c kind (Nat.min low range) (Nat.min high range)) := by
  rw [execMarginScanDone, h]

theorem execMarginScanDone_none {d : Fin 4} {low high : Nat} (h : (s.die d).margin = none) : execMarginScanDone d low high s = .next s := by
  rw [execMarginScanDone, h]

end

/-! ## Poisoned flits of the spine -/

theorem State.poisonFlit_store {pl : Place} (h4 : pl.space ≠ 4) (h5 : pl.space ≠ 5) : s.poisonFlit pl = s.poisonPlace pl 8 :=
  (if_neg h4).trans (if_neg h5)

theorem poisonLast_concat {off : Nat} {l : List Packet} {k : Packet} (h : off < k.payload.length) :
    poisonLast off (l ++ [k]) = l ++ [{ k with pmap := some (Nat.lor (k.pmap.getD 0) (2 ^ (off / 64))) }] := by
  simp [poisonLast, Packet.poisonAt, h]

theorem State.poisonFlit_queued {pl : Place} {l : List Packet} {k : Packet} (h4 : pl.space = 4) (hcls : pl.unit / 8 = 3)
    (hq : (s.port (pl.unit % 8)).q3 = l ++ [k]) (hlen : pl.addr < k.payload.length) : ((s.poisonFlit pl).port (pl.unit % 8)).q3 =
      l ++ [{ k with pmap := some (Nat.lor (k.pmap.getD 0) (2 ^ (pl.addr / 64))) }] := by
  have hport : (s.poisonFlit pl).port (pl.unit % 8) = (s.port (pl.unit % 8)).poisonQueued (pl.unit / 8) pl.addr := by
    rw [State.poisonFlit, if_pos h4, State.onPort, State.port_setPort]
  rw [hport, hcls, ← poisonLast_concat hlen, ← hq]
  rfl

theorem State.poisonFlit_set {pl : Place} {j : SetJob} (h5 : pl.space = 5) (hj : s.res.snap = some j) :
    (s.poisonFlit pl).res.snap = some { j with set := { j.set with poison := Map.set false j.set.poison (pl.addr / 64) true } } := by
  rw [State.poisonFlit, if_neg (by omega), if_pos h5, hj]
  rfl

/-! ## The statement -/

/-- Settles O39: each event by its operation's branch; the poisoned places by `State.poisonFlit_store`, `_queued` and `_set`. -/
theorem temperatures : Obligations.Temperatures := by
  constructor
  · intro d k temp s hon w die stack warn limit
    refine ⟨fun h => ?junctionNew, fun h => ?junctionKnown, fun h => ?stackNew, fun h => ?stackKnown, ?junctionLimit, ?stackLimit, rfl,
      ?sensorNew, fun _ _ => execSensorFault_known⟩
    case junctionNew => exact congrArg _ ((if_pos hon).trans (State.tempWarning_new h))
    case junctionKnown => exact congrArg _ ((if_pos hon).trans (State.tempWarning_known h))
    case stackNew => exact congrArg _ ((if_pos hon).trans (State.tempWarning_new h))
    case stackKnown => exact congrArg _ ((if_pos hon).trans (State.tempWarning_known h))
    case junctionLimit => exact congrArg _ (if_pos hon)
    case stackLimit => exact congrArg _ (if_pos hon)
    case sensorNew =>
      intro place sensor hnew hplace b t
      have hfault := execSensorFault_new hon hnew hplace
      refine ⟨fun hdie => hfault.trans (congrArg _ (if_neg fun h => ?_)), fun hstack hsees => hfault.trans (congrArg _ (if_neg fun h => ?_)),
        fun hstack hblind => hfault.trans (congrArg _ (if_pos ⟨hstack, hblind⟩))⟩
      · exact absurd h.1 (Nat.not_le.mpr hdie)
      · exact not_true_of_eq_false hsees h.2
  · intro k g d v pl s hon bit' refresh
    refine ⟨fun h => ?doubles, fun h => ?doubled, fun h => ?normal, fun h => ?blind, ?clean, ?corrected, ⟨?idle, ?refused, ?starts⟩, ?ends, ?none,
      ?flit, State.poisonFlit_store, ?queued, ?set, rfl, rfl, ?pulse⟩
    case doubles => exact congrArg _ ((if_pos hon).trans (State.refreshDouble_first h))
    case doubled => exact congrArg _ ((if_pos hon).trans (State.refreshDouble_again h))
    case normal => exact congrArg _ (if_neg (not_true_of_eq_false h))
    case blind => exact congrArg _ (if_pos h)
    case clean => exact congrArg _ (if_neg fun h => Bool.false_ne_true h.2)
    case corrected => exact congrArg _ (if_pos ⟨hon, rfl⟩)
    case idle => exact fun h => congrArg _ (State.marginWrite_idle h)
    case refused => exact fun h hm => congrArg _ ((State.marginWrite_start h).trans (if_neg fun hready => hm hready.1))
    case starts => exact fun h hm hnone => congrArg _ ((State.marginWrite_start h).trans (if_pos ⟨hm, Option.isNone_iff_eq_none.mpr hnone⟩))
    case ends => exact fun _ _ _ _ _ h => (execMarginScanDone_running h).trans (congrArg _ State.marginResult_eq)
    case none => exact execMarginScanDone_none
    case flit => exact congrArg _ (if_pos hon)
    case queued => exact fun h4 _ _ hq hcls hlen => State.poisonFlit_queued h4 hcls hq hlen
    case set => exact fun h5 j hj => ⟨_, State.poisonFlit_set h5 hj, Map.get_set_same ..⟩
    case pulse => exact congrArg _ (if_congr (and_iff_right hon) rfl rfl)

end Sys2Proof.Machine
end

section
/-!
Firmware processors (ch. 14): their restarts, the services of control cores, and the settling of O49.
-/
namespace Sys2Proof.Machine

variable {s : State} {p kind cause : Nat}

/-! ## Restarts (R424–R427) -/

theorem State.up_iff : s.up p = true ↔ (s.proc p).st = .running ∨ (s.proc p).st = .standby := by
  simp [State.up]

/-- A restart begins: the copy of the image decides whether the processor restarts or is held stopped (R424, R425). -/
def State.restartBegins (s : State) (p kind cause : Nat) : State :=
  let r := s.proc p
  let ok := s.copyChecks p kind (cause == 4)
  (((s.setProc p { r with st := if ok then .restarting else .heldStopped, restarts := Nat.min 255 (r.restarts + 1), cause := cause
                          begun := s.now :: r.recent s.now, overrun := false, comp := none }).record 3 p 0 0 cause).tally 10).raiseAll
    ((restartNotice kind, 0) :: if ok then [] else [(0x800C, 0)])

/-- A fifth restart within 60 s holds the processor stopped (R427). -/
def State.restartStorm (s : State) (p : Nat) : State := (s.setProc p { s.proc p with st := .heldStopped }).raise 0x8006 0

theorem State.restart_up (hk : kindOf p = some kind) (h : s.up p = true) :
    s.restart p cause = if 4 ≤ ((s.proc p).recent s.now).length then s.restartStorm p else s.restartBegins p kind cause := by
  unfold State.restart
  rw [hk]
  obtain hst | hst := State.up_iff.mp h <;> simp [hst, State.restartBegins, State.restartStorm]

section
variable (hk : kindOf p = some kind) (h : s.up p = true)
include hk h

theorem execWatchdogExpiry_up : execWatchdogExpiry p s = .next
    (if 4 ≤ ((s.proc p).recent s.now).length then s.restartStorm p else s.restartBegins p kind 1) :=
  congrArg _ ((if_pos h).trans (State.restart_up hk h))

theorem execPrivateMemoryUncorrectable_up : execPrivateMemoryUncorrectable p s = .next
    (if 4 ≤ ((s.proc p).recent s.now).length then s.restartStorm p else s.restartBegins p kind 3) :=
  congrArg _ ((if_pos h).trans (State.restart_up hk h))

/-- A violation outside a restartable compartment, or a second one while the compartment restarts (R421). -/
theorem execProtectionViolation_restarts {restartable : Bool}
    (hbusy : restartable = false ∨ ∃ t, (s.proc p).comp = some t ∧ s.now < t + ms 1) : execProtectionViolation p restartable s = .next
      (if 4 ≤ ((s.proc p).recent s.now).length then s.restartStorm p else s.restartBegins p kind 2) := by
  unfold execProtectionViolation
  rw [if_pos h, State.restart_up hk h]
  obtain rfl | ⟨t, hcomp, hlt⟩ := hbusy
  · simp
  · have hagain : (s.proc p).comp.any (fun t => decide (s.now < t + ms 1)) = true := by
      rw [hcomp, Option.any_some]
      exact decide_eq_true hlt
    simp [hagain]

/-- `FW.RESTART` with GO restarts the processor it names (R440). -/
theorem State.fwRestart_up {v : Nat} (hgo : bit v 31 = true) (hname : bits v 7 0 = p) (hfenced : s.mod ≠ .fenced) (hrecovery : s.mod ≠ .recovery) :
    s.fwRestart v = if 4 ≤ ((s.proc p).recent s.now).length then s.restartStorm p else s.restartBegins p kind 5 := by
  rw [State.fwRestart, if_pos ⟨hgo, hfenced, hrecovery⟩, hname, State.restart_up hk h]

end

theorem execProtectionViolation_compartment (h : s.up p = true) (hcomp : (s.proc p).comp = none) : execProtectionViolation p true s =
    .next ((s.setProc p { s.proc p with comp := some s.now }).raise 0x8007 0) := by
  have halone : (true && !((s.proc p).comp.any fun t => decide (s.now < t + ms 1))) = true := by simp [hcomp]
  exact congrArg _ ((if_pos h).trans (if_pos halone))

theorem bits_low_byte (v : Nat) : bits v 7 0 = v % 256 := by simp [bits]

theorem State.fwRestart_ignored {v : Nat} (h : bit v 31 = false ∨ s.mod = .fenced ∨ s.mod = .recovery) : s.fwRestart v = s := by
  refine if_neg fun ⟨hgo, hfenced, hrecovery⟩ => ?_
  obtain h | h | h := h
  · exact not_true_of_eq_false h hgo
  · exact hfenced h
  · exact hrecovery h

theorem execRestartOverrun_first (h : (s.proc p).st = .restarting) (ho : (s.proc p).overrun = false) :
    execRestartOverrun p s = .next ((s.setProc p { s.proc p with overrun := true }).raise 0x8005 0) :=
  congrArg _ (if_pos ⟨h, congrArg not ho⟩)

theorem execRestartOverrun_not (h : (s.proc p).st ≠ .restarting ∨ (s.proc p).overrun = true) : execRestartOverrun p s = .next s := by
  refine congrArg _ (if_neg fun ⟨hst, hover⟩ => ?_)
  obtain h | h := h
  · exact h hst
  · exact Bool.false_ne_true ((congrArg not h).symm.trans hover)

/-! ## The end of a restart (R425) -/

/-- The processor runs, or stands by where its hub is not in charge. -/
def State.restartDone (s : State) (p : Nat) : State :=
  let r := s.proc p
  s.setProc p { r with st := s.role p, lastMs := Nat.min 0xFFF ((s.now - r.begun.headD s.now) / ms 1), overrun := false }

theorem execRestartComplete_idle {n : Nat} (h : (s.proc p).st ≠ .restarting) : execRestartComplete p n s = .next s := congrArg _ (if_neg h)

theorem execRestartComplete_mismatch {n : Nat} (hk : kindOf p = some kind) (h : (s.proc p).st = .restarting)
    (hcopy : s.copyChecks p kind ((s.proc p).cause == 4) = false) :
    execRestartComplete p n s = .next ((s.setProc p { s.proc p with st := .heldStopped }).raise 0x800C 0) := by
  refine congrArg _ ((if_pos h).trans ?_)
  rw [hk]
  exact if_pos (congrArg not hcopy)

/-- A hub's processor with no record to discard. -/
theorem execRestartComplete_done (hk : kindOf p = some kind) (hctl : kind ≠ 3) (h : (s.proc p).st = .restarting)
    (hcopy : s.copyChecks p kind ((s.proc p).cause == 4) = true) : execRestartComplete p 0 s = .next
      (if (s.proc p).cause = 4 || (s.restartDone p).updateAwaits p then (s.restartDone p).updateNext (some p) else s.restartDone p) := by
  refine congrArg _ ((if_pos h).trans ?_)
  rw [hk]
  refine (if_neg (not_true_of_eq_false (congrArg not hcopy))).trans ?_
  dsimp only
  rw [if_neg hctl]
  rfl

/-! ## Services of control cores (R419, R438, R439) -/

section
variable {g n : Nat}

theorem execLog_none (h : (s.core g).service n = none) : execLog g n s = .next s := by rw [execLog, h]

theorem execTrace_none (h : (s.core g).service n = none) : execTrace g n s = .next s := by rw [execTrace, h]

variable {v : Service} (hv : (s.core g).service n = some v) (hup : s.ctlUp g = true)
include hv hup

theorem execLog_served (hkind : v.kind = 1) : execLog g n s =
    .next ((s.record 5 (ctlOf g) 0 0 0 (s.fillPayload 5 v.arg)).onCore g fun c => c.serve n 0) := by
  rw [execLog, hv]
  exact congrArg _ (if_pos ⟨hkind, hup⟩)

theorem execTrace_served (hkind : v.kind = 2) : execTrace g n s = .next
    (if s.traceOn (fieldAt v.arg 0 2 % 4096) then
      (s.record 4 (ctlOf g) 0 0 (fieldAt v.arg 0 2 % 4096) (s.fillPayload 4 (slice v.arg 8 8))).onCore g fun c => c.serve n 1
     else s.onCore g fun c => c.serve n 0) := by
  rw [execTrace, hv]
  exact congrArg _ (if_pos ⟨hkind, hup⟩)

end

/-- Settles O49: a processor that is up restarts by `State.restart_up`, whatever asks for it; the rest by the cases of each event. -/
theorem processors : Obligations.Processors := by
  intro p kind s hk r put recent begins tooMany answers
  refine ⟨fun hup => ⟨execWatchdogExpiry_up hk hup, execPrivateMemoryUncorrectable_up hk hup, execProtectionViolation_restarts hk hup (.inl rfl)⟩,
    execProtectionViolation_compartment, fun hup at' hcomp hlt => execProtectionViolation_restarts hk hup (.inr ⟨at', hcomp, hlt⟩),
    fun hdown => ?down, fun v hgo hname hfenced hrecovery hup => ?asked, fun v h => congrArg _ (State.fwRestart_ignored h),
    execRestartOverrun_first, execRestartOverrun_not, fun h _ => execRestartComplete_idle h,
    fun hst hctl hcopy => execRestartComplete_done hk hctl hst hcopy, fun hst hcopy _ => execRestartComplete_mismatch hk hst hcopy,
    fun g n => ⟨fun hnone => ⟨execLog_none hnone, execTrace_none hnone⟩, fun v hv hup => ⟨execLog_served hv hup, fun hkind => ?traced⟩⟩⟩
  case down =>
    have hstays := not_true_of_eq_false hdown
    exact ⟨congrArg _ (if_neg hstays), congrArg _ (if_neg hstays), fun _ => congrArg _ (if_neg hstays)⟩
  case asked => exact congrArg _ (State.fwRestart_up hk hup hgo ((bits_low_byte _).trans hname) hfenced hrecovery)
  case traced =>
    have htrace := execTrace_served hv hup hkind
    exact ⟨fun hon => htrace.trans (congrArg _ (if_pos hon)), fun hoff => htrace.trans (congrArg _ (if_neg (not_true_of_eq_false hoff)))⟩

end Sys2Proof.Machine
end

section
/-!
Registers (R10, R11, R451): what the bits of a register are after a field of it is written, what a status event and a sequence clear leave
of it, and the settling of O53.
-/
namespace Sys2Proof.Machine

variable {s : State} {off hi lo x i : Nat}

/-! ## The bits of a field -/

theorem testBit_bits {v : Nat} : (bits v hi lo).testBit i = (decide (i < hi + 1 - lo) && v.testBit (lo + i)) := by
  rw [bits, Nat.testBit_mod_two_pow, Nat.testBit_div_two_pow, Nat.add_comm i]

/-- A number with a field replaced, as the bits above the field, the field and the bits below it. -/
theorem putBits_eq {v : Nat} :
    putBits v hi lo x = 2 ^ lo * (2 ^ (hi + 1 - lo) * (v / 2 ^ lo / 2 ^ (hi + 1 - lo)) + x % 2 ^ (hi + 1 - lo)) + v % 2 ^ lo := by
  unfold putBits bits
  generalize 2 ^ (hi + 1 - lo) = k
  generalize 2 ^ lo = w
  have hv : v = (w * (k * (v / w / k)) + v % w) + v / w % k * w := by
    conv_lhs => rw [← Nat.div_add_mod v w, ← Nat.div_add_mod (v / w) k]
    ring
  have hcut : v - v / w % k * w = w * (k * (v / w / k)) + v % w := Nat.sub_eq_of_eq_add hv
  rw [hcut]
  ring

theorem testBit_putBits {v : Nat} (hlo : lo ≤ hi) :
    (putBits v hi lo x).testBit i = if lo ≤ i ∧ i ≤ hi then x.testBit (i - lo) else v.testBit i := by
  rw [putBits_eq, Nat.testBit_two_pow_mul_add _ (Nat.mod_lt _ (Nat.two_pow_pos lo)),
    Nat.testBit_two_pow_mul_add _ (Nat.mod_lt _ (Nat.two_pow_pos _)), Nat.testBit_mod_two_pow, Nat.testBit_mod_two_pow,
    Nat.testBit_div_two_pow, Nat.testBit_div_two_pow]
  by_cases hbelow : i < lo
  · simp [hbelow, Nat.not_le.mpr hbelow]
  by_cases hin : i ≤ hi
  · simp [hbelow, Nat.not_lt.mp hbelow, hin, show i - lo < hi + 1 - lo by omega]
  · simp [hbelow, hin, show ¬ i - lo < hi + 1 - lo by omega, show i - lo - (hi + 1 - lo) + (hi + 1 - lo) + lo = i by omega]

/-- A field apart from the one written keeps its bits. -/
theorem bits_putBits_of_disjoint {v h l : Nat} (hlo : lo ≤ hi) (hapart : h < lo ∨ hi < l) : bits (putBits v hi lo x) h l = bits v h l := by
  refine Nat.eq_of_testBit_eq fun i => ?_
  rw [testBit_bits, testBit_bits, testBit_putBits hlo]
  by_cases hi' : i < h + 1 - l
  · rw [if_neg (by omega)]
  · simp [hi']

theorem bits_eq_zero_of_lt {v h l : Nat} (hempty : h < l) : bits v h l = 0 := by
  rw [bits, Nat.sub_eq_zero_of_le hempty, Nat.pow_zero, Nat.mod_one]

theorem State.fld_setFld_of_disjoint {h l : Nat} (hlo : lo ≤ hi) (hapart : h < lo ∨ hi < l) (hh : h < 32) :
    (s.setFld off hi lo x).fld off h l = s.fld off h l := by
  by_cases hl : l ≤ h
  · rw [State.fld, State.setFld, State.reg_setReg, bits_mod_two_pow_32 hl hh, bits_putBits_of_disjoint hlo hapart, State.fld]
  · rw [State.fld, State.fld, bits_eq_zero_of_lt (Nat.not_le.mp hl), bits_eq_zero_of_lt (Nat.not_le.mp hl)]

theorem State.reg_setFld_ne {p : Nat} (h : p ≠ off) : (s.setFld off hi lo x).reg p = s.reg p := State.reg_setReg_ne s _ h

/-! ## Counters and status events -/

theorem State.reg_count {n : Nat} : (s.count off n).reg off = Nat.min (s.reg off + n) 0xFFFFFFFF := by
  rw [State.count, State.reg_setReg]
  exact Nat.mod_eq_of_lt (Nat.lt_of_le_of_lt (Nat.min_le_right ..) (by decide))

/-- An event writes SEQ and its bit; the number it keeps is no part of a register. -/
theorem State.reg_event {b p : Nat} : (s.event off b).reg p = ((s.setFld off 31 24 ((s.fld off 31 24 + 1) % 256)).setFld off b b 1).reg p := by
  simp only [State.reg, State.event]

theorem State.fld_event {b p h l : Nat} :
    (s.event off b).fld p h l = ((s.setFld off 31 24 ((s.fld off 31 24 + 1) % 256)).setFld off b b 1).fld p h l := by
  simp only [State.fld, State.reg_event]

theorem State.reg_event_ne {b p : Nat} (h : p ≠ off) : (s.event off b).reg p = s.reg p := by
  rw [State.reg_event, State.reg_setFld_ne h, State.reg_setFld_ne h]

/-- An event leaves every field that holds neither its bit nor SEQ. -/
theorem State.fld_event_of_disjoint {b h l : Nat} (hseq : h < 24) (hbit : h < b ∨ b < l) : (s.event off b).fld off h l = s.fld off h l := by
  rw [State.fld_event, State.fld_setFld_of_disjoint (Nat.le_refl b) hbit (by omega),
    State.fld_setFld_of_disjoint (by decide) (.inl hseq) (by omega)]

theorem State.fld_event_seq {b : Nat} (hb : b < 24) : (s.event off b).fld off 31 24 = (s.fld off 31 24 + 1) % 256 := by
  rw [State.fld_event, State.fld_setFld_of_disjoint (Nat.le_refl b) (.inr hb) (by decide), State.fld_setFld (by decide) (by decide)]
  exact Nat.mod_mod ..

theorem State.fld_event_bit {b : Nat} (hb : b < 24) : (s.event off b).fld off b b = 1 := by
  rw [State.fld_event, State.fld_setFld (Nat.le_refl b) (by omega), Nat.add_sub_cancel_left]
  rfl

theorem State.seqOf_event {b : Nat} : Map.get 0 (s.event off b).seqOf (off * 32 + b) = (s.fld off 31 24 + 1) % 256 := by
  simp only [State.event]
  exact Map.get_set_same ..

/-! ## Sequence clears -/

/-- The bits below `n` of a register that `c` picks, cleared one after the other. -/
def State.clearBits (s : State) (off n : Nat) (c : Nat → Bool) : State :=
  (List.range n).foldl (fun t j => if c j then t.setFld off j j 0 else t) s

section
variable {n : Nat} {c : Nat → Bool}

theorem State.clearBits_succ : s.clearBits off (n + 1) c = if c n then (s.clearBits off n c).setFld off n n 0 else s.clearBits off n c := by
  rw [State.clearBits, List.range_succ, List.foldl_append]
  rfl

theorem State.reg_clearBits_ne {p : Nat} (h : p ≠ off) : (s.clearBits off n c).reg p = s.reg p := by
  refine foldl_keeps (fun t : State => t.reg p = s.reg p) _ (fun t j ht => ?_) _ _ rfl
  split
  · exact (State.reg_setFld_ne h).trans ht
  · exact ht

theorem State.clearBits_regs : s.clearBits off n c = { s with regs := (s.clearBits off n c).regs } := by
  refine foldl_keeps (fun t : State => t = { s with regs := t.regs }) _ (fun t j ht => ?_) _ _ rfl
  split
  · rw [ht]
    rfl
  · exact ht

/-- A field above the bits cleared keeps its value. -/
theorem State.fld_clearBits_above {h l : Nat} (hl : n ≤ l) (hh : h < 32) : (s.clearBits off n c).fld off h l = s.fld off h l := by
  induction n with
  | zero => rfl
  | succ n ih =>
    rw [State.clearBits_succ]
    split
    · rw [State.fld_setFld_of_disjoint (Nat.le_refl n) (.inr hl) hh, ih (by omega)]
    · exact ih (by omega)

theorem State.fld_clearBits {j : Nat} (hj : j < n) (hn : n ≤ 32) :
    (s.clearBits off n c).fld off j j = if c j then 0 else s.fld off j j := by
  induction n with
  | zero => exact absurd hj (Nat.not_lt_zero j)
  | succ n ih =>
    rw [State.clearBits_succ]
    by_cases hlast : j = n
    · subst hlast
      split
      · rw [State.fld_setFld (Nat.le_refl j) (by omega), Nat.zero_mod]
      · exact State.fld_clearBits_above (Nat.le_refl j) (by omega)
    · have hkept := ih (by omega) (by omega)
      split
      · rw [State.fld_setFld_of_disjoint (Nat.le_refl n) (by omega) (by omega), hkept]
      · exact hkept

end

theorem clears_iff {w q : Nat} : clears w q = true ↔ (w + 256 - q % 256) % 256 ≤ 127 := decide_eq_true_iff

/-- The bits of `off` that a write of `v` clears (R451). -/
def State.clearing (s : State) (d : RegDef) (off v j : Nat) : Bool :=
  bit d.sqc j && bit v j && clears (v / 2 ^ 24 % 256) (Map.get 0 s.seqOf (off * 32 + j))

section
variable {a : BitVec 26} {v : BitVec 32} {d : RegDef}

theorem seqField_eq : v.toNat / 2 ^ 24 % 256 = v.toNat / 2 ^ 24 := Nat.mod_eq_of_lt (Nat.div_lt_of_lt_mul v.isLt)

theorem State.clearing_iff {j : Nat} : s.clearing d off v.toNat j = true ↔
    d.sqc.testBit j = true ∧ v.getLsbD j = true ∧ (v.toNat / 2 ^ 24 + 256 - Map.get 0 s.seqOf (off * 32 + j) % 256) % 256 ≤ 127 := by
  rw [State.clearing, Bool.and_eq_true, Bool.and_eq_true, clears_iff, seqField_eq, and_assoc]
  rfl

theorem execSequenceClear_none (h : Reg.find? a.toNat = none) : execSequenceClear a v s = .next s := by
  rw [execSequenceClear, h]

variable (hfind : Reg.find? a.toNat = some d) (hsqc : d.sqc ≠ 0) (hep : s.endpointUp = true) (hblock : s.blockUp a.toNat = true)
include hfind hsqc hep hblock

theorem execSequenceClear_taken : execSequenceClear a v s = .next (s.sequenceClear a.toNat v.toNat) := by
  rw [execSequenceClear, hfind]
  simp [hep, hblock, hsqc]

theorem execSequenceClear_clears (hnew : clears (s.fld a.toNat 31 24) (v.toNat / 2 ^ 24 % 256) = true) :
    execSequenceClear a v s = .next ((s.clearBits a.toNat 24 (s.clearing d a.toNat v.toNat)).dropErrLocs a.toNat) := by
  rw [execSequenceClear_taken hfind hsqc hep hblock, State.sequenceClear, hfind]
  exact congrArg _ (if_neg (not_true_of_eq_false (congrArg not hnew)))

theorem execSequenceClear_behind (hold : clears (s.fld a.toNat 31 24) (v.toNat / 2 ^ 24 % 256) = false) : execSequenceClear a v s = .next s := by
  rw [execSequenceClear_taken hfind hsqc hep hblock, State.sequenceClear, hfind]
  exact congrArg _ (if_pos (congrArg not hold))

end

/-- Settles O53: fields by the bits of `putBits`, a sequence clear by `State.clearBits`. -/
theorem registers : Obligations.Registers := by
  refine ⟨fun s o hi lo x hlo hhi hx => ⟨?reads, fun h l hapart hh => State.fld_setFld_of_disjoint hlo hapart hh, fun p => State.reg_setFld_ne⟩,
    fun s o n => ⟨State.reg_count, fun p hp => State.reg_setReg_ne s _ hp⟩, fun s o b hb => ?event, fun s off v d hfind hsqc hep hblock => ?clear,
    fun s off v hnone => execSequenceClear_none hnone⟩
  case reads => rw [State.fld_setFld hlo hhi, Nat.mod_eq_of_lt hx]
  case event =>
    exact ⟨State.fld_event_seq hb, State.fld_event_bit hb, fun j hj hne => State.fld_event_of_disjoint hj (by omega),
      State.seqOf_event.trans (State.fld_event_seq hb).symm, fun p hp => State.reg_event_ne hp⟩
  case clear =>
    have hnewer : clears (s.fld off.toNat 31 24) (v.toNat / 2 ^ 24 % 256) = true ↔
        (s.fld off.toNat 31 24 + 256 - v.toNat / 2 ^ 24) % 256 ≤ 127 := by rw [clears_iff, Nat.mod_mod, seqField_eq]
    refine ⟨fun hnew => ⟨s.clearBits off.toNat 24 (s.clearing d off.toNat v.toNat),
      execSequenceClear_clears hfind hsqc hep hblock (hnewer.mpr hnew), fun j hj => ?_, State.fld_clearBits_above (by decide) (by decide),
      State.clearBits_regs, fun p hp => State.reg_clearBits_ne hp⟩, fun hold => ?_⟩
    · rw [State.fld_clearBits hj (by decide)]
      exact if_congr State.clearing_iff rfl rfl
    · exact execSequenceClear_behind hfind hsqc hep hblock (Bool.eq_false_iff.mpr fun h => Nat.not_le.mpr hold (hnewer.mp h))

end Sys2Proof.Machine
end

section
/-!
The two hubs and the host (ch. 14, 15): the lease, H1 taking charge, the presence of the host, and the settling of O50.
-/
namespace Sys2Proof.Machine

variable {s : State}

/-! ## The lease (R429–R433) -/

theorem execLeaseWordReceive_none (h : s.fw.leaseSent = none) : execLeaseWordReceive s = .next s := by
  rw [execLeaseWordReceive, h]

section
variable {seq sch : Nat} (h : s.fw.leaseSent = some (seq, sch))
include h

theorem execLeaseWordReceive_refused (hcharge : s.fw.h1Charge = true) :
    execLeaseWordReceive s = .next (({ s with fw := { s.fw with leaseSent := none } } : State).raise 0x800A 0) := by
  rw [execLeaseWordReceive, h]
  exact congrArg _ (if_pos hcharge)

theorem execLeaseWordReceive_taken (hcharge : s.fw.h1Charge = false) : execLeaseWordReceive s = .next { s with fw := { s.fw with
    leaseSent := none, maxGap := Nat.max s.fw.maxGap (Nat.min 255 ((s.now - s.fw.lastWord) / ms 1)), lastWord := s.now, h0SchLast := sch
    expired := false, leaseAck := some seq } } := by
  rw [execLeaseWordReceive, h]
  exact congrArg _ (if_neg (not_true_of_eq_false hcharge))

end

theorem execLeaseAckReceive_some {seq : Nat} (h : s.fw.leaseAck = some seq) :
    execLeaseAckReceive s = .next { s with fw := { s.fw with leaseAck := none, unanswered := false } } := by
  rw [execLeaseAckReceive, h]

theorem execLeaseAckReceive_none (h : s.fw.leaseAck = none) : execLeaseAckReceive s = .next s := by
  rw [execLeaseAckReceive, h]

/-- The lease is no longer watched with H1 in charge, nor without power. -/
def State.unleased (s : State) : Bool := s.fw.h1Charge || !s.powered

theorem State.unleased_of (h : s.fw.h1Charge = true ∨ s.powered = false) : s.unleased = true := by
  obtain h | h := h <;> simp [State.unleased, h]

theorem State.unleased_eq_false (hcharge : s.fw.h1Charge = false) (hpower : s.powered = true) : s.unleased = false := by
  simp [State.unleased, hcharge, hpower]

theorem State.leaseOut_unleased (h : s.unleased = true) : s.leaseOut = s := if_pos h

theorem State.leaseOut_leased (h : s.unleased = false) : s.leaseOut =
    if s.fw.haW then ({ s with fw := { s.fw with expired := true } } : State).raise 0x8008 0
    else ({ s with fw := { s.fw with expired := true } } : State).takeover := if_neg (not_true_of_eq_false h)

theorem execLeaseUnanswered_unleased (h : s.unleased = true) : execLeaseUnanswered s = .next s := congrArg _ (if_pos h)

theorem execLeaseUnanswered_leased (h : s.unleased = false) :
    execLeaseUnanswered s = .next (({ s with fw := { s.fw with unanswered := true } } : State).raise (if s.fw.haE then 0x8008 else 0x800B) 0) := by
  refine congrArg _ ((if_neg (not_true_of_eq_false h)).trans ?_)
  dsimp only
  split <;> rfl

theorem execBootLeaseTimeout_unleased (h : s.unleased = true) : execBootLeaseTimeout s = .next s := by
  rw [execBootLeaseTimeout, State.leaseOut_unleased h, ite_self]

/-! ## H1 takes charge (R430, R433) -/

/-- H0's processors stop and H1's standby processors run. -/
def State.h1Runs (s : State) : State :=
  [0, 1, 2].foldl (fun t k =>
    let t := t.setProc k { t.proc k with st := .stopped }
    if (t.proc (4 + k)).st = .standby then t.setProc (4 + k) { t.proc (4 + k) with st := .running } else t) s

theorem State.h1Runs_eq : ∃ f : Fw, s.h1Runs = { s with fw := f } := by
  refine foldl_keeps (fun t : State => ∃ f : Fw, t = { s with fw := f }) _ (fun t k ⟨f, ht⟩ => ?_) _ s ⟨s.fw, rfl⟩
  subst ht
  dsimp only
  split <;> exact ⟨_, rfl⟩

/-- H1 in charge, the daybook ring lost and its own master the reference. -/
def State.h1Leads (s : State) : State := ({ s.h1Runs with fw := { s.h1Runs.fw with h1Charge := true, day := [] } } : State).rebase

/-- H1's first record, and its DPLL in HOLDOVER. -/
def State.h1Announces (s : State) : State := ((s.h1Leads.record 7 0xFF 0 0 0).setFld (dpllStat 1) 2 0 3).event (dpllStat 1) 18

theorem State.h1Announces_keeps : s.h1Leads.Keeps s.h1Announces := .statusEvent (.setFld (.record .refl))

theorem State.takeover_eq : s.takeover =
    (s.h1Announces.raiseAll ((0x8009, 0) :: if s.h1Announces.bestRef = none then [(0x7002, 1)] else [])).dpllObey := by
  have hnotice : (if s.h1Announces.bestRef.isNone then [(0x7002, 1)] else []) = if s.h1Announces.bestRef = none then [(0x7002, 1)] else [] :=
    if_congr Option.isNone_iff_eq_none rfl rfl
  rw [← hnotice]
  with_reducible
    unfold State.takeover State.h1Announces State.h1Leads State.h1Runs
    rfl

/-- With H1 in charge a record takes a number but no place in the ring. -/
theorem State.record_day_h1 {kind source fault severity ident : Nat} {payload : Option (List Byte)} (h : s.fw.h1Charge = true) :
    (s.record kind source fault severity ident payload).fw.day = s.fw.day := by
  rw [State.record, if_pos h]

/-- The reference's own skew becomes 0. -/
theorem State.rebase_skew : Map.get 0 s.rebase.time.skew 5 = 0 := by
  rw [State.rebase]
  dsimp only
  split
  · assumption
  · rw [Map.tab, Map.get_block, if_neg (by decide)]

theorem State.rebase_pm : s.rebase.time.pm = (s.time.pm + Map.get 0 s.time.skew 5) % 2 ^ 64 := rfl
theorem State.rebase_cores : s.rebase.cores = s.cores := rfl
theorem State.rebase_bond : s.rebase.bond = s.bond := rfl

theorem State.h1Leads_pm : s.h1Leads.time.pm = (s.time.pm + Map.get 0 s.time.skew 5) % 2 ^ 64 := by
  obtain ⟨f, hruns⟩ := s.h1Runs_eq
  rw [State.h1Leads, State.rebase_pm, hruns]

theorem State.h1Leads_cores : s.h1Leads.cores = s.cores := by
  obtain ⟨f, hruns⟩ := s.h1Runs_eq
  rw [State.h1Leads, State.rebase_cores, hruns]

theorem State.h1Leads_bond : s.h1Leads.bond = s.bond := by
  obtain ⟨f, hruns⟩ := s.h1Runs_eq
  rw [State.h1Leads, State.rebase_bond, hruns]

theorem State.h1Announces_day : s.h1Announces.fw.day = [] := by
  rw [State.h1Announces, State.event_fw, State.setFld_fw, State.record_day_h1 rfl]
  rfl

theorem State.h1Announces_holdover : s.h1Announces.fld (dpllStat 1) 2 0 = 3 := by
  rw [State.h1Announces, State.fld_event_of_disjoint (by decide) (by decide), State.fld_setFld (by decide) (by decide)]
  rfl

/-! ## The host's presence (R434–R436, R464, R465) -/

theorem execHostAbsent_watched (htimer : s.fw.hostTimer = true) (habsent : s.fw.absent = false) (hcharge : s.fw.h1Charge = false) :
    execHostAbsent s = .next (((({ s with fw := { s.fw with absent := true, hostParkDue := true } } : State).record 6 0xFF 0 0 0).raise
      0xB101 0).withdrawOutbound) := by
  have hwatched : (s.fw.hostTimer && !s.fw.absent && !s.fw.h1Charge) = true := by simp [htimer, habsent, hcharge]
  rw [execHostAbsent, if_pos hwatched]

theorem execHostAbsent_unwatched (h : s.fw.hostTimer = false ∨ s.fw.absent = true ∨ s.fw.h1Charge = true) : execHostAbsent s = .next s := by
  have hunwatched : (s.fw.hostTimer && !s.fw.absent && !s.fw.h1Charge) = false := by
    obtain h | h | h := h <;> simp [h]
  exact congrArg _ (if_neg (not_true_of_eq_false hunwatched))

theorem execHeartbeatBump_present (h : s.fw.absent = false) :
    execHeartbeatBump s = .next { s with fw := { s.fw with hostTimer := true } } := congrArg _ (if_neg (not_true_of_eq_false h))

theorem execHeartbeatBump_back (h : s.fw.absent = true) : execHeartbeatBump s = .next
    ((({ s with fw := { s.fw with hostTimer := true, absent := false, hostParkDue := false } } : State).record 6 0xFF 0 0 0).safeSet) :=
  congrArg _ (if_pos h)

/-- The safe set grants the first three features alone (R465). -/
theorem State.reg_safeSet {k : Nat} (hk : k < 8) : s.safeSet.reg (Reg.HOST_FEAT_GRANT0 + 4 * k) = if k = 0 then 7 else 0 := by
  have hread := State.reg_setRegs (s := s) (off := fun k => Reg.HOST_FEAT_GRANT0 + 4 * k) (val := fun k => if k = 0 then 7 else 0) hk
    fun j _ h => by omega
  rw [State.safeSet, hread]
  split <;> rfl

/-- Settles O50: the lease by the branch each half takes, the takeover by `State.h1Announces`. -/
theorem leaseAndHost : Obligations.LeaseAndHost := by
  intro s f put
  refine ⟨fun hpower => congrArg _ (if_pos hpower), execLeaseWordReceive_none,
    fun seq sch hsent => ⟨execLeaseWordReceive_refused hsent, execLeaseWordReceive_taken hsent⟩, fun seq => execLeaseAckReceive_some,
    execLeaseAckReceive_none, fun h => ?unleased, fun hcharge hpower => ?leased, ?takeover, execHostAbsent_watched, execHostAbsent_unwatched,
    execHeartbeatBump_present, execHeartbeatBump_back, fun k => State.reg_safeSet⟩
  case unleased =>
    have hun := State.unleased_of h
    exact ⟨congrArg _ (State.leaseOut_unleased hun), execLeaseUnanswered_unleased hun, execBootLeaseTimeout_unleased hun⟩
  case leased =>
    have hleased := State.unleased_eq_false hcharge hpower
    exact ⟨congrArg _ (State.leaseOut_leased hleased), execLeaseUnanswered_leased hleased,
      fun hboot hnone => congrArg _ (if_pos ⟨hboot, hnone⟩), fun hboot => congrArg _ (if_neg fun h => hboot h.1)⟩
  case takeover =>
    have hkeeps : s.h1Leads.Keeps s.h1Announces := State.h1Announces_keeps
    refine ⟨s.h1Announces, State.takeover_eq, congrArg (·.fw.h1Charge) hkeeps, State.h1Announces_day, State.h1Announces_holdover, ?_, ?_,
      hkeeps.cores.trans State.h1Leads_cores, hkeeps.bond.trans State.h1Leads_bond⟩
    · rw [hkeeps.time, State.h1Leads_pm]
    · rw [hkeeps.time]
      exact State.rebase_skew

end Sys2Proof.Machine
end

section
/-!
The tiers of state (ch. 12): mirrors, snapshots, drains, the repair table, and the settling of O47.
-/
namespace Sys2Proof.Machine

variable {s : State}

/-! ## Mirrors and snapshots (R388, R393, R395) -/

theorem execMirrorComplete_none (h : s.res.mirror = none) : execMirrorComplete s = .next s := by
  rw [execMirrorComplete, h]

/-- A mirror whose packets are covered by ACKs ends: its set stands at the partner, with its header. -/
def State.mirrorDone (s : State) (r : SetRec) : State :=
  ((((({ s with res := { s.res with mirror := none, partner := r } } : State).sendPart r 0 0x1000 0).1).dropHolds 0).setFld
    Reg.RES_STAT 0 0 0).count Reg.RES_MIRROR_CNT

section
variable {j : SetJob} {dst : Nat} (hj : s.res.mirror = some j) (hdst : s.partner = some dst)
include hj hdst

theorem execMirrorComplete_acked (hacked : j.sent.all (s.acked dst) = true) (hrec : j.record = none) :
    execMirrorComplete s = .next (s.mirrorDone j.set) := by
  rw [execMirrorComplete, hj, hdst]
  dsimp only
  rw [if_pos hacked, hrec]
  rfl

theorem execMirrorComplete_waits (hacked : j.sent.all (s.acked dst) = false) : execMirrorComplete s = .next s := by
  rw [execMirrorComplete, hj, hdst]
  exact congrArg _ (if_neg (not_true_of_eq_false hacked))

end

theorem execSnapshotComplete_idle (h : s.pwr.guard = true ∨ s.res.snap = none) : execSnapshotComplete s = .next s := by
  rw [execSnapshotComplete]
  obtain h | h := h
  · rw [if_pos h]
  · rw [h, ite_self]

/-- The claims of a snapshot end and it is counted. -/
def State.snapEnds (s : State) : State :=
  ((({ s with res := { s.res with snap := none } } : State).dropHolds 1).setFld Reg.RES_STAT 1 1 0).count Reg.RES_SNAP_CNT

/-- The set stands in its slot, and its bytes are counted. -/
def State.snapStands (s : State) (n : Nat) (r : SetRec) : State :=
  (s.setFlashSlot n { r with bad := (s.flashSlot n).bad }).flashWrote r.cost

theorem execSnapshotComplete_done {j : SetJob} (hguard : s.pwr.guard = false) (hj : s.res.snap = some j) (hrec : j.record = none) :
    execSnapshotComplete s = .next ((s.snapEnds.snapStands j.slot j.set).appendCounter 2
      ((s.snapEnds.snapStands j.slot j.set).res.wearTotal / gbyte)) := by
  rw [execSnapshotComplete, if_neg (not_true_of_eq_false hguard), hj]
  dsimp only
  rw [hrec]
  rfl

/-! ## The repair table (R486, R487) -/

theorem execRepairAppend_empty (h : s.boot.repairQueue = []) : execRepairAppend s = .next s := by
  rw [execRepairAppend, h]

section
variable {e : List Byte} {rest : List (List Byte)} (hq : s.boot.repairQueue = e :: rest)
include hq

theorem execRepairAppend_held (h : s.secUp = false ∨ s.pwr.guard = true) : execRepairAppend s = .next s := by
  have hheld : (!s.secUp || s.pwr.guard) = true := by obtain h | h := h <;> simp [h]
  rw [execRepairAppend, hq]
  exact congrArg _ (if_pos hheld)

variable (hsec : s.secUp = true) (hguard : s.pwr.guard = false)
include hsec hguard

theorem execRepairAppend_goes : execRepairAppend s = .next
    (if s.fw.h1Charge ∨ 32768 ≤ s.repairEnd then ({ s with boot := { s.boot with repairQueue := rest } } : State).raise 0xA007 0
     else ({ s with boot := { s.boot with repairQueue := rest } } : State).flashWrite (Area.repair + 16 * s.repairEnd) e) := by
  have hgoes : ¬ (!s.secUp || s.pwr.guard) = true := by simp [hsec, hguard]
  rw [execRepairAppend, hq]
  exact congrArg _ (if_neg hgoes)

end

/-! ## Drains (R396, R462) -/

theorem execDrainPart_idle {ok : Bool} (h : s.mayDrain = false) : execDrainPart ok s = .next s := congrArg _ (if_pos (congrArg not h))

theorem execDrainPart_goes {ok : Bool} {n addr len slot : Nat} {rest : List (Nat × Nat)} (hmay : s.mayDrain = true) (hset : s.drainSet = some n)
    (hbuf : s.host.drainBufs = (addr, len) :: rest) (hslot : s.emptyOutbound = some slot)
    (hmore : (s.flashSlot n).drainOff < (s.flashSlot n).size) : execDrainPart ok s = .next
      (if ok then s.drainTo n slot addr len
       else ({ s with host := { s.host with drainBufs := rest, drainCount := s.host.drainCount + 1 } } : State).raise 0xB304 0) := by
  rw [execDrainPart, if_neg (not_true_of_eq_false (congrArg not hmay)), hset, hbuf, hslot]
  exact congrArg _ (if_neg (Nat.not_le.mpr hmore))

theorem execDrainPartAnswer_idle {slot : Fin 16} (h : s.schUp = false ∨ s.slotState false slot ≠ 3) : execDrainPartAnswer slot s = .next s := by
  obtain h | h := h
  · exact congrArg _ (if_neg (not_true_of_eq_false h))
  · rw [execDrainPartAnswer, State.collectOutbound, if_neg h, ite_self]

/-- Settles O47: each operation of a tier by the branch its condition takes. -/
theorem stateSets : Obligations.StateSets := by
  intro s
  refine ⟨execMirrorComplete_none, fun j dst => execMirrorComplete_acked, fun j dst => execMirrorComplete_waits, execSnapshotComplete_idle,
    fun j hguard hj hrec => execSnapshotComplete_done hguard hj hrec, rfl, fun slot => rfl, execRepairAppend_empty, fun e rest hq => ?repair,
    fun ok => execDrainPart_idle, fun n addr len rest slot hmay hset hbuf hslot hmore =>
      ⟨execDrainPart_goes hmay hset hbuf hslot hmore, execDrainPart_goes hmay hset hbuf hslot hmore⟩,
    fun slot => execDrainPartAnswer_idle, fun slot hsch hanswered => congrArg _ ((if_pos hsch).trans (if_pos hanswered))⟩
  case repair =>
    refine ⟨execRepairAppend_held hq, fun hsec hguard hcharge hroom => (execRepairAppend_goes hq hsec hguard).trans (congrArg _ (if_neg ?_)),
      fun hsec hguard hnot => (execRepairAppend_goes hq hsec hguard).trans (congrArg _ (if_pos hnot))⟩
    simp [hcharge, hroom]

end Sys2Proof.Machine
end

section
/-!
Claims of the release table (ch. 11): EXPECT, the release of a claim, the end of a stall, and the settling of O6.
-/
namespace Sys2Proof.Machine

variable {s : State}

/-! ## EXPECT (R354, R357) -/

theorem execExpect_issues {g : Fin 384} {space : Fin 4} {entry : Fin 1024} (hi : s.Issues g 0) (hspace : space.val < 3)
    (hvalid : ((s.core g).relEnt entry).valid = true) (heq : ((s.core g).relEnt entry).space = space.val) :
    execExpect g space entry s = .next (s.expectUse g entry).settle := by
  have hlegal : ¬ (space.val = 3 ∨ (!((s.core g).relEnt entry).valid) = true ∨ ((s.core g).relEnt entry).space ≠ space.val) := by
    simp [hvalid, heq, Nat.ne_of_lt hspace]
  refine (if_neg hlegal).trans (congrArg _ ?_)
  dsimp only
  rw [if_neg (not_true_of_eq_false (congrArg not hi.live)), hi.frozen]

section
variable {g e : Nat}

/-- The claim that use `n` of an entry makes: its destination, which moves by the entry's stride. -/
def Core.useClaim (c : Core) (e n : Nat) : Claim :=
  let r := c.relEnt e
  let u := spaceUnits r.space (r.dest + n * r.dstride) r.bytes
  { ident := c.nextClaim, src := 0, space := r.space, first := u.2.1, units := u.2.2, entry := e, addr := r.dest + n * r.dstride, bytes := r.bytes }

theorem State.expectUse_left (h : (s.core g).usesOf e < ((s.core g).relEnt e).uses) : s.expectUse g e = s.setCore g { s.core g with
    uses := Map.set 0 (s.core g).uses e ((s.core g).usesOf e + 1)
    claims := (s.core g).claims ++ [{ (s.core g).useClaim e ((s.core g).usesOf e) with
      rel := s.releaseOf ((s.core g).relEnt e) ((s.core g).usesOf e), async := ((s.core g).relEnt e).async }]
    nextClaim := (s.core g).nextClaim + 1 } := by
  rw [State.expectUse, State.takeUse, if_pos h]
  simp only [State.onCore, State.core_setCore, State.setCore_setCore]
  rfl

theorem State.expectUse_spent (h : ((s.core g).relEnt e).uses ≤ (s.core g).usesOf e) : s.expectUse g e = (s.setCore g { s.core g with
    claims := (s.core g).claims ++ [{ (s.core g).useClaim e ((s.core g).relEnt e).uses with never := true }]
    nextClaim := (s.core g).nextClaim + 1 }).raise 0x7307 0 := by
  rw [State.expectUse, State.takeUse, if_neg (Nat.not_lt.mpr h)]
  rfl

end

/-! ## The release of a claim (R354) -/

section
variable {g : Fin 384} {ident : Nat}

theorem execClaimRelease_not_due (h : ∀ k ∈ (s.core g).claims, k.ident = ident → s.claimDue k = false) :
    execClaimRelease g ident s = .next s := by
  refine congrArg _ (if_neg fun hany => ?_)
  obtain ⟨k, hk, hdue⟩ := List.any_eq_true.mp hany
  rw [Bool.and_eq_true, beq_iff_eq] at hdue
  exact not_true_of_eq_false (h k hk hdue.1) hdue.2

theorem execClaimRelease_due {k : Claim} (hk : k ∈ (s.core g).claims) (hid : k.ident = ident) (hdue : s.claimDue k = true) (hcalm : s.Calm) :
    execClaimRelease g ident s = .next (s.setCore g ((s.core g).unclaim ident)) := by
  refine congrArg _ ((if_pos (List.any_eq_true.mpr ⟨k, hk, ?_⟩)).trans hcalm.setCore.settle)
  rw [Bool.and_eq_true, beq_iff_eq]
  exact ⟨hid, hdue⟩

end

/-! ## The end of a stall (R60, R120) -/

section
variable {g : Nat}

/-- The core is free to go on, and what waited is taken out of its list. -/
def State.stallOver (s : State) (g : Nat) : State :=
  { s.setCore g { s.core g with stall := 0 } with waiting := Map.set [] s.waiting g [] }

theorem State.stallEnd_held (h : s.fullBrake = true ∨ s.mod = .held) : s.stallEnd g = s := if_pos (by simpa using h)

theorem State.stallEnd_goes (hbrake : s.fullBrake = false) (hmod : s.mod ≠ .held) :
    s.stallEnd g = (Map.get [] s.waiting g).foldl (fun t i => nextOr t (reissue i t)) (s.stallOver g) :=
  if_neg (by simp [hbrake, hmod])

end

/-- Settles O6: an EXPECT by `State.expectUse`, a release by whether the claim is due, a stall's end by what waited. -/
theorem releaseUses : Obligations.ReleaseUses := by
  intro g space entry ident s c r n
  refine ⟨fun hi hspace hvalid heq hcalm => ?expect, execClaimRelease_not_due, fun k => execClaimRelease_due,
    fun h => congrArg _ (State.stallEnd_held h), fun hbrake hmod => ?ends, fun _ _ _ _ => rfl⟩
  case expect =>
    have hexpect := execExpect_issues hi hspace hvalid heq
    refine ⟨fun hleft => ?_, fun hspent => ?_⟩
    · exact hexpect.trans (congrArg _ ((congrArg State.settle (State.expectUse_left hleft)).trans hcalm.setCore.settle))
    · exact hexpect.trans (congrArg _ (congrArg State.settle (State.expectUse_spent hspent)))
  case ends =>
    have hgoes : s.stallEnd g = (Map.get [] s.waiting g).foldl (fun t i => nextOr t (reissue i t)) (s.stallOver g) :=
      State.stallEnd_goes hbrake hmod
    refine ⟨fun hnone => congrArg _ (hgoes.trans ?_), fun i u hone hissue => congrArg _ (hgoes.trans ?_)⟩
    · rw [hnone]
      rfl
    · rw [hone]
      exact congrArg (nextOr (s.stallOver g)) hissue

end Sys2Proof.Machine
end

section
/-!
Joining a domain (ch. 12): the postmark's load, probes, join steps and live words, and the settling of O51.
-/
namespace Sys2Proof.Machine

variable {s : State}

/-! ## The postmark and the probes (R346–R348) -/

theorem execPostmarkLoad_idle {k : Nat} (h : s.mod ≠ .ready ∨ s.dom.joinStep ≠ 3 ∨ s.dom.pmLoaded = true) : execPostmarkLoad k s = .next s := by
  refine congrArg _ (if_neg fun ⟨hmod, hstep, hload⟩ => ?_)
  obtain h | h | h := h
  · exact h hmod
  · exact h hstep
  · exact Bool.false_ne_true ((congrArg not h).symm.trans hload)

theorem execProbeTransmit_idle (h : s.mod ≠ .ready ∨ s.dom.joinStep ≠ 4) : execProbeTransmit s = .next s :=
  congrArg _ (if_neg fun hgo => h.elim (fun hmod => hmod hgo.1) fun hstep => hstep hgo.2.1)

/-! ## Join steps (R346) -/

theorem execJoinStepDone_idle (h : s.mod ≠ .ready ∨ s.dom.joinStep < 2) : execJoinStepDone s = .next s := by
  obtain h | h := h
  · exact congrArg _ (if_pos h)
  · have hstep : s.dom.joinStep ≠ 2 ∧ s.dom.joinStep ≠ 3 ∧ s.dom.joinStep ≠ 4 := by omega
    obtain ⟨h2, h3, h4⟩ := hstep
    simp [execJoinStepDone, h2, h3, h4]

section
variable (hmod : s.mod = .ready)
include hmod

theorem execJoinStepDone_3 (hstep : s.dom.joinStep = 3) (hload : s.dom.pmLoaded = true) (hgood : 8 ≤ s.time.phaseGood) :
    execJoinStepDone s = .next { s with dom := { s.dom with joinStep := 4, probesSent := 0, lat := [] } } := by
  simp [execJoinStepDone, hmod, hstep, hload, hgood]

theorem execJoinStepDone_4 (hstep : s.dom.joinStep = 4)
    (hall : ∀ i < s.dom.members.length, s.dom.members.getD i 0 = s.node ∨ 48 ≤ probesAnswered (s.latency i)) :
    execJoinStepDone s = .next s.joinedNow := by
  have hanswered : (List.range s.dom.members.length).all
      (fun i => s.dom.members.getD i 0 == s.node || decide (48 ≤ probesAnswered (s.latency i))) = true := by
    rw [List.all_eq_true]
    intro i hi
    rw [Bool.or_eq_true, beq_iff_eq, decide_eq_true_iff]
    exact hall i (List.mem_range.mp hi)
  rw [execJoinStepDone, if_neg (not_not_intro hmod), if_neg (by simp [hstep]), if_neg (by simp [hstep]), if_pos ⟨hstep, hanswered⟩]

/-- The end of step 2 asks for the postmark as the phase reference of both hubs' DPLLs. -/
def State.phaseByPostmark (s : State) : State :=
  [0, 1].foldl (fun t h => t.timeWrite (dpllCtl h) (putBits (t.reg (dpllCtl h)) 9 8 1)) s

omit hmod in
theorem State.phaseByPostmark_eq : s.phaseByPostmark = { s with time := s.phaseByPostmark.time } := rfl

theorem execJoinStepDone_2 (hstep : s.dom.joinStep = 2) (hlock : s.dpll = 2) (href : s.activeRef = s.dom.syncE) :
    execJoinStepDone s = .next { s.phaseByPostmark with dom := { s.dom with joinStep := 3, pmLoaded := false } } := by
  rw [execJoinStepDone, if_neg (not_not_intro hmod), if_pos ⟨hstep, hlock, href⟩]
  rfl

end

theorem State.joinedNow_dom : s.joinedNow.dom = { s.dom with joined := true, joinStep := 0, joinSlot := none } := by
  unfold State.joinedNow
  dsimp only
  split
  · exact (State.Keeps.answer .refl).dom
  · rfl

/-- The module is out of its join and of its domain. -/
def State.unjoin (s : State) : State :=
  ({ s with dom := { s.dom with joinStep := 0, joined := false, joinSlot := none } } : State).setFld Reg.DOM_IDENT 9 0 0

theorem execJoinTimeout_late (hstep : 2 ≤ s.dom.joinStep) : execJoinTimeout s = .next
    ((match s.dom.joinSlot with | some n => s.unjoin.answer n 1 0x7306 | none => s.unjoin).raise 0x7306 0) := congrArg _ (if_pos hstep)

/-! ## Live words (R463) -/

theorem execLiveWordWrite_none {slot : Fin 16} {g : Fin 384} (h : s.host.micro = []) : execLiveWordWrite slot g s = .next s := by
  rw [execLiveWordWrite, h]
  rfl

theorem execLiveWordWrite_one {slot : Fin 16} {g : Fin 384} {m : Micro} {b : Bucket} {k : Claim} (hmicro : s.host.micro = [m])
    (hslot : m.slot = slot.val) (hcore : g.val ∈ m.cores) (hbucket : s.bucketOf m.pass = some b) (hclaim : s.liveClaim g m b = some k)
    (hlive : s.live = true) (hsch : s.schUp = true) : execLiveWordWrite slot g s = .next
      ((((s.onCore g fun c => c.writeSpace 2 b.liveAddr (leBytes 8 m.word) 0).countLanded g k 8).liveWritten g m).settle) := by
  have hmine : ([m].find? fun x => x.slot == slot.val && x.cores.contains g.val) = some m :=
    List.find?_cons_of_pos (by simp [hslot, hcore])
  have hup : (s.live && s.schUp) = true := by simp [hlive, hsch]
  rw [execLiveWordWrite, hmicro, hmine]
  dsimp only
  rw [hbucket]
  dsimp only
  rw [hclaim]
  exact congrArg _ (if_pos hup)

/-- Settles O51: each step by the condition its operation tests; a joined module by `State.joinedNow_dom`. -/
theorem joinSteps : Obligations.JoinSteps := by
  intro s dom
  refine ⟨fun k hmod hstep hload => congrArg _ (if_pos ⟨hmod, hstep, congrArg not hload⟩), fun k => execPostmarkLoad_idle,
    fun hmod hstep hsent => congrArg _ (if_pos ⟨hmod, hstep, hsent⟩), execProbeTransmit_idle,
    fun hmod hstep hlock href => ⟨s.phaseByPostmark, execJoinStepDone_2 hmod hstep hlock href, State.phaseByPostmark_eq⟩,
    execJoinStepDone_3, fun hmod hstep hall => ⟨execJoinStepDone_4 hmod hstep hall, ?joined, ?step⟩, execJoinStepDone_idle,
    fun hstep hslot => (execJoinTimeout_late hstep).trans ?quiet, fun n hstep hslot => (execJoinTimeout_late hstep).trans ?answered,
    fun hstep => congrArg _ (if_neg (Nat.not_le.mpr hstep)),
    fun slot g => ⟨execLiveWordWrite_none, fun m b k => execLiveWordWrite_one⟩⟩
  case joined => rw [State.joinedNow_dom]
  case step => rw [State.joinedNow_dom]
  case quiet =>
    rw [hslot]
    rfl
  case answered =>
    rw [hslot]
    rfl

end Sys2Proof.Machine
end

section
/-!
The post box (R457): little-endian bytes read back, and what a slot reads after bytes of it are written.
-/
namespace Sys2Proof.Machine

variable {s : State}

/-! ## Little-endian bytes -/

theorem leBytes_eq_map {n v : Nat} : leBytes n v = (List.range n).map fun i => BitVec.ofNat 8 (v / 256 ^ i) := by
  induction n generalizing v with
  | zero => rfl
  | succ n ih =>
    have htail : ∀ i, v / 256 / 256 ^ i = v / 256 ^ (i + 1) := fun i => by rw [Nat.pow_succ', Nat.div_div_eq_div_mul]
    simp [leBytes, ih, List.range_succ_eq_map, htail]

@[simp] theorem length_leBytes {n v : Nat} : (leBytes n v).length = n := by simp [leBytes_eq_map]

theorem leNat_leBytes {n v : Nat} : leNat (leBytes n v) = v % 256 ^ n := by rw [leBytes_eq_map, leNat_bytes]

/-! ## Slots -/

theorem State.slotGet_eq {inb : Bool} {n o k : Nat} : s.slotGet inb n o k = leNat (s.slotBytes inb n o k) := rfl

section
variable {inb : Bool} {n o : Nat} {l : List Byte}

/-- The box that a slot stands in. -/
def State.box (s : State) (inb : Bool) : Map Byte := if inb then s.host.inbox else s.host.outbox

theorem State.slotBytes_eq {k : Nat} : s.slotBytes inb n o k = (List.range k).map fun i => Map.get 0#8 (s.box inb) (2048 * n + o + i) := rfl

theorem State.box_slotFill : (s.slotFill inb n o l).box inb = Map.fill 0#8 (s.box inb) (2048 * n + o) l.length (byteAt l) := by
  cases inb <;> rfl

/-- Bytes written to a slot read back. -/
theorem State.slotBytes_slotFill : (s.slotFill inb n o l).slotBytes inb n o l.length = l := by
  conv_rhs => rw [← slice_whole (data := l), slice]
  rw [State.slotBytes_eq, State.box_slotFill]
  refine List.map_congr_left fun i hi => ?_
  have hlt := List.mem_range.mp hi
  rw [Map.get_fill, if_pos (by omega), Nat.add_sub_cancel_left, Nat.zero_add]

theorem State.slotGet_slotFill_leBytes {k v : Nat} : (s.slotFill inb n o (leBytes k v)).slotGet inb n o k = v % 256 ^ k := by
  have hread := State.slotBytes_slotFill (s := s) (inb := inb) (n := n) (o := o) (l := leBytes k v)
  rw [length_leBytes] at hread
  rw [State.slotGet_eq, hread, leNat_leBytes]

theorem State.slotState_setSlotState {v : Nat} : (s.setSlotState inb n v).slotState inb n = v % 4 := by
  rw [State.slotState, State.setSlotState, State.slotGet_slotFill_leBytes]
  omega

theorem State.slotState_of_box {t : State} (h : t.box inb = s.box inb) : t.slotState inb n = s.slotState inb n := by
  rw [State.slotState, State.slotGet_eq, State.slotBytes_eq, h]
  rfl

end

end Sys2Proof.Machine
end

section
/-!
What the host writes beside letters (ch. 15): slot states, snaps, partial writes, the memory window, and the settling of O54.
-/
namespace Sys2Proof.Machine

variable {s : State}

/-! ## Slot states (R458) -/

theorem State.slotUp_of (hep : s.endpointUp = true) (hmod : s.mod ≠ .recovery) {outb : Bool} {n : Nat} : s.slotUp outb n = true := by
  simp [State.slotUp, hep, hmod]

theorem execSlotStateWrite_up (hep : s.endpointUp = true) (hmod : s.mod ≠ .recovery) {outb : Bool} {slot : Fin 16} {v : BitVec 32} :
    execSlotStateWrite outb slot v s = .next (s.slotStateWrite outb slot v.toNat) := congrArg _ (if_pos (State.slotUp_of hep hmod))

section
variable {n v : Nat}

theorem State.slotStateWrite_posts (hold : s.slotState true n = 0) (hv : v % 4 = 1) : s.slotStateWrite false n v =
    { s.setSlotState true n 1 with host := { (s.setSlotState true n 1).host with posted := s.host.posted ++ [n] } } := by
  simp only [State.slotStateWrite, Bool.not_false, hold, hv, and_self, if_true]
  rfl

theorem State.slotStateWrite_empties (hold : s.slotState true n = 3) (hv : v % 4 = 0) :
    s.slotStateWrite false n v = s.setSlotState true n 0 := by
  simp [State.slotStateWrite, hold, hv]

theorem State.slotStateWrite_collects (hold : s.slotState false n = 1) (hv : v % 4 = 2) :
    s.slotStateWrite true n v = s.setSlotState false n 2 := by
  simp [State.slotStateWrite, hold, hv]

theorem State.slotStateWrite_answers (hold : s.slotState false n = 2) (hv : v % 4 = 3) :
    s.slotStateWrite true n v = s.setSlotState false n 3 := by
  simp [State.slotStateWrite, hold, hv]

theorem State.slotStateWrite_in_refused (hpost : ¬ (s.slotState true n = 0 ∧ v % 4 = 1)) (hempty : ¬ (s.slotState true n = 3 ∧ v % 4 = 0)) :
    s.slotStateWrite false n v = s.slotRefused := by
  simp only [State.slotStateWrite, Bool.not_false, true_and, hpost, hempty, Bool.false_eq_true, false_and, if_false]

theorem State.slotStateWrite_out_refused (hcollect : ¬ (s.slotState false n = 1 ∧ v % 4 = 2)) (hanswer : ¬ (s.slotState false n = 2 ∧ v % 4 = 3)) :
    s.slotStateWrite true n v = s.slotRefused := by
  simp only [State.slotStateWrite, Bool.not_true, true_and, hcollect, hanswer, Bool.false_eq_true, false_and, if_false]

theorem State.slotState_slotStateWrite_posts (hold : s.slotState true n = 0) (hv : v % 4 = 1) :
    (s.slotStateWrite false n v).slotState true n = 1 := by
  rw [State.slotStateWrite_posts hold hv]
  exact (State.slotState_of_box (s := s.setSlotState true n 1) rfl).trans State.slotState_setSlotState

theorem State.slotState_slotStateWrite_empties (hold : s.slotState true n = 3) (hv : v % 4 = 0) :
    (s.slotStateWrite false n v).slotState true n = 0 := by
  rw [State.slotStateWrite_empties hold hv, State.slotState_setSlotState]

end

/-! ## Snaps (R452) -/

theorem State.fld_snapSel {v hi lo : Nat} : (s.snapSel v).fld Reg.HOST_SNAP_STAT hi lo =
    ((s.setFld Reg.HOST_SNAP_STAT 31 31 0).setFld Reg.HOST_SNAP_STAT 15 0 (v % 65536)).fld Reg.HOST_SNAP_STAT hi lo := by
  simp only [State.fld, State.reg, State.snapSel]

theorem State.snapSel_valid {v : Nat} : (s.snapSel v).fld Reg.HOST_SNAP_STAT 31 31 = 0 := by
  rw [State.fld_snapSel, State.fld_setFld_of_disjoint (by decide) (by decide) (by decide), State.fld_setFld (by decide) (by decide), Nat.zero_mod]

theorem State.snapSel_sel {v : Nat} : (s.snapSel v).fld Reg.HOST_SNAP_STAT 15 0 = v % 65536 := by
  rw [State.fld_snapSel, State.fld_setFld (by decide) (by decide)]
  exact Nat.mod_mod ..

theorem execSnapCapture_none (h : s.host.snapPending = none) : execSnapCapture s = .next s := by
  rw [execSnapCapture, State.snapCapture, h]

/-- The captured words stand in the window of the snap, and none is pending. -/
def State.snapWords (s : State) (l : List Nat) : State :=
  (List.range 8).foldl (fun (t : State) k => t.setReg (Reg.HOST_SNAP_D0 + 4 * k) (l.getD k 0))
    { s with host := { s.host with snapPending := none } }

/-- A capture that succeeds: VALID without ERR, and a new GEN. -/
def State.snapValid (s : State) (l : List Nat) : State :=
  let t := (s.snapWords l).setFld Reg.HOST_SNAP_STAT 31 30 2
  t.setFld Reg.HOST_SNAP_STAT 23 16 ((t.fld Reg.HOST_SNAP_STAT 23 16 + 1) % 256)

section
variable {l : List Nat}

theorem execSnapCapture_some {sel pm : Nat} (hpend : s.host.snapPending = some (sel, pm)) (hcap : s.capture sel pm = some l) :
    execSnapCapture s = .next (s.snapValid l) := by
  rw [execSnapCapture, State.snapCapture, hpend]
  dsimp only
  rw [hcap]
  rfl

theorem State.reg_snapWords {k : Nat} (hk : k < 8) : (s.snapWords l).reg (Reg.HOST_SNAP_D0 + 4 * k) = l.getD k 0 % 2 ^ 32 := by
  have hread := State.reg_setRegs (s := { s with host := { s.host with snapPending := none } }) (off := fun k => Reg.HOST_SNAP_D0 + 4 * k)
    (val := fun k => l.getD k 0) hk fun j _ h => by omega
  rw [State.snapWords, hread]

theorem State.reg_snapWords_stat : (s.snapWords l).reg Reg.HOST_SNAP_STAT = s.reg Reg.HOST_SNAP_STAT := by
  have hread := State.reg_setRegs_other (s := { s with host := { s.host with snapPending := none } }) (off := fun k => Reg.HOST_SNAP_D0 + 4 * k)
    (val := fun k => l.getD k 0) (n := 8) (r := Reg.HOST_SNAP_STAT) fun k _ h => by simp only [Reg.HOST_SNAP_STAT, Reg.HOST_SNAP_D0] at h; omega
  rw [State.snapWords, hread]
  rfl

theorem State.reg_snapValid {k : Nat} (hk : k < 8) : (s.snapValid l).reg (Reg.HOST_SNAP_D0 + 4 * k) = l.getD k 0 % 2 ^ 32 := by
  have hne : Reg.HOST_SNAP_D0 + 4 * k ≠ Reg.HOST_SNAP_STAT := by simp only [Reg.HOST_SNAP_STAT, Reg.HOST_SNAP_D0]; omega
  rw [State.snapValid, State.reg_setFld_ne hne, State.reg_setFld_ne hne, State.reg_snapWords hk]

theorem State.snapValid_valid : (s.snapValid l).fld Reg.HOST_SNAP_STAT 31 30 = 2 := by
  rw [State.snapValid, State.fld_setFld_of_disjoint (by decide) (by decide) (by decide), State.fld_setFld (by decide) (by decide)]
  rfl

theorem State.snapValid_gen : (s.snapValid l).fld Reg.HOST_SNAP_STAT 23 16 = (s.fld Reg.HOST_SNAP_STAT 23 16 + 1) % 256 := by
  rw [State.snapValid, State.fld_setFld (by decide) (by decide), State.fld_setFld_of_disjoint (by decide) (by decide) (by decide), State.fld,
    State.reg_snapWords_stat]
  exact Nat.mod_mod ..

theorem State.snapValid_pending : (s.snapValid l).host.snapPending = none := by
  rw [State.snapValid, State.setFld_host, State.setFld_host, State.snapWords]
  refine foldl_keeps (fun t : State => t.host.snapPending = none) _ (fun t k ht => ?_) _ _ rfl
  exact ht

end

theorem getD_lt {l : List Nat} {k b : Nat} (hb : 0 < b) (h : ∀ x ∈ l, x < b) : l.getD k 0 < b := by
  rw [List.getD_eq_getElem?_getD]
  cases hk : l[k]? with
  | none => exact hb
  | some x => exact h x (List.mem_of_getElem? hk)

/-! ## Register writes and the memory window (R10, R446, R448) -/

section
variable {off v : Nat} {d : RegDef}

theorem State.bar0Write_register {be : Nat} (hep : s.endpointUp = true) (halign : off % 4 = 0) (hlow : off < 0x300000) :
    s.bar0Write off v be = s.hostWrite off v (be == 15) := by
  have hopen : ¬ ((!s.endpointUp) = true ∨ off % 4 ≠ 0) := by simp [hep, halign]
  exact (if_neg hopen).trans (if_pos hlow)

theorem State.hostWrite_found {full : Bool} (hmod : s.mod ≠ .recovery) (hfind : Reg.find? off = some d) :
    s.hostWrite off v full = if !full then s.event Reg.HOST_STAT 17 else if s.blockUp off then s.regWrite off v d else s := by
  rw [State.hostWrite, if_neg fun h => hmod h.1, hfind]

end

theorem execRegisterWrite_partial {off : BitVec 26} {v : BitVec 32} {d : RegDef} {be : BitVec 4} (hep : s.endpointUp = true)
    (hmod : s.mod ≠ .recovery) (halign : off.toNat % 4 = 0) (hlow : off.toNat < 0x300000) (hfind : Reg.find? off.toNat = some d)
    (hbe : be ≠ 0xF#4) : execRegisterWrite off v be s = .next (s.event Reg.HOST_STAT 17) := by
  have hpart : (be.toNat == 15) = false := beq_eq_false_iff_ne.mpr fun h => hbe (BitVec.eq_of_toNat_eq h)
  rw [execRegisterWrite, State.bar0Write_register hep halign hlow, hpart, State.hostWrite_found hmod hfind]
  rfl

theorem execRegisterWrite_whole {off : BitVec 26} {v : BitVec 32} {d : RegDef} (hep : s.endpointUp = true)
    (hmod : s.mod ≠ .recovery) (halign : off.toNat % 4 = 0) (hlow : off.toNat < 0x300000) (hfind : Reg.find? off.toNat = some d) :
    execRegisterWrite off v 0xF#4 s = .next (if s.blockUp off.toNat then s.regWrite off.toNat v.toNat d else s) := by
  rw [execRegisterWrite, State.bar0Write_register hep halign hlow, State.hostWrite_found hmod hfind]
  rfl

section
variable {o : BitVec 36} {data : List Byte} (hep : s.endpointUp = true) (hmod : s.mod ≠ .recovery)
include hep hmod

theorem execBar2Write_up : execBar2Write o data s = .next
    (if (s.mod = .ready ∨ s.mod = .parked) ∧ s.granted 10 ∧ s.fld Reg.HOST_WIN_CTL 31 31 = 1 then s.writeBond (s.winAddr o.toNat) data 0
     else s.winRefused) := by
  have hopen : ¬ ((!s.endpointUp) = true ∨ s.mod = .recovery) := by simp [hep, hmod]
  exact congrArg _ (if_neg hopen)

end

/-! ## Resets of the endpoint (R443) -/

theorem State.safeSet_host : s.safeSet.host = s.host := by
  rw [State.safeSet]
  refine foldl_keeps (fun t : State => t.host = s.host) _ (fun t k ht => ?_) _ _ rfl
  exact ht

/-- The memory window closes and the features fall to the safe set. -/
def State.windowClosed (s : State) : State := ((s.setReg Reg.HOST_WIN_CTL 0).setReg64 Reg.HOST_WIN_BASE_LO 0).safeSet

theorem State.windowClosed_host : s.windowClosed.host = s.host := State.safeSet_host

theorem execEndpointReset_up (hep : s.endpointUp = true) : execEndpointReset s = .next
    (((({ s.windowClosed.host.posted.foldl (fun (t : State) n => if t.slotState true n = 1 then t.setSlotState true n 0 else t) s.windowClosed with
      host := { (s.windowClosed.host.posted.foldl (fun (t : State) n => if t.slotState true n = 1 then t.setSlotState true n 0 else t)
        s.windowClosed).host with posted := [], msixTable := [] } } : State).withdrawOutbound.count Reg.HOST_RESET_CNT)).raise 0xB301 0) := by
  rw [execEndpointReset, if_neg (not_true_of_eq_false (congrArg not hep))]
  rfl

theorem execEndpointReset_unposted (hep : s.endpointUp = true) (h : s.host.posted = []) : execEndpointReset s = .next
    (((({ s.windowClosed with host := { s.host with posted := [], msixTable := [] } } : State).withdrawOutbound.count Reg.HOST_RESET_CNT)).raise
      0xB301 0) := by
  rw [execEndpointReset_up hep, State.windowClosed_host, h, List.foldl_nil, State.windowClosed_host]

/-- Settles O54: slot states by the rows of R458, a snap by its two writes of SNAP_STAT, the windows by what admits a write. -/
theorem hostInterface : Obligations.HostInterface := by
  intro s hep hmod refused
  refine ⟨fun slot v => ?slots, fun v => ?snap, execSnapCapture_none, fun sel pm l hpend hcap hword => ?capture,
    fun off v d halign hlow hfind => ?registers, fun o data => ?window, execEndpointReset_unposted hep, congrArg _ (if_pos hep)⟩
  case slots =>
    have hup := fun outb => execSlotStateWrite_up (s := s) hep hmod (outb := outb) (slot := slot) (v := v)
    refine ⟨fun hold hv => ⟨_, hup false, State.slotState_slotStateWrite_posts hold hv, ?_⟩,
      fun hold hv => ⟨_, hup false, State.slotState_slotStateWrite_empties hold hv, ?_⟩,
      fun hold hv => ⟨_, (hup true).trans (congrArg _ (State.slotStateWrite_collects hold hv)), State.slotState_setSlotState, rfl⟩,
      fun hold hv => ⟨_, (hup true).trans (congrArg _ (State.slotStateWrite_answers hold hv)), State.slotState_setSlotState, rfl⟩,
      fun hpost hempty => (hup false).trans (congrArg _ (State.slotStateWrite_in_refused hpost hempty)),
      fun hcollect hanswer => (hup true).trans (congrArg _ (State.slotStateWrite_out_refused hcollect hanswer))⟩
    · rw [State.slotStateWrite_posts hold hv]
      exact ⟨rfl, rfl, rfl⟩
    · rw [State.slotStateWrite_empties hold hv]
      exact ⟨rfl, rfl, rfl⟩
  case snap => exact ⟨s.snapSel v.toNat, congrArg _ (if_pos hep), rfl, State.snapSel_valid, State.snapSel_sel, rfl⟩
  case capture =>
    refine ⟨s.snapValid l, execSnapCapture_some hpend hcap, fun k hk => ?_, State.snapValid_valid, State.snapValid_gen, State.snapValid_pending⟩
    rw [State.reg_snapValid hk, Nat.mod_eq_of_lt (getD_lt (Nat.two_pow_pos 32) hword)]
  case registers =>
    have hwhole := execRegisterWrite_whole (v := v) hep hmod halign hlow hfind
    exact ⟨fun be hbe => execRegisterWrite_partial hep hmod halign hlow hfind hbe, fun hup => hwhole.trans (congrArg _ (if_pos hup)),
      fun hdown => hwhole.trans (congrArg _ (if_neg (not_true_of_eq_false hdown)))⟩
  case window =>
    exact ⟨fun hopen => (execBar2Write_up hep hmod).trans (congrArg _ (if_pos hopen)),
      fun hshut => (execBar2Write_up hep hmod).trans (congrArg _ (if_neg hshut))⟩

end Sys2Proof.Machine
end

section
/-!
The boot timeline (ch. 16): the registers that the daybook and the post box leave as they are, the end of a phase, and the settling of O48.
-/
namespace Sys2Proof.Machine

variable {s : State}

/-! ## A register that the books leave as it is -/

theorem State.reg_of_regs {t : State} {r : Nat} (h : t.regs = s.regs) : t.reg r = s.reg r := by rw [State.reg, State.reg, h]

@[simp] theorem State.slotFill_regs {inb : Bool} {n o : Nat} {l : List Byte} : (s.slotFill inb n o l).regs = s.regs := by
  cases inb <;> rfl

theorem State.reg_count_ne {r off n : Nat} (h : r ≠ off) : (s.count off n).reg r = s.reg r := State.reg_setReg_ne _ _ h

/-- Neither the daybook nor the answers of letters count in register `r`. -/
def offBooks (r : Nat) : Prop := r ≠ Reg.FW_DAYBOOK_HEAD ∧ r ≠ Reg.FW_DAYBOOK_LOST ∧ r ≠ Reg.MBX_ANSWER_CNT

section
variable {r : Nat} (hr : offBooks r)
include hr

theorem State.reg_putRecord {x : DRec} {lost : Bool} : (s.putRecord x lost).reg r = s.reg r := by
  have hsignal : ∀ (t : State) (c : Prop) [Decidable c], (if c then t.signal 35 else t).reg r = t.reg r := fun t c _ => by split <;> rfl
  unfold State.putRecord
  dsimp only
  rw [hsignal]
  split
  · rw [State.reg_count_ne hr.2.1, State.reg_setReg_ne _ _ hr.1]
    exact State.reg_of_regs rfl
  · rw [State.reg_setReg_ne _ _ hr.1]
    exact State.reg_of_regs rfl

theorem State.reg_record {kind source fault severity ident : Nat} {payload : Option (List Byte)} :
    (s.record kind source fault severity ident payload).reg r = s.reg r := by
  unfold State.record
  dsimp only
  split
  · exact State.reg_of_regs rfl
  split
  · exact State.reg_count_ne hr.2.1
  · rw [State.reg_putRecord hr]
    split <;> exact State.reg_of_regs rfl

theorem State.reg_answer {slot status fault : Nat} {payload : List Byte} : (s.answer slot status fault payload).reg r = s.reg r := by
  unfold State.answer
  dsimp only
  split
  · rfl
  · rw [State.reg_of_regs (State.signal_regs _ _), State.reg_count_ne hr.2.2]
    exact State.reg_of_regs (by simp only [State.setSlotState, State.slotFill_regs])

theorem State.reg_dropMicro : s.dropMicro.reg r = s.reg r := by
  refine foldl_keeps (fun t : State => t.reg r = s.reg r) _ (fun t m ht => ?_) _ _ rfl
  exact (State.reg_answer hr).trans ht

theorem State.reg_enter {ev : Nat} {before dest : Mod} (hdest : dest ≠ .fenced) : (s.enter ev before dest).reg r = s.reg r := by
  have hmarks : ∀ t : State, (((t.record 2 0xFF 0 0 ev).signal 32).emit (.uart 2 ev)).reg r = t.reg r := fun t =>
    (State.reg_of_regs rfl).trans (State.reg_record hr)
  unfold State.enter
  dsimp only
  rw [if_neg hdest]
  split
  · exact hmarks _
  · rw [State.reg_dropMicro hr, hmarks]
    rfl

end

/-! ## The DPLL at the end of phase 1 (R31, R470) -/

theorem State.Keeps.sendEsmcs {t : State} (h : s.Keeps t) : s.Keeps t.sendEsmcs :=
  .foldl (fun _ _ hu => .ite hu.emit hu) h

/-- Under whatever control field, the DPLL moves only books and its mark of a switch on loss. -/
theorem State.dpllObey_keeps : ∃ b, ({ s with time := { s.time with lossSwitch := b } } : State).Keeps s.dpllObey := by
  unfold State.dpllObey
  split
  · exact ⟨s.time.lossSwitch, .ite .refl (.setFld .refl)⟩
  split
  · split
    · cases s.bestRef with
      | none => exact ⟨s.time.lossSwitch, .refl⟩
      | some r => exact ⟨false, .ite (.sendEsmcs (.statusEvent (.setFld (.setFld .refl)))) (.setFld (.setFld .refl))⟩
    · exact ⟨s.time.lossSwitch, .refl⟩
  · exact ⟨s.time.lossSwitch, .ite (.statusEvent (.setFld .refl)) .refl⟩

theorem State.dpllObey_pm : s.dpllObey.time.pm = s.time.pm := by
  obtain ⟨b, hkeeps⟩ := s.dpllObey_keeps
  rw [hkeeps.time]

theorem State.dpllObey_boot : s.dpllObey.boot = s.boot := by
  obtain ⟨b, hkeeps⟩ := s.dpllObey_keeps
  exact hkeeps.boot

theorem State.dpllObey_mod : s.dpllObey.mod = s.mod := by
  obtain ⟨b, hkeeps⟩ := s.dpllObey_keeps
  exact hkeeps.mod

/-! ## The next phase (R470–R472) -/

section
variable {n t : Nat}

theorem State.phaseNext_next (hboot : s.mod = .boot) (hn : n < 9) (h3 : n ≠ 3) : s.phaseNext n t = s.setFld Reg.BOOT_STAT 7 4 (n + 1) := by
  rw [State.phaseNext, if_neg (not_not_intro hboot), if_neg fun h => h3 h.1, if_pos hn]

theorem State.phaseNext_recovery (hboot : s.mod = .boot) (hcause : s.boot.cause ≠ 0) : s.phaseNext 3 t = s.toRecovery := by
  rw [State.phaseNext, if_neg (not_not_intro hboot), if_pos ⟨rfl, .inl hcause⟩]

theorem State.phaseNext_ready (hboot : s.mod = .boot) : s.phaseNext 9 t = s.enterReady t := by
  rw [State.phaseNext, if_neg (not_not_intro hboot), if_neg fun h => absurd h.1 (by decide), if_neg (by decide)]

end

theorem State.flashWrite_mod {a : Nat} {l : List Byte} : (s.flashWrite a l).mod = s.mod := rfl

theorem State.appendCounter_mod {kind value : Nat} : (s.appendCounter kind value).mod = s.mod := by
  unfold State.appendCounter
  dsimp only
  split
  · rfl
  split
  · rw [State.flashWrite_mod]
  · rw [State.flashWrite_mod]
    refine foldl_keeps (fun t : State => t.mod = s.mod) _ (fun t e ht => ?_) _ _ rfl
    rw [State.flashWrite_mod]
    exact ht

theorem State.toRecovery_mod (hr : s.rival = none) (hboot : s.mod = .boot) : s.toRecovery.mod = .recovery := by
  have henter : (s.transition 0x05 .recovery).mod = .recovery := by
    rw [State.transition_of_legal hr (by rw [hboot]; decide), State.enter_mod]
  unfold State.toRecovery
  dsimp only
  split
  · rw [State.appendCounter_mod]
    exact henter
  · exact henter

theorem State.enter_boot {ev : Nat} {before dest : Mod} : (s.enter ev before dest).boot = s.boot := State.enter_keeps.boot

/-- BOOT_STAT shows phase 15 and READY, and the last phase's time stands in the record. -/
def State.bootDone (s : State) (t : Nat) : State :=
  let u := (s.setFld Reg.BOOT_STAT 7 4 0xF).setFld Reg.BOOT_STAT 0 0 1
  { u with boot := { u.boot with endTimes := u.boot.endTimes ++ [t] } }

theorem State.bootDone_ready {t : Nat} : (s.bootDone t).fld Reg.BOOT_STAT 0 0 = 1 := by
  have hreg : (s.bootDone t).reg Reg.BOOT_STAT = ((s.setFld Reg.BOOT_STAT 7 4 0xF).setFld Reg.BOOT_STAT 0 0 1).reg Reg.BOOT_STAT :=
    State.reg_of_regs rfl
  rw [State.fld, hreg, ← State.fld, State.fld_setFld (by decide) (by decide)]
  rfl

/-- The REGDEFs that are due are written, and none is due after that. -/
def State.writeRegdefs (s : State) : State :=
  let s := if s.boot.regdefDue then s.boot.regdefs.foldl State.regdefWrite s else s
  { s with boot := { s.boot with regdefDue := false } }

theorem State.writeRegdefs_nil (h : s.boot.regdefs = []) : s.writeRegdefs = { s with boot := { s.boot with regdefDue := false } } := by
  rw [State.writeRegdefs, h, List.foldl_nil, ite_self]

/-- With no REGDEF to write, READY is entered and BOOT_STAT stays. -/
theorem State.enterReady_unwritten {t : Nat} (hr : s.rival = none) (hboot : s.mod = .boot) (hdefs : s.boot.regdefs = []) :
    (s.enterReady t).mod = .ready ∧ (s.enterReady t).fld Reg.BOOT_STAT 0 0 = 1 := by
  have hrival : (s.bootDone t).rival = none := hr
  have hmod : (s.bootDone t).mod = .boot := hboot
  have henter : (s.bootDone t).transition 0x04 .ready = (s.bootDone t).enter 0x04 .boot .ready := by
    rw [State.transition_of_legal hrival (by rw [hmod]; decide), hmod]
  have hnone : ((s.bootDone t).enter 0x04 .boot .ready).boot.regdefs = [] := by
    rw [State.enter_boot]
    exact hdefs
  have hready : s.enterReady t = ((s.bootDone t).enter 0x04 .boot .ready).writeRegdefs := by
    rw [← henter]
    rfl
  have hreg : ((s.bootDone t).enter 0x04 .boot .ready).reg Reg.BOOT_STAT = (s.bootDone t).reg Reg.BOOT_STAT :=
    State.reg_enter (by unfold offBooks; decide) (by decide)
  rw [hready, State.writeRegdefs_nil hnone]
  exact ⟨State.enter_mod, (congrArg (bits · 0 0) hreg).trans State.bootDone_ready⟩

/-! ## The end of a phase -/

section
variable {r : PhaseEnd}

/-- The phase's time stands in the record, and the console tells it. -/
def State.phaseEnded (s : State) : State :=
  ({ s with boot := { s.boot with endTimes := s.boot.endTimes ++ [Nat.min 0xFFFF ((s.now - s.boot.bootAt) / ms 1)] } } : State).emit (.uart 1 s.phase)

theorem execBootPhaseEnd_idle (h : s.mod ≠ .boot ∨ (s.fw.h1Charge = true ∧ s.phase ≤ 5) ∨ (s.pwr.guard = true ∧ s.phase = 3)) :
    execBootPhaseEnd r s = .next s := congrArg _ (if_pos h)

theorem execBootPhaseEnd_ends (hboot : s.mod = .boot) (hcharge : s.fw.h1Charge = false ∨ 5 < s.phase) (hguard : s.pwr.guard = false ∨ s.phase ≠ 3) :
    execBootPhaseEnd r s = .next ((s.phaseEnded.phaseWork s.phase r).phaseNext s.phase (Nat.min 0xFFFF ((s.now - s.boot.bootAt) / ms 1))) := by
  refine congrArg _ (if_neg ?_)
  rintro (hmod | ⟨hcharged, hearly⟩ | ⟨hguarded, hthree⟩)
  · exact hmod hboot
  · obtain h | h := hcharge
    · exact not_true_of_eq_false h hcharged
    · omega
  · exact hguard.elim (fun h => not_true_of_eq_false h hguarded) fun h => h hthree

/-- Phase 1 leaves postmark 0, the DPLL of H1 standing by, and the key of the PUF. -/
def State.phaseOne (s : State) (r : PhaseEnd) : State :=
  ({ s with time := { s.time with pm := 0, skew := [] }, boot := { s.boot with pufKey := r.puf.map fun k => slice k 0 32 } }.setFld
    (Reg.at Reg.TIME_DPLL_STAT 1) 2 0 4).dpllObey

theorem State.phaseWork_one : s.phaseWork 1 r = s.phaseOne r := rfl

/-- Phase 6 leaves the rails of the dies on. -/
def State.phaseSix (s : State) : State := { s with pwr := { s.pwr with dieRails := true } }

theorem State.phaseWork_six : s.phaseWork 6 r = s.phaseSix := rfl

end

/-- Settles O48: a phase's end by `execBootPhaseEnd_ends`, what follows by `State.phaseNext`. -/
theorem bootPhases : Obligations.BootPhases := by
  intro r s n t ended
  refine ⟨execBootPhaseEnd_idle, fun hboot hcharge hn => ?one, fun hboot hn => ?six,
    fun hboot _ _ hcharge hguard => execBootPhaseEnd_ends hboot (.inl hcharge) hguard, fun u hr hboot hdefs => ?ready,
    fun u hr hboot hcause => ?recovery, rfl⟩
  case one =>
    have hphase : s.phase = 1 := hn
    have hkept : (s.phaseEnded.phaseOne r).mod = .boot := (State.dpllObey_mod).trans hboot
    have hends := execBootPhaseEnd_ends (r := r) hboot (.inl hcharge) (.inr (by rw [hphase]; decide))
    rw [hphase, State.phaseWork_one, State.phaseNext_next hkept (by decide) (by decide)] at hends
    refine ⟨_, hends, State.dpllObey_pm, congrArg (·.pufKey) State.dpllObey_boot, ?_, hkept⟩
    rw [State.fld_setFld (by decide) (by decide)]
    rfl
  case six =>
    have hphase : s.phase = 6 := hn
    have hends := execBootPhaseEnd_ends (r := r) hboot (.inr (by rw [hphase]; decide)) (.inr (by rw [hphase]; decide))
    have hkept : s.phaseEnded.phaseSix.mod = .boot := hboot
    rw [hphase, State.phaseWork_six, State.phaseNext_next hkept (by decide) (by decide)] at hends
    exact hends
  case ready =>
    rw [State.phaseNext_ready hboot]
    exact State.enterReady_unwritten hr hboot hdefs
  case recovery =>
    rw [State.phaseNext_recovery hboot hcause]
    exact State.toRecovery_mod hr hboot

end Sys2Proof.Machine
end

section
/-!
Holds, parks and restarts asked for (ch. 12): what entry to PARKED leaves, when a restart runs, and the settling of O46.
-/
namespace Sys2Proof.Machine

variable {s : State}

/-! ## What leaves the module's state as it is -/

theorem State.raise_notice_mod {code inst ident : Nat} (hn : faultSev code = .notice) : (s.raise code inst ident).mod = s.mod := by
  cases hg : s.gather with
  | none =>
    rw [State.raise_notice hn hg]
    exact (State.Keeps.recordFault .refl).mod
  | some l => rw [State.raise_of_gather hg]; rfl

theorem State.loseMirror_mod : s.loseMirror.mod = s.mod := by
  unfold State.loseMirror
  split
  · exact State.raise_notice_mod (by decide)
  · rfl

theorem State.clearTables_mod : s.clearTables.mod = s.mod := by
  rw [State.clearTables, State.clearSequences, ← State.loseMirror_mod (s := s)]
  refine foldl_keeps (fun t : State => t.mod = s.loseMirror.mod) _ (fun t p ht => ?_) _ _ rfl
  exact ht

theorem State.showService_mod {d : Nat} : (s.showService d).mod = s.mod := by
  rw [State.showService]
  refine foldl_keeps (fun t : State => t.mod = s.mod) _ (fun t k ht => ?_) _ _ rfl
  exact ht

theorem State.buildInterleave_mod {d : Nat} : (s.buildInterleave d).mod = s.mod := by
  rw [State.buildInterleave]
  exact State.showService_mod

theorem State.discardImage_mod : s.discardImage.mod = s.mod := by
  unfold State.discardImage
  dsimp only
  split
  · exact (State.Keeps.answer .refl).mod
  · rfl

/-! ## Entry to PARKED (R403) -/

/-- The two states in which a park can begin (R437). -/
def parksFrom (m : Mod) : Prop := m = .running ∨ m = .held

theorem legal_park_iff {m : Mod} : legal m 0x09 .parked = true ↔ parksFrom m := by
  simp [legal_iff, parksFrom]

/-- HELD gives way to PARKED even where the module was stopped in the same cycle (R4). -/
theorem State.transition_parked (h : s.mod = .held) : ∃ before, parksFrom before ∧ s.transition 0x09 .parked = s.enter 0x09 before .parked := by
  have hheld : legal s.mod 0x09 .parked = true := by
    rw [h]
    decide
  cases hr : s.rival with
  | none => exact ⟨s.mod, .inr h, State.transition_of_legal hr hheld⟩
  | some before =>
    by_cases hl : legal before 0x09 .parked = true
    · refine ⟨before, legal_park_iff.mp hl, State.transition_of_rival_first hr hl ?_ ?_ ?_⟩ <;> rw [h] <;> decide
    · refine ⟨s.mod, .inr h, ?_⟩
      simp [State.transition, hr, hl, hheld]

/-- A state just entered has the state before it as its rival until the cycle ends (R4). -/
theorem State.enter_rival {ev : Nat} {before dest : Mod} : (s.enter ev before dest).rival = some before := by
  have hmarks : (s.enter ev before dest).rival = (s.turnTo ev before dest).rival := State.enter_keeps.rival
  rw [hmarks]
  exact if_pos rfl

theorem State.enter_dies {ev : Nat} {before dest : Mod} : (s.enter ev before dest).dies = s.dies := State.enter_keeps.dies

/-- PARKED as entered, before a lost channel sends it on to READY: the cut is told, the hold and the park are over, no core issues. -/
def State.parkedAt (s : State) (cut : Nat) : State :=
  let s := (s.setReg Reg.RES_CUT_LO (cut % 2 ^ 32)).setReg Reg.RES_CUT_HI (cut / 2 ^ 32 % 256)
  let s := { s with dom := { s.dom with hold := none, postponed := [], parkLetters := [] }
                    res := { s.res with parking := none } }
  { s with cores := Map.vals {} (fun (c : Core) => { c with issuing := false }) s.cores }.refuseHeld

theorem State.refuseHeld_keeps : s.Keeps s.refuseHeld := .foldl (fun _ _ hu => .ite hu.answer hu) .refl

theorem State.parkedAt_mod {cut : Nat} : (s.parkedAt cut).mod = s.mod := State.refuseHeld_keeps.mod
theorem State.parkedAt_rival {cut : Nat} : (s.parkedAt cut).rival = s.rival := State.refuseHeld_keeps.rival
theorem State.parkedAt_dies {cut : Nat} : (s.parkedAt cut).dies = s.dies := State.refuseHeld_keeps.dies
theorem State.parkedAt_parking {cut : Nat} : (s.parkedAt cut).res.parking = none := congrArg (·.res.parking) State.refuseHeld_keeps

/-- What holds of every value changed, and of the value of a key not listed, holds of every key. -/
theorem Map.get_vals_keeps {α : Type} [DecidableEq α] {d : α} {f : α → α} (P : α → Prop) (hd : P d) (hf : ∀ x, P (f x)) (m : Map α) (k : Nat) :
    P (Map.get d (Map.vals d f m) k) := by
  unfold Map.vals
  induction m with
  | nil => exact hd
  | cons e m ih =>
    rw [List.map_cons, List.filter_cons]
    split
    · rw [Map.get]
      split
      · exact hf e.2
      · exact ih
    · exact ih

theorem State.parkedAt_issuing {cut g : Nat} : ((s.parkedAt cut).core g).issuing = false := by
  rw [State.core, State.parkedAt, State.refuseHeld_keeps.cores]
  show (Map.get ({} : Core) (Map.vals {} (fun c : Core => { c with issuing := false }) s.cores) g).issuing = false
  exact Map.get_vals_keeps (fun c : Core => c.issuing = false) rfl (fun _ => rfl) s.cores g

theorem State.reg_refuseHeld {r : Nat} (hr : offBooks r) : s.refuseHeld.reg r = s.reg r := by
  refine foldl_keeps (fun t : State => t.reg r = s.reg r) _ (fun t n ht => ?_) _ _ rfl
  split
  · exact (State.reg_answer hr).trans ht
  · exact ht

theorem State.parkedAt_cut {cut : Nat} : (s.parkedAt cut).reg64 Reg.RES_CUT_LO % 2 ^ 40 = cut % 2 ^ 40 := by
  have hlow : (s.parkedAt cut).reg Reg.RES_CUT_LO = cut % 2 ^ 32 := by
    rw [State.parkedAt, State.reg_refuseHeld (by unfold offBooks; decide)]
    refine (State.reg_setReg_ne (o := Reg.RES_CUT_HI) _ _ (by decide)).trans ?_
    rw [State.reg_setReg, Nat.mod_mod]
  have hhigh : (s.parkedAt cut).reg (Reg.RES_CUT_LO + 4) = cut / 2 ^ 32 % 256 := by
    rw [State.parkedAt, State.reg_refuseHeld (by unfold offBooks; decide)]
    refine (State.reg_setReg (o := Reg.RES_CUT_HI) _ _).trans (Nat.mod_eq_of_lt ?_)
    omega
  rw [State.reg64, hlow, hhigh]
  omega

theorem State.enterParked_eq {cut : Nat} {before : Mod} (h : s.transition 0x09 .parked = s.enter 0x09 before .parked) :
    s.enterParked cut = if s.channelLost then ((s.enter 0x09 before .parked).parkedAt cut).leaveParked
      else (s.enter 0x09 before .parked).parkedAt cut := by
  have hmod : ¬ (s.enter 0x09 before .parked).mod ≠ .parked := not_not_intro State.enter_mod
  have hlost : ((s.enter 0x09 before .parked).parkedAt cut).channelLost = s.channelLost := by
    simp only [State.channelLost, State.die, State.parkedAt_dies, State.enter_dies]
  rw [State.enterParked, h, ← hlost]
  exact if_neg hmod

/-- PARKED is left for READY in the cycle in which it was entered, whatever else happened in it. -/
theorem State.transition_ready {before : Mod} (hm : s.mod = .parked) (hr : s.rival = some before) (hb : parksFrom before) :
    s.transition 0x0B .ready = s.enter 0x0B .parked .ready := by
  have hnot : legal before 0x0B .ready = false := by
    obtain rfl | rfl := hb <;> decide
  have hgo : legal .parked 0x0B .ready = true := by decide
  simp [State.transition, hr, hnot, hm, hgo]

/-- The rest of a departure from PARKED to READY. -/
def State.freed (s : State) : State :=
  let s := s.clearTables.banksActive
  { s with res := { s.res with cutMapOut := false, parking := none }, dom := { s.dom with hold := none }
           cores := Map.vals {} (fun (c : Core) => { c with issuing := false }) s.cores }

theorem State.freed_mod : s.freed.mod = s.mod := by
  have hkept : s.freed.mod = s.clearTables.mod := by simp only [State.freed, State.banksActive, State.mod]
  rw [hkept, State.clearTables_mod]

theorem State.leaveParked_mod {before : Mod} (hm : s.mod = .parked) (hr : s.rival = some before) (hb : parksFrom before) :
    s.leaveParked.mod = .ready := by
  have hentered : (s.enter 0x0B .parked .ready).mod = .ready := State.enter_mod
  have hfreed : (s.enter 0x0B .parked .ready).freed.mod = .ready := State.freed_mod.trans hentered
  have hrebuilt : ∀ l : List Nat, (l.foldl State.buildInterleave (s.enter 0x0B .parked .ready).freed).mod = .ready := fun l =>
    foldl_keeps (fun t : State => t.mod = .ready) _ (fun t d ht => State.buildInterleave_mod.trans ht) l _ hfreed
  rw [State.leaveParked, State.transition_ready hm hr hb]
  dsimp only
  rw [if_neg (not_not_intro hentered)]
  split
  · exact hrebuilt _
  · exact State.discardImage_mod.trans (hrebuilt _)

theorem execParkEntry_enters {limit : Bool} {cause cut : Nat} (hpark : s.res.parking = some (cause, some cut)) (h : s.mod = .held)
    (hready : limit = true ∨ s.allParked = true) : execParkEntry limit s = .next (s.enterParked cut) := by
  rw [execParkEntry, State.parkEntry, hpark]
  exact congrArg _ (if_pos ⟨h, hready⟩)

theorem execParkEntry_idle {limit : Bool} (h : s.res.parking = none ∨ s.mod ≠ .held) : execParkEntry limit s = .next s := by
  rw [execParkEntry, State.parkEntry]
  split
  · rename_i hpark
    obtain h | h := h
    · rw [h] at hpark
      cases hpark
    · rw [if_neg fun hgo => h hgo.1]
  · rfl

/-! ## Holds and resumes (R358, R362, R366) -/

section
variable {h : Hold} (hh : s.dom.hold = some h)
include hh

theorem execHoldLimit_held : execHoldLimit s = .next (if s.mod = .held ∧ h.res = none then s.raise 0x7304 0 else s) := by
  rw [execHoldLimit, State.holdLimit, hh]
  exact congrArg _ (if_congr (and_congr_right fun _ => Option.isNone_iff_eq_none) rfl rfl)

/-- The member announces its resume once, at the boundary after the next. -/
theorem execResumeReady_ready (hself : s.selfReady = true) (hfirst : h.ready = false) : execResumeReady s = .next
    (((s.setHold { h with ready := true, ats := Map.set 0 h.ats (s.dom.members.findIdx (· == s.node)) (boundary (s.frame + 2) + 1) }).letters
      9 0 (resumePayload (boundary (s.frame + 2)) (h.seq % 65536) s.node)).agree) := by
  have hgo : (s.selfReady && !h.ready) = true := by simp [hself, hfirst]
  rw [execResumeReady, State.resumeReady, hh]
  exact congrArg _ (if_pos hgo)

theorem execResumeReady_idle (hidle : s.selfReady = false ∨ h.ready = true) : execResumeReady s = .next s := by
  have hstays : ¬ (s.selfReady && !h.ready) = true := by obtain hidle | hidle := hidle <;> simp [hidle]
  rw [execResumeReady, State.resumeReady, hh]
  exact congrArg _ (if_neg hstays)

end

theorem hold_none_idle (h : s.dom.hold = none) : execHoldLimit s = .next s ∧ execResumeReady s = .next s := by
  constructor
  · rw [execHoldLimit, State.holdLimit, h]
  · rw [execResumeReady, State.resumeReady, h]

/-! ## Runs and restarts (R350, R406) -/

section
variable {slot start : Nat} (harmed : s.host.runArmed = some (slot, start))
include harmed

theorem execImageRunStart_starts (hstart : start = s.pm) (hmod : s.mod = .ready) (hjoin : s.dom.joined = true) (himage : s.image.loaded = true) :
    execImageRunStart s = .next ((({ s with host := { s.host with runArmed := none } } : State).beginRun 6 0).answer slot 0) := by
  rw [execImageRunStart, State.runStart, harmed]
  exact congrArg _ (if_pos ⟨hstart, hmod, hjoin, himage⟩)

theorem execImageRunStart_waits (h : start ≠ s.pm ∨ s.mod ≠ .ready) : execImageRunStart s = .next s := by
  rw [execImageRunStart, State.runStart, harmed]
  exact congrArg _ (if_neg fun hgo => h.elim (fun hs => hs hgo.1) fun hm => hm hgo.2.1)

end

theorem execImageRunStart_none (h : s.host.runArmed = none) : execImageRunStart s = .next s := by
  rw [execImageRunStart, State.runStart, h]

/-- A restart meets a module that is PARKED, or that left PARKED in this cycle (R4). -/
def State.parkedHere (s : State) : Bool := s.mod == .parked || s.rival == some .parked

/-- What keeps a module in PARKED: a supply warning that parked it, or a channel lost (R267). -/
def State.parkHeld (s : State) : Bool := s.parkedHere && ((s.pwr.warn && s.pwr.supplyParked) || s.channelLost)

theorem execRestart_none (h : s.res.restart = none) : execRestart s = .next s := by
  rw [execRestart, State.restartRun, h]

/-- The restart asked for is taken. -/
def State.restartTaken (s : State) : State := { s with res := { s.res with restart := none } }

section
variable {p : Nat} (hp : s.res.restart = some p)
include hp

theorem execRestart_due (hpm : p = s.pm) (hmod : s.mod = .ready ∨ s.mod = .parked) : execRestart s = .next
    (if s.mod = .ready ∧ s.parkedHere then s.restartTaken.transition 10 .running
     else if s.fld Reg.RES_STAT 4 4 = 0 ∨ !s.image.loaded ∨ s.parkHeld then s.restartTaken.raise 0x7406 0
     else s.restartTaken.clearTables.beginRun (if s.parkedHere then 10 else 6) ((s.step40 - s.image.baseStep) * s.image.period)) := by
  rw [execRestart, State.restartRun, hp]
  exact congrArg _ (if_pos ⟨hpm, hmod⟩)

theorem execRestart_not_due (h : p ≠ s.pm ∨ (s.mod ≠ .ready ∧ s.mod ≠ .parked)) : execRestart s = .next s := by
  rw [execRestart, State.restartRun, hp]
  refine congrArg _ (if_neg fun ⟨hpm, hmod⟩ => ?_)
  obtain h | ⟨hready, hparked⟩ := h
  · exact h hpm
  · exact hmod.elim hready hparked

theorem execRestart_runs (hpm : p = s.pm) (hmod : s.mod = .ready ∨ s.mod = .parked) (hhere : s.mod = .ready → s.parkedHere = false)
    (hcut : s.fld Reg.RES_STAT 4 4 = 1) (himage : s.image.loaded = true) (hheld : s.parkHeld = false) : execRestart s = .next
      (s.restartTaken.clearTables.beginRun (if s.parkedHere then 10 else 6) ((s.step40 - s.image.baseStep) * s.image.period)) := by
  rw [execRestart_due hp hpm hmod, if_neg fun h => not_true_of_eq_false (hhere h.1) h.2, if_neg (by simp [hcut, himage, hheld])]

theorem execRestart_fails (hpm : p = s.pm) (hmod : s.mod = .ready ∨ s.mod = .parked) (hhere : s.mod = .ready → s.parkedHere = false)
    (hwhy : s.fld Reg.RES_STAT 4 4 = 0 ∨ s.image.loaded = false ∨ s.parkHeld = true) :
    execRestart s = .next (s.restartTaken.raise 0x7406 0) := by
  rw [execRestart_due hp hpm hmod, if_neg fun h => not_true_of_eq_false (hhere h.1) h.2, if_pos (by simpa using hwhy)]

end

theorem State.parkedHere_parked (h : s.mod = .parked) : s.parkedHere = true := by simp [State.parkedHere, h]

theorem State.parkedHere_ready (h : s.mod = .ready) (hr : s.rival ≠ some .parked) : s.parkedHere = false := by simp [State.parkedHere, h, hr]

/-- Settles O46: entry to PARKED by `State.enterParked_eq`, a restart by `execRestart_due`. -/
theorem holdsAndParks : Obligations.HoldsAndParks := by
  intro s asked
  refine ⟨fun hlive => congrArg _ (if_pos hlive), fun hlive => congrArg _ (if_neg (not_true_of_eq_false hlive)), rfl, rfl,
    fun h hh => ⟨execHoldLimit_held hh, execResumeReady_ready hh, execResumeReady_idle hh⟩, hold_none_idle,
    fun limit cause cut hpark hheld hready => ⟨execParkEntry_enters hpark hheld hready, ?park⟩, fun limit => execParkEntry_idle,
    fun slot start harmed => ⟨execImageRunStart_starts harmed, execImageRunStart_waits harmed⟩, execImageRunStart_none,
    fun p hp => ?restart, execRestart_none⟩
  case park =>
    obtain ⟨before, hbefore, henter⟩ := State.transition_parked hheld
    have hmod : ((s.enter 0x09 before .parked).parkedAt cut).mod = .parked := State.parkedAt_mod.trans State.enter_mod
    rw [State.enterParked_eq henter]
    refine ⟨fun hlost => ?_, fun hkept => ?_⟩
    · rw [if_pos hlost]
      exact State.leaveParked_mod hmod (State.parkedAt_rival.trans State.enter_rival) hbefore
    · rw [if_neg (not_true_of_eq_false hkept)]
      exact ⟨hmod, fun g => State.parkedAt_issuing, State.parkedAt_cut, State.parkedAt_parking⟩
  case restart =>
    have hparked : s.mod = .parked → s.mod = .ready → s.parkedHere = false := fun hm hr => by
      rw [hm] at hr
      cases hr
    refine ⟨fun hpm hm hr hcut himage => ?_, fun hpm hm hwarn hlost hcut himage => ?_, fun hpm hm hwhy => ?_, fun hpm hm hwhy => ?_,
      fun hpm hm hr => ?_, execRestart_not_due hp⟩
    · have hhere := State.parkedHere_ready hm hr
      have hruns := execRestart_runs hp hpm (.inl hm) (fun _ => hhere) hcut himage (by rw [State.parkHeld, hhere, Bool.false_and])
      rw [hhere] at hruns
      exact hruns
    · have hfree : s.parkHeld = false := by obtain h | h := hwarn <;> simp [State.parkHeld, hlost, h]
      have hruns := execRestart_runs hp hpm (.inr hm) (hparked hm) hcut himage hfree
      rw [State.parkedHere_parked hm] at hruns
      exact hruns
    · have hhere : s.mod = .ready → s.parkedHere = false := fun hready =>
        hm.elim (fun h => State.parkedHere_ready h.1 h.2) fun h => hparked h hready
      exact execRestart_fails hp hpm (hm.imp_left And.left) hhere (hwhy.imp_right Or.inl)
    · refine execRestart_fails hp hpm (.inr hm) (hparked hm) (.inr (.inr ?_))
      obtain h | ⟨hwarn, hsupply⟩ := hwhy
      · simp [State.parkHeld, State.parkedHere_parked hm, h]
      · simp [State.parkHeld, State.parkedHere_parked hm, hwarn, hsupply]
    · have hhere : s.parkedHere = true := by simp [State.parkedHere, hr]
      exact (execRestart_due hp hpm (.inl hm)).trans (congrArg _ (if_pos ⟨hm, hhere⟩))

end Sys2Proof.Machine
end

section
/-!
Recovery letters (ch. 16): when the boot ROM takes one, what each leaves in the configuration flash, and the settling of O55.
-/
namespace Sys2Proof.Machine

variable {s : State}

/-! ## The configuration flash -/

theorem State.flashByte_flashWrite {p i : Nat} {l : List Byte} :
    (s.flashWrite p l).flashByte i = if p ≤ i ∧ i < p + l.length then byteAt l (i - p) else s.flashByte i := Map.get_fill ..

theorem State.flashByte_flashErase {p n i : Nat} :
    (s.flashErase p n).flashByte i = if p ≤ i ∧ i < p + n then 0xFF#8 else s.flashByte i := Map.get_fill ..

/-! ## Taking a letter (R495) -/

section
variable {ty : Nat} {body : State → State}

theorem State.recoveryLetter_idle (h : s.mod ≠ .recovery ∨ s.slotState true 0 ≠ 1) : s.recoveryLetter ty body = s := if_pos h

section
variable (hmod : s.mod = .recovery) (hpost : s.slotState true 0 = 1)
include hmod hpost

theorem State.recoveryLetter_unknown (hty : s.slotGet true 0 4 1 = 0x40) : s.recoveryLetter ty body = (s.collectSlot 0).answer 0 4 := by
  rw [State.recoveryLetter, if_neg (by simp [hmod, hpost]), hty]
  exact if_pos (.inl (by decide))

theorem State.recoveryLetter_taken (hty : s.slotGet true 0 4 1 = ty) (hrow : 0x41 ≤ ty ∧ ty ≤ 0x45) :
    s.recoveryLetter ty body = body (s.collectSlot 0) := by
  rw [State.recoveryLetter, if_neg (by simp [hmod, hpost]), hty]
  exact (if_neg (by omega)).trans (if_pos rfl)

end

end

/-- A letter whose row waits under the flash guard. -/
theorem guarded_letter {t u : State} (hg : s.pwr.guard = false) (h : t = u) : (Host.Outcome.next (if s.pwr.guard then s else t) : Ans) = .next u :=
  congrArg _ ((if_neg (not_true_of_eq_false hg)).trans h)

theorem guarded_idle {t : State} (h : t = s) : (Host.Outcome.next (if s.pwr.guard then s else t) : Ans) = .next s := by
  rw [h, ite_self]

/-! ## What each letter does (R496–R498) -/

/-- A letter of type `ty` posted in RECOVERY, with the flash guard off. -/
structure State.Recovers (s : State) (ty : Nat) : Prop where
  mod : s.mod = .recovery
  posted : s.slotState true 0 = 1
  type : s.slotGet true 0 4 1 = ty
  free : s.pwr.guard = false

theorem State.Recovers.taken {ty : Nat} {body : State → State} (h : s.Recovers ty) (hrow : 0x41 ≤ ty ∧ ty ≤ 0x45) :
    s.recoveryLetter ty body = body (s.collectSlot 0) := State.recoveryLetter_taken h.mod h.posted h.type hrow

theorem execInfo_answers (h : s.Recovers 0x41) : ∃ l : List Byte, execInfo s = .next ((s.collectSlot 0).answer 0 0 0 l)
    ∧ (l.drop 4).take 4 = [1, 2, 3, 4].map fun k => BitVec.ofNat 8 ((s.collectSlot 0).areaState k) :=
  ⟨_, congrArg _ (h.taken (by decide)), rfl⟩

/-- An area `a` that ERASE and COMMIT name. -/
def namesArea (a : Nat) : Prop := a = 1 ∨ a = 3 ∨ a = 4

theorem not_other_area {a : Nat} (ha : namesArea a) : ¬ (a ≠ 1 ∧ a ≠ 3 ∧ a ≠ 4) := by
  unfold namesArea at ha
  omega

/-- An area erased and open for WRITEs. -/
def State.eraseArea (s : State) (a : Nat) : State :=
  let s := s.flashErase (recoveryArea a) (areaSize (recoveryArea a))
  { s with boot := { s.boot with erased := a :: s.boot.erased.filter (· != a), written := s.boot.written.filter (·.1 != a) } }

theorem State.flashByte_eraseArea {a i : Nat} : (s.eraseArea a).flashByte i =
    if recoveryArea a ≤ i ∧ i < recoveryArea a + areaSize (recoveryArea a) then 0xFF#8 else s.flashByte i := State.flashByte_flashErase

theorem execErase_area (h : s.Recovers 0x42) (ha : namesArea ((s.collectSlot 0).pay 0 0 1)) :
    execErase s = .next (((s.collectSlot 0).eraseArea ((s.collectSlot 0).pay 0 0 1)).answer 0 0) :=
  guarded_letter h.free ((h.taken (by decide)).trans (if_neg (not_other_area ha)))

theorem execErase_other (h : s.Recovers 0x42) (h1 : (s.collectSlot 0).pay 0 0 1 ≠ 1) (h3 : (s.collectSlot 0).pay 0 0 1 ≠ 3)
    (h4 : (s.collectSlot 0).pay 0 0 1 ≠ 4) : execErase s = .next ((s.collectSlot 0).answer 0 5) :=
  guarded_letter h.free ((h.taken (by decide)).trans (if_pos ⟨h1, h3, h4⟩))

/-- The host's memory holds as many bytes as the letter asks for. -/
theorem State.hostRead_exact {slot n : Nat} {l : List Byte} {body : List Byte → State → State} (hlen : l.length = n) :
    s.hostRead slot n (some l) body = body l s := by
  rw [State.hostRead, if_pos (Nat.le_of_eq hlen.symm), List.take_of_length_le (Nat.le_of_eq hlen)]

/-- Bytes programmed by a WRITE, and the record of what is written. -/
def State.writeArea (s : State) (a off : Nat) (l : List Byte) : State :=
  let s := s.flashWrite (recoveryArea a + off) l
  { s with boot := { s.boot with written := (a, off, l.length) :: s.boot.written } }

theorem State.flashByte_writeArea {a off i : Nat} {l : List Byte} : (s.writeArea a off l).flashByte i =
    if recoveryArea a + off ≤ i ∧ i < recoveryArea a + off + l.length then byteAt l (i - (recoveryArea a + off)) else s.flashByte i :=
  State.flashByte_flashWrite

section
variable {data cells : Option (List Byte)}

theorem execRecoveryWrite_refused (h : s.Recovers 0x43) (hno : (s.collectSlot 0).writeAllowed ((s.collectSlot 0).pay 0 0 1)
      ((s.collectSlot 0).pay 0 4 4) ((s.collectSlot 0).pay 0 0x10 4) = false) :
    execRecoveryWrite data cells s = .next (((s.collectSlot 0).answer 0 1 0xA008).raise 0xA008 0) :=
  guarded_letter h.free ((h.taken (by decide)).trans (if_pos (congrArg not hno)))

theorem execRecoveryWrite_writes (h : s.Recovers 0x43) (hyes : (s.collectSlot 0).writeAllowed ((s.collectSlot 0).pay 0 0 1)
      ((s.collectSlot 0).pay 0 4 4) ((s.collectSlot 0).pay 0 0x10 4) = true) {l : List Byte} (hlen : l.length = (s.collectSlot 0).pay 0 0x10 4) :
    execRecoveryWrite (some l) none s =
      .next (((s.collectSlot 0).writeArea ((s.collectSlot 0).pay 0 0 1) ((s.collectSlot 0).pay 0 4 4) l).answer 0 0) := by
  refine guarded_letter h.free ((h.taken (by decide)).trans ((if_neg (not_true_of_eq_false (congrArg not hyes))).trans ?_))
  rw [State.hostRead_exact hlen, ← hlen]
  simp only [Option.getD_none, slice_whole, beq_self_eq_true, if_true]
  rfl

end

theorem execCommit_area (h : s.Recovers 0x44) (ha : namesArea ((s.collectSlot 0).pay 0 0 1)) :
    let t := s.collectSlot 0
    let u := { t with boot := { t.boot with erased := t.boot.erased.filter (· != t.pay 0 0 1) } }
    execCommit s = .next (if u.areaOk (t.pay 0 0 1) then u.answer 0 0 else (u.answer 0 9 0xA009).raise 0xA009 0) := by
  dsimp only
  rw [execCommit, h.taken (by decide)]
  dsimp only
  rw [if_neg (not_other_area ha)]

/-- The OWNER area after an enrolment: empty with REMOVE, else the key under its mark. -/
def State.enrolled (s : State) (b : List Byte) : State :=
  let s := s.flashErase Area.owner (areaSize Area.owner)
  if fieldAt b 0x20 1 % 2 = 1 then s else (s.flashWrite Area.owner (leBytes 4 1)).flashWrite (Area.owner + 0x40) (slice b 0x40 1952)

theorem execEnroll_read {b : List Byte} (h : s.Recovers 0x45) (hlen : b.length = 5376) : execEnroll (some b) s = .next
    (if !(s.collectSlot 0).enrolOk b then ((s.collectSlot 0).answer 0 1 0xA008).raise 0xA008 0 else ((s.collectSlot 0).enrolled b).answer 0 0) :=
  guarded_letter h.free ((h.taken (by decide)).trans (State.hostRead_exact hlen))

/-- Settles O55: each letter by the row that takes it, the flash by what is erased and programmed. -/
theorem recoveryLetters : Obligations.RecoveryLetters := by
  intro data cells s rows t goes a area
  have hrecovers : ∀ ty, goes ty → s.Recovers ty := fun ty ⟨hmod, hpost, hty, hfree⟩ => ⟨hmod, hpost, hty, hfree⟩
  refine ⟨?idle, ?guard, ?unknown, fun h => execInfo_answers (hrecovers _ h), fun h ha => ?erase,
    fun h => execErase_other (hrecovers _ h), fun h => execRecoveryWrite_refused (hrecovers _ h), fun h hyes l hdata hlen hcells => ?write,
    fun h ha => execCommit_area (hrecovers _ h) ha, fun h b hdata hlen => ?enroll⟩
  case idle =>
    intro r hr hidle
    have hstays : ∀ ty body, s.recoveryLetter ty body = s := fun ty body => State.recoveryLetter_idle hidle
    simp only [rows, List.mem_cons, List.not_mem_nil, or_false] at hr
    obtain rfl | rfl | rfl | rfl | rfl := hr
    · exact congrArg _ (hstays _ _)
    · exact guarded_idle (hstays _ _)
    · exact guarded_idle (hstays _ _)
    · exact congrArg _ (hstays _ _)
    · exact guarded_idle (hstays _ _)
  case guard => exact fun hguard => ⟨congrArg _ (if_pos hguard), congrArg _ (if_pos hguard), congrArg _ (if_pos hguard)⟩
  case unknown =>
    intro r hr hgo
    obtain ⟨hmod, hpost, hty, hfree⟩ := hgo
    have hother : ∀ ty body, s.recoveryLetter ty body = t.answer 0 4 := fun ty body => State.recoveryLetter_unknown hmod hpost hty
    simp only [rows, List.mem_cons, List.not_mem_nil, or_false] at hr
    obtain rfl | rfl | rfl | rfl | rfl := hr
    · exact congrArg _ (hother _ _)
    · exact guarded_letter hfree (hother _ _)
    · exact guarded_letter hfree (hother _ _)
    · exact congrArg _ (hother _ _)
    · exact guarded_letter hfree (hother _ _)
  case erase =>
    refine ⟨t.eraseArea a, execErase_area (hrecovers _ h) ha, fun i hlow hhigh => ?_, fun i hout => ?_, List.mem_cons_self, fun w hw => ?_, rfl, rfl⟩
    · rw [State.flashByte_eraseArea, if_pos ⟨hlow, hhigh⟩]
    · have hbeside : ¬ (recoveryArea a ≤ i ∧ i < recoveryArea a + areaSize (recoveryArea a)) := fun hin =>
        hout.elim (fun hlow => Nat.not_lt.mpr hin.1 hlow) fun hhigh => Nat.not_lt.mpr hhigh hin.2
      rw [State.flashByte_eraseArea, if_neg hbeside]
      rfl
    · have hkeep := (List.mem_filter.mp hw).2
      simpa using hkeep
  case write =>
    subst hdata hcells
    exact ⟨t.writeArea a (t.pay 0 4 4) l, execRecoveryWrite_writes (hrecovers _ h) hyes hlen, fun i => State.flashByte_writeArea, rfl, rfl⟩
  case enroll =>
    subst hdata
    have hread := execEnroll_read (hrecovers _ h) hlen
    refine ⟨fun hno => hread.trans (congrArg _ (if_pos (congrArg not hno))), fun hok hremove => ?_, fun hok hkeep => ?_⟩
    · refine hread.trans (congrArg _ ((if_neg (not_true_of_eq_false (congrArg not hok))).trans ?_))
      rw [State.enrolled, if_pos hremove]
    · refine hread.trans (congrArg _ ((if_neg (not_true_of_eq_false (congrArg not hok))).trans ?_))
      rw [State.enrolled, if_neg (by omega)]

end Sys2Proof.Machine
end

section
/-!
The sideband and the test access port (ch. 17): who answers a request and with what, what BYPASS shifts, and the settling of O56.
-/
namespace Sys2Proof.Machine

variable {s : State}

/-! ## Who answers (R3, R526) -/

/-- A sideband answer sent. -/
def said (t : State) (l : List Byte) : Ans := .next (t.say l)

/-- The power core of the hub in charge answers as its state says; in STANDBY the sideband management answers by itself. -/
theorem State.sidebandBusy_of (hmod : s.mod ≠ .standby) (hcore : s.pwrCore.st ≠ .running) : s.sidebandBusy = true := by
  simp [State.sidebandBusy, hmod, hcore]

section
variable (hawake : s.pwrCore.st = .running ∨ s.mod = .standby)
include hawake

theorem State.sidebandUp_awake : s.sidebandUp = true := by
  obtain h | h := hawake <;> simp [State.sidebandUp, h]

theorem State.sidebandBusy_awake : s.sidebandBusy = false := by
  obtain h | h := hawake <;> simp [State.sidebandBusy, h]

end

section
variable {ty cmd : Nat}

/-- The head of an answer of Mirvodor's own type (R527). -/
def State.vendorHead (s : State) (cmd status : Nat) : List Byte :=
  leBytes 1 0x7F ++ (leBytes 4 (s.reg Reg.PWR_IANA)).reverse ++ leBytes 1 cmd ++ leBytes 1 status

/-- No answer without a power core, and a busy one while it restarts. -/
theorem State.vendor_row {body : State → State × List Byte} :
    (s.sidebandUp = false → (Host.Outcome.next (s.vendor cmd body) : Ans) = .next s)
    ∧ (s.sidebandUp = true → s.mod ≠ .standby → s.pwrCore.st ≠ .running →
        (Host.Outcome.next (s.vendor cmd body) : Ans) = said s (s.vendorHead cmd 1 ++ [])) := by
  refine ⟨fun hdown => congrArg _ (if_pos (congrArg not hdown)), fun hup hmod hcore => congrArg _ ?_⟩
  exact (if_neg (not_true_of_eq_false (congrArg not hup))).trans (if_pos (State.sidebandBusy_of hmod hcore))

theorem State.mctp_row {body : State → State × Nat × List Byte} :
    (s.sidebandUp = false → (Host.Outcome.next (s.mctp cmd body) : Ans) = .next s)
    ∧ (s.sidebandUp = true → s.mod ≠ .standby → s.pwrCore.st ≠ .running →
        (Host.Outcome.next (s.mctp cmd body) : Ans) = said s (leBytes 1 0 ++ leBytes 1 cmd ++ leBytes 1 4 ++ [])) := by
  refine ⟨fun hdown => congrArg _ (if_pos (congrArg not hdown)), fun hup hmod hcore => congrArg _ ?_⟩
  exact (if_neg (not_true_of_eq_false (congrArg not hup))).trans (if_pos (State.sidebandBusy_of hmod hcore))

theorem State.pldm_row {body : State → State × Nat × List Byte} :
    (s.sidebandUp = false → (Host.Outcome.next (s.pldm ty cmd body) : Ans) = .next s)
    ∧ (s.sidebandUp = true → s.mod ≠ .standby → s.pwrCore.st ≠ .running →
        (Host.Outcome.next (s.pldm ty cmd body) : Ans) = said s (leBytes 1 1 ++ leBytes 1 ty ++ leBytes 1 cmd ++ leBytes 1 4 ++ [])) := by
  refine ⟨fun hdown => congrArg _ (if_pos (congrArg not hdown)), fun hup hmod hcore => congrArg _ ?_⟩
  exact (if_neg (not_true_of_eq_false (congrArg not hup))).trans (if_pos (State.sidebandBusy_of hmod hcore))

/-! ## What is answered (R525–R527) -/

section
variable (hawake : s.pwrCore.st = .running ∨ s.mod = .standby)
include hawake

theorem State.vendor_awake {body : State → State × List Byte} {t : State} {l : List Byte} (h : body s = (t, l)) :
    (Host.Outcome.next (s.vendor cmd body) : Ans) = said t (t.vendorHead cmd 0 ++ l) := by
  rw [State.vendor, State.sidebandUp_awake hawake, State.sidebandBusy_awake hawake, h]
  rfl

theorem State.mctp_awake {body : State → State × Nat × List Byte} {t : State} {code : Nat} {l : List Byte} (h : body s = (t, code, l)) :
    (Host.Outcome.next (s.mctp cmd body) : Ans) = said t (leBytes 1 0 ++ leBytes 1 cmd ++ leBytes 1 code ++ l) := by
  rw [State.mctp, State.sidebandUp_awake hawake, State.sidebandBusy_awake hawake, h]
  rfl

theorem State.pldm_awake {body : State → State × Nat × List Byte} {t : State} {code : Nat} {l : List Byte} (h : body s = (t, code, l)) :
    (Host.Outcome.next (s.pldm ty cmd body) : Ans) = said t (leBytes 1 1 ++ leBytes 1 ty ++ leBytes 1 cmd ++ leBytes 1 code ++ l) := by
  rw [State.pldm, State.sidebandUp_awake hawake, State.sidebandBusy_awake hawake, h]
  rfl

theorem execGetSensorReading_some {h : BitVec 16} {v : Nat} (hv : s.sensor h.toNat = some v) : ∃ l : List Byte, l.length = 6
    ∧ execGetSensorReading h s = said s (leBytes 1 1 ++ leBytes 1 2 ++ leBytes 1 0x11 ++ leBytes 1 0 ++ (l ++ leBytes 2 v)) := by
  refine ⟨leBytes 3 2 ++ slice (Config.pldmData 0x11 h.toNat) 0 3, rfl, State.pldm_awake hawake ?_⟩
  rw [hv]

theorem execGetSensorReading_none {h : BitVec 16} (hv : s.sensor h.toNat = none) :
    execGetSensorReading h s = said s (leBytes 1 1 ++ leBytes 1 2 ++ leBytes 1 0x11 ++ leBytes 1 0x80 ++ []) := by
  refine State.pldm_awake hawake ?_
  rw [hv]

end

end

/-! ## The bypass register (R524) -/

theorem length_bypassed {l : List Bool} : (bypassed l).length = l.length := by
  cases l with
  | nil => rfl
  | cons x l => simp [bypassed]

theorem getElem?_bypassed {l : List Bool} {i : Nat} (hi : i + 1 < l.length) : (bypassed l)[i + 1]? = l[i]? := by
  cases l with
  | nil => exact absurd hi (Nat.not_lt_zero _)
  | cons x l =>
    have hlt : i < (x :: l).length - 1 := by omega
    simp only [bypassed, List.isEmpty_cons, Bool.false_eq_true, if_false, List.getElem?_cons_succ, List.getElem?_dropLast, if_pos hlt]

/-- Settles O56: a request by the row of its type, the access port by its instruction. -/
theorem sideband : Obligations.Sideband := by
  refine ⟨?requests, ?port⟩
  case requests =>
    intro b h w seq s say vendor mctp pldm rows given
    refine ⟨?rows, fun hawake => ?awake⟩
    case rows =>
      simp only [rows, List.forall_mem_cons]
      exact ⟨State.vendor_row, State.vendor_row, State.vendor_row, State.mctp_row, State.mctp_row, State.mctp_row, State.mctp_row, State.pldm_row,
        State.pldm_row, State.pldm_row, State.pldm_row, State.pldm_row, State.pldm_row, State.pldm_row, State.pldm_row, State.pldm_row,
        fun r hr => absurd hr List.not_mem_nil⟩
    case awake =>
      refine ⟨State.vendor_awake hawake rfl, State.vendor_awake hawake rfl, ⟨s.parkReq, rfl, State.vendor_awake hawake rfl⟩,
        fun h0 hff => ?ids, fun hbad => ?noIds, State.mctp_awake hawake rfl, fun hty => ?versions, State.mctp_awake hawake rfl,
        State.pldm_awake hawake rfl, State.pldm_awake hawake rfl, State.pldm_awake hawake rfl, State.pldm_awake hawake rfl,
        fun v => execGetSensorReading_some hawake, execGetSensorReading_none hawake, State.pldm_awake hawake rfl, State.pldm_awake hawake rfl,
        State.pldm_awake hawake rfl⟩
      case ids =>
        have hvalid : ¬ (b = 0#8 ∨ b = 0xFF#8) := not_or.mpr ⟨h0, hff⟩
        exact ⟨State.mctp_awake hawake (if_neg hvalid), State.pldm_awake hawake (if_neg hvalid)⟩
      case noIds => exact ⟨State.mctp_awake hawake (if_pos hbad), State.pldm_awake hawake (if_pos hbad)⟩
      case versions => exact ⟨slice (Config.pldmData 0x0400 b.toNat) 0 4, rfl, State.mctp_awake hawake (if_pos hty)⟩
  case port =>
    intro l shift s out cap scanned
    refine ⟨fun hoff => ?off, fun hon => ?on, length_bypassed, fun i => getElem?_bypassed⟩
    case off => exact ⟨congrArg _ (if_pos hoff), congrArg _ (if_pos hoff), congrArg _ (if_pos hoff), congrArg _ (if_pos hoff)⟩
    case on =>
      exact ⟨congrArg _ (if_neg hon), congrArg _ (if_neg hon), congrArg _ (if_neg hon),
        fun hstandby => congrArg _ ((if_neg hon).trans (if_pos hstandby)),
        fun hother => congrArg _ ((if_neg hon).trans (if_neg hother))⟩

end Sys2Proof.Machine
end

section
/-!
Host letters (ch. 15): when a letter starts, what each type does on its way, and the settling of O52.
-/
namespace Sys2Proof.Machine

variable {s : State}

/-! ## Starting a letter (R460, R461) -/

/-- The slot holds a collected letter of type `ty` whose turn it is, with a scheduler core to take it. -/
def State.letterHere (s : State) (slot ty : Nat) : Prop :=
  s.slotState true slot = 2 ∧ s.slotGet true slot 4 1 = ty ∧ s.schUp = true ∧ (isControl ty = true → s.host.control.head? = some slot)

/-- It is accepted in the module's state. -/
def State.letterGoes (s : State) (slot ty : Nat) : Prop := s.letterHere slot ty ∧ accepts ty s.mod = true

section
variable {slot ty : Nat} {body : State → State}

theorem State.startLetter_elsewhere (h : ¬ s.letterHere slot ty) : s.startLetter slot ty body = s := by
  rw [State.startLetter]
  split
  · rfl
  split
  · rfl
  · rename_i hslot hturn
    refine absurd ?_ h
    simp only [not_or, not_not, Bool.not_eq_true', Bool.not_eq_false] at hslot
    obtain ⟨hstate, htype, hsch⟩ := hslot
    refine ⟨hstate, htype, hsch, fun hcontrol => ?_⟩
    simpa [hcontrol] using hturn

theorem State.startLetter_here (h : s.letterHere slot ty) : s.startLetter slot ty body =
    if !(accepts ty s.mod || (ty == 9 && s.parkedYet)) then s.answer slot 6 else body s := by
  obtain ⟨hstate, htype, hsch, hturn⟩ := h
  have hmine : ¬ (isControl ty && s.host.control.head? != some slot) = true := by
    cases hcontrol : isControl ty with
    | false => simp
    | true => simp [hturn hcontrol]
  rw [State.startLetter, if_neg (by simp [hstate, htype, hsch]), if_neg hmine]

theorem State.startLetter_refused (h : s.letterHere slot ty) (hno : accepts ty s.mod = false) (hnine : ty ≠ 9 ∨ s.parkedYet = false) :
    s.startLetter slot ty body = s.answer slot 6 := by
  rw [State.startLetter_here h]
  refine if_pos ?_
  obtain hnine | hnine := hnine <;> simp [hno, hnine]

theorem State.startLetter_goes (h : s.letterGoes slot ty) : s.startLetter slot ty body = body s := by
  rw [State.startLetter_here h.1]
  refine if_neg ?_
  simp [h.2]

/-- A letter that goes runs the body of its row. -/
theorem State.letter_goes (h : s.letterGoes slot ty) : (Host.Outcome.next (s.startLetter slot ty body) : Ans) = .next (body s) :=
  congrArg _ (State.startLetter_goes h)

/-- What holds of a letter of every type. -/
theorem State.letter_row : (¬ s.letterHere slot ty → (Host.Outcome.next (s.startLetter slot ty body) : Ans) = .next s)
    ∧ (s.letterHere slot ty → accepts ty s.mod = false → ty ≠ 9 ∨ s.parkedYet = false →
        (Host.Outcome.next (s.startLetter slot ty body) : Ans) = .next (s.answer slot 6)) :=
  ⟨fun h => congrArg _ (State.startLetter_elsewhere h), fun h hno hnine => congrArg _ (State.startLetter_refused h hno hnine)⟩

end

/-! ## Negotiation (R465) -/

theorem leNat_lt {l : List Byte} : leNat l < 256 ^ l.length := by
  induction l with
  | nil => exact Nat.one_pos
  | cons b l ih =>
    rw [leNat, List.length_cons, Nat.pow_succ]
    have hbyte := b.isLt
    omega

theorem State.pay_lt {slot o n : Nat} : s.pay slot o n < 256 ^ n := by
  have hlt := leNat_lt (l := s.slotBytes true slot (0x20 + o) n)
  rwa [State.slotBytes, List.length_map, List.length_range] at hlt

/-- WANT and GRANT of the first `n` words, `want` being what the letter asks for. -/
def State.negotiated (s : State) (same : Bool) (want : Nat → Nat) (n : Nat) : State :=
  (List.range n).foldl (fun (t : State) k => (t.setReg (Reg.HOST_FEAT_WANT0 + 4 * k) (want k)).setReg (Reg.HOST_FEAT_GRANT0 + 4 * k)
    (grantWord same (t.reg (Reg.HOST_FEAT_OFFER0 + 4 * k)) (want k) k)) s

section
variable {same : Bool} {want : Nat → Nat} {n k : Nat}

theorem State.negotiated_succ : s.negotiated same want (n + 1) =
    ((s.negotiated same want n).setReg (Reg.HOST_FEAT_WANT0 + 4 * n) (want n)).setReg (Reg.HOST_FEAT_GRANT0 + 4 * n)
      (grantWord same ((s.negotiated same want n).reg (Reg.HOST_FEAT_OFFER0 + 4 * n)) (want n) n) := by
  rw [State.negotiated, List.range_succ, List.foldl_append]
  rfl

/-- A register that none of the words writes. -/
theorem State.reg_negotiated_other {r : Nat} (hw : ∀ j < n, r ≠ Reg.HOST_FEAT_WANT0 + 4 * j) (hg : ∀ j < n, r ≠ Reg.HOST_FEAT_GRANT0 + 4 * j) :
    (s.negotiated same want n).reg r = s.reg r := by
  induction n with
  | zero => rfl
  | succ n ih =>
    rw [State.negotiated_succ, State.reg_setReg_ne _ _ (hg n (Nat.lt_succ_self n)), State.reg_setReg_ne _ _ (hw n (Nat.lt_succ_self n)),
      ih (fun j hj => hw j (Nat.lt_succ_of_lt hj)) fun j hj => hg j (Nat.lt_succ_of_lt hj)]

theorem State.reg_negotiated (hk : k < n) (hn : n ≤ 8) :
    (s.negotiated same want n).reg (Reg.HOST_FEAT_WANT0 + 4 * k) = want k % 2 ^ 32
    ∧ (s.negotiated same want n).reg (Reg.HOST_FEAT_GRANT0 + 4 * k) =
      grantWord same (s.reg (Reg.HOST_FEAT_OFFER0 + 4 * k)) (want k) k % 2 ^ 32 := by
  induction n with
  | zero => exact absurd hk (Nat.not_lt_zero k)
  | succ n ih =>
    have hapart : Reg.HOST_FEAT_WANT0 + 4 * k ≠ Reg.HOST_FEAT_GRANT0 + 4 * n := by
      simp only [Reg.HOST_FEAT_WANT0, Reg.HOST_FEAT_GRANT0]
      omega
    have hapart' : Reg.HOST_FEAT_GRANT0 + 4 * k ≠ Reg.HOST_FEAT_WANT0 + 4 * n := by
      simp only [Reg.HOST_FEAT_WANT0, Reg.HOST_FEAT_GRANT0]
      omega
    rw [State.negotiated_succ, State.reg_setReg_ne _ _ hapart]
    by_cases hlast : k = n
    · subst hlast
      have hoffer : (s.negotiated same want k).reg (Reg.HOST_FEAT_OFFER0 + 4 * k) = s.reg (Reg.HOST_FEAT_OFFER0 + 4 * k) := by
        refine State.reg_negotiated_other (fun j hj => ?_) fun j hj => ?_ <;>
          simp only [Reg.HOST_FEAT_OFFER0, Reg.HOST_FEAT_WANT0, Reg.HOST_FEAT_GRANT0] <;> omega
      rw [State.reg_setReg, State.reg_setReg, hoffer]
      exact ⟨rfl, rfl⟩
    · have hlt : k < n := by omega
      rw [State.reg_setReg_ne _ _ (by omega), State.reg_setReg_ne _ _ (by omega), State.reg_setReg_ne _ _ hapart']
      exact ih hlt (by omega)

theorem State.negotiated_regs : s.negotiated same want n = { s with regs := (s.negotiated same want n).regs } := by
  refine foldl_keeps (fun t : State => t = { s with regs := t.regs }) _ (fun t k ht => ?_) _ _ rfl
  rw [ht]
  rfl

/-- Past word 0 the grant is what is offered and wanted, and nothing with another major version. -/
theorem grantWord_pos {offer w : Nat} (hk : k ≠ 0) : grantWord same offer w k = if same then Nat.land offer w else 0 := by
  cases same
  · exact if_neg hk
  · exact (congrArg (Nat.lor (Nat.land offer w)) (if_neg hk)).trans (Nat.or_zero _)

end

section
variable {slot : Fin 16}

/-- The letter names the major version of the interface. -/
def State.sameVersion (s : State) (slot : Nat) : Bool := s.pay slot 0 2 == s.fld Reg.HOST_IF_VERSION 31 16

/-- The features negotiated, and BUFFER counted anew. -/
def State.negotiation (s : State) (slot : Nat) : State :=
  let t := s.negotiated (s.sameVersion slot) (fun k => s.pay slot (0x20 + 4 * k) 4) 8
  { t with host := { t.host with drainCount := 0 } }

theorem execNegotiate_goes (h : s.letterGoes slot 1) :
    ∃ l, execNegotiate slot s = .next ((s.negotiation slot).answer slot (if s.sameVersion slot then 0 else 8) 0 l) :=
  ⟨_, congrArg Host.Outcome.next (State.startLetter_goes h)⟩

theorem State.negotiation_frame {slot : Nat} :
    s.negotiation slot = { s with regs := (s.negotiation slot).regs, host := { s.host with drainCount := 0 } } := by
  rw [State.negotiation, State.negotiated_regs]

theorem State.reg_negotiation_eq {slot r : Nat} : (s.negotiation slot).reg r =
    (s.negotiated (s.sameVersion slot) (fun k => s.pay slot (0x20 + 4 * k) 4) 8).reg r := by
  simp only [State.negotiation, State.reg]

theorem State.reg_negotiation {slot k : Nat} (hk : k < 8) :
    (s.negotiation slot).reg (Reg.HOST_FEAT_WANT0 + 4 * k) = s.pay slot (0x20 + 4 * k) 4
    ∧ (k ≠ 0 → (s.negotiation slot).reg (Reg.HOST_FEAT_GRANT0 + 4 * k) =
        if s.sameVersion slot then Nat.land (s.reg (Reg.HOST_FEAT_OFFER0 + 4 * k)) (s.pay slot (0x20 + 4 * k) 4) else 0) := by
  obtain ⟨hwant, hgrant⟩ := State.reg_negotiated (s := s) (same := s.sameVersion slot) (want := fun k => s.pay slot (0x20 + 4 * k) 4) hk (Nat.le_refl 8)
  have hword : s.pay slot (0x20 + 4 * k) 4 < 2 ^ 32 := State.pay_lt.trans_eq (by norm_num)
  rw [State.reg_negotiation_eq, State.reg_negotiation_eq, hwant, hgrant]
  refine ⟨Nat.mod_eq_of_lt hword, fun hpos => ?_⟩
  rw [grantWord_pos hpos]
  split
  · exact Nat.mod_eq_of_lt (Nat.lt_of_le_of_lt Nat.and_le_right hword)
  · rfl

end

end Sys2Proof.Machine
end

section
/-!
Host letters (ch. 15), continued: what each type of letter does once it is taken, and the settling of O52.
-/
namespace Sys2Proof.Machine

variable {s : State} {slot : Fin 16} {data : Option (List Byte)}

/-! ## RECOVER_REQ and UPDATE (R423, R489) -/

theorem execRecoverReq_goes (h : s.letterGoes slot 2) (hsec : s.secUp = true) (hguard : s.pwr.guard = false) : execRecoverReq slot s =
    .next ((({ s with boot := { s.boot with recover := true } } : State).appendCounter 3 1).answer slot 0) := by
  have hgo : ¬ ((!s.secUp) = true ∨ s.pwr.guard = true) := by simp [hsec, hguard]
  exact (State.letter_goes h).trans (congrArg _ (if_neg hgo))

/-- The letter of an update in progress is started already. -/
theorem execUpdate_again (h : s.letterGoes slot 3) {k : Nat} (hupdate : s.fw.update = some (slot.val, k)) : execUpdate slot data s = .next s := by
  have hmine : (s.fw.update.any fun u => u.1 == slot.val) = true := by simp [hupdate]
  exact (State.letter_goes h).trans (congrArg _ (if_pos hmine))

theorem execUpdate_refused (h : s.letterGoes slot 3)
    (hwhy : (∃ u, s.fw.update = some u ∧ u.1 ≠ slot.val) ∨ (s.fw.update = none ∧ s.secUp = false)) :
    execUpdate slot data s = .next ((s.answer slot 1 0x800D).raise 0x800D 0) := by
  have hother : ¬ (s.fw.update.any fun u => u.1 == slot.val) = true := by
    obtain ⟨u, hu, hne⟩ | ⟨hnone, -⟩ := hwhy
    · simp [hu, hne]
    · simp [hnone]
  have hbusy : s.fw.update.isSome = true ∨ (!s.secUp) = true := by
    obtain ⟨u, hu, -⟩ | ⟨-, hsec⟩ := hwhy
    · exact .inl (by simp [hu])
    · exact .inr (by simp [hsec])
  exact (State.letter_goes h).trans (congrArg _ ((if_neg hother).trans (if_pos hbusy)))

theorem execUpdate_goes (h : s.letterGoes slot 3) (hnone : s.fw.update = none) (hsec : s.secUp = true) {l : List Byte}
    (hlen : l.length = s.pay slot 4 4) (hfields : imageFields (s.pay slot 0 1) l = true) (hsigned : s.imageSigned l = true) :
    let t := (List.range 2).foldl (fun (t : State) h => t.setCached h (s.pay slot 0 1) true l) s
    execUpdate slot (some l) s = .next (({ t with fw := { t.fw with update := some (slot.val, s.pay slot 0 1) } } : State).updateNext none) := by
  have hother : ¬ (s.fw.update.any fun u => u.1 == slot.val) = true := by simp [hnone]
  have hfree : ¬ (s.fw.update.isSome = true ∨ (!s.secUp) = true) := by simp [hnone, hsec]
  have hgood : (imageFields (s.pay slot 0 1) l && s.imageSigned l) = true := by rw [hfields, hsigned, Bool.and_self]
  refine (State.letter_goes h).trans (congrArg _ ((if_neg hother).trans ((if_neg hfree).trans ?_)))
  exact (State.hostRead_exact hlen).trans (if_pos hgood)

/-! ## IMAGE_LOAD, JOIN and RUN (R141, R346, R350) -/

theorem execImageLoad_out (h : s.letterGoes slot 4) (hout : s.inService (s.pay slot 0 8) (s.pay slot 8 8) = false) :
    execImageLoad slot s = .next (s.answer slot 5) :=
  (State.letter_goes h).trans (congrArg _ (if_pos (congrArg not hout)))

section
variable (h : s.letterGoes slot 4) (hin : s.inService (s.pay slot 0 8) (s.pay slot 8 8) = true) (hsec : s.secUp = true)
include h hin hsec

theorem execImageLoad_ok {t : State} (hload : s.loadImage (s.pay slot 0 8) (s.pay slot 8 8) = .ok t) :
    execImageLoad slot s = .next (t.answer slot 0) := by
  rw [execImageLoad, State.startLetter_goes h]
  dsimp only
  rw [if_neg (not_true_of_eq_false (congrArg not hin)), if_neg (not_true_of_eq_false (congrArg not hsec)), hload]

theorem execImageLoad_error {code inst : Nat} (hload : s.loadImage (s.pay slot 0 8) (s.pay slot 8 8) = .error (code, inst)) :
    execImageLoad slot s = .next ((s.answer slot 1 code).raise code inst) := by
  rw [execImageLoad, State.startLetter_goes h]
  dsimp only
  rw [if_neg (not_true_of_eq_false (congrArg not hin)), if_neg (not_true_of_eq_false (congrArg not hsec)), hload]

end

theorem execJoin_goes (h : s.letterGoes slot 5) (hstep : s.dom.joinStep = 0) (hlow : 0x20 + 2 * s.pay slot 2 2 ≤ s.slotGet true slot 6 2)
    (hhigh : s.slotGet true slot 6 2 ≤ 2016) :
    execJoin slot s = .next (if s.joinRecordOk slot then s.beginJoin slot else (s.answer slot 1 0x7305).raise 0x7305 0) := by
  have hsize : ¬ (s.slotGet true slot 6 2 < 0x20 + 2 * s.pay slot 2 2 ∨ 2016 < s.slotGet true slot 6 2) := by omega
  exact (State.letter_goes h).trans (congrArg _ ((if_neg (not_not_intro hstep)).trans (if_neg hsize)))

theorem execRun_unready (h : s.letterGoes slot 6) (hwhy : s.dom.joined = false ∨ s.image.loaded = false) :
    execRun slot s = .next (s.answer slot 6) := by
  have hnot : (!s.dom.joined || !s.image.loaded) = true := by obtain hwhy | hwhy := hwhy <;> simp [hwhy]
  exact (State.letter_goes h).trans (congrArg _ (if_pos hnot))

theorem execRun_goes (h : s.letterGoes slot 6) (hjoin : s.dom.joined = true) (himage : s.image.loaded = true) (halign : s.pay slot 0 8 % 65536 = 0) :
    execRun slot s = .next (if s.pay slot 0 8 ≤ s.pm then (s.answer slot 1 0x730A).raise 0x730A 0
      else { s with host := { s.host with runArmed := some (slot.val, s.pay slot 0 8) } }) := by
  have hready : ¬ (!s.dom.joined || !s.image.loaded) = true := by simp [hjoin, himage]
  exact (State.letter_goes h).trans (congrArg _ ((if_neg hready).trans (if_neg (not_not_intro halign))))

/-! ## MICROBATCH (R463) -/

theorem State.writeBond_host {a p : Nat} {l : List Byte} : (s.writeBond a l p).host = s.host := by
  rw [State.writeBond_bondOnly (s := s) (a := a) (data := l) (poison := p) (op := false)]

theorem State.pay_of_host {t : State} {n o k : Nat} (h : t.host = s.host) : t.pay n o k = s.pay n o k := by
  simp only [State.pay, State.slotGet, h]

theorem State.liveCores_writeBond {a p : Nat} {l : List Byte} {b : Bucket} : (s.writeBond a l p).liveCores b = s.liveCores b := by
  rw [State.writeBond_bondOnly (s := s) (a := a) (data := l) (poison := p) (op := false)]
  rfl

theorem execMicrobatch_goes (h : s.letterGoes slot 7) (hfirst : (s.host.micro.any fun m => m.slot == slot.val) = false)
    (hstep : s.pay slot 0 8 % 2 ^ 40 = s.step40) (hin : s.inService (s.pay slot 0x28 8) (s.pay slot 0x20 8) = true) {b : Bucket} {l : List Byte}
    (hbucket : s.bucketOf (s.pay slot 8 2) = some b) (htokens : s.pay slot 0xC 4 ≤ b.tokens) (hseq : s.pay slot 0x10 4 ≤ b.seqMax)
    (hlen : l.length = s.pay slot 0x20 8) :
    let t := s.writeBond (s.pay slot 0x28 8) l 0
    execMicrobatch slot (some l) s = .next (if (s.liveCores b).isEmpty then t.answer slot 0 else { t with host := { t.host with
      micro := t.host.micro ++ [{ slot := slot.val, step := s.pay slot 0 8 % 2 ^ 40, pass := s.pay slot 8 2
                                  word := s.pay slot 0xC 4 + s.pay slot 0xA 2 * 2 ^ 32, cores := s.liveCores b }] } }) := by
  have hrange : ¬ ((s.pay slot 0 8 % 2 ^ 40 ≠ s.step40 ∧ s.pay slot 0 8 % 2 ^ 40 ≠ (s.step40 + 1) % 2 ^ 40)
      ∨ (!s.inService (s.pay slot 0x28 8) (s.pay slot 0x20 8)) = true) := by
    rintro (⟨hnow, -⟩ | hout)
    · exact hnow hstep
    · exact Bool.false_ne_true ((congrArg not hin).symm.trans hout)
  have hfits : ¬ (b.tokens < s.pay slot 0xC 4 ∨ b.seqMax < s.pay slot 0x10 4) := by omega
  intro t
  have hcores : t.liveCores b = s.liveCores b := State.liveCores_writeBond
  have hword : t.pay slot 0xA 2 = s.pay slot 0xA 2 := State.pay_of_host State.writeBond_host
  rw [execMicrobatch, State.startLetter_goes h]
  dsimp only
  rw [if_neg (not_true_of_eq_false hfirst), if_neg hrange, hbucket]
  dsimp only
  rw [if_neg hfits, State.hostRead_exact hlen, hcores, hword]

/-! ## RESTORE, RELEASE and FILL (R396, R404, R462) -/

theorem execRestore_cut (h : s.letterGoes slot 8) (hmod : s.mod = .parked) (hsource : s.pay slot 8 1 = 0) (halign : s.pay slot 0x10 8 % 65536 = 0)
    (hcut : s.reg64 Reg.RES_CUT_LO % 2 ^ 40 = s.pay slot 0 8) (hmap : s.res.cutMapOut = false) (hlost : s.channelLost = false)
    (htorn : s.res.tornRestore = false) (hproof : bit (s.pay slot 0xA 1) 0 = false) :
    execRestore slot data s = .next ((s.beginRestore (s.pay slot 0x10 8)).restored slot (s.pay slot 0 8) none) := by
  have hready : ¬ (s.mod = .ready ∧ (!(s.dom.joined && s.image.loaded)) = true) := by simp [hmod]
  have hrange : ¬ (2 < s.pay slot 8 1 ∨ (s.pay slot 8 1 = 2 ∧ 3 < s.pay slot 9 1) ∨ s.pay slot 0x10 8 % 65536 ≠ 0) := by omega
  have hgo : s.mod = .parked ∧ s.reg64 Reg.RES_CUT_LO % 2 ^ 40 = s.pay slot 0 8 ∧ (!s.res.cutMapOut) = true ∧ (!s.channelLost) = true
      ∧ (!s.res.tornRestore) = true ∧ (!bit (s.pay slot 0xA 1) 0) = true :=
    ⟨hmod, hcut, congrArg not hmap, congrArg not hlost, congrArg not htorn, congrArg not hproof⟩
  exact (State.letter_goes h).trans (congrArg _ ((if_neg hready).trans ((if_neg hrange).trans ((if_pos hsource).trans (if_pos hgo)))))

theorem execRestore_range (h : s.letterGoes slot 8) (hmod : s.mod = .parked) (hwhy : 2 < s.pay slot 8 1 ∨ s.pay slot 0x10 8 % 65536 ≠ 0) :
    execRestore slot data s = .next (s.answer slot 5) := by
  have hready : ¬ (s.mod = .ready ∧ (!(s.dom.joined && s.image.loaded)) = true) := by simp [hmod]
  exact (State.letter_goes h).trans (congrArg _ ((if_neg hready).trans (if_pos (hwhy.imp_right .inr))))

theorem execReleaseLetter_goes (h : s.letterGoes slot 9) (hfree : (s.pwr.warn && s.pwr.supplyParked) = false) :
    execReleaseLetter slot s = .next (s.leaveParked.answer slot 0) :=
  (State.letter_goes h).trans (congrArg _ (if_neg (not_true_of_eq_false hfree)))

theorem execFill_goes (h : s.letterGoes slot 0xB) (hguard : s.pwr.guard = false) (habsent : s.fw.absent = false)
    (hfirst : bit (s.pay slot 0 1) 0 = true) (hoff : s.pay slot 8 8 = 0) (hbufs : s.bufsOk slot (s.pay slot 2 2) = true) {k : Nat} {l : List Byte}
    (hslot : s.chooseSlot = some k) (hlen : l.length = ((s.bufEntries slot (s.pay slot 2 2)).map fun e => e.2).sum)
    (hfits : l.length ≤ 2 * slotBytes) : execFill slot (some l) s = .next (s.fillPart slot k 0 (bit (s.pay slot 0 1) 1) l) := by
  have hrange : ¬ (!s.bufsOk slot (s.pay slot 2 2) || (bit (s.pay slot 0 1) 0 != decide (s.pay slot 8 8 = 0))
      || decide (2 * slotBytes < s.pay slot 8 8 + ((s.bufEntries slot (s.pay slot 2 2)).map fun e => e.2).sum)) = true := by
    rw [← hlen, hoff, Nat.zero_add]
    simp [hbufs, hfirst, Nat.not_lt.mpr hfits]
  rw [execFill, State.startLetter_goes h]
  dsimp only
  rw [if_neg (not_true_of_eq_false hguard), if_neg (not_true_of_eq_false habsent), if_neg hrange, if_pos hfirst, hslot]
  dsimp only
  rw [State.hostRead_exact hlen, hoff]

/-! ## ATTEST (R492, R493) -/

theorem execAttest_goes (h : s.letterGoes slot 0xC) (hsec : s.secUp = true) (hroom : 14877 ≤ s.pay slot 0x28 4) {key : List Byte}
    (hkey : s.boot.pufKey = some key) (hid : s.fld Reg.SEC_STAT 2 2 = 1) :
    let body := s.reportBody (s.slotBytes true slot 0x20 32)
    let sig := Config.mldsaSign (identitySeed key) (shake512 body) (Config.random s.freeIx)
    execAttest slot true s = .next (({ s with
      freeIx := s.freeIx + 1, out := .hostWrite (s.pay slot 0x20 8) (body ++ slice sig 0 3309) :: s.out } : State).answer slot 0 0 (leBytes 4 14877)) := by
  have hnone : ¬ s.fld Reg.SEC_STAT 2 2 = 0 := by
    rw [hid]
    decide
  intro body sig
  rw [execAttest, State.startLetter_goes h]
  dsimp only
  rw [if_neg (not_true_of_eq_false (congrArg not hsec)), if_neg (Nat.not_lt.mpr hroom), hkey]
  dsimp only
  rw [if_neg hnone]
  rfl

/-- Settles O52: whether a letter starts by `State.letter_row`, what it does by the case of its type. -/
theorem hostLetters : Obligations.HostLetters := by
  intro slot data s pay rows here goes
  refine ⟨?rows, fun h => ?negotiate, execRecoverReq_goes, fun h k => execUpdate_again h, execUpdate_refused,
    fun h hnone hsec l hdata hlen hfields hsigned => ?update, execImageLoad_out, fun h hin hsec => ?load, execJoin_goes,
    fun h hjoin himage halign hahead => (execRun_goes h hjoin himage halign).trans (congrArg _ (if_neg (Nat.not_le.mpr hahead))), execRun_unready,
    fun h hjoin himage halign hpast => (execRun_goes h hjoin himage halign).trans (congrArg _ (if_pos hpast)),
    fun h hfirst hstep hin b l hbucket htokens hseq hdata hlen => ?microbatch, execRestore_cut, execRestore_range, execReleaseLetter_goes,
    fun h => State.letter_goes h, fun h hguard habsent hfirst hoff hbufs k l hslot hdata hlen hfits => ?fill,
    fun h hsec hroom key hkey hid => execAttest_goes h hsec hroom hkey hid⟩
  case rows =>
    simp only [rows, List.forall_mem_cons]
    exact ⟨State.letter_row, State.letter_row, State.letter_row, State.letter_row, State.letter_row, State.letter_row, State.letter_row,
      State.letter_row, State.letter_row, State.letter_row, State.letter_row, State.letter_row, fun r hr => absurd hr List.not_mem_nil⟩
  case negotiate =>
    obtain ⟨l, hanswer⟩ := execNegotiate_goes h
    have hframe : s.negotiation slot = { s with regs := (s.negotiation slot).regs, host := { s.host with drainCount := 0 } } :=
      State.negotiation_frame
    have hsame : ∀ {α : Type} (x y : α), (if pay 0 2 = s.fld Reg.HOST_IF_VERSION 31 16 then x else y) = if s.sameVersion slot then x else y :=
      fun x y => if_congr beq_iff_eq.symm rfl rfl
    refine ⟨s.negotiation slot, l, ?_, fun k hk => ?_, ?_, ?_, ?_⟩
    · rw [hsame]
      exact hanswer
    · rw [hsame]
      exact State.reg_negotiation hk
    · rw [hframe]
    · rw [hframe]
    · rw [hframe]
  case update =>
    subst hdata
    exact execUpdate_goes h hnone hsec hlen hfields hsigned
  case load =>
    cases hload : s.loadImage (pay 0 8) (pay 8 8) with
    | ok t => exact execImageLoad_ok h hin hsec hload
    | error e => exact execImageLoad_error h hin hsec hload
  case microbatch =>
    subst hdata
    exact execMicrobatch_goes h hfirst hstep hin hbucket htokens hseq hlen
  case fill =>
    subst hdata
    exact execFill_goes h hguard habsent hfirst hoff hbufs hslot hlen hfits

end Sys2Proof.Machine
end
